-- ==== Sys2Proof/Word.lean ====
section
/-! DEFINITION. The words of the AZ640: link and flash bytes, 16-bit and 32-bit link fields, the tick count, page numbers
and the 32 data bytes of one strip. -/

namespace Sys2Proof

/-- A byte on the host link, on a sign line or in flash. -/
abbrev Byte := BitVec 8

/-- A two-byte field, big-endian on every wire (00, "Multi-byte fields and layouts"). -/
abbrev Half := BitVec 16

/-- A four-byte field. -/
abbrev Word := BitVec 32

/-- The tick counter of the timebase: 32 bits, wrapping (R186). -/
abbrev Tick := BitVec 32

/-- A page number, 0..4095 (00, "Numbering"). -/
abbrev Page := BitVec 12

/-- The 32 data bytes of a strip; the first byte of the strip is the most significant. -/
abbrev StripData := BitVec 256

end Sys2Proof
end

