-- ==== Sys2Proof/Syntax.lean ====
section
/-! DEFINITION. The commands of the AZ640: one constructor for each row of spec/opcode_table.json, in the table's order, with
the operands its rule gives it. Host requests carry their tag and their fields as the link carries them (R185), so that a
field out of its range is an operand like any other. -/

namespace Sys2Proof

/-- The two limit inputs of a gate (R62). -/
inductive LimitSide where
  | openLimit
  | closedLimit
  deriving DecidableEq, Repr

/-- What starts a full reset: power-on or the RESET input (R190, R192). -/
inductive FullResetCause where
  | powerOn
  | resetPin
  deriving DecidableEq, Repr

/-- The levels of the digital inputs as the device finds them at the end of a full reset: the straps (R36), SUPPLY_LOW (R16),
the gate inputs (R79, bit n for gate n) and the counter inputs (R93, bit n for unit n). A set bit is an active (on) level. -/
structure Pins where
  preset       : BitVec 3
  supplyLow    : Bool
  openLimits   : BitVec 6
  closedLimits : BitVec 6
  presence     : BitVec 6
  inputA       : BitVec 12
  inputB       : BitVec 12
  deriving DecidableEq, Repr

/-- A command: a host request, an event on a pin, on a sign line or at the flash port, or an event of the timebase and of a
timer. -/
inductive Instr where
  /-- IDENTIFY (R187). -/
  | identify (tag : Byte)
  /-- RESTART (R189). -/
  | restart (tag : Byte)
  /-- SET_CLOCK (R186). -/
  | setClock (tag : Byte) (second : Word)
  /-- SET_RESERVE (R16). -/
  | setReserve (tag : Byte) (on : Byte)
  /-- SAVE_PROFILE (R187). -/
  | saveProfile (tag : Byte)
  /-- INSPECT (R188). -/
  | inspect (tag : Byte) (kind : Byte) (index : Byte)
  /-- SET_SEGMENT (R17). -/
  | setSegment (tag : Byte) (segment : Byte) (lead : Half) (confirm : Half)
  /-- CLOSE_SEGMENT (R18). -/
  | closeSegment (tag : Byte) (segment : Byte)
  /-- OPEN_SEGMENT (R19). -/
  | openSegment (tag : Byte) (segment : Byte)
  /-- ADJUST_COUNT (R20). -/
  | adjustCount (tag : Byte) (segment : Byte) (count : Half)
  /-- SET_CHANNEL (R32). -/
  | setChannel (tag : Byte) (channel : Byte) (mode : Byte) (reference : Byte) (rise : Half) (fall : Half) (persist : Byte)
  /-- SET_PATH (R50). -/
  | setPath (tag : Byte) (path : Byte) (segment : Byte) (members : Half) (k : Byte) (window : Half) (autoclose : Byte)
      (hazardPage : Half) (flasher : Byte)
  /-- ACK_PATH (R46). -/
  | ackPath (tag : Byte) (path : Byte)
  /-- DISMISS_PATH (R47). -/
  | dismissPath (tag : Byte) (path : Byte)
  /-- CLEAR_PATH (R48). -/
  | clearPath (tag : Byte) (path : Byte)
  /-- MASK_PATH (R49). -/
  | maskPath (tag : Byte) (path : Byte) (on : Byte)
  /-- READ_TRACE (R56). -/
  | readTrace (tag : Byte) (origin : Byte) (offset : Byte) (count : Byte)
  /-- RELEASE_TRACE (R57). -/
  | releaseTrace (tag : Byte)
  /-- SET_TRACE (R58). -/
  | setTrace (tag : Byte) (preCount : Byte) (margin : Byte)
  /-- SET_GATE (R76). -/
  | setGate (tag : Byte) (gate : Byte) (segment : Byte) (unit : Byte) (travel : Half) (motionLimit : Half) (flasher : Byte)
  /-- MOVE_GATE (R74). -/
  | moveGate (tag : Byte) (gate : Byte) (action : Byte) (overriding : Byte)
  /-- RESET_GATE (R75). -/
  | resetGate (tag : Byte) (gate : Byte)
  /-- SET_COUNTER (R90). -/
  | setCounter (tag : Byte) (unit : Byte) (mode : Byte) (fromSegment : Byte) (toSegment : Byte)
  /-- SET_FLASH (R100). -/
  | setFlash (tag : Byte) (cls : Byte) (on : Byte) (off : Byte)
  /-- POST_NOTICE (R107). -/
  | postNotice (tag : Byte) (reference : Half) (segments : Byte) (pageCount : Byte) (firstPage : Half) (secondPage : Half)
      (start : Word) (stop : Word) (lead : Half)
  /-- END_NOTICE (R111). -/
  | endNotice (tag : Byte) (number : Byte)
  /-- SET_LIST_MARGIN (R112). -/
  | setListMargin (tag : Byte) (margin : Byte)
  /-- SET_LINE (R143). -/
  | setLine (tag : Byte) (line : Byte) (baud : Half) (policy : Byte) (bandMode : Byte)
  /-- SET_SIGN (R117). -/
  | setSign (tag : Byte) (sign : Byte) (role : Byte) (segments : Byte) (path : Byte) (holdover : Half) (sheddable : Byte)
      (dwell : Byte)
  /-- SET_CONDITION (R118). -/
  | setCondition (tag : Byte) (signs : Half) (page : Half)
  /-- WAKE_LINE (R169). -/
  | wakeLine (tag : Byte) (line : Byte)
  /-- OPEN_PAGE (R179). -/
  | openPage (tag : Byte) (page : Half) (strip : Byte)
  /-- PAGE_DATA (R179); the first data byte is the most significant. -/
  | pageData (tag : Byte) (data : StripData)
  /-- ERASE_BLOCK (R178). -/
  | eraseBlock (tag : Byte) (block : Half)
  /-- CLEAR_FAULTS (R180). -/
  | clearFaults (tag : Byte)
  /-- READ_DIRECTORY (R180). -/
  | readDirectory (tag : Byte) (firstSet : Byte) (count : Byte)
  /-- UNKNOWN_KIND (R185): a request frame whose kind is not in the table. -/
  | unknownKind (kind : Byte) (tag : Byte) (fields : List Byte)
  /-- FRAME_DISCARDED (R184): bytes arrive that the receiver discards. -/
  | frameDiscarded (bytes : List Byte)
  /-- INTER_BYTE_GAP_TIMEOUT (R184): these bytes of a frame arrive and then a gap of more than 20 ms. -/
  | interByteGapTimeout (bytes : List Byte)
  /-- RECEIVE_BUFFER_OVERFLOW (R184): a byte arrives while the buffer is full. -/
  | receiveBufferOverflow (byte : Byte)
  /-- REPLY_SEND (R191). -/
  | replySend
  /-- REPORT_SEND (R191). -/
  | reportSend
  /-- FULL_RESET (R190). -/
  | fullReset (cause : FullResetCause) (pins : Pins)
  /-- SUPPLY_LOW_CHANGE (R16): the new level of the input. -/
  | supplyLowChange (level : Bool)
  /-- TICK (R186). -/
  | tick
  /-- PASS_CLOCK_SECOND (R109, R186). -/
  | passClockSecond
  /-- FLASH_STEP (R98). -/
  | flashStep
  /-- FLASH_PHASE_END (R98). -/
  | flashPhaseEnd (flasher : Fin 8)
  /-- SAMPLING_TICK (R27): the sixteen conversions of the tick. -/
  | samplingTick (samples : Vector (BitVec 12) 16)
  /-- CH_RECOVER (R28). -/
  | chRecover (channel : Fin 16)
  /-- CH_ACTIVE (R30). -/
  | chActive (channel : Fin 16)
  /-- CH_QUIET (R30). -/
  | chQuiet (channel : Fin 16)
  /-- CONFIRM_TIMEOUT (R8); segment index 0 is segment 1. -/
  | confirmTimeout (segment : Fin 4)
  /-- LEAD_END (R9). -/
  | leadEnd (segment : Fin 4)
  /-- LIMIT_ARRIVAL (R64). -/
  | limitArrival (gate : Fin 6) (side : LimitSide)
  /-- LIMIT_LOST (R65). -/
  | limitLost (gate : Fin 6) (side : LimitSide)
  /-- PRESENCE_CHANGE (R69): the new level of the input. -/
  | presenceChange (gate : Fin 6) (level : Bool)
  /-- STALL_FAULT (R66). -/
  | stallFault (gate : Fin 6)
  /-- MOTION_TIMEOUT (R67). -/
  | motionTimeout (gate : Fin 6)
  /-- PAUSE_END (R68). -/
  | pauseEnd (gate : Fin 6)
  /-- RELOWER (R70). -/
  | relower (gate : Fin 6)
  /-- ENCODER_STEP (R82, R83): the levels of A and B that the unit observes. -/
  | encoderStep (unit : Fin 12) (a : Bool) (b : Bool)
  /-- LOOP_INPUT_CHANGE (R82, R85): the levels of A and B that the unit observes. -/
  | loopInputChange (unit : Fin 12) (a : Bool) (b : Bool)
  /-- STUCK (R88). -/
  | stuck (unit : Fin 12)
  /-- STUCK_LEFT (R89). -/
  | stuckLeft (unit : Fin 12)
  /-- ROTATION_STEP (R123). -/
  | rotationStep (sign : Fin 16)
  /-- SIGN_REPLY (R134 to R137): the 8 bytes of a reply received in time, the first byte most significant. -/
  | signReply (line : Fin 2) (bytes : BitVec 64)
  /-- SIGN_REPLY_FAILURE (R135): no reply by 10 ms, or one cut short at 20 ms. -/
  | signReplyFailure (line : Fin 2)
  /-- REFRESH_DUE (R150). -/
  | refreshDue (sign : Fin 16)
  /-- SIGN_LAPSED (R150). -/
  | signLapsed (sign : Fin 16)
  /-- CRITICAL_POINT (R150). -/
  | criticalPoint (sign : Fin 16)
  /-- POLL_DUE (R139). -/
  | pollDue (sign : Fin 16)
  /-- HOLD_ENTRY (R164). -/
  | holdEntry (line : Fin 2)
  /-- HELD_WAKE_AGE (R167). -/
  | heldWakeAge (line : Fin 2)
  /-- FLASH_READ_DONE (R175): which of the 34 x 8 bits of the slot were read wrong; 0 for an exact read. -/
  | flashReadDone (readError : BitVec 272)
  /-- PROGRAM_DONE (R177): which bits of the read-back were read wrong; 0 for an exact read-back. -/
  | programDone (readError : BitVec 272)
  /-- ERASE_DONE (R178). -/
  | eraseDone
  /-- PROFILE_SAVED (R181): whether the read-back equals what was written. -/
  | profileSaved (readBackEqual : Bool)
  /-- FLASH_TIMEOUT (R174). -/
  | flashTimeout
  /-- BAD_LENGTH (R185): a request frame of a known kind with another body length. -/
  | badLength (kind : Byte) (tag : Byte) (fields : List Byte)
  deriving DecidableEq, Repr

end Sys2Proof
end

