-- ==== Sys2Proof/Decode.lean ====
section
/-! DEFINITION. The request codec of the host link: the request table of R185 (kind codes and body lengths), the body of each
request as bytes and back, CRC-8 and the host frame (R184, R185). spec/opcode_table.json gives no row any bits, so
`decodeTableWord` spells no command. -/

namespace Sys2Proof

/-- The n bytes of a field, most significant first: fields on the link are big-endian (00, "Multi-byte fields"). -/
def bytesBE (n : Nat) (x : BitVec w) : List Byte :=
  (List.range n).map fun i => (x >>> (8 * (n - 1 - i))).setWidth 8

/-- The field that big-endian bytes spell. -/
def ofBytesBE (w : Nat) (bytes : List Byte) : BitVec w :=
  bytes.foldl (fun acc b => (acc <<< 8) ||| b.setWidth w) 0

/-- The request kinds of R185's table. -/
inductive RequestKind where
  | identify
  | restart
  | setClock
  | setReserve
  | saveProfile
  | inspect
  | setSegment
  | closeSegment
  | openSegment
  | adjustCount
  | setChannel
  | setPath
  | ackPath
  | dismissPath
  | clearPath
  | maskPath
  | readTrace
  | releaseTrace
  | setTrace
  | setGate
  | moveGate
  | resetGate
  | setCounter
  | setFlash
  | postNotice
  | endNotice
  | setListMargin
  | setLine
  | setSign
  | setCondition
  | wakeLine
  | openPage
  | pageData
  | eraseBlock
  | clearFaults
  | readDirectory
  deriving DecidableEq, Repr

/-- The kind code of each request (R185's table, first column). -/
def RequestKind.code : RequestKind → Byte
  | .identify => 0x01
  | .restart => 0x02
  | .setClock => 0x03
  | .setReserve => 0x04
  | .saveProfile => 0x05
  | .inspect => 0x06
  | .setSegment => 0x10
  | .closeSegment => 0x11
  | .openSegment => 0x12
  | .adjustCount => 0x13
  | .setChannel => 0x18
  | .setPath => 0x19
  | .ackPath => 0x1A
  | .dismissPath => 0x1B
  | .clearPath => 0x1C
  | .maskPath => 0x1D
  | .readTrace => 0x1E
  | .releaseTrace => 0x1F
  | .setTrace => 0x20
  | .setGate => 0x24
  | .moveGate => 0x25
  | .resetGate => 0x26
  | .setCounter => 0x27
  | .setFlash => 0x28
  | .postNotice => 0x2C
  | .endNotice => 0x2D
  | .setListMargin => 0x2E
  | .setLine => 0x30
  | .setSign => 0x31
  | .setCondition => 0x32
  | .wakeLine => 0x33
  | .openPage => 0x38
  | .pageData => 0x39
  | .eraseBlock => 0x3A
  | .clearFaults => 0x3B
  | .readDirectory => 0x3C

/-- The body length of each request: kind, tag and fields (R185's table, third column). -/
def RequestKind.bodyLength : RequestKind → Nat
  | .identify => 2
  | .restart => 2
  | .setClock => 6
  | .setReserve => 3
  | .saveProfile => 2
  | .inspect => 4
  | .setSegment => 7
  | .closeSegment => 3
  | .openSegment => 3
  | .adjustCount => 5
  | .setChannel => 10
  | .setPath => 13
  | .ackPath => 3
  | .dismissPath => 3
  | .clearPath => 3
  | .maskPath => 4
  | .readTrace => 5
  | .releaseTrace => 2
  | .setTrace => 4
  | .setGate => 10
  | .moveGate => 5
  | .resetGate => 3
  | .setCounter => 6
  | .setFlash => 5
  | .postNotice => 20
  | .endNotice => 3
  | .setListMargin => 3
  | .setLine => 7
  | .setSign => 10
  | .setCondition => 6
  | .wakeLine => 3
  | .openPage => 5
  | .pageData => 34
  | .eraseBlock => 4
  | .clearFaults => 2
  | .readDirectory => 4

/-- Every request kind, in the table's order. -/
def RequestKind.all : List RequestKind :=
  [.identify, .restart, .setClock, .setReserve, .saveProfile, .inspect,
   .setSegment, .closeSegment, .openSegment, .adjustCount, .setChannel, .setPath,
   .ackPath, .dismissPath, .clearPath, .maskPath, .readTrace, .releaseTrace,
   .setTrace, .setGate, .moveGate, .resetGate, .setCounter, .setFlash,
   .postNotice, .endNotice, .setListMargin, .setLine, .setSign, .setCondition,
   .wakeLine, .openPage, .pageData, .eraseBlock, .clearFaults, .readDirectory]

/-- The request kind that a kind byte names, if R185's table holds it. -/
def RequestKind.ofCode (b : Byte) : Option RequestKind :=
  RequestKind.all.find? fun k => k.code == b

/-- The request that a kind, a tag and the fields' bytes spell; none when the number of bytes is not the table's. Each arm
is the field list of the request's own rule, packed in the order listed. -/
def decodeFields (k : RequestKind) (tag : Byte) (f : List Byte) : Option Instr :=
  match k with
  | .identify => match f with | [] => some (.identify tag) | _ => none
  | .restart => match f with | [] => some (.restart tag) | _ => none
  | .setClock => match f with | [b0, b1, b2, b3] => some (.setClock tag (ofBytesBE 32 [b0, b1, b2, b3])) | _ => none
  | .setReserve => match f with | [b0] => some (.setReserve tag b0) | _ => none
  | .saveProfile => match f with | [] => some (.saveProfile tag) | _ => none
  | .inspect => match f with | [b0, b1] => some (.inspect tag b0 b1) | _ => none
  | .setSegment => match f with | [b0, b1, b2, b3, b4] => some (.setSegment tag b0 (ofBytesBE 16 [b1, b2]) (ofBytesBE 16 [b3, b4])) | _ => none
  | .closeSegment => match f with | [b0] => some (.closeSegment tag b0) | _ => none
  | .openSegment => match f with | [b0] => some (.openSegment tag b0) | _ => none
  | .adjustCount => match f with | [b0, b1, b2] => some (.adjustCount tag b0 (ofBytesBE 16 [b1, b2])) | _ => none
  | .setChannel => match f with | [b0, b1, b2, b3, b4, b5, b6, b7] => some (.setChannel tag b0 b1 b2 (ofBytesBE 16 [b3, b4]) (ofBytesBE 16 [b5, b6]) b7) | _ => none
  | .setPath => match f with | [b0, b1, b2, b3, b4, b5, b6, b7, b8, b9, b10] => some (.setPath tag b0 b1 (ofBytesBE 16 [b2, b3]) b4 (ofBytesBE 16 [b5, b6]) b7 (ofBytesBE 16 [b8, b9]) b10) | _ => none
  | .ackPath => match f with | [b0] => some (.ackPath tag b0) | _ => none
  | .dismissPath => match f with | [b0] => some (.dismissPath tag b0) | _ => none
  | .clearPath => match f with | [b0] => some (.clearPath tag b0) | _ => none
  | .maskPath => match f with | [b0, b1] => some (.maskPath tag b0 b1) | _ => none
  | .readTrace => match f with | [b0, b1, b2] => some (.readTrace tag b0 b1 b2) | _ => none
  | .releaseTrace => match f with | [] => some (.releaseTrace tag) | _ => none
  | .setTrace => match f with | [b0, b1] => some (.setTrace tag b0 b1) | _ => none
  | .setGate => match f with | [b0, b1, b2, b3, b4, b5, b6, b7] => some (.setGate tag b0 b1 b2 (ofBytesBE 16 [b3, b4]) (ofBytesBE 16 [b5, b6]) b7) | _ => none
  | .moveGate => match f with | [b0, b1, b2] => some (.moveGate tag b0 b1 b2) | _ => none
  | .resetGate => match f with | [b0] => some (.resetGate tag b0) | _ => none
  | .setCounter => match f with | [b0, b1, b2, b3] => some (.setCounter tag b0 b1 b2 b3) | _ => none
  | .setFlash => match f with | [b0, b1, b2] => some (.setFlash tag b0 b1 b2) | _ => none
  | .postNotice => match f with | [b0, b1, b2, b3, b4, b5, b6, b7, b8, b9, b10, b11, b12, b13, b14, b15, b16, b17] => some (.postNotice tag (ofBytesBE 16 [b0, b1]) b2 b3 (ofBytesBE 16 [b4, b5]) (ofBytesBE 16 [b6, b7]) (ofBytesBE 32 [b8, b9, b10, b11]) (ofBytesBE 32 [b12, b13, b14, b15]) (ofBytesBE 16 [b16, b17])) | _ => none
  | .endNotice => match f with | [b0] => some (.endNotice tag b0) | _ => none
  | .setListMargin => match f with | [b0] => some (.setListMargin tag b0) | _ => none
  | .setLine => match f with | [b0, b1, b2, b3, b4] => some (.setLine tag b0 (ofBytesBE 16 [b1, b2]) b3 b4) | _ => none
  | .setSign => match f with | [b0, b1, b2, b3, b4, b5, b6, b7] => some (.setSign tag b0 b1 b2 b3 (ofBytesBE 16 [b4, b5]) b6 b7) | _ => none
  | .setCondition => match f with | [b0, b1, b2, b3] => some (.setCondition tag (ofBytesBE 16 [b0, b1]) (ofBytesBE 16 [b2, b3])) | _ => none
  | .wakeLine => match f with | [b0] => some (.wakeLine tag b0) | _ => none
  | .openPage => match f with | [b0, b1, b2] => some (.openPage tag (ofBytesBE 16 [b0, b1]) b2) | _ => none
  | .pageData => if f.length = 32 then some (.pageData tag (ofBytesBE 256 f)) else none
  | .eraseBlock => match f with | [b0, b1] => some (.eraseBlock tag (ofBytesBE 16 [b0, b1])) | _ => none
  | .clearFaults => match f with | [] => some (.clearFaults tag) | _ => none
  | .readDirectory => match f with | [b0, b1] => some (.readDirectory tag b0 b1) | _ => none

/-- The body of a request frame as the LIF reads it (R185): a kind that the table does not hold gives UNKNOWN_KIND, a known
kind with another body length BAD_LENGTH. A body holds at least its kind and its tag, since a frame's length is 2..240
(R184); the two shorter lists below never arise in a frame. -/
def decodeBody : List Byte → Instr
  | kind :: tag :: f =>
    match RequestKind.ofCode kind with
    | none => .unknownKind kind tag f
    | some k => (decodeFields k tag f).getD (.badLength kind tag f)
  | [kind] => .badLength kind 0 []
  | [] => .unknownKind 0 0 []

/-- The kind of a request command; none for a command that is no request of the table. -/
def Instr.requestKind : Instr → Option RequestKind
  | .identify .. => some .identify
  | .restart .. => some .restart
  | .setClock .. => some .setClock
  | .setReserve .. => some .setReserve
  | .saveProfile .. => some .saveProfile
  | .inspect .. => some .inspect
  | .setSegment .. => some .setSegment
  | .closeSegment .. => some .closeSegment
  | .openSegment .. => some .openSegment
  | .adjustCount .. => some .adjustCount
  | .setChannel .. => some .setChannel
  | .setPath .. => some .setPath
  | .ackPath .. => some .ackPath
  | .dismissPath .. => some .dismissPath
  | .clearPath .. => some .clearPath
  | .maskPath .. => some .maskPath
  | .readTrace .. => some .readTrace
  | .releaseTrace .. => some .releaseTrace
  | .setTrace .. => some .setTrace
  | .setGate .. => some .setGate
  | .moveGate .. => some .moveGate
  | .resetGate .. => some .resetGate
  | .setCounter .. => some .setCounter
  | .setFlash .. => some .setFlash
  | .postNotice .. => some .postNotice
  | .endNotice .. => some .endNotice
  | .setListMargin .. => some .setListMargin
  | .setLine .. => some .setLine
  | .setSign .. => some .setSign
  | .setCondition .. => some .setCondition
  | .wakeLine .. => some .wakeLine
  | .openPage .. => some .openPage
  | .pageData .. => some .pageData
  | .eraseBlock .. => some .eraseBlock
  | .clearFaults .. => some .clearFaults
  | .readDirectory .. => some .readDirectory
  | _ => none

/-- The body of the frame that carries a request (R185): kind, tag, fields; for a command that is no link request, nothing. -/
def encodeBody : Instr → List Byte
  | .identify tag => [0x01, tag]
  | .restart tag => [0x02, tag]
  | .setClock tag a0 => [0x03, tag] ++ bytesBE 4 a0
  | .setReserve tag a0 => [0x04, tag] ++ [a0]
  | .saveProfile tag => [0x05, tag]
  | .inspect tag a0 a1 => [0x06, tag] ++ [a0] ++ [a1]
  | .setSegment tag a0 a1 a2 => [0x10, tag] ++ [a0] ++ bytesBE 2 a1 ++ bytesBE 2 a2
  | .closeSegment tag a0 => [0x11, tag] ++ [a0]
  | .openSegment tag a0 => [0x12, tag] ++ [a0]
  | .adjustCount tag a0 a1 => [0x13, tag] ++ [a0] ++ bytesBE 2 a1
  | .setChannel tag a0 a1 a2 a3 a4 a5 => [0x18, tag] ++ [a0] ++ [a1] ++ [a2] ++ bytesBE 2 a3 ++ bytesBE 2 a4 ++ [a5]
  | .setPath tag a0 a1 a2 a3 a4 a5 a6 a7 => [0x19, tag] ++ [a0] ++ [a1] ++ bytesBE 2 a2 ++ [a3] ++ bytesBE 2 a4 ++ [a5] ++ bytesBE 2 a6 ++ [a7]
  | .ackPath tag a0 => [0x1A, tag] ++ [a0]
  | .dismissPath tag a0 => [0x1B, tag] ++ [a0]
  | .clearPath tag a0 => [0x1C, tag] ++ [a0]
  | .maskPath tag a0 a1 => [0x1D, tag] ++ [a0] ++ [a1]
  | .readTrace tag a0 a1 a2 => [0x1E, tag] ++ [a0] ++ [a1] ++ [a2]
  | .releaseTrace tag => [0x1F, tag]
  | .setTrace tag a0 a1 => [0x20, tag] ++ [a0] ++ [a1]
  | .setGate tag a0 a1 a2 a3 a4 a5 => [0x24, tag] ++ [a0] ++ [a1] ++ [a2] ++ bytesBE 2 a3 ++ bytesBE 2 a4 ++ [a5]
  | .moveGate tag a0 a1 a2 => [0x25, tag] ++ [a0] ++ [a1] ++ [a2]
  | .resetGate tag a0 => [0x26, tag] ++ [a0]
  | .setCounter tag a0 a1 a2 a3 => [0x27, tag] ++ [a0] ++ [a1] ++ [a2] ++ [a3]
  | .setFlash tag a0 a1 a2 => [0x28, tag] ++ [a0] ++ [a1] ++ [a2]
  | .postNotice tag a0 a1 a2 a3 a4 a5 a6 a7 => [0x2C, tag] ++ bytesBE 2 a0 ++ [a1] ++ [a2] ++ bytesBE 2 a3 ++ bytesBE 2 a4 ++ bytesBE 4 a5 ++ bytesBE 4 a6 ++ bytesBE 2 a7
  | .endNotice tag a0 => [0x2D, tag] ++ [a0]
  | .setListMargin tag a0 => [0x2E, tag] ++ [a0]
  | .setLine tag a0 a1 a2 a3 => [0x30, tag] ++ [a0] ++ bytesBE 2 a1 ++ [a2] ++ [a3]
  | .setSign tag a0 a1 a2 a3 a4 a5 a6 => [0x31, tag] ++ [a0] ++ [a1] ++ [a2] ++ [a3] ++ bytesBE 2 a4 ++ [a5] ++ [a6]
  | .setCondition tag a0 a1 => [0x32, tag] ++ bytesBE 2 a0 ++ bytesBE 2 a1
  | .wakeLine tag a0 => [0x33, tag] ++ [a0]
  | .openPage tag a0 a1 => [0x38, tag] ++ bytesBE 2 a0 ++ [a1]
  | .pageData tag d => 0x39 :: tag :: bytesBE 32 d
  | .eraseBlock tag a0 => [0x3A, tag] ++ bytesBE 2 a0
  | .clearFaults tag => [0x3B, tag]
  | .readDirectory tag a0 a1 => [0x3C, tag] ++ [a0] ++ [a1]
  | .unknownKind kind tag f => kind :: tag :: f
  | .badLength kind tag f => kind :: tag :: f
  | _ => []

/-- One bit step of CRC-8: polynomial 0x07, most significant bit first (R184). -/
def crc8Bit (c : Byte) : Byte :=
  if c.msb then (c <<< 1) ^^^ 0x07 else c <<< 1

/-- CRC-8 of the host link: initial value 0x00, no reflection, no final inversion (R184). -/
def crc8 (bytes : List Byte) : Byte :=
  bytes.foldl (fun c b => crc8Bit (crc8Bit (crc8Bit (crc8Bit (crc8Bit (crc8Bit (crc8Bit (crc8Bit (c ^^^ b))))))))) 0

/-- A host frame: start byte 0xC3, length, body, CRC-8 over the length byte and the body (R184). -/
def hostFrame (body : List Byte) : List Byte :=
  let l : Byte := BitVec.ofNat 8 body.length
  0xC3 :: l :: (body ++ [crc8 (l :: body)])

/-- The command that a word spells by the table's bits: the table gives no row any bits, so none. -/
def decodeTableWord (_nbits _w : Nat) : Option Instr := none

end Sys2Proof
end

