-- ==== Sys2Proof/Config.lean ====
section
/-! DEFINITION. What one AZ640 fixes and the spec does not state: constants without a body, so that no proof can see
their values. -/

namespace Sys2Proof.Config

/-- The device revision byte that IDENTIFY returns (R187 names it and gives no value). DESIGN CHOICE, log entry 33. -/
opaque deviceRevision : BitVec 8

/-- The picture data of the fixed pages 0..7, held in on-chip read-only storage (08, "Fixed pages", gives their texts and
not their bytes): page, strip, data. DESIGN CHOICE, log entry 33. -/
opaque fixedStrip : Fin 8 → Fin 8 → BitVec 256

/-- The strip byte of the LIBRARY snapshot's cursor field while the write cursor is closed (R182 states the page, 0xFFFF, and
not the strip). DESIGN CHOICE, log entry 33. -/
opaque closedCursorStrip : BitVec 8

/-- The free values: a byte of a flash slot or block whose contents are unknown after a FLASH_TIMEOUT (R177) or after a
full reset that cut a flash operation short, and a byte of block 0 after a profile save that failed (R181). The state's
`freeCount` says how many have been drawn.
DESIGN CHOICE, log entry 20. -/
opaque freeByte : Nat → BitVec 8

end Sys2Proof.Config
end

