-- ==== Sys2Proof/Machine/State.lean ====
section
/-! DEFINITION. The state of the AZ640 as plain data: one record for each object of the spec, the flash behind the flash
port, the queue of waiting commands, and the machine after power-on. Segment index 0 is segment 1. -/

namespace Sys2Proof.Machine

/-! ### Outcomes of a step -/

/-- No command makes the device stop: every rule of the spec gives a next state. -/
inductive Fault where
  deriving DecidableEq, Repr

/-- Why a command has no meaning. -/
inductive Refusal where
  /-- Raised by a refused arm of `exec` only: the command's meaning is not written. Safe: the run stops. No arm raises it. -/
  | notModelled (mnemonic : String)
  deriving DecidableEq, Repr

/-! ### Report objects, replies and outcomes (13) -/

/-- The objects of R188, with their indices: 95 in all. -/
inductive Obj where
  | system
  | segment (i : Fin 4)
  | channel (i : Fin 16)
  | path (i : Fin 12)
  | gate (i : Fin 6)
  | counter (i : Fin 12)
  | notice (i : Fin 24)
  | sign (i : Fin 16)
  | line (i : Fin 2)
  | library
  | trace
  deriving DecidableEq, Repr

/-- An entry of the report set: its object and its accumulated event flags (R190). -/
structure ReportEntry where
  obj   : Obj
  flags : BitVec 16
  deriving DecidableEq, Repr

/-- Outcome codes of a reply (13, "Byte layouts"). -/
inductive OutcomeCode where
  | ok
  | unknownKind
  | badLength
  | outOfRange
  | notConfigured
  | wrongState
  | conflict
  | listFull
  | queueFull
  | clockUnset
  deriving DecidableEq, Repr

/-- A reply in the reply slot: the request's kind code and tag, the outcome and the data (R185). -/
structure Reply where
  kind    : Byte
  tag     : Byte
  outcome : OutcomeCode
  data    : List Byte
  deriving DecidableEq, Repr

/-- The cause of the last reset (R192). -/
inductive ResetCause where
  | powerOn
  | resetPin
  | restart
  deriving DecidableEq, Repr

/-- The result of the profile load of the last full reset (R181). -/
inductive ProfileResult where
  | loaded
  | absent
  | bad
  deriving DecidableEq, Repr

/-- The link interface (R184, R190, R191, R192). `rxFrames` and `rxPartial` are the receive buffer: the bodies of the whole,
good frames that wait to be parsed, oldest first, and the bytes of the frame being received (none while hunting).
`lastSent` is the last frame the transmitter sent, the model's record of what left HTX. -/
structure Link where
  rxFrames      : List (List Byte)
  rxPartial     : List Byte
  reply         : Option Reply
  reports       : List ReportEntry
  lastSent      : List Byte
  resetCause    : ResetCause
  profileResult : ProfileResult
  preset        : BitVec 3
  deriving DecidableEq, Repr

/-- The timebase (R186): the tick counter, the tick within the second (0..7) and the pass clock, none while UNSET. -/
structure Timebase where
  tickCounter  : Tick
  tickInSecond : Nat
  passClock    : Option Nat
  deriving DecidableEq, Repr

/-! ### Segments (01) -/

inductive Posture where
  | opened
  | caution
  | closing
  | closed
  | reopening
  deriving DecidableEq, Repr

inductive Phase where
  | noPhase
  | confirm
  | lead
  | lower
  deriving DecidableEq, Repr

/-- A closure cause (R1). -/
inductive Cause where
  | manual
  | restart
  | path (n : Fin 12)
  | notice (number : Nat)
  deriving DecidableEq, Repr

/-- What SET_SEGMENT sets and the profile keeps (R1, R17, R181). -/
structure SegmentConfig where
  lead    : Nat
  confirm : Nat
  deriving DecidableEq, Repr

/-- A segment record (R1). `causes` lists the set in the order of R21's note 1. `pathLimit` says that the CONFIRM limit in
force is 32 ticks (R5, R8). The gates and ADVANCE signs sets follow the configuration (R2) and are computed. -/
structure Segment where
  cfg            : SegmentConfig
  posture        : Posture
  phase          : Phase
  causes         : List Cause
  phaseTimer     : Nat
  pathLimit      : Bool
  occupancy      : Nat
  drift          : Bool
  uncertain      : Bool
  occupied       : Bool
  confirmMissing : Bool
  deriving DecidableEq, Repr

/-! ### Channels (02) -/

inductive ChannelMode where
  | off
  | fixed
  | reference
  | serve
  deriving DecidableEq, Repr

inductive ChannelState where
  | off
  | quiet
  | active
  | fault
  | refFault
  | serve
  deriving DecidableEq, Repr

/-- A channel's configuration (R24, R181): `baseFixed` is the base mode, FIXED or OFF. -/
structure ChannelConfig where
  mode      : ChannelMode
  baseFixed : Bool
  reference : Option (Fin 16)
  rise      : Int
  fall      : Int
  persist   : Nat
  deriving DecidableEq, Repr

/-- A channel record (R24). The referrers set is computed from the references. -/
structure Channel where
  cfg         : ChannelConfig
  lastSample  : BitVec 12
  compared    : Option Int
  riseRun     : Nat
  fallRun     : Nat
  recoveryRun : Nat
  state       : ChannelState
  deriving DecidableEq, Repr

/-! ### Paths and the trace (03) -/

inductive PathState where
  | quiet
  | watch
  | alert
  | hold
  | masked
  deriving DecidableEq, Repr

/-- A path's configuration (R39, R181); bit c of `members` is channel c, and `masked` is the masked setting. -/
structure PathConfig where
  segment    : Fin 4
  members    : BitVec 16
  k          : Nat
  window     : Nat
  autoclose  : Bool
  hazardPage : Page
  flasher    : Option (Fin 8)
  masked     : Bool
  deriving DecidableEq, Repr

/-- A path record (R39); the last activations stand by channel. -/
structure PathRec where
  cfg      : PathConfig
  state    : PathState
  lastAct  : Vector (Option Tick) 16
  healthy  : Nat
  kEff     : Nat
  degraded : Bool
  lastVote : Nat
  deriving DecidableEq, Repr

inductive TraceKind where
  | chActive
  | chQuiet
  | chFault
  | chRecover
  | pathWatch
  | pathAlert
  | pathHold
  | pathDismiss
  | pathClear
  deriving DecidableEq, Repr

/-- A trace entry (R53); `second` is none while the clock is UNSET. -/
structure TraceEntry where
  second : Option Nat
  tick   : Nat
  kind   : TraceKind
  object : Nat
  value  : Nat
  deriving DecidableEq, Repr

/-- The event trace (R53 to R58), oldest entry first; `mark` is the mark's position counted from the oldest. -/
structure Trace where
  entries        : List TraceEntry
  mark           : Option Nat
  truncated      : Bool
  nearFullPosted : Bool
  preCount       : Nat
  margin         : Nat
  deriving DecidableEq, Repr

/-! ### Gates (04) -/

inductive GateState where
  | unknown
  | opened
  | lowering
  | closed
  | raising
  | pause
  | halted
  | blocked
  | fault
  deriving DecidableEq, Repr

inductive Direction where
  | none
  | up
  | down
  deriving DecidableEq, Repr

inductive FaultCause where
  | none
  | stall
  | timeout
  | limitConflict
  deriving DecidableEq, Repr

/-- A gate's configuration (R62, R181); a gate without a segment is unconfigured. -/
structure GateConfig where
  segment     : Option (Fin 4)
  encoder     : Fin 12
  travel      : Nat
  motionLimit : Nat
  flasher     : Option (Fin 8)
  deriving DecidableEq, Repr

/-- A gate record with the levels of its three inputs (R62). The drive outputs follow the state and are computed. -/
structure Gate where
  cfg            : GateConfig
  state          : GateState
  pending        : Direction
  faultCause     : FaultCause
  position       : Int
  referenced     : Bool
  motionTicks    : Nat
  stallCount     : Nat
  pauseCount     : Nat
  attempts       : Nat
  relowerArmed   : Bool
  clearCount     : Nat
  manualLowering : Bool
  openLimit      : Bool
  closedLimit    : Bool
  presence       : Bool
  deriving DecidableEq, Repr

/-! ### Counters (05) -/

inductive CounterMode where
  | off
  | encoder
  | loopPair
  deriving DecidableEq, Repr

inductive Crossing where
  | idle
  | a
  | ab
  | bAfterA
  | b
  | ba
  | aAfterB
  deriving DecidableEq, Repr

/-- A unit's configuration (R81, R181); the boundary is (from, to), 0 for outside the corridor. -/
structure CounterConfig where
  mode     : CounterMode
  boundary : Option (Fin 5 × Fin 5)
  deriving DecidableEq, Repr

/-- A counter unit (R81). `codeA` and `codeB` are the code, which is also the level of each input as last observed. -/
structure Counter where
  cfg        : CounterConfig
  codeA      : Bool
  codeB      : Bool
  count      : Int
  illegal    : Nat
  crossing   : Crossing
  stuck      : Bool
  aOnTicks   : Nat
  bOnTicks   : Nat
  clearTicks : Nat
  deriving DecidableEq, Repr

/-! ### Flashers (06) -/

/-- Flasher classes in ascending priority (R95). -/
inductive FlashClass where
  | none
  | closed
  | moving
  | alert
  deriving DecidableEq, Repr

/-- A class pattern (R95). -/
structure Pattern where
  on  : Nat
  off : Nat
  deriving DecidableEq, Repr

/-- The three class patterns (R95, R181). -/
structure Patterns where
  closed : Pattern
  moving : Pattern
  alert  : Pattern
  deriving DecidableEq, Repr

/-- A flasher record (R95). The requester set holds at most one entry for each gate and path: `gateReq` is a gate's class
(NONE for no entry), `pathReq` says whether a path's ALERT entry is there. The effective class is computed. -/
structure Flasher where
  gateReq   : Vector FlashClass 6
  pathReq   : Vector Bool 12
  running   : FlashClass
  phaseOn   : Bool
  countdown : Nat
  deriving DecidableEq, Repr

/-! ### Notices (07) -/

inductive NoticeState where
  | pending
  | posted
  | inForce
  | lifted
  | cancelled
  deriving DecidableEq, Repr

/-- A notice (R104); bit i of `segments` is segment i + 1. -/
structure Notice where
  number     : Nat
  reference  : Half
  segments   : BitVec 4
  firstPage  : Page
  secondPage : Option Page
  start      : Option Nat
  stop       : Option Nat
  lead       : Nat
  state      : NoticeState
  deriving DecidableEq, Repr

/-- The notice list (R104, R106, R112). `spent` is the near-full indication. -/
structure NoticeList where
  slots      : Vector (Option Notice) 24
  order      : List (Fin 24)
  lastNumber : Nat
  margin     : Nat
  spent      : Bool
  deriving DecidableEq, Repr

/-! ### Signs and lines (08 to 11) -/

inductive Role where
  | none
  | advance
  | path
  | info
  deriving DecidableEq, Repr

/-- Plan and display classes, ascending (R119, R129). -/
inductive PlanClass where
  | blank
  | condition
  | caution
  | closure
  | hazard
  deriving DecidableEq, Repr

/-- The content need of a sign with the tick it was raised at (R121). -/
inductive Need where
  | none
  | plan (hazard : Bool) (since : Tick)
  | recovery (since : Tick)
  deriving DecidableEq, Repr

/-- A displayed record (R124). -/
structure Displayed where
  page      : Option Page
  cls       : PlanClass
  confirmed : Bool
  fallback  : Bool
  deriving DecidableEq, Repr

inductive Service where
  | absent
  | showing
  | lapsed
  | blank
  | shed
  | held
  | offline
  deriving DecidableEq, Repr

/-- Temperature bands (R148). -/
inductive Band where
  | normal
  | cold
  | severe
  deriving DecidableEq, Repr

inductive Granularity where
  | full
  | half
  | quarter
  deriving DecidableEq, Repr

/-- The status flags of a sign's reply (R132, R133). -/
structure SignStatus where
  blanked    : Bool
  held       : Bool
  door       : Bool
  pixelFault : Bool
  deriving DecidableEq, Repr

/-- A sign's configuration (R116, R181); bit i of `segments` is segment i + 1, kept for ADVANCE and INFO. -/
structure SignConfig where
  role      : Role
  segments  : BitVec 4
  path      : Option (Fin 12)
  holdover  : Nat
  sheddable : Bool
  condition : Option Page
  dwell     : Nat
  deriving DecidableEq, Repr

/-- The four band ages A0..A3 (R147). -/
structure Ages where
  a0 : Nat
  a1 : Nat
  a2 : Nat
  a3 : Nat
  deriving DecidableEq, Repr

/-- A sign: its configuration (R116), plan, rotation and need (R121), displayed record (R124), service record (R132) and
retention record (R147). `heldShare` is the share it had when it became HELD (R166). -/
structure Sign where
  cfg          : SignConfig
  planClass    : PlanClass
  rotation     : List Page
  index        : Nat
  dwellCount   : Nat
  need         : Need
  shown        : Displayed
  service      : Service
  restoreNeed  : Option Tick
  pollCount    : Nat
  pollNeed     : Option Tick
  shedNeed     : Option Tick
  holdNeed     : Option Tick
  status       : SignStatus
  temperature  : Option Int
  band         : Band
  granularity  : Granularity
  lapsePoint   : Nat
  dueSpan      : Nat
  critical     : Nat
  slotPeriod   : Nat
  ages         : Ages
  owed         : Nat
  cursor       : Nat
  slotTimer    : Nat
  refreshSince : Tick
  heldShare    : Nat
  deriving DecidableEq, Repr

inductive Baud where
  | b9600
  | b19200
  | b38400
  | b57600
  deriving DecidableEq, Repr

inductive Policy where
  | full
  | half
  | quarter
  | adaptive
  deriving DecidableEq, Repr

inductive BandMode where
  | auto
  | normal
  | cold
  | severe
  deriving DecidableEq, Repr

inductive LineState where
  | active
  | holdEntry
  | held
  | resuming
  deriving DecidableEq, Repr

inductive FrameKind where
  | content
  | refresh
  | blank
  | hold
  | poll
  deriving DecidableEq, Repr

/-- Arbiter classes, ascending (R140). -/
inductive ArbClass where
  | poll
  | refresh
  | content
  | restore
  | hazard
  deriving DecidableEq, Repr

/-- The frame in flight (R132). Beside R132's fields it keeps what the rules read when the frame ends: the plan class and
the wanted page at its building (R124), the bands of a REFRESH (R151), the baud of the attempt (R134), the cache way in use
(R142), whether it is a BLANK sent by shedding (R157), and whether it is sent once, a POLL to a sign already OFFLINE (R135).
Bit s of `strips` is strip s. -/
structure Frame where
  address    : Fin 8
  kind       : FrameKind
  page       : Option Page
  strips     : BitVec 8
  cls        : ArbClass
  fallback   : Bool
  attempt    : Nat
  startTick  : Tick
  builtClass : PlanClass
  wanted     : Option Page
  firstBand  : Nat
  bands      : Nat
  baud       : Baud
  way        : Option (Fin 32 × Bool)
  shedding   : Bool
  once       : Bool
  deriving DecidableEq, Repr

/-- A line's configuration (R132, R181). -/
structure LineConfig where
  baud     : Baud
  policy   : Policy
  bandMode : BandMode
  deriving DecidableEq, Repr

/-- A line record (R132, R153, R155, R160, R164). `arbitrate` is the model's own: an arbitration is owed at the end of the
present step (R141); it is clear between steps. -/
structure Line where
  cfg         : LineConfig
  state       : LineState
  inFlight    : Option Frame
  txBuffer    : List Byte
  activeCount : Nat
  wakeCause   : Nat
  target      : Granularity
  load        : Nat
  sum         : Nat
  overloaded  : Bool
  arbitrate   : Bool
  deriving DecidableEq, Repr

/-! ### The library (12) -/

/-- One strip of a cache line (R172). -/
structure Strip where
  valid  : Bool
  data   : StripData
  parity : Byte
  deriving DecidableEq, Repr

/-- One line of the page cache (R172). -/
structure CacheLine where
  valid  : Bool
  tag    : Nat
  strips : Vector Strip 8
  deriving DecidableEq, Repr

/-- A set of the page cache: way 0, way 1 and the LRU indicator, set when way 1 is the least recently used (R172). -/
structure CacheSet where
  way0  : CacheLine
  way1  : CacheLine
  lru1  : Bool
  deriving DecidableEq, Repr

/-- A fill request in the miss queue (R173). -/
structure FillRequest where
  page      : Page
  strips    : BitVec 8
  inService : Bool
  deriving DecidableEq, Repr

/-- What a work item does (R177). -/
inductive WorkKind where
  | program (page : Page) (strip : Fin 8) (data : StripData)
  | erase (block : Fin 512)
  | saveProfile
  deriving DecidableEq, Repr

/-- A work item with its sequence number (R177). -/
structure WorkItem where
  seq  : Byte
  kind : WorkKind
  deriving DecidableEq, Repr

/-- Why a work item failed (R182). -/
inductive FailReason where
  | verify
  | flashTimeout
  | discarded
  deriving DecidableEq, Repr

/-! ### Configuration image (R181) -/

/-- The configuration image of the profile: what R181 lists. -/
structure Profile where
  channels   : Vector ChannelConfig 16
  paths      : Vector PathConfig 12
  gates      : Vector GateConfig 6
  counters   : Vector CounterConfig 12
  segments   : Vector SegmentConfig 4
  signs      : Vector SignConfig 16
  lines      : Vector LineConfig 2
  patterns   : Patterns
  listMargin : Nat
  preCount   : Nat
  traceMargin : Nat
  deriving DecidableEq, Repr

/-- The operation on the flash port (R174). A fill reads strip `strip`; `retried` says that its read is the repeat (R175).
A profile save holds the image it took when it started (R181). -/
inductive PortOp where
  | idle
  | fill (page : Page) (way1 : Bool) (strip : Fin 8) (retried : Bool)
  | program (seq : Byte) (page : Page) (strip : Fin 8) (data : StripData)
  | erase (seq : Byte) (block : Fin 512)
  | save (seq : Byte) (image : Profile)
  deriving DecidableEq, Repr

/-- The library unit (R172 to R183). -/
structure Library where
  cache         : Vector CacheSet 32
  missQueue     : List FillRequest
  workQueue     : List WorkItem
  faulted       : List Page
  cursor        : Option (Page × Fin 8)
  port          : PortOp
  opTicks       : Nat
  nextSeq       : Byte
  lastDone      : Byte
  lastFailure   : Option (WorkItem × FailReason)
  lastFillFault : Option Page
  parityErrors  : Nat
  deriving DecidableEq, Repr

/-- The attached flash, bytes 0..2,097,151 (R171): address and byte, addresses rising, no byte 0xFF listed, since an unlisted
address reads as erased flash does. Block 0, bytes 0..4095, holds the profile (R181). -/
abbrev Flash := List Host.Cell

/-! ### Events that are due -/

/-- The events of the table that a tick, a flash step or a sampling tick has made due and that have not been taken yet. The
entries `chFault` and `chRefFault` stand for changes inside a sampling tick that are no rows of the table (95). -/
inductive Due where
  | second
  | sampling
  | chFault (i : Fin 16)
  | chRecover (i : Fin 16)
  | chRefFault (i : Fin 16)
  | chActive (i : Fin 16)
  | chQuiet (i : Fin 16)
  | confirmTimeout (i : Fin 4)
  | leadEnd (i : Fin 4)
  | stall (i : Fin 6)
  | motion (i : Fin 6)
  | pause (i : Fin 6)
  | relower (i : Fin 6)
  | stuck (i : Fin 12)
  | stuckLeft (i : Fin 12)
  | rotation (i : Fin 16)
  | refresh (i : Fin 16)
  | lapsed (i : Fin 16)
  | critical (i : Fin 16)
  | poll (i : Fin 16)
  | holdEntry (i : Fin 2)
  | heldWake (i : Fin 2)
  | phaseEnd (i : Fin 8)
  | flashTimeout
  deriving DecidableEq, Repr

/-- The state of the device. `pending` is the queue of waiting commands and `due` the events the device itself owes (the
model's own fields); `freeCount` counts the free values drawn; `analog` is the level on each analog input. -/
structure State where
  pending        : List Instr
  due            : List Due
  freeCount      : Nat
  tmb            : Timebase
  link           : Link
  segments       : Vector Segment 4
  reserveRequest : Bool
  supplyLow      : Bool
  analog         : Vector (BitVec 12) 16
  channels       : Vector Channel 16
  economy        : Nat
  paths          : Vector PathRec 12
  trace          : Trace
  gates          : Vector Gate 6
  counters       : Vector Counter 12
  patterns       : Patterns
  flashers       : Vector Flasher 8
  notices        : NoticeList
  signs          : Vector Sign 16
  lines          : Vector Line 2
  lib            : Library
  flash          : Flash
  deriving DecidableEq, Repr

/-! ### The machine after power-on -/

/-- The configuration a full reset takes when no valid profile is loaded: preset p for the channels (R36) and each chapter's
defaults (R22, R39, R79, R93, R98, R114, R60, R130, R145). -/
def Profile.defaults (preset : BitVec 3) : Profile where
  channels := Vector.replicate 16
    { mode := .fixed, baseFixed := false, reference := none, rise := 1024 + 256 * preset.toNat,
      fall := 1024 + 256 * preset.toNat - 192, persist := 2 + preset.toNat % 3 }
  paths := Vector.replicate 12
    { segment := 0, members := 0, k := 1, window := 1, autoclose := false, hazardPage := 1, flasher := none, masked := false }
  gates := Vector.replicate 6 { segment := none, encoder := 0, travel := 1200, motionLimit := 480, flasher := none }
  counters := Vector.replicate 12 { mode := .off, boundary := none }
  segments := Vector.replicate 4 { lead := 480, confirm := 240 }
  signs := Vector.replicate 16
    { role := .none, segments := 0, path := none, holdover := 120, sheddable := false, condition := none, dwell := 40 }
  lines := Vector.replicate 2 { baud := .b19200, policy := .adaptive, bandMode := .auto }
  patterns := { closed := { on := 6, off := 122 }, moving := { on := 32, off := 32 }, alert := { on := 8, off := 8 } }
  listMargin := 3
  preCount := 16
  traceMargin := 8

/-- A displayed record of which nothing is known (R117, R130). -/
def Displayed.unknown : Displayed := { page := none, cls := .blank, confirmed := false, fallback := false }

/-- Status flags all clear. -/
def SignStatus.clear : SignStatus := { blanked := false, held := false, door := false, pixelFault := false }

/-- A cache line not valid, all strips INVALID; the data and parity bytes of an invalid strip are 0 (the spec gives none). -/
def CacheLine.empty : CacheLine :=
  { valid := false, tag := 0, strips := Vector.replicate 8 { valid := false, data := 0, parity := 0 } }

/-- The machine right after power-on with no profile in flash, erased flash, straps 0 and every digital input inactive.
DESIGN CHOICE, log entry 22. -/
def State.reset : State where
  pending := []
  due := []
  freeCount := 0
  tmb := { tickCounter := 0, tickInSecond := 0, passClock := none }
  link :=
    { rxFrames := [], rxPartial := [], reply := none, reports := [{ obj := .system, flags := 1 }], lastSent := [],
      resetCause := .powerOn, profileResult := .absent, preset := 0 }
  segments := Vector.replicate 4
    { cfg := { lead := 480, confirm := 240 }, posture := .caution, phase := .noPhase, causes := [], phaseTimer := 0,
      pathLimit := false, occupancy := 0, drift := false, uncertain := true, occupied := false, confirmMissing := false }
  reserveRequest := false
  supplyLow := false
  analog := Vector.replicate 16 512
  channels := Vector.replicate 16
    { cfg := { mode := .fixed, baseFixed := false, reference := none, rise := 1024, fall := 832, persist := 2 },
      lastSample := 0, compared := none, riseRun := 0, fallRun := 0, recoveryRun := 0, state := .quiet }
  economy := 0
  paths := Vector.replicate 12
    { cfg := { segment := 0, members := 0, k := 1, window := 1, autoclose := false, hazardPage := 1, flasher := none,
               masked := false },
      state := .quiet, lastAct := Vector.replicate 16 none, healthy := 0, kEff := 1, degraded := false, lastVote := 0 }
  trace := { entries := [], mark := none, truncated := false, nearFullPosted := false, preCount := 16, margin := 8 }
  gates := Vector.replicate 6
    { cfg := { segment := none, encoder := 0, travel := 1200, motionLimit := 480, flasher := none }, state := .unknown,
      pending := .none, faultCause := .none, position := 0, referenced := false, motionTicks := 0, stallCount := 0,
      pauseCount := 0, attempts := 0, relowerArmed := false, clearCount := 0, manualLowering := false,
      openLimit := false, closedLimit := false, presence := false }
  counters := Vector.replicate 12
    { cfg := { mode := .off, boundary := none }, codeA := false, codeB := false, count := 0, illegal := 0, crossing := .idle,
      stuck := false, aOnTicks := 0, bOnTicks := 0, clearTicks := 0 }
  patterns := { closed := { on := 6, off := 122 }, moving := { on := 32, off := 32 }, alert := { on := 8, off := 8 } }
  flashers := Vector.replicate 8
    { gateReq := Vector.replicate 6 .none, pathReq := Vector.replicate 12 false, running := .none, phaseOn := false,
      countdown := 0 }
  notices := { slots := Vector.replicate 24 none, order := [], lastNumber := 0, margin := 3, spent := false }
  signs := Vector.replicate 16
    { cfg := { role := .none, segments := 0, path := none, holdover := 120, sheddable := false, condition := none,
               dwell := 40 },
      planClass := .blank, rotation := [], index := 0, dwellCount := 0, need := .none, shown := Displayed.unknown,
      service := .absent, restoreNeed := none, pollCount := 0, pollNeed := none, shedNeed := none, holdNeed := none,
      status := SignStatus.clear, temperature := none, band := .normal, granularity := .full, lapsePoint := 960,
      dueSpan := 480, critical := 720, slotPeriod := 480, ages := { a0 := 0, a1 := 0, a2 := 0, a3 := 0 }, owed := 0,
      cursor := 0, slotTimer := 480, refreshSince := 0, heldShare := 0 }
  lines := Vector.replicate 2
    { cfg := { baud := .b19200, policy := .adaptive, bandMode := .auto }, state := .active, inFlight := none, txBuffer := [],
      activeCount := 0, wakeCause := 0, target := .full, load := 0, sum := 0, overloaded := false, arbitrate := false }
  lib :=
    { cache := Vector.replicate 32 { way0 := CacheLine.empty, way1 := CacheLine.empty, lru1 := false },
      missQueue := [], workQueue := [], faulted := [], cursor := none, port := .idle, opTicks := 0, nextSeq := 0,
      lastDone := 0, lastFailure := none, lastFillFault := none, parityErrors := 0 }
  flash := []

end Sys2Proof.Machine
end

