-- ==== Sys2Proof/Machine/Ops.lean ====
section
/-! DEFINITION. The named operations every chapter uses: reading and writing one object of the state, the report set, tick
differences, number layouts, CRC-16 and the flash bytes. -/

namespace Sys2Proof.Machine

/-! ### One object of the state -/

/-- A segment record, by index (0 is segment 1). -/
def State.segment (s : State) (i : Fin 4) : Segment := s.segments[i]

/-- Replace one segment record. -/
def State.setSegment (s : State) (i : Fin 4) (r : Segment) : State := { s with segments := s.segments.set i r }

/-- Change one segment record. -/
def State.updSegment (s : State) (i : Fin 4) (f : Segment → Segment) : State := s.setSegment i (f (s.segment i))

/-- A channel record. -/
def State.channel (s : State) (i : Fin 16) : Channel := s.channels[i]

/-- Replace one channel record. -/
def State.setChannel (s : State) (i : Fin 16) (r : Channel) : State := { s with channels := s.channels.set i r }

/-- Change one channel record. -/
def State.updChannel (s : State) (i : Fin 16) (f : Channel → Channel) : State := s.setChannel i (f (s.channel i))

/-- A path record. -/
def State.path (s : State) (i : Fin 12) : PathRec := s.paths[i]

/-- Replace one path record. -/
def State.setPath (s : State) (i : Fin 12) (r : PathRec) : State := { s with paths := s.paths.set i r }

/-- Change one path record. -/
def State.updPath (s : State) (i : Fin 12) (f : PathRec → PathRec) : State := s.setPath i (f (s.path i))

/-- A gate record. -/
def State.gate (s : State) (i : Fin 6) : Gate := s.gates[i]

/-- Replace one gate record. -/
def State.setGate (s : State) (i : Fin 6) (r : Gate) : State := { s with gates := s.gates.set i r }

/-- Change one gate record. -/
def State.updGate (s : State) (i : Fin 6) (f : Gate → Gate) : State := s.setGate i (f (s.gate i))

/-- A counter unit. -/
def State.counter (s : State) (i : Fin 12) : Counter := s.counters[i]

/-- Replace one counter record. -/
def State.setCounter (s : State) (i : Fin 12) (r : Counter) : State := { s with counters := s.counters.set i r }

/-- Change one counter record. -/
def State.updCounter (s : State) (i : Fin 12) (f : Counter → Counter) : State := s.setCounter i (f (s.counter i))

/-- A flasher record. -/
def State.flasher (s : State) (i : Fin 8) : Flasher := s.flashers[i]

/-- Replace one flasher record. -/
def State.setFlasher (s : State) (i : Fin 8) (r : Flasher) : State := { s with flashers := s.flashers.set i r }

/-- Change one flasher record. -/
def State.updFlasher (s : State) (i : Fin 8) (f : Flasher → Flasher) : State := s.setFlasher i (f (s.flasher i))

/-- A sign, by its id. -/
def State.sign (s : State) (i : Fin 16) : Sign := s.signs[i]

/-- Replace one sign record. -/
def State.setSign (s : State) (i : Fin 16) (r : Sign) : State := { s with signs := s.signs.set i r }

/-- Change one sign record. -/
def State.updSign (s : State) (i : Fin 16) (f : Sign → Sign) : State := s.setSign i (f (s.sign i))

/-- A line record: 0 is line A, 1 is line B. -/
def State.line (s : State) (i : Fin 2) : Line := s.lines[i]

/-- Replace one line record. -/
def State.setLine (s : State) (i : Fin 2) (r : Line) : State := { s with lines := s.lines.set i r }

/-- Change one line record. -/
def State.updLine (s : State) (i : Fin 2) (f : Line → Line) : State := s.setLine i (f (s.line i))

/-- The tick count at this moment (R186). -/
def State.now (s : State) : Tick := s.tmb.tickCounter

/-- The reserve posture is RESERVE while the reserve request flag is set or SUPPLY_LOW is asserted (R16). -/
def State.inReserve (s : State) : Bool := s.reserveRequest || s.supplyLow

/-! ### Numbers -/

/-- A value bounded to a range (00, "Values and arithmetic"). -/
def clampNat (lo hi x : Nat) : Nat := max lo (min hi x)

/-- A signed value bounded to a range. -/
def clampInt (lo hi x : Int) : Int := max lo (min hi x)

/-- Division rounding up. -/
def ceilDiv (a b : Nat) : Nat := (a + b - 1) / b

/-- The ticks from `since` to `now`, modulo 2^32 (R186). -/
def ticksSince (now since : Tick) : Nat := (now - since).toNat

/-- A set of numbers below n as a mask, bit i for number i. -/
def maskNat (n : Nat) (f : Fin n → Bool) : Nat :=
  (List.finRange n).foldl (fun m i => if f i then m + 2 ^ i.val else m) 0

/-- The members of a mask in ascending order. -/
def bitsOf (m : BitVec n) : List (Fin n) := (List.finRange n).filter fun i => m.getLsbD i.val

/-! ### Byte layouts: big-endian fields (00, "Multi-byte fields and layouts") -/

/-- A one-byte field. -/
def u8 (x : Nat) : List Byte := [BitVec.ofNat 8 x]

/-- A two-byte field. -/
def u16 (x : Nat) : List Byte := bytesBE 2 (BitVec.ofNat 16 x)

/-- A four-byte field. -/
def u32 (x : Nat) : List Byte := bytesBE 4 (BitVec.ofNat 32 x)

/-- A two-byte signed field. -/
def i16 (x : Int) : List Byte := bytesBE 2 (BitVec.ofInt 16 x)

/-- A flag as a bit of a flags byte. -/
def flagBit (i : Nat) (b : Bool) : Nat := if b then 2 ^ i else 0

/-- A one-byte field that is 0xFF when absent. -/
def u8opt (x : Option Nat) : List Byte := u8 (x.getD 0xFF)

/-- A two-byte field that is 0xFFFF when absent. -/
def u16opt (x : Option Nat) : List Byte := u16 (x.getD 0xFFFF)

/-- A pass-clock second, 0xFFFFFFFF for UNSET or absent (00, "Time"). -/
def u32second (x : Option Nat) : List Byte := u32 (x.getD 0xFFFFFFFF)

/-- An age in ticks, saturating at 65534, 0xFFFF when absent (R52, R129, R144). -/
def u16age (now : Tick) (since : Option Tick) : List Byte :=
  match since with
  | none => u16 0xFFFF
  | some t => u16 (min 65534 (ticksSince now t))

/-- One bit step of CRC-16: polynomial 0x1021, most significant bit first (R171, R193). -/
def crc16Bit (c : Half) : Half :=
  if c.msb then (c <<< 1) ^^^ 0x1021 else c <<< 1

/-- CRC-16 of flash strips and sign frames: initial value 0xFFFF (R171, R193). -/
def crc16 (bytes : List Byte) : Half :=
  bytes.foldl (fun c b =>
    let x : Half := c ^^^ (b ++ (0 : Byte))
    crc16Bit (crc16Bit (crc16Bit (crc16Bit (crc16Bit (crc16Bit (crc16Bit (crc16Bit x)))))))) 0xFFFF

/-! ### The report set (R190) -/

/-- Post event flags for an object: OR them into its entry, or make an entry at the end of the set.
DESIGN CHOICE, log entry 32. -/
def addReport (o : Obj) (f : BitVec 16) : List ReportEntry → List ReportEntry
  | [] => [{ obj := o, flags := f }]
  | e :: rest => if e.obj = o then { e with flags := e.flags ||| f } :: rest else e :: addReport o f rest

/-- An owner posts a report of one of its objects (R190). -/
def State.post (s : State) (o : Obj) (f : BitVec 16) : State :=
  { s with link := { s.link with reports := addReport o f s.link.reports } }

/-- Post when the condition holds. -/
def State.postIf (s : State) (c : Bool) (o : Obj) (f : BitVec 16) : State := if c then s.post o f else s

/-- ATTN is asserted while the report set holds at least one entry (R190). -/
def State.attn (s : State) : Bool := !s.link.reports.isEmpty

/-! ### The flash behind the port (R171) -/

/-- What an address of the flash reads as: the listed byte, 0xFF (erased) when none is listed.
DESIGN CHOICE, log entry 36. -/
def flashRead : Flash → Nat → Byte
  | [], _ => 0xFF
  | (b, v) :: rest, a => if b = a then v else flashRead rest a

/-- Write a byte, keeping the canonical form. -/
def flashWrite : Flash → Nat → Byte → Flash
  | [], a, v => if v = 0xFF then [] else [(a, v)]
  | (b, w) :: rest, a, v =>
    if a < b then (if v = 0xFF then (b, w) :: rest else (a, v) :: (b, w) :: rest)
    else if a = b then (if v = 0xFF then rest else (a, v) :: rest)
    else (b, w) :: flashWrite rest a v

/-- Write bytes from an address on. -/
def flashWriteAll (m : Flash) (a : Nat) : List Byte → Flash
  | [] => m
  | v :: rest => flashWriteAll (flashWrite m a v) (a + 1) rest

/-- Program bytes from an address on: programming only turns bits from 1 to 0, so each byte becomes the AND of the old and
the new (R171). -/
def flashProgram (m : Flash) (a : Nat) : List Byte → Flash
  | [] => m
  | v :: rest => flashProgram (flashWrite m a (flashRead m a &&& v)) (a + 1) rest

/-- Erase the bytes lo .. hi - 1: they read as 0xFF (R171). -/
def flashErase (m : Flash) (lo hi : Nat) : Flash :=
  m.filter fun c => !(decide (lo ≤ c.1) && decide (c.1 < hi))

/-- Addresses strictly rising, each at least `lo`. -/
def flashRising (lo : Nat) : Flash → Bool
  | [] => true
  | (a, _) :: rest => decide (lo ≤ a) && flashRising (a + 1) rest

/-- The canonical form: addresses strictly rising and no byte equal to what an unlisted address reads as. -/
def Flash.wf (m : Flash) : Bool := flashRising 0 m && m.all fun c => c.2 != 0xFF

/-- Where strip s of page p lies: byte 512p + 64s (R171). -/
def slotAddress (p : Page) (strip : Fin 8) : Nat := 512 * p.toNat + 64 * strip.val

/-- The 34 bytes that a strip's slot holds first: 32 data bytes and the CRC-16 over them (R171). -/
def slotHead (d : StripData) : BitVec 272 := d ++ crc16 (bytesBE 32 d)

/-- The whole 64-byte slot of a strip: data, CRC-16 and 30 bytes of 0xFF (R171, R177). -/
def slotBytes (d : StripData) : List Byte := bytesBE 34 (slotHead d) ++ List.replicate 30 0xFF

/-- The first 34 bytes of a slot as the flash holds them. -/
def readSlotHead (m : Flash) (p : Page) (strip : Fin 8) : BitVec 272 :=
  ofBytesBE 272 ((List.range 34).map fun i => flashRead m (slotAddress p strip + i))

/-- The strip data among 34 bytes read. -/
def headData (x : BitVec 272) : StripData := (x >>> 16).setWidth 256

/-- A strip reads as good when the CRC held equals the CRC over the data as read (R171). -/
def headGood (x : BitVec 272) : Bool := slotHead (headData x) == x

/-- Draw n free bytes (the flash contents are unknown, R177). -/
def freeBytes (start n : Nat) : List Byte := (List.range n).map fun i => Config.freeByte (start + i)

end Sys2Proof.Machine
end

