-- ==== Sys2Proof/Machine/Flags.lean ====
section
/-! DEFINITION. The event flags of every report object, each at the bit its chapter gives. -/

namespace Sys2Proof.Machine.Flag

/-- SYSTEM event flags (R192). -/
def started : BitVec 16 := 0x01
def reserveChanged : BitVec 16 := 0x02
def clockSet : BitVec 16 := 0x04
def flasher : BitVec 16 := 0x08
def flashConfig : BitVec 16 := 0x10
def listNearFull : BitVec 16 := 0x20
def listConfig : BitVec 16 := 0x40

/-- SEGMENT event flags (R21). -/
def segPosture : BitVec 16 := 0x001
def segCauses : BitVec 16 := 0x002
def segConfirmMissing : BitVec 16 := 0x004
def segGateTrouble : BitVec 16 := 0x008
def segOccupied : BitVec 16 := 0x010
def segCount : BitVec 16 := 0x020
def segDrift : BitVec 16 := 0x040
def segUncertain : BitVec 16 := 0x080
def segConfig : BitVec 16 := 0x100

/-- CHANNEL event flags (R35). -/
def chState : BitVec 16 := 0x01
def chFault : BitVec 16 := 0x02
def chRecover : BitVec 16 := 0x04
def chRefFault : BitVec 16 := 0x08
def chServe : BitVec 16 := 0x10
def chConfig : BitVec 16 := 0x20

/-- PATH event flags (R52). -/
def pathState : BitVec 16 := 0x1
def pathDegraded : BitVec 16 := 0x2
def pathConfig : BitVec 16 := 0x4

/-- TRACE event flags (R59). -/
def traceMarked : BitVec 16 := 0x01
def traceNearFull : BitVec 16 := 0x02
def traceFull : BitVec 16 := 0x04
def traceReleased : BitVec 16 := 0x08
def traceConfig : BitVec 16 := 0x10

/-- GATE event flags (R78). -/
def gateState : BitVec 16 := 0x01
def gateFault : BitVec 16 := 0x02
def gateSlip : BitVec 16 := 0x04
def gateReversal : BitVec 16 := 0x08
def gateBlocked : BitVec 16 := 0x10
def gateLimitLost : BitVec 16 := 0x20
def gateWrongEnd : BitVec 16 := 0x40
def gateConfig : BitVec 16 := 0x80

/-- COUNTER event flags (R92). -/
def ctrCrossing : BitVec 16 := 0x1
def ctrIllegal : BitVec 16 := 0x2
def ctrStuck : BitVec 16 := 0x4
def ctrConfig : BitVec 16 := 0x8

/-- NOTICE event flags (R113). -/
def noticeNew : BitVec 16 := 0x1
def noticeState : BitVec 16 := 0x2
def noticeRemoved : BitVec 16 := 0x4

/-- SIGN event flags (R129, R144, R161). -/
def signPlan : BitVec 16 := 0x0001
def signDisplay : BitVec 16 := 0x0002
def signFallback : BitVec 16 := 0x0004
def signConfig : BitVec 16 := 0x0008
def signService : BitVec 16 := 0x0010
def signOffline : BitVec 16 := 0x0020
def signDoor : BitVec 16 := 0x0040
def signPixelFault : BitVec 16 := 0x0080
def signMismatch : BitVec 16 := 0x0100
def signLapsed : BitVec 16 := 0x0200
def signBand : BitVec 16 := 0x0400
def signGranularity : BitVec 16 := 0x0800
def signShed : BitVec 16 := 0x1000

/-- LINE event flags (R144, R161, R169). -/
def lineConfig : BitVec 16 := 0x01
def lineTarget : BitVec 16 := 0x02
def lineOverloaded : BitVec 16 := 0x04
def lineHold : BitVec 16 := 0x08
def lineWake : BitVec 16 := 0x10

/-- LIBRARY event flags (R182). -/
def libWriteDone : BitVec 16 := 0x01
def libWriteFailed : BitVec 16 := 0x02
def libEraseDone : BitVec 16 := 0x04
def libFillFault : BitVec 16 := 0x08
def libCacheParity : BitVec 16 := 0x10
def libProfileSaved : BitVec 16 := 0x20

end Sys2Proof.Machine.Flag
end

