-- ==== Sys2Proof/Machine/Operands.lean ====
section
/-! DEFINITION. Request operands: how a field of the link names an object or a setting, with what each chapter refuses as
OUT_OF_RANGE and what it clamps (00, "Settings: clamped or refused"), and the answer a request returns. -/

namespace Sys2Proof.Machine

/-- What a request gives back: the outcome, the reply data and the state after it (R185). -/
structure Answer where
  outcome : OutcomeCode
  data    : List Byte
  state   : State

/-- A refused request is answered with its outcome code and no data, and changes nothing (R185). -/
def refuse (o : OutcomeCode) (s : State) : Answer := { outcome := o, data := [], state := s }

/-- A request answered OK. -/
def accept (data : List Byte) (s : State) : Answer := { outcome := .ok, data := data, state := s }

/-- An index 0..n-1. -/
def indexOf (n : Nat) (b : Byte) : Option (Fin n) := if h : b.toNat < n then some ⟨b.toNat, h⟩ else none

/-- A segment number 1..4 as an index. -/
def segmentOf (b : Byte) : Option (Fin 4) :=
  if h : 1 ≤ b.toNat ∧ b.toNat ≤ 4 then some ⟨b.toNat - 1, by omega⟩ else none

/-- The number of a segment index, 1..4. -/
def segmentNumber (i : Fin 4) : Nat := i.val + 1

/-- A boolean field: 0 or 1, any other value out of range. -/
def boolOf (b : Byte) : Option Bool := if b = 0 then some false else if b = 1 then some true else none

/-- A page field 0..4095. -/
def pageOf (h : Half) : Option Page := if h.toNat < 4096 then some (h.setWidth 12) else none

/-- A flasher field: 0..7, or 0xFF for absent (R50, R76). The outer `none` is out of range. -/
def flasherOf (b : Byte) : Option (Option (Fin 8)) := if b = 0xFF then some none else (indexOf 8 b).map some

/-- A pass-clock second, 0xFFFFFFFF for absent (R107). -/
def secondOf (w : Word) : Option Nat := if w = 0xFFFFFFFF then none else some w.toNat

/-- The baud values of SET_LINE (R143). -/
def baudOf (h : Half) : Option Baud :=
  if h.toNat = 9600 then some .b9600
  else if h.toNat = 19200 then some .b19200
  else if h.toNat = 38400 then some .b38400
  else if h.toNat = 57600 then some .b57600
  else none

/-- A baud in bits per second. -/
def Baud.rate : Baud → Nat
  | .b9600 => 9600
  | .b19200 => 19200
  | .b38400 => 38400
  | .b57600 => 57600

/-- The granularity policies of SET_LINE (R143). -/
def policyOf (b : Byte) : Option Policy :=
  match b.toNat with
  | 0 => some .full
  | 1 => some .half
  | 2 => some .quarter
  | 3 => some .adaptive
  | _ => none

/-- The band modes of SET_LINE (R143). -/
def bandModeOf (b : Byte) : Option BandMode :=
  match b.toNat with
  | 0 => some .auto
  | 1 => some .normal
  | 2 => some .cold
  | 3 => some .severe
  | _ => none

/-- The roles of SET_SIGN (R117). -/
def roleOf (b : Byte) : Option Role :=
  match b.toNat with
  | 0 => some .none
  | 1 => some .advance
  | 2 => some .path
  | 3 => some .info
  | _ => none

/-- The modes of SET_CHANNEL: SERVE cannot be requested (R32). -/
def channelModeOf (b : Byte) : Option ChannelMode :=
  match b.toNat with
  | 0 => some .off
  | 1 => some .fixed
  | 2 => some .reference
  | _ => none

/-- The modes of SET_COUNTER (R90). -/
def counterModeOf (b : Byte) : Option CounterMode :=
  match b.toNat with
  | 0 => some .off
  | 1 => some .encoder
  | 2 => some .loopPair
  | _ => none

/-- The actions of MOVE_GATE (R74). -/
inductive MoveAction where
  | stop
  | up
  | down
  deriving DecidableEq, Repr

/-- An action field (R74). -/
def moveActionOf (b : Byte) : Option MoveAction :=
  match b.toNat with
  | 0 => some .stop
  | 1 => some .up
  | 2 => some .down
  | _ => none

/-- The classes of SET_FLASH (R100). -/
def flashClassOf (b : Byte) : Option FlashClass :=
  match b.toNat with
  | 1 => some .closed
  | 2 => some .moving
  | 3 => some .alert
  | _ => none

/-! ### Codes of snapshots and replies -/

def OutcomeCode.code : OutcomeCode → Nat
  | .ok => 0 | .unknownKind => 1 | .badLength => 2 | .outOfRange => 3 | .notConfigured => 4 | .wrongState => 5
  | .conflict => 6 | .listFull => 7 | .queueFull => 8 | .clockUnset => 9

def Posture.code : Posture → Nat
  | .opened => 0 | .caution => 1 | .closing => 2 | .closed => 3 | .reopening => 4

def Phase.code : Phase → Nat
  | .noPhase => 0 | .confirm => 1 | .lead => 2 | .lower => 3

def ChannelMode.code : ChannelMode → Nat
  | .off => 0 | .fixed => 1 | .reference => 2 | .serve => 3

def ChannelState.code : ChannelState → Nat
  | .off => 0 | .quiet => 1 | .active => 2 | .fault => 3 | .refFault => 4 | .serve => 5

def PathState.code : PathState → Nat
  | .quiet => 0 | .watch => 1 | .alert => 2 | .hold => 3 | .masked => 4

def TraceKind.code : TraceKind → Nat
  | .chActive => 1 | .chQuiet => 2 | .chFault => 3 | .chRecover => 4 | .pathWatch => 5 | .pathAlert => 6 | .pathHold => 7
  | .pathDismiss => 8 | .pathClear => 9

def GateState.code : GateState → Nat
  | .unknown => 0 | .opened => 1 | .lowering => 2 | .closed => 3 | .raising => 4 | .pause => 5 | .halted => 6 | .blocked => 7
  | .fault => 8

def Direction.code : Direction → Nat
  | .none => 0 | .up => 1 | .down => 2

def FaultCause.code : FaultCause → Nat
  | .none => 0 | .stall => 1 | .timeout => 2 | .limitConflict => 3

def CounterMode.code : CounterMode → Nat
  | .off => 0 | .encoder => 1 | .loopPair => 2

def Crossing.code : Crossing → Nat
  | .idle => 0 | .a => 1 | .ab => 2 | .bAfterA => 3 | .b => 4 | .ba => 5 | .aAfterB => 6

def FlashClass.code : FlashClass → Nat
  | .none => 0 | .closed => 1 | .moving => 2 | .alert => 3

def NoticeState.code : NoticeState → Nat
  | .pending => 1 | .posted => 2 | .inForce => 3 | .lifted => 4 | .cancelled => 5

def Role.code : Role → Nat
  | .none => 0 | .advance => 1 | .path => 2 | .info => 3

def PlanClass.code : PlanClass → Nat
  | .blank => 0 | .condition => 1 | .caution => 2 | .closure => 3 | .hazard => 4

def Service.code : Service → Nat
  | .absent => 0 | .showing => 1 | .lapsed => 2 | .blank => 3 | .shed => 4 | .held => 5 | .offline => 6

def Band.code : Band → Nat
  | .normal => 0 | .cold => 1 | .severe => 2

def Granularity.code : Granularity → Nat
  | .full => 0 | .half => 1 | .quarter => 2

def Policy.code : Policy → Nat
  | .full => 0 | .half => 1 | .quarter => 2 | .adaptive => 3

def BandMode.code : BandMode → Nat
  | .auto => 0 | .normal => 1 | .cold => 2 | .severe => 3

def LineState.code : LineState → Nat
  | .active => 0 | .holdEntry => 1 | .held => 2 | .resuming => 3

/-- Frame kinds as the LINE snapshot codes them (R144). -/
def FrameKind.code : FrameKind → Nat
  | .content => 0 | .refresh => 1 | .blank => 2 | .hold => 3 | .poll => 4

/-- Frame kinds as a sign frame carries them (R193). -/
def FrameKind.wire : FrameKind → Nat
  | .content => 1 | .refresh => 2 | .blank => 3 | .hold => 4 | .poll => 5

/-- Arbiter classes as the snapshots code them; 0 stands for none (R144). -/
def ArbClass.code : ArbClass → Nat
  | .poll => 1 | .refresh => 2 | .content => 3 | .restore => 4 | .hazard => 5

def ResetCause.code : ResetCause → Nat
  | .powerOn => 0 | .resetPin => 1 | .restart => 2

def ProfileResult.code : ProfileResult → Nat
  | .loaded => 0 | .absent => 1 | .bad => 2

def WorkKind.code : WorkKind → Nat
  | .program .. => 1 | .erase .. => 2 | .saveProfile => 3

def FailReason.code : FailReason → Nat
  | .verify => 1 | .flashTimeout => 2 | .discarded => 3

end Sys2Proof.Machine
end

