-- ==== Sys2Proof/Machine/Beacons.lean ====
section
/-! DEFINITION. Beacon flashers: requester sets, effective class and pattern generation (R95 to R99). -/

namespace Sys2Proof.Machine

/-- The class pattern of a class (R95); NONE has no pattern. -/
def Patterns.of (p : Patterns) : FlashClass → Pattern
  | .none => { on := 0, off := 0 }
  | .closed => p.closed
  | .moving => p.moving
  | .alert => p.alert

/-- The effective class: the highest among the entries that count; CLOSED entries count in MAINS only (R97). -/
def Flasher.effective (reserve : Bool) (f : Flasher) : FlashClass :=
  if (List.finRange 12).any fun i => f.pathReq[i] then .alert
  else if (List.finRange 6).any fun i => f.gateReq[i] == .alert then .alert
  else if (List.finRange 6).any fun i => f.gateReq[i] == .moving then .moving
  else if !reserve && (List.finRange 6).any fun i => f.gateReq[i] == .closed then .closed
  else .none

/-- The generator after a change of the effective class (R99). -/
def Flasher.retune (pats : Patterns) (c : FlashClass) (f : Flasher) : Flasher :=
  if c = .none then { f with running := c, phaseOn := false, countdown := 0 }
  else if f.running.code < c.code then { f with running := c, phaseOn := true, countdown := (pats.of c).on }
  else { f with running := c }

/-- The BCN recomputes one flasher's effective class and acts on a change, posting FLASHER (R96, R99, R101). -/
def State.settleFlasher (s : State) (i : Fin 8) : State :=
  let f := s.flasher i
  let c := f.effective s.inReserve
  if c = f.running then s
  else (s.setFlasher i (f.retune s.patterns c)).post .system Flag.flasher

/-- A gate posts a class on a flasher, or withdraws its entry with NONE (R96). -/
def State.gateRequest (s : State) (i : Fin 8) (g : Fin 6) (c : FlashClass) : State :=
  (s.updFlasher i fun f => { f with gateReq := f.gateReq.set g c }).settleFlasher i

/-- A path posts its ALERT entry on a flasher or withdraws it (R96). -/
def State.pathRequest (s : State) (i : Fin 8) (p : Fin 12) (on : Bool) : State :=
  (s.updFlasher i fun f => { f with pathReq := f.pathReq.set p on }).settleFlasher i

/-- Every flasher is recomputed, at a change of the reserve posture (R97). -/
def State.settleFlashers (s : State) : State := (List.finRange 8).foldl State.settleFlasher s

/-- The output of a flasher: on while the running class is not NONE and the phase is ON (R95). -/
def Flasher.output (f : Flasher) : Bool := f.running != .none && f.phaseOn

/-- A running generator's phase ends: the other phase with its time from the pattern as it stands (R98). -/
def Flasher.nextPhase (pats : Patterns) (f : Flasher) : Flasher :=
  { f with phaseOn := !f.phaseOn,
           countdown := (if f.phaseOn then (pats.of f.running).off else (pats.of f.running).on) }

/-- A generator restarted on its effective class (R102, R103). -/
def Flasher.restart (pats : Patterns) (reserve : Bool) (f : Flasher) : Flasher :=
  let c := f.effective reserve
  if c = .none then { f with running := .none, phaseOn := false, countdown := 0 }
  else { f with running := c, phaseOn := true, countdown := (pats.of c).on }

end Sys2Proof.Machine
end

