-- ==== Sys2Proof/Machine/Library.lean ====
section
/-! DEFINITION. The page cache, the miss queue, the flash port arbiter and fills (R172 to R176). What ends a program, an erase
or a save stands in LibraryEvents. -/

namespace Sys2Proof.Machine

/-! ### The page cache (R172) -/

/-- Pages 8..4095 are library pages; 0..7 are fixed pages held on chip (R171). -/
def isLibraryPage (p : Page) : Bool := decide (8 ≤ p.toNat)

/-- The set of a page: p mod 32. -/
def setOfPage (p : Page) : Fin 32 := ⟨p.toNat % 32, Nat.mod_lt _ (by decide)⟩

/-- The tag of a page: p div 32. -/
def tagOfPage (p : Page) : Nat := p.toNat / 32

/-- The parity byte of a strip: the exclusive-or of its 32 data bytes. -/
def parityOf (d : StripData) : Byte := (bytesBE 32 d).foldl (· ^^^ ·) 0

/-- A way of a set; way 1 when the flag is set. -/
def CacheSet.way (c : CacheSet) (w : Bool) : CacheLine := if w then c.way1 else c.way0

/-- A set with one way changed. -/
def CacheSet.setWay (c : CacheSet) (w : Bool) (l : CacheLine) : CacheSet :=
  if w then { c with way1 := l } else { c with way0 := l }

/-- Whether a line holds a page. -/
def CacheLine.holds (l : CacheLine) (p : Page) : Bool := l.valid && l.tag == tagOfPage p

/-- The strips of a line that are VALID, as a mask. -/
def CacheLine.validMask (l : CacheLine) : BitVec 8 := BitVec.ofNat 8 (maskNat 8 fun i => l.strips[i].valid)

/-- The set of a page in the cache. -/
def State.cacheSet (s : State) (p : Page) : CacheSet := s.lib.cache[setOfPage p]

/-- Change the library record. -/
def State.updLib (s : State) (f : Library → Library) : State := { s with lib := f s.lib }

/-- Change one way of a page's set. -/
def State.updWay (s : State) (p : Page) (w : Bool) (f : CacheLine → CacheLine) : State :=
  s.updLib fun lib =>
    let c := lib.cache[setOfPage p]
    { lib with cache := lib.cache.set (setOfPage p) (c.setWay w (f (c.way w))) }

/-- A use of a way makes the indicator name the other way. -/
def State.useWay (s : State) (p : Page) (w : Bool) : State :=
  s.updLib fun lib =>
    let c := lib.cache[setOfPage p]
    { lib with cache := lib.cache.set (setOfPage p) { c with lru1 := !w } }

/-- The way that holds a page, if it is cached. -/
def State.cachedWay (s : State) (p : Page) : Option Bool :=
  if !isLibraryPage p then none
  else if (s.cacheSet p).way0.holds p then some false
  else if (s.cacheSet p).way1.holds p then some true
  else none

/-- A way is in use while a frame built from it is in flight (R142). -/
def State.wayInUse (s : State) (p : Page) (w : Bool) : Bool :=
  (List.finRange 2).any fun l =>
    match (s.line l).inFlight with
    | some f => f.way == some (setOfPage p, w)
    | none => false

/-- The strips of a page that are VALID in the cache. -/
def State.validStrips (s : State) (p : Page) : BitVec 8 :=
  match s.cachedWay p with
  | some w => ((s.cacheSet p).way w).validMask
  | none => 0

/-- One strip of a way. -/
def State.strip (s : State) (p : Page) (w : Bool) (i : Fin 8) : Strip := ((s.cacheSet p).way w).strips[i]

/-- Put data into a strip: VALID with its parity. -/
def State.installStrip (s : State) (p : Page) (w : Bool) (i : Fin 8) (d : StripData) : State :=
  s.updWay p w fun l => { l with strips := l.strips.set i { valid := true, data := d, parity := parityOf d } }

/-- Make a strip INVALID. -/
def State.dropStrip (s : State) (p : Page) (w : Bool) (i : Fin 8) : State :=
  s.updWay p w fun l => { l with strips := l.strips.set i { l.strips[i] with valid := false } }

/-- A strip whose parity, recomputed from its data, differs from its parity byte. -/
def Strip.parityBad (x : Strip) : Bool := parityOf x.data != x.parity

/-- A parity mismatch: the strip INVALID, the error counted, CACHE_PARITY posted (R172). -/
def State.parityError (s : State) (p : Page) (w : Bool) (i : Fin 8) : State :=
  ((s.dropStrip p w i).updLib fun lib => { lib with parityErrors := min 255 (lib.parityErrors + 1) }).post .library
    Flag.libCacheParity

/-- The page is in the faulted-page list (R176). -/
def State.isFaulted (s : State) (p : Page) : Bool := s.lib.faulted.contains p

/-- A page leaves the faulted-page list (R176). -/
def State.unfault (s : State) (p : Page) : State :=
  s.updLib fun lib => { lib with faulted := lib.faulted.filter (· != p) }

/-- A page enters the faulted-page list: a listed page keeps its place, and a full list drops its oldest (R176). -/
def State.enterFaulted (s : State) (p : Page) : State :=
  if s.isFaulted p then s
  else s.updLib fun lib =>
    { lib with faulted := (if lib.faulted.length < 8 then lib.faulted else lib.faulted.tail) ++ [p] }

/-! ### Line arbitrations that are owed (R141) -/

/-- An arbitration of a line is owed at the end of this step. -/
def State.askArbitration (s : State) (l : Fin 2) : State := s.updLine l fun r => { r with arbitrate := true }

/-- Both lines arbitrate. -/
def State.askBoth (s : State) : State := (s.askArbitration 0).askArbitration 1

/-! ### The miss queue (R173) -/

/-- Merge a request into the entry of its page. -/
def mergeRequest (p : Page) (m : BitVec 8) : List FillRequest → List FillRequest
  | [] => []
  | r :: rest => if r.page = p then { r with strips := r.strips ||| m } :: rest else r :: mergeRequest p m rest

/-- A fill request: merged, appended, or turned away when the queue is full (R173). -/
def State.requestFill (s : State) (p : Page) (m : BitVec 8) : State :=
  if m = 0 then s
  else if s.lib.missQueue.any (·.page == p) then s.updLib fun lib => { lib with missQueue := mergeRequest p m lib.missQueue }
  else if s.lib.missQueue.length < 4 then
    s.updLib fun lib => { lib with missQueue := lib.missQueue ++ [{ page := p, strips := m, inService := false }] }
  else s

/-! ### Fills (R175) -/

/-- The way a fill of a page takes, if the fill can start: with both ways of the set in use by frames in flight it cannot, and
otherwise the way is found by steps 1 to 3 of R175. -/
def State.fillWay (s : State) (p : Page) : Option Bool :=
  if s.wayInUse p false && s.wayInUse p true then none
  else match s.cachedWay p with
  | some w => some w
  | none =>
    let c := s.cacheSet p
    if !c.way0.valid && !s.wayInUse p false then some false
    else if !c.way1.valid && !s.wayInUse p true then some true
    else if !s.wayInUse p c.lru1 then some c.lru1
    else if !s.wayInUse p (!c.lru1) then some (!c.lru1)
    else none

/-- The oldest miss-queue entry whose fill can start, with its way (R174). -/
def State.nextFill (s : State) : Option (Page × Bool) :=
  s.lib.missQueue.findSome? fun r => (s.fillWay r.page).map fun w => (r.page, w)

/-- Mark the entry of a page as in service. -/
def serveRequest (p : Page) (q : List FillRequest) : List FillRequest :=
  q.map fun r => if r.page = p then { r with inService := true } else r

/-- Start a fill: a way taken as the victim loses its page, and the way found is used (R175). -/
def State.startFill (s : State) (p : Page) (w : Bool) : State :=
  let s := if ((s.cacheSet p).way w).holds p then s
    else s.updWay p w fun _ => { CacheLine.empty with valid := true, tag := tagOfPage p }
  (s.useWay p w).updLib fun lib =>
    { lib with missQueue := serveRequest p lib.missQueue, port := .fill p w 0 false, opTicks := 0 }

/-- The strips the entry of a page asks for. -/
def State.requested (s : State) (p : Page) : BitVec 8 :=
  match s.lib.missQueue.find? (·.page == p) with
  | some r => r.strips
  | none => 0

/-- The lowest-numbered strip asked for that is not VALID in the line (R175). -/
def State.nextStrip (s : State) (p : Page) (w : Bool) : Option (Fin 8) :=
  (bitsOf (s.requested p)).find? fun i => !(s.strip p w i).valid

/-- The data of the newest PROGRAM item waiting in the work queue for a strip (R175). -/
def State.snoop (s : State) (p : Page) (i : Fin 8) : Option StripData :=
  s.lib.workQueue.reverse.findSome? fun it =>
    match it.kind with
    | .program q j d => if q = p ∧ j = i then some d else none
    | _ => none

/-- A fill ends: its entry leaves the miss queue, the port is idle, with operation ticks 0 (DESIGN CHOICE, log entry 22), and
both lines arbitrate (R175). -/
def State.endFill (s : State) (p : Page) : State :=
  (s.updLib fun lib =>
    { lib with missQueue := lib.missQueue.filter (·.page != p), port := .idle, opTicks := 0 }).askBoth

/-- The fill takes strips until one must be read from the flash or every strip is VALID (R175). -/
def State.runFill : Nat → State → State
  | 0, s => s
  | n + 1, s =>
    match s.lib.port with
    | .fill p w _ _ =>
      match s.nextStrip p w with
      | none => s.endFill p
      | some i =>
        match s.snoop p i with
        | some d => runFill n (s.installStrip p w i d)
        | none => s.updLib fun lib => { lib with port := .fill p w i false }
    | _ => s

/-! ### The flash port arbiter (R174) -/

/-- The configuration image as it stands (R181). -/
def State.configImage (s : State) : Profile where
  channels := Vector.ofFn fun i => (s.channel i).cfg
  paths := Vector.ofFn fun i => (s.path i).cfg
  gates := Vector.ofFn fun i => (s.gate i).cfg
  counters := Vector.ofFn fun i => (s.counter i).cfg
  segments := Vector.ofFn fun i => (s.segment i).cfg
  signs := Vector.ofFn fun i => (s.sign i).cfg
  lines := Vector.ofFn fun i => (s.line i).cfg
  patterns := s.patterns
  listMargin := s.notices.margin
  preCount := s.trace.preCount
  traceMargin := s.trace.margin

/-- The operation of a work item as it starts; a profile save takes its image at this moment (R181). -/
def State.opOf (s : State) (it : WorkItem) : PortOp :=
  match it.kind with
  | .program p i d => .program it.seq p i d
  | .erase b => .erase it.seq b
  | .saveProfile => .save it.seq s.configImage

/-- The port arbiter: while the port is idle it takes the oldest fill that can start, otherwise the head of the work queue.
A fill that needs no flash read ends at once, and the arbiter chooses again (R174, R175). -/
def State.arbitratePort : Nat → State → State
  | 0, s => s
  | n + 1, s =>
    if s.lib.port ≠ .idle then s
    else match s.nextFill with
      | some (p, w) => arbitratePort n (runFill 9 (s.startFill p w))
      | none =>
        match s.lib.workQueue with
        | [] => s
        | it :: rest => s.updLib fun lib => { lib with workQueue := rest, port := s.opOf it, opTicks := 0 }

/-- One choice of the port arbiter: at most four fills can end at once before it. -/
def State.portChoice (s : State) : State := s.arbitratePort 6

/-! ### The work queue (R177) -/

/-- Free places left in the work queue. -/
def State.workFree (s : State) : Nat := 6 - s.lib.workQueue.length

/-- Queue a work item with the next sequence number; the arbiter chooses if the port is idle (R174, R177). -/
def State.queueWork (s : State) (k : WorkKind) : State :=
  (s.updLib fun lib =>
    { lib with workQueue := lib.workQueue ++ [{ seq := lib.nextSeq, kind := k }], nextSeq := lib.nextSeq + 1 }).portChoice

end Sys2Proof.Machine
end

