-- ==== Sys2Proof/Machine/Retention.lean ====
section
/-! DEFINITION. Sign service states, retention arithmetic, granularity, line load, shedding and restoring, and the waking of a
held line (09 R138, 10, 11 R165 to R168). -/

namespace Sys2Proof.Machine

/-! ### Addresses -/

/-- The line of a sign: id = line × 8 + address (00, "Numbering"). -/
def lineOf (n : Fin 16) : Fin 2 := ⟨n.val / 8, by omega⟩

/-- The address of a sign on its line. -/
def addressOf (n : Fin 16) : Fin 8 := ⟨n.val % 8, Nat.mod_lt _ (by decide)⟩

/-- The sign at an address of a line. -/
def signAt (l : Fin 2) (a : Fin 8) : Fin 16 := ⟨8 * l.val + a.val, by omega⟩

/-- The signs of a line by ascending address. -/
def signsOf (l : Fin 2) : List (Fin 16) := (List.finRange 8).map (signAt l)

/-! ### Retention arithmetic (R147 to R155) -/

/-- The divisor d of a band (R148). -/
def Band.divisor : Band → Nat
  | .normal => 1
  | .cold => 2
  | .severe => 4

/-- The band one step colder (R166). -/
def Band.colder : Band → Band
  | .normal => .cold
  | .cold => .severe
  | .severe => .severe

/-- Bands per refresh frame, k (R153). -/
def Granularity.bands : Granularity → Nat
  | .full => 4
  | .half => 2
  | .quarter => 1

/-- Refresh frames per cycle, n (R153). -/
def Granularity.frames : Granularity → Nat
  | .full => 1
  | .half => 2
  | .quarter => 4

/-- The bits of one cycle: n exchanges of 10 × (F + 8) + 40 bits with F = 8 + 33 × strips (R155). -/
def Granularity.cycleBits (g : Granularity) : Nat := g.frames * (10 * ((8 + 33 * (2 * g.bands)) + 8) + 40)

/-- Change each band age. -/
def Ages.map (f : Nat → Nat) (a : Ages) : Ages := { a0 := f a.a0, a1 := f a.a1, a2 := f a.a2, a3 := f a.a3 }

/-- All four ages equal. -/
def Ages.all (x : Nat) : Ages := { a0 := x, a1 := x, a2 := x, a3 := x }

/-- The oldest age. -/
def Ages.oldest (a : Ages) : Nat := max (max a.a0 a.a1) (max a.a2 a.a3)

/-- Set the ages of `k` bands from `c` on. -/
def Ages.setFrom (c k x : Nat) (a : Ages) : Ages :=
  let put (b old : Nat) : Nat := if c ≤ b ∧ b < c + k then x else old
  { a0 := put 0 a.a0, a1 := put 1 a.a1, a2 := put 2 a.a2, a3 := put 3 a.a3 }

/-- The derived values of a sign that is not HELD (R149). -/
def Sign.derive (g : Sign) : Sign :=
  let lapse := 8 * g.cfg.holdover / g.band.divisor
  { g with lapsePoint := lapse, dueSpan := lapse / 2, critical := 3 * lapse / 4,
           slotPeriod := lapse / 2 / g.granularity.frames }

/-- The held span He: the lapse point of the band one step colder (R166). -/
def Sign.heldSpan (g : Sign) : Nat := 8 * g.cfg.holdover / g.band.colder.divisor

/-- A sign is counted in its line's load while SHOWING or LAPSED (R155). -/
def Sign.counted (g : Sign) : Bool := g.service == .showing || g.service == .lapsed

/-- Retention accounting runs in SHOWING, LAPSED and HELD (R138). -/
def Sign.accounted (g : Sign) : Bool := g.counted || g.service == .held

/-- A sign is configured while its role is not NONE (R116). -/
def Sign.configured (g : Sign) : Bool := g.cfg.role != .none

/-- What a sign's refreshes would use, in thousandths of a bit per second: ceil(8000 × cycle bits / D) (R155). -/
def Sign.fullShare (g : Sign) : Nat := ceilDiv (8000 * g.granularity.cycleBits) g.dueSpan

/-- A sign's share: 0 when not counted (R155). -/
def Sign.share (g : Sign) : Nat := if g.counted then g.fullShare else 0

/-- The protected plan classes (R120). -/
def PlanClass.isProtected : PlanClass → Bool
  | .hazard => true
  | .closure => true
  | .caution => true
  | .condition => false
  | .blank => false

/-! ### Service states (R138, R139, R147, R166) -/

/-- A sign as it stands on entering a service state at tick `now`: the effects R138, R139, R147, R157 and R166 give the entry
and the state left. An entry to LAPSED sets all four ages to the lapse point, as R138 and R150 state, also where R152's
example table keeps the younger ones: DESIGN CHOICE, log entry 42. -/
def Sign.withService (now : Tick) (new : Service) (old : Sign) : Sign :=
  let g := if old.service = .held then
      let d := old.derive
      { d with ages := d.ages.map (min d.lapsePoint), slotTimer := min d.slotTimer d.slotPeriod }
    else old
  match new with
  | .absent =>
    { g with service := new, holdNeed := none, restoreNeed := none, pollCount := 0, pollNeed := none, shedNeed := none,
             status := SignStatus.clear, temperature := none, owed := 0, cursor := 0, slotTimer := g.slotPeriod }
  | .showing => { g with service := new, pollCount := 0, pollNeed := none, shedNeed := none }
  | .lapsed =>
    { g with service := new, holdNeed := none, restoreNeed := some (g.restoreNeed.getD now), pollCount := 0,
             pollNeed := none, shedNeed := none, ages := Ages.all g.lapsePoint,
             shown := { g.shown with confirmed := false } }
  | .blank =>
    { g with service := new, holdNeed := none, restoreNeed := none, pollCount := 0, pollNeed := none, shedNeed := none,
             owed := 0, cursor := 0, slotTimer := g.slotPeriod }
  | .shed =>
    { g with service := new, holdNeed := none, restoreNeed := none, pollCount := 0, pollNeed := none, shedNeed := some now,
             owed := 0, cursor := 0, slotTimer := g.slotPeriod }
  | .held =>
    { g with service := new, holdNeed := none, shedNeed := none, owed := 0, heldShare := g.fullShare,
             lapsePoint := 4 * g.heldSpan }
  | .offline =>
    { g with service := new, holdNeed := none, restoreNeed := none, pollCount := 0, pollNeed := none, shedNeed := none,
             owed := 0, cursor := 0, slotTimer := g.slotPeriod, shown := { g.shown with confirmed := false } }

/-! ### Line hold: waking and the ends of an entry and of a resume (R165, R167, R168) -/

/-- No sign of the line in a service state. -/
def State.noneIn (s : State) (l : Fin 2) (v : Service) : Bool := (signsOf l).all fun n => (s.sign n).service != v

/-- A RESUMING line with no HELD sign enters ACTIVE (R168). -/
def State.checkResume (s : State) (l : Fin 2) : State :=
  if (s.line l).state = .resuming ∧ s.noneIn l .held then
    ((s.updLine l fun r => { r with state := .active, activeCount := 0 }).post (.line l) Flag.lineHold)
  else s

/-- A line in HOLD_ENTRY with no SHOWING sign becomes HELD (R165). -/
def State.checkHeld (s : State) (l : Fin 2) : State :=
  if (s.line l).state = .holdEntry ∧ s.noneIn l .showing then
    ((s.updLine l fun r => { r with state := .held }).post (.line l) Flag.lineHold)
  else s

/-- Clear the HOLD need of a sign. -/
def State.clearHoldNeed (s : State) (n : Fin 16) : State := s.updSign n fun g => { g with holdNeed := none }

/-- Raise a HELD sign's restore need, unless it is there (R168). -/
def State.raiseHeldRestore (s : State) (n : Fin 16) : State :=
  s.updSign n fun g =>
    if g.service = .held then { g with restoreNeed := some (g.restoreNeed.getD s.now) } else g

/-- A wake of a line in HOLD_ENTRY or HELD, with its cause (R167, R168); in another state it has no effect. -/
def State.wake (s : State) (l : Fin 2) (cause : Nat) : State :=
  if (s.line l).state = .holdEntry ∨ (s.line l).state = .held then
    let s := s.updLine l fun r => { r with state := .resuming, wakeCause := cause }
    let s := (signsOf l).foldl State.clearHoldNeed s
    let s := s.post (.line l) Flag.lineWake
    let s := (signsOf l).foldl State.raiseHeldRestore s
    (s.checkResume l).askArbitration l
  else s

/-- A restore need has been raised for a sign: its line is woken (R167, cause 3) and arbitrates (R141). -/
def State.restoreRaised (s : State) (n : Fin 16) : State := (s.wake (lineOf n) 3).askArbitration (lineOf n)

/-- Raise the restore need of a sign at this tick, unless it is there. -/
def State.raiseRestore (s : State) (n : Fin 16) : State :=
  if (s.sign n).restoreNeed.isSome then s
  else (s.updSign n fun g => { g with restoreNeed := some s.now }).restoreRaised n

/-- The event flags that a change of service state posts (R138, R124). -/
def serviceFlags (old new : Sign) : BitVec 16 :=
  Flag.signService
    ||| (if old.service = .offline ∨ new.service = .offline then Flag.signOffline else 0)
    ||| (if old.shown = new.shown then 0 else Flag.signDisplay)

/-- A sign changes its service state: the record, its report, and the line's hold (R138, R165, R168). What the change does to
the load follows in `settleCounted`. Where a lapse takes the last SHOWING sign of a line in HOLD_ENTRY, outside an ACK too, the
wake of its restore need (R167) comes before R165's check, so that the line does not become HELD and posts no HOLD for it. DESIGN
CHOICE, log entry 52. -/
def State.changeService (s : State) (n : Fin 16) (new : Service) : State :=
  let old := s.sign n
  if old.service = new then s
  else
    let g := old.withService s.now new
    let s := (s.setSign n g).post (.sign n) (serviceFlags old g)
    let s := if new = .lapsed ∧ old.restoreNeed = none then s.restoreRaised n else s
    (s.checkHeld (lineOf n)).checkResume (lineOf n)

/-! ### Line load, shedding and restoring (R155 to R160) -/

/-- The total of the shares of a line's counted signs (R155). -/
def State.shareSum (s : State) (l : Fin 2) : Nat := (signsOf l).foldl (fun t n => t + (s.sign n).share) 0

/-- What the restoring check still reckons for HELD signs while the line holds or resumes (R166). -/
def State.heldSum (s : State) (l : Fin 2) : Nat :=
  if (s.line l).state = .active then 0
  else (signsOf l).foldl (fun t n => if (s.sign n).service = .held then t + (s.sign n).heldShare else t) 0

/-- A load in thousandths: ceil(sum / baud) (R155). -/
def State.loadOf (s : State) (l : Fin 2) (sum : Nat) : Nat := ceilDiv sum (s.line l).cfg.baud.rate

/-- Set OVERLOADED, posting a change (R160). -/
def State.setOverloaded (s : State) (l : Fin 2) (v : Bool) : State :=
  if (s.line l).overloaded = v then s
  else (s.updLine l fun r => { r with overloaded := v }).post (.line l) Flag.lineOverloaded

/-- One recomputation of a line's load; a load of 700 or less ends OVERLOADED (R156, R160). -/
def State.recompute (s : State) (l : Fin 2) : State :=
  let sum := s.shareSum l
  let s := s.updLine l fun r => { r with sum := sum, load := s.loadOf l sum }
  if (s.line l).load ≤ 700 then s.setOverloaded l false else s

/-- A sign enters SHED (R157). -/
def State.shedSign (s : State) (n : Fin 16) : State :=
  ((s.changeService n .shed).post (.sign n) Flag.signShed).askArbitration (lineOf n)

/-- A SHED sign is restored: it enters LAPSED (R158). -/
def State.restoreSign (s : State) (n : Fin 16) : State :=
  (s.changeService n .lapsed).post (.sign n) Flag.signShed

/-- A counted sheddable sign with plan CONDITION or BLANK may be shed for load (R157). -/
def Sign.maySheds (g : Sign) : Bool := g.counted && g.cfg.sheddable && !g.planClass.isProtected

/-- The sign R157 sheds next: the highest-addressed that may be shed. -/
def State.shedNext (s : State) (l : Fin 2) : Option (Fin 16) := (signsOf l).reverse.find? fun n => (s.sign n).maySheds

/-- Shedding while the load is above 700 and a sign remains (R157); at most eight signs. -/
def State.shedWhile : Nat → Fin 2 → State → State
  | 0, _, s => s
  | k + 1, l, s =>
    if (s.line l).load ≤ 700 then s
    else match s.shedNext l with
      | none => s
      | some n => shedWhile k l ((s.shedSign n).recompute l)

/-- A recomputation followed by shedding; a load still above 700 with no sign left to shed is OVERLOADED (R156, R157, R160). -/
def State.recomputeShed (s : State) (l : Fin 2) : State :=
  let s := State.shedWhile 8 l (s.recompute l)
  if (s.line l).load ≤ 700 then s else s.setOverloaded l true

/-- A SHED sign is held shed while the posture is RESERVE, it is sheddable and its plan is CONDITION (R159). -/
def State.heldShed (s : State) (g : Sign) : Bool := s.inReserve && g.cfg.sheddable && g.planClass == .condition

/-- The restoring check: the lowest-addressed SHED sign that is not held shed is restored while the load with it counted is
500 or less (R158, R166). -/
def State.restoreWhile : Nat → Fin 2 → State → State
  | 0, _, s => s
  | k + 1, l, s =>
    match (signsOf l).find? fun n => (s.sign n).service == .shed && !s.heldShed (s.sign n) with
    | none => s
    | some n =>
      if s.loadOf l ((s.line l).sum + s.heldSum l + (s.sign n).fullShare) ≤ 500 then
        restoreWhile k l ((s.restoreSign n).recomputeShed l)
      else s

/-- A recomputation of the load with the shedding and the restoring check that follow it (R156). -/
def State.settleLoad (s : State) (l : Fin 2) : State := State.restoreWhile 8 l (s.recomputeShed l)

/-- The reserve shed takes a sign: counted, sheddable, with plan CONDITION, while the posture is RESERVE (R159). -/
def State.reserveSheds (s : State) (n : Fin 16) : Bool :=
  s.inReserve && (s.sign n).counted && (s.sign n).cfg.sheddable && (s.sign n).planClass == .condition

/-- Shed one sign if the reserve shed takes it (R159). -/
def State.reserveShedOne (s : State) (n : Fin 16) : State := if s.reserveSheds n then s.shedSign n else s

/-- The reserve shed of a line, in descending address (R159). -/
def State.reserveShed (s : State) (l : Fin 2) : State := (signsOf l).reverse.foldl State.reserveShedOne s

/-- The reserve shed with the recomputation that its changes of service state bring on (R156, R159). -/
def State.reserveSettle (s : State) (l : Fin 2) : State :=
  if (signsOf l).any s.reserveSheds then (s.reserveShed l).settleLoad l else s

/-- What a change of a sign's service state into or out of SHOWING or LAPSED brings on: the reserve shed at an entry (R159)
and then the recomputation of the load (R156). That order: DESIGN CHOICE, log entry 43. -/
def State.settleCounted (s : State) (n : Fin 16) (before : Sign) : State :=
  if before.service = (s.sign n).service then s
  else if before.counted || (s.sign n).counted then (s.reserveShed (lineOf n)).settleLoad (lineOf n)
  else s

/-- A change of service state with its effect on the line's load. -/
def State.enterService (s : State) (n : Fin 16) (new : Service) : State :=
  (s.changeService n new).settleCounted n (s.sign n)

/-! ### Granularity (R153, R154) -/

/-- A frame to the sign is in flight. -/
def State.frameTo (s : State) (n : Fin 16) : Bool :=
  match (s.line (lineOf n)).inFlight with
  | some f => f.address == addressOf n
  | none => false

/-- The sign may adopt its line's target now: a frame boundary, a cursor that fits, and not HELD (R154, R166).
DEDUCED, log entry 15. -/
def State.mayAdopt (s : State) (n : Fin 16) : Bool :=
  let g := s.sign n
  let t := (s.line (lineOf n)).target
  g.granularity != t && g.service != .held && !s.frameTo n && g.cursor % t.bands == 0

/-- Adoption of the target (R154). -/
def Sign.adopt (now : Tick) (t : Granularity) (g : Sign) : Sign :=
  let owed := min t.frames (ceilDiv (g.owed * g.granularity.bands) t.bands)
  let d := Sign.derive { g with granularity := t }
  { d with owed := owed, slotTimer := (if g.accounted then min g.slotTimer d.slotPeriod else d.slotPeriod),
           refreshSince := (if g.owed = 0 ∧ 1 ≤ owed then now else g.refreshSince) }

/-- Check one sign for adoption; GRANULARITY posted (R154). -/
def State.adoptOne (s : State) (n : Fin 16) : State :=
  if s.mayAdopt n then
    ((s.updSign n (Sign.adopt s.now (s.line (lineOf n)).target)).post (.sign n) Flag.signGranularity)
  else s

/-- The adoptions of one event and the one recomputation that follows them (R154, R156). -/
def State.adoptSigns (s : State) (l : Fin 2) (ns : List (Fin 16)) : State :=
  if ns.any fun n => s.mayAdopt n then (ns.foldl State.adoptOne s).settleLoad l else s

/-- The target that a line's policy and its signs' plans give (R153). -/
def State.targetOf (s : State) (l : Fin 2) : Granularity :=
  match (s.line l).cfg.policy with
  | .full => .full
  | .half => .half
  | .quarter => .quarter
  | .adaptive =>
    if (signsOf l).any fun n => (s.sign n).configured && (s.sign n).planClass.isProtected then .quarter else .full

/-- Re-evaluate a line's target; a change posts TARGET and every sign is checked for adoption (R153, R154). -/
def State.retarget (s : State) (l : Fin 2) : State :=
  if (s.line l).target = s.targetOf l then s
  else
    let t := s.targetOf l
    ((s.updLine l fun r => { r with target := t }).post (.line l) Flag.lineTarget).adoptSigns l (signsOf l)

/-! ### Checks of the ages (R150 steps 2 and 4, R152) -/

/-- An age at the lapse point takes a SHOWING or HELD sign to LAPSED, posting SIGN_LAPSED (R150, step 2). -/
def State.checkLapse (s : State) (n : Fin 16) : State :=
  let g := s.sign n
  if (g.service = .showing ∨ g.service = .held) ∧ g.lapsePoint ≤ g.ages.oldest then
    (s.changeService n .lapsed).post (.sign n) Flag.signLapsed
  else s

/-- An age at or above C raises the restore need of a SHOWING or LAPSED sign, unless it is present (R150, step 4). -/
def State.checkCritical (s : State) (n : Fin 16) : State :=
  let g := s.sign n
  if g.counted ∧ g.critical ≤ g.ages.oldest then s.raiseRestore n else s

/-- A sign's derived values after a change of band or holdover: a HELD sign keeps D, C and P and takes the new held lapse
point (R152, R166). -/
def Sign.rederive (g : Sign) : Sign :=
  if g.service = .held then { g with lapsePoint := 4 * g.heldSpan } else g.derive

/-- The retention fields after a change of lapse point (R152, steps 1 and 2). DEDUCED, log entry 18. -/
def Sign.relapse (g : Sign) : Sign :=
  let d := g.rederive
  { d with ages := d.ages.map (min d.lapsePoint),
           slotTimer := (if d.accounted then min d.slotTimer d.slotPeriod else d.slotPeriod) }

/-- A change of a sign's band or holdover, already written into the record: derived values, the three effects of R152 and the
load computation. -/
def State.lapsePointChanged (s : State) (n : Fin 16) : State :=
  let before := s.sign n
  let clipped := before.rederive.lapsePoint ≤ before.ages.oldest
  let s := s.updSign n Sign.relapse
  let s := if clipped then s.checkLapse n else s
  let s := s.checkCritical n
  (if (s.sign n).service = before.service then s else s.reserveShed (lineOf n)).settleLoad (lineOf n)

/-- Set a sign's band; a change posts BAND and is a change of its lapse point (R148). -/
def State.setBand (s : State) (n : Fin 16) (b : Band) : State :=
  if (s.sign n).band = b then s
  else ((s.updSign n fun g => { g with band := b }).post (.sign n) Flag.signBand).lapsePointChanged n

/-- The band a temperature moves a sign to under AUTO: the first matching row of R148's table. -/
def Band.moved (b : Band) (t : Int) : Band :=
  match b with
  | .normal => if t ≤ -26 then .severe else if t ≤ -11 then .cold else .normal
  | .cold => if t ≤ -26 then .severe else if -8 ≤ t then .normal else .cold
  | .severe => if -8 ≤ t then .normal else if -23 ≤ t then .cold else .severe

end Sys2Proof.Machine
end

