-- ==== Sys2Proof/Machine/Plans.lean ====
section
/-! DEFINITION. Display plans: what each sign watches, the choice of a plan, the content need, rotation and library page
changes (R116 to R123, R128). -/

namespace Sys2Proof.Machine

/-! ### What a sign watches (R116) -/

/-- A path is configured while its member set is non-empty (R39). -/
def PathRec.configured (p : PathRec) : Bool := p.cfg.members != 0

/-- The watched segments: as set for ADVANCE and INFO; for PATH the segment of the watched path, followed as it changes. -/
def State.watchedSegments (s : State) (g : Sign) : List (Fin 4) :=
  match g.cfg.role with
  | .none => []
  | .advance => bitsOf g.cfg.segments
  | .info => bitsOf g.cfg.segments
  | .path => match g.cfg.path with
    | some p => [(s.path p).cfg.segment]
    | none => []

/-- The relevant paths, ascending: the watched path if it is configured, or every configured path of a watched segment. -/
def State.relevantPaths (s : State) (g : Sign) : List (Fin 12) :=
  match g.cfg.role with
  | .path => match g.cfg.path with
    | some p => if (s.path p).configured then [p] else []
    | none => []
  | _ => (List.finRange 12).filter fun p =>
      (s.path p).configured && (s.watchedSegments g).contains (s.path p).cfg.segment

/-- The notices in list order (R104). -/
def State.listedNotices (s : State) : List Notice := s.notices.order.filterMap fun i => s.notices.slots[i]

/-- A notice names a segment. -/
def Notice.names (x : Notice) (i : Fin 4) : Bool := x.segments.getLsbD i.val

/-- A notice's pages in their given order. -/
def Notice.pages (x : Notice) : List Page := x.firstPage :: x.secondPage.toList

/-- The pages of the notices in a state that name a watched segment, in list order (R120). -/
def State.noticePages (s : State) (g : Sign) (st : NoticeState) : List Page :=
  (s.listedNotices.filter fun x => x.state == st && (s.watchedSegments g).any x.names).flatMap Notice.pages

/-! ### Choosing a plan (R119, R120) -/

/-- A page keeps its first position; the list is cut to its first 6 pages (R120). -/
def mergePages (ps : List Page) : List Page :=
  (ps.foldl (fun acc p => if acc.contains p then acc else acc ++ [p]) []).take 6

/-- CLOSING or CLOSED. -/
def Segment.shut (r : Segment) : Bool := r.posture == .closing || r.posture == .closed

/-- A cause that puts the device's own closure page first: MANUAL, RESTART or a PATH cause (R120). -/
def Cause.notNotice : Cause → Bool
  | .notice _ => false
  | .manual => true
  | .restart => true
  | .path _ => true

/-- The plan of a configured sign: the first class of R120 whose condition holds, with its merged rotation. -/
def State.planOf (s : State) (g : Sign) : PlanClass × List Page :=
  let hazards := (s.relevantPaths g).filter fun p => (s.path p).state == .alert || (s.path p).state == .hold
  let shut := (s.watchedSegments g).filter fun i => (s.segment i).shut
  let watching := (s.relevantPaths g).any fun p => (s.path p).state == .watch
  let posted := s.noticePages g .posted
  if hazards ≠ [] then (.hazard, mergePages (hazards.map fun p => (s.path p).cfg.hazardPage))
  else if shut ≠ [] then
    let first : List Page :=
      if shut.any fun i => (s.segment i).causes.any Cause.notNotice then
        [if g.cfg.role = .advance then 4 else 2]
      else []
    (.closure, mergePages (first ++ s.noticePages g .inForce))
  else if watching || posted ≠ [] then (.caution, mergePages ((if watching then [3] else []) ++ posted))
  else match g.cfg.condition with
    | some p => (.condition, [p])
    | none => (.blank, [])

/-- The wanted page: the rotation page at the index, none for BLANK (R121). -/
def Sign.wanted (g : Sign) : Option Page := g.rotation[g.index]?

/-- Raise a PLAN need at this tick with the class R121 fixes; `libraryChange` for R128. -/
def Sign.raisePlan (now : Tick) (libraryChange : Bool) (g : Sign) : Sign :=
  { g with need := .plan (g.planClass == .hazard && (g.shown.cls != .hazard || libraryChange)) now }

/-- A DPL need has been raised: the line is woken with its cause (R167) and arbitrates (R141). -/
def State.needRaised (s : State) (n : Fin 16) (cause : Nat) : State := (s.wake (lineOf n) cause).askArbitration (lineOf n)

/-- A sign has taken a new plan: cause 1 where it is a HAZARD plan, and the DPL need's cause 2 otherwise (R167). -/
def State.planRaised (s : State) (n : Fin 16) : State := s.needRaised n (if (s.sign n).planClass = .hazard then 1 else 2)

/-- The plan of one sign is recomputed: an identical plan has no effect, any other replaces it (R122). -/
def State.replanSign (s : State) (n : Fin 16) : State :=
  let g := s.sign n
  let p := s.planOf g
  if !g.configured || (g.planClass == p.1 && g.rotation == p.2) then s
  else
    (s.setSign n (Sign.raisePlan s.now false { g with planClass := p.1, rotation := p.2, index := 0, dwellCount := 0 })).post
      (.sign n) Flag.signPlan

/-- A sign's plan differs between two states. -/
def planChanged (a b : State) (n : Fin 16) : Bool :=
  (a.sign n).planClass != (b.sign n).planClass || (a.sign n).rotation != (b.sign n).rotation

/-- A SHED sign whose plan becomes protected is restored at the same event, whatever the load (R158). -/
def State.restoreProtected (s : State) (n : Fin 16) : State :=
  if (s.sign n).service = .shed ∧ (s.sign n).planClass.isProtected then
    (s.restoreSign n).settleLoad (lineOf n)
  else s

/-- The line of replanned signs: its target is re-evaluated (R153), and in RESERVE the reserve shed applied (R159). -/
def State.settleLinePlans (s : State) (l : Fin 2) : State := (s.retarget l).reserveSettle l

/-- What the line controllers do about replaced plans, once all plans of the event are in place: SHED signs are restored, with the
load at the granularities as they stand, before the targets are re-evaluated. DESIGN CHOICE, log entry 43. Of two wake causes at
one event the first taken is recorded, and R167 leaves open which that is: the restored SHED signs (cause 3) come before the DPL
needs, and these go by ascending sign id whatever their class (causes 1 and 2). DESIGN CHOICE, log entry 49. -/
def State.plansReplaced (s : State) (ns : List (Fin 16)) : State :=
  let s := ns.foldl State.restoreProtected s
  let s := ns.foldl State.planRaised s
  let s := if ns.any fun n => lineOf n == 0 then s.settleLinePlans 0 else s
  if ns.any fun n => lineOf n == 1 then s.settleLinePlans 1 else s

/-- The DPL recomputes the plan of the given signs, in ascending id (R119). -/
def State.replanSigns (s : State) (ns : List (Fin 16)) : State :=
  let t := ns.foldl State.replanSign s
  let changed := ns.filter (planChanged s t)
  if changed = [] then t else t.plansReplaced changed

/-- The DPL recomputes the plan of every configured sign (R119). DEDUCED, log entry 25. -/
def State.replan (s : State) : State := s.replanSigns (List.finRange 16)

/-! ### Rotation and library page changes (R123, R128) -/

/-- The rotation moves to the next page, from the last back to the first (R123). -/
def Sign.stepRotation (now : Tick) (g : Sign) : Sign :=
  Sign.raisePlan now false
    { g with index := (if g.index + 1 < g.rotation.length then g.index + 1 else 0), dwellCount := 0 }

/-- A sign shows a library page that changed, as wanted, with no need of its own (R128). -/
def Sign.showsChanged (p : Page) (g : Sign) : Bool :=
  g.configured && g.shown.page == some p && !g.shown.fallback && g.need == .none

/-- Give one sign the need of R128 if it shows the changed page. -/
def State.pageChangedFor (p : Page) (s : State) (n : Fin 16) : State :=
  if (s.sign n).showsChanged p then (s.updSign n (Sign.raisePlan s.now true)).needRaised n 2 else s

/-- The LIB tells the DPL that a library page changed (R128). -/
def State.pageChanged (s : State) (p : Page) : State := (List.finRange 16).foldl (State.pageChangedFor p) s

end Sys2Proof.Machine
end

