-- ==== Sys2Proof/Machine/SegmentCore.lean ====
section
/-! DEFINITION. The segment table without its gates' drives: posture changes, the open postures, OCCUPIED, the completion of
LOWER and REOPENING, what the SGC does with a gate's change of state, and occupancy (R2, R6, R10 to R15, R73, R87). -/

namespace Sys2Proof.Machine

/-- Post a segment's report. -/
def State.postSeg (s : State) (i : Fin 4) (f : BitVec 16) : State := s.post (.segment i) f

/-- A gate is configured while it has a segment (R62). -/
def Gate.configured (g : Gate) : Bool := g.cfg.segment.isSome

/-- The gates set of a segment, ascending (R1, R2). -/
def State.gatesOf (s : State) (i : Fin 4) : List (Fin 6) :=
  (List.finRange 6).filter fun g => (s.gate g).cfg.segment == some i

/-- A sign is in the ADVANCE signs set of a segment (R2). -/
def Sign.isAdvanceOf (g : Sign) (i : Fin 4) : Bool := g.cfg.role == .advance && g.cfg.segments.getLsbD i.val

/-- The ADVANCE signs set of a segment, ascending (R1, R2). -/
def State.advanceOf (s : State) (i : Fin 4) : List (Fin 16) :=
  (List.finRange 16).filter fun n => (s.sign n).isAdvanceOf i

/-! ### Postures and flags (R4, R6, R12, R14) -/

/-- OCCUPIED's condition while CLOSED (R14). -/
def Segment.occupiedNow (r : Segment) : Bool := decide (0 < r.occupancy) || r.uncertain

/-- A segment record in a posture and phase just entered: the phase timer at 0, OCCUPIED by R14, and CONFIRM_MISSING cleared
where the posture becomes OPEN or CAUTION (R8). -/
def Segment.withPosture (p : Posture) (ph : Phase) (r : Segment) : Segment :=
  { r with posture := p, phase := ph, phaseTimer := 0,
           occupied := (if p = .closed then r.occupiedNow else false),
           confirmMissing := (if p = .opened ∨ p = .caution then false else r.confirmMissing) }

/-- The event flags of a change between two records of one segment (R4, R8, R14). -/
def segmentFlags (a b : Segment) : BitVec 16 :=
  (if a.posture = b.posture ∧ a.phase = b.phase then 0 else Flag.segPosture)
    ||| (if a.occupied = b.occupied then 0 else Flag.segOccupied)
    ||| (if a.confirmMissing = b.confirmMissing then 0 else Flag.segConfirmMissing)

/-- A segment takes a posture and a phase, with its report (R4). A plan reads of a posture only whether it is CLOSING or CLOSED
(R120), which changes with the cause set alone: what changes causes has the DPL recompute (R119). -/
def State.setPosture (s : State) (i : Fin 4) (p : Posture) (ph : Phase) : State :=
  let r := s.segment i
  if r.posture = p ∧ r.phase = ph then s
  else (s.setSegment i (r.withPosture p ph)).postSeg i (segmentFlags r (r.withPosture p ph))

/-- A condition of CAUTION holds (R6). -/
def State.cautioned (s : State) (i : Fin 4) : Bool :=
  (s.segment i).uncertain
    || ((List.finRange 12).any fun n =>
        let p := s.path n
        p.cfg.segment == i && (p.state == .watch || (p.state == .alert && !p.cfg.autoclose)))
    || (s.listedNotices.any fun x => x.state == .posted && x.names i)

/-- The open posture that R6 gives. -/
def State.openPosture (s : State) (i : Fin 4) : Posture := if s.cautioned i then .caution else .opened

/-- The open-posture evaluation (R6): it has no effect in CLOSING, CLOSED and REOPENING. -/
def State.evalOpen (s : State) (i : Fin 4) : State :=
  if (s.segment i).posture = .opened ∨ (s.segment i).posture = .caution then s.setPosture i (s.openPosture i) .noPhase else s

/-- Recompute OCCUPIED while CLOSED (R14). -/
def State.evalOccupied (s : State) (i : Fin 4) : State :=
  let r := s.segment i
  if r.posture = .closed ∧ r.occupied ≠ r.occupiedNow then
    (s.setSegment i { r with occupied := r.occupiedNow }).postSeg i Flag.segOccupied
  else s

/-- The completion of LOWER: every gate of the segment CLOSED (R10). -/
def State.completeLower (s : State) (i : Fin 4) : State :=
  if (s.segment i).phase = .lower ∧ (s.gatesOf i).all fun g => (s.gate g).state == .closed then
    s.setPosture i .closed .noPhase
  else s

/-- The completion of REOPENING: every gate of the segment OPEN (R12). -/
def State.completeReopen (s : State) (i : Fin 4) : State :=
  if (s.segment i).posture = .reopening ∧ (s.gatesOf i).all fun g => (s.gate g).state == .opened then
    s.setPosture i (s.openPosture i) .noPhase
  else s

/-! ### Hand-overs from the GDU (R73) -/

/-- A change of a gate's state that is GATE_TROUBLE for its segment (R10, R11, R12). -/
def Segment.troubledBy (r : Segment) (old new : GateState) : Bool :=
  ((r.phase == .lower || r.posture == .reopening) && (new == .fault || new == .blocked || new == .halted))
    || (r.posture == .closed && old == .closed)

/-- The SGC takes a change of a gate's state (R73). -/
def State.gateChanged (s : State) (i : Fin 4) (old new : GateState) : State :=
  let s := s.postIf ((s.segment i).troubledBy old new) (.segment i) Flag.segGateTrouble
  (s.completeLower i).completeReopen i

/-! ### Occupancy (R15, R87) -/

/-- A vehicle leaves a segment or enters it (R87). -/
def Segment.moved (enters : Bool) (r : Segment) : Segment :=
  if enters then (if r.occupancy < 999 then { r with occupancy := r.occupancy + 1 } else { r with drift := true })
  else (if 0 < r.occupancy then { r with occupancy := r.occupancy - 1 } else { r with drift := true })

/-- The event flags of changes of occupancy, DRIFT and UNCERTAIN (R15). -/
def countFlags (a b : Segment) : BitVec 16 :=
  (if a.occupancy = b.occupancy then 0 else Flag.segCount)
    ||| (if a.drift = b.drift then 0 else Flag.segDrift)
    ||| (if a.uncertain = b.uncertain then 0 else Flag.segUncertain)

/-- Write a segment's record after a change of occupancy, DRIFT or UNCERTAIN: the report where something changed, and the
evaluations that a change of occupancy or of UNCERTAIN brings on (R14, R15). Where nothing changed no report is posted, also by
ADJUST_COUNT (R20): DESIGN CHOICE, log entry 37. -/
def State.setCount (s : State) (i : Fin 4) (r : Segment) : State :=
  let old := s.segment i
  let f := countFlags old r
  let s := (s.setSegment i r).postIf (f != 0) (.segment i) f
  let s := if old.occupancy = r.occupancy ∧ old.uncertain = r.uncertain then s else s.evalOccupied i
  if old.uncertain = r.uncertain then s else s.evalOpen i

/-- A vehicle crosses a boundary side; side 0 stands outside the corridor (R86, R87). -/
def State.moveVehicle (s : State) (side : Fin 5) (enters : Bool) : State :=
  if h : side.val = 0 then s
  else
    let i : Fin 4 := ⟨side.val - 1, by omega⟩
    s.setCount i ((s.segment i).moved enters)

/-- UNCERTAIN is set on a boundary side by a loop pair that became STUCK (R88). -/
def State.setUncertain (s : State) (side : Fin 5) : State :=
  if h : side.val = 0 then s
  else
    let i : Fin 4 := ⟨side.val - 1, by omega⟩
    s.setCount i { s.segment i with uncertain := true }

end Sys2Proof.Machine
end

