-- ==== Sys2Proof/Machine/GateDrive.lean ====
section
/-! DEFINITION. The gates: changes of state and what they hand on, faults, presence reversal, pause, the commands of the SGC,
limit inputs, and what a tick does to a gate (R62 to R73). -/

namespace Sys2Proof.Machine

/-- Post a gate's report. -/
def State.postGate (s : State) (i : Fin 6) (f : BitVec 16) : State := s.post (.gate i) f

/-- The DOWN output is on exactly in LOWERING (R62). -/
def Gate.driveDown (g : Gate) : Bool := g.state == .lowering

/-- The UP output is on exactly in RAISING (R62). -/
def Gate.driveUp (g : Gate) : Bool := g.state == .raising

/-- The position as a percentage closed (R63). -/
def Gate.percent (g : Gate) : Nat := 100 * (clampInt 0 g.cfg.travel g.position).toNat / g.cfg.travel

/-- The class a gate in a state requests on its flasher (R73). -/
def GateState.request : GateState → FlashClass
  | .lowering => .moving
  | .raising => .moving
  | .pause => .moving
  | .closed => .closed
  | .unknown => .none
  | .opened => .none
  | .halted => .none
  | .blocked => .none
  | .fault => .none

/-! ### Changes of state -/

/-- A gate record as a new state is entered: motion and stall count restart in LOWERING and RAISING (R62), OPEN, CLOSED and
HALTED end manual lowering (R64, R74), CLOSED and leaving BLOCKED clear the attempts (R64, R71), relowering ends when lowering
begins, in BLOCKED and in FAULT (R70), and the fields of PAUSE and FAULT hold nothing outside them (R62, note 2). In every other
state relower armed is kept, also where a rising gate arrives at its closed limit or an OPEN gate loses its limit: DESIGN CHOICE,
log entry 39. The counts of a motion: DEDUCED, log entry 13. -/
def Gate.enter (new : GateState) (g : Gate) : Gate :=
  let drives := new = .lowering ∨ new = .raising
  { g with
    state := new,
    pending := (if new = .pause then g.pending else .none),
    faultCause := (if new = .fault then g.faultCause else .none),
    motionTicks := (if drives then 0 else g.motionTicks),
    stallCount := (if drives then 0 else g.stallCount),
    pauseCount := 0,
    attempts := (if new = .closed ∨ (g.state = .blocked ∧ new ≠ .blocked) then 0 else g.attempts),
    relowerArmed := (if new = .lowering ∨ new = .blocked ∨ new = .fault then false else g.relowerArmed),
    clearCount := 0,
    manualLowering := (if new = .lowering ∨ new = .pause then g.manualLowering else false) }

/-- The event flags of a change of state (R67, R71, R73). -/
def gateFlags (old new : GateState) : BitVec 16 :=
  Flag.gateState
    ||| (if old = .blocked ∨ new = .blocked then Flag.gateBlocked else 0)
    ||| (if new = .fault then Flag.gateFault else 0)

/-- Write a gate record that has changed its state: the report, the flasher request and the hand-over to the SGC (R73). -/
def State.putGate (s : State) (i : Fin 6) (old : GateState) (g : Gate) : State :=
  let s := (s.setGate i g).postGate i (gateFlags old g.state)
  let s := match g.cfg.flasher with
    | some f => s.gateRequest f i g.state.request
    | none => s
  match g.cfg.segment with
  | some seg => s.gateChanged seg old g.state
  | none => s

/-- A gate takes a state; taking the state it is in changes nothing. -/
def State.gateTo (s : State) (i : Fin 6) (new : GateState) : State :=
  let g := s.gate i
  if g.state = new then s else s.putGate i g.state (g.enter new)

/-- A gate takes PAUSE with a pending direction (R68). -/
def State.gatePause (s : State) (i : Fin 6) (d : Direction) : State :=
  (s.updGate i fun g => { g with pending := d }).gateTo i .pause

/-- A gate takes FAULT with a cause; a gate in FAULT keeps its cause (R67). -/
def State.gateFault (s : State) (i : Fin 6) (c : FaultCause) : State :=
  if (s.gate i).state = .fault then s else (s.updGate i fun g => { g with faultCause := c }).gateTo i .fault

/-- A gate takes OPEN in a way that ends relowering: by any arrival but the one that follows a presence reversal (R64).
DEDUCED, log entry 11. -/
def State.gateOpen (s : State) (i : Fin 6) : State :=
  (s.updGate i fun g => { g with relowerArmed := false, clearCount := 0 }).gateTo i .opened

/-! ### Presence reversal (R69, R71) -/

/-- A presence reversal: the arm rises at once, or stands OPEN, or is BLOCKED when the fifth reversal finds it at the open
limit already. -/
def State.reverse (s : State) (i : Fin 6) : State :=
  let g := s.gate i
  let s := (s.setGate i
    { g with attempts := min 5 (g.attempts + 1), relowerArmed := true, clearCount := 0, manualLowering := false }).postGate i
      Flag.gateReversal
  if !(s.gate i).openLimit then s.gateTo i .raising
  else if (s.gate i).attempts = 5 then s.gateTo i .blocked
  else s.gateTo i .opened

/-- Lowering begins, subject to presence (R69). -/
def State.lower (s : State) (i : Fin 6) : State :=
  if (s.gate i).presence then s.reverse i else s.gateTo i .lowering

/-! ### Pause (R68) -/

/-- The gate's segment is CLOSING in phase LOWER. -/
def State.segmentLowers (s : State) (g : Gate) : Bool :=
  match g.cfg.segment with
  | some i => (s.segment i).posture == .closing && (s.segment i).phase == .lower
  | none => false

/-- The gate's segment lets it lower: CLOSING in phase LOWER, or CLOSED (R68, R74). -/
def State.mayLower (s : State) (g : Gate) : Bool :=
  s.segmentLowers g || match g.cfg.segment with
    | some i => (s.segment i).posture == .closed
    | none => false

/-- An elapsed pause takes its pending direction upward (R68). -/
def State.pauseUp (s : State) (i : Fin 6) : State :=
  if (s.gate i).openLimit then s.gateOpen i else s.gateTo i .raising

/-- The end of a pause (R68). -/
def State.endPause (s : State) (i : Fin 6) : State :=
  let g := s.gate i
  match g.pending with
  | .up => s.pauseUp i
  | .down =>
    if g.closedLimit then s.gateTo i .closed
    else if s.mayLower g || g.manualLowering then s.lower i
    else s
  | .none => s

/-- The pause has elapsed (R68). -/
def Gate.pauseElapsed (g : Gate) : Bool := g.pauseCount == 4

/-! ### The commands of the SGC (R72) -/

/-- The SGC commands a gate down. -/
def State.gateDown (s : State) (i : Fin 6) : State :=
  let s := s.updGate i fun g => { g with manualLowering := false }
  match (s.gate i).state with
  | .unknown => s.lower i
  | .halted => s.lower i
  | .opened => s.lower i
  | .lowering => s
  | .closed => s
  | .raising => s.gatePause i .down
  | .pause =>
    let s := s.updGate i fun g => { g with pending := .down }
    if (s.gate i).pauseElapsed then s.endPause i else s
  | .blocked => s
  | .fault => s

/-- The SGC commands a gate up. DEDUCED, log entry 11. -/
def State.gateUp (s : State) (i : Fin 6) : State :=
  let s := s.updGate i fun g => { g with attempts := 0, relowerArmed := false, clearCount := 0, manualLowering := false }
  match (s.gate i).state with
  | .unknown => s.gateTo i .raising
  | .halted => s.gateTo i .raising
  | .opened => s
  | .lowering => s.gatePause i .up
  | .closed => s.gateTo i .raising
  | .raising => s
  | .pause =>
    let s := s.updGate i fun g => { g with pending := .up }
    if (s.gate i).pauseElapsed then s.pauseUp i else s
  | .blocked => s.pauseUp i
  | .fault => s

/-- Every gate of a segment is commanded down, in ascending number. -/
def State.gatesDown (s : State) (i : Fin 4) : State := (s.gatesOf i).foldl State.gateDown s

/-- Every gate of a segment is commanded up, in ascending number. -/
def State.gatesUp (s : State) (i : Fin 4) : State := (s.gatesOf i).foldl State.gateUp s

/-- A gate of a segment that a cause takes back from REOPENING: RAISING and PAUSE gates are commanded down (R13, R72). -/
def State.gateBack (s : State) (i : Fin 6) : State :=
  if (s.gate i).state = .raising ∨ (s.gate i).state = .pause then s.gateDown i else s

/-! ### Limit and presence inputs (R64, R65, R69) -/

/-- The level of a limit input. -/
def Gate.limit (g : Gate) : LimitSide → Bool
  | .openLimit => g.openLimit
  | .closedLimit => g.closedLimit

/-- Set the level of a limit input. -/
def Gate.setLimit (side : LimitSide) (v : Bool) (g : Gate) : Gate :=
  match side with
  | .openLimit => { g with openLimit := v }
  | .closedLimit => { g with closedLimit := v }

/-- The other limit. -/
def otherLimit : LimitSide → LimitSide
  | .openLimit => .closedLimit
  | .closedLimit => .openLimit

/-- The position expected at a limit (R64). -/
def Gate.expected (g : Gate) : LimitSide → Int
  | .openLimit => 0
  | .closedLimit => g.cfg.travel

/-- The count is out of tolerance at an arrival (R64). -/
def Gate.slipped (g : Gate) (side : LimitSide) : Bool :=
  g.referenced && decide (g.cfg.travel / 16 < (g.position - g.expected side).natAbs)

/-- The state at an arrival changes by R64's table. -/
def State.arrive (s : State) (i : Fin 6) (side : LimitSide) : State :=
  match (s.gate i).state, side with
  | .raising, .openLimit => if (s.gate i).attempts = 5 then s.gateTo i .blocked else s.gateTo i .opened
  | .raising, .closedLimit => (s.postGate i Flag.gateWrongEnd).gateTo i .closed
  | .lowering, .openLimit => (s.postGate i Flag.gateWrongEnd).gateOpen i
  | .lowering, .closedLimit => s.gateTo i .closed
  | .unknown, .openLimit => s.gateOpen i
  | .unknown, .closedLimit => s.gateTo i .closed
  | .halted, .openLimit => s.gateOpen i
  | .halted, .closedLimit => s.gateTo i .closed
  | .opened, .openLimit => s.gateOpen i
  | .opened, .closedLimit => s.gateTo i .closed
  | .closed, .openLimit => s.gateOpen i
  | .closed, .closedLimit => s.gateTo i .closed
  | .blocked, .openLimit => s
  | .blocked, .closedLimit => s.gateTo i .closed
  | .pause, .openLimit => s
  | .pause, .closedLimit => s
  | .fault, .openLimit => s
  | .fault, .closedLimit => s

/-- An arrival at a limit (R64), in every state the end of manual lowering (R74). An input already active brings no arrival; the inputs of an unconfigured gate are not acted
on (R62, note 1). DESIGN CHOICE, log entry 35. -/
def State.limitArrives (s : State) (i : Fin 6) (side : LimitSide) : State :=
  let g := s.gate i
  if g.limit side then s
  else
    let g1 := g.setLimit side true
    let s := s.setGate i g1
    if !g1.configured then s
    else if g1.limit (otherLimit side) then s.gateFault i .limitConflict
    else
      let s := s.postIf (g1.slipped side) (.gate i) Flag.gateSlip
      (s.setGate i { g1 with position := g1.expected side, referenced := true, manualLowering := false }).arrive i side

/-- A departure from a limit (R65). -/
def State.limitDeparts (s : State) (i : Fin 6) (side : LimitSide) : State :=
  let g := s.gate i
  if !g.limit side then s
  else
    let s := s.setGate i (g.setLimit side false)
    let leaves := match side with
      | .openLimit => g.state == .opened
      | .closedLimit => g.state == .closed
    if g.configured && leaves then (s.postGate i Flag.gateLimitLost).gateTo i .halted else s

/-- A change of the presence input (R69, R70). -/
def State.presenceTo (s : State) (i : Fin 6) (level : Bool) : State :=
  let g := s.gate i
  if g.presence = level then s
  else
    let s := s.setGate i { g with presence := level, clearCount := (if level then 0 else g.clearCount) }
    if level && g.configured && g.state == .lowering then s.reverse i else s

/-- An encoder step is delivered to a gate: toward closed for true (R63). -/
def Gate.step (forward : Bool) (g : Gate) : Gate :=
  { g with position := clampInt (-32768) 32767 (if forward then g.position + 1 else g.position - 1), stallCount := 0 }

/-! ### Timers (R66, R67, R68, R70) -/

/-- A gate at a tick event: motion ticks and stall count while driven, the pause count in PAUSE, the clear count while OPEN
with relowering armed. -/
def Gate.tick (g : Gate) : Gate :=
  match g.state with
  | .lowering =>
    { g with motionTicks := min 2400 (g.motionTicks + 1),
             stallCount := (if 4 < g.motionTicks + 1 then min 8 (g.stallCount + 1) else g.stallCount) }
  | .raising =>
    { g with motionTicks := min 2400 (g.motionTicks + 1),
             stallCount := (if 4 < g.motionTicks + 1 then min 8 (g.stallCount + 1) else g.stallCount) }
  | .pause => { g with pauseCount := min 4 (g.pauseCount + 1) }
  | .opened =>
    if g.relowerArmed then { g with clearCount := (if g.presence then 0 else min 24 (g.clearCount + 1)) } else g
  | .unknown => g
  | .closed => g
  | .halted => g
  | .blocked => g
  | .fault => g

/-- The gate is driven. -/
def Gate.driven (g : Gate) : Bool := g.state == .lowering || g.state == .raising

/-- Motion has reached its limit (R67). -/
def Gate.timedOut (g : Gate) : Bool := g.driven && decide (g.cfg.motionLimit ≤ g.motionTicks)

/-- The drive has stalled (R66). -/
def Gate.stalled (g : Gate) : Bool := g.driven && g.stallCount == 8

/-- A pause has elapsed and is to be ended (R68). -/
def Gate.pauseEnds (g : Gate) : Bool := g.state == .pause && g.pauseElapsed

/-- Relowering has waited its 24 ticks (R70). -/
def Gate.relowers (g : Gate) : Bool := g.state == .opened && g.relowerArmed && g.clearCount == 24

/-- Relowering after a presence reversal (R70). -/
def State.relowerGate (s : State) (i : Fin 6) : State :=
  if s.segmentLowers (s.gate i) then s.lower i
  else s.updGate i fun g => { g with relowerArmed := false, clearCount := 0 }

/-! ### Start-up states and rebuilding (R75, R77, R79) -/

/-- The state that the limit inputs give. -/
def Gate.limitState (g : Gate) : GateState :=
  match g.openLimit, g.closedLimit with
  | true, false => .opened
  | false, true => .closed
  | false, false => .unknown
  | true, true => .fault

/-- A gate record as it starts up or becomes configured (R77, R79). -/
def Gate.startUp (g : Gate) : Gate :=
  { g with
    state := (if g.configured then g.limitState else .unknown), pending := .none,
    faultCause := (if g.configured && g.openLimit && g.closedLimit then .limitConflict else .none),
    position := (if g.configured && !g.openLimit && g.closedLimit then (g.cfg.travel : Int) else 0),
    referenced := g.configured && (g.openLimit != g.closedLimit),
    motionTicks := 0, stallCount := 0, pauseCount := 0, attempts := 0, relowerArmed := false, clearCount := 0,
    manualLowering := false }

/-- A gate record that RESET_GATE takes out of FAULT, or leaves there with LIMIT_CONFLICT (R75). -/
def Gate.rebuild (g : Gate) : Gate :=
  match g.limitState with
  | .opened => { g with state := .opened, faultCause := .none, position := 0, referenced := true, motionTicks := 0, stallCount := 0 }
  | .closed =>
    { g with state := .closed, faultCause := .none, position := g.cfg.travel, referenced := true, attempts := 0,
             motionTicks := 0, stallCount := 0 }
  | .unknown => { g with state := .unknown, faultCause := .none, motionTicks := 0, stallCount := 0 }
  | _ => { g with faultCause := .limitConflict }

end Sys2Proof.Machine
end

