-- ==== Sys2Proof/Machine/Segments.lean ====
section
/-! DEFINITION. Closing and reopening: phases, confirmation, causes, membership, the reserve posture and the segment requests
(R2 to R20). -/

namespace Sys2Proof.Machine

/-! ### Phases (R7 to R10, R12) -/

/-- The phase LOWER begins: every gate is commanded down and completion is evaluated (R10). -/
def State.enterLower (s : State) (i : Fin 4) : State := ((s.setPosture i .closing .lower).gatesDown i).completeLower i

/-- A PATH cause. -/
def Cause.isPath : Cause → Bool
  | .path _ => true
  | .manual => false
  | .restart => false
  | .notice _ => false

/-- The cause set holds a PATH cause. -/
def Segment.hasPath (r : Segment) : Bool := r.causes.any Cause.isPath

/-- CONFIRM has ended: LEAD, or LOWER at once where the lead time is 0 or a PATH cause is held (R9). -/
def State.endConfirm (s : State) (i : Fin 4) : State :=
  if (s.segment i).cfg.lead = 0 ∨ (s.segment i).hasPath then s.enterLower i else s.setPosture i .closing .lead

/-- A sign counts toward confirmation (R7, R125). -/
def Sign.confirms (g : Sign) : Bool :=
  (g.shown.cls == .closure || g.shown.cls == .hazard) && g.shown.confirmed && g.service != .offline

/-- Confirmation is met (R7). -/
def State.confirmed (s : State) (i : Fin 4) : Bool := (s.advanceOf i).all fun n => (s.sign n).confirms

/-- The limit of a CONFIRM phase: the 32 ticks of a PATH cause, or the confirm timeout (R8). DEDUCED, log entry 8. -/
def Segment.confirmLimit (r : Segment) : Nat := if r.pathLimit then 32 else r.cfg.confirm

/-- The CONFIRM limit is reached (R8). -/
def Segment.confirmOver (r : Segment) : Bool := r.phase == .confirm && decide (r.confirmLimit ≤ r.phaseTimer)

/-- The lead time is reached (R9). -/
def Segment.leadOver (r : Segment) : Bool := r.phase == .lead && decide (r.cfg.lead ≤ r.phaseTimer)

/-- CONFIRM ends by timeout where its limit is reached: CONFIRM_MISSING (R8). -/
def State.timeoutConfirm (s : State) (i : Fin 4) : State :=
  if (s.segment i).confirmOver then
    ((s.updSegment i fun r => { r with confirmMissing := true }).postSeg i Flag.segConfirmMissing).endConfirm i
  else s

/-- LEAD ends where the lead time is reached (R9). -/
def State.endLead (s : State) (i : Fin 4) : State := if (s.segment i).leadOver then s.enterLower i else s

/-- An evaluation of confirmation in the phase CONFIRM (R7). -/
def State.evalConfirmPhase (s : State) (i : Fin 4) : State :=
  if (s.segment i).phase = .confirm ∧ s.confirmed i then s.endConfirm i else s

/-- An evaluation of confirmation: in CONFIRM it may end the phase; later, while CLOSING or CLOSED, a met confirmation clears
CONFIRM_MISSING (R7, R8). -/
def State.evalConfirm (s : State) (i : Fin 4) : State :=
  let r := s.segment i
  if (r.posture = .closing ∨ r.posture = .closed) ∧ r.confirmMissing ∧ s.confirmed i then
    (s.setSegment i { r with confirmMissing := false }).postSeg i Flag.segConfirmMissing
  else s.evalConfirmPhase i

/-- The posture CLOSING at phase CONFIRM is entered: the limit follows the causes, CONFIRM_MISSING is cleared (R4, R7, R8). -/
def State.beginConfirm (s : State) (i : Fin 4) : State :=
  let r := s.segment i
  let s := s.setSegment i { r with pathLimit := r.hasPath, confirmMissing := false }
  (s.postIf r.confirmMissing (.segment i) Flag.segConfirmMissing).setPosture i .closing .confirm

/-- REOPENING is entered: every gate is commanded up and completion is evaluated (R5, R12). -/
def State.enterReopening (s : State) (i : Fin 4) : State := ((s.setPosture i .reopening .noPhase).gatesUp i).completeReopen i

/-! ### Causes (R3, R4, R5, R13) -/

/-- The order in which causes are listed (R21, note 1). -/
def Cause.rank : Cause → Nat
  | .manual => 0
  | .restart => 1
  | .path n => 2 + n.val
  | .notice k => 14 + k

/-- Insert a cause at its place in the listing order. -/
def insertCause (c : Cause) : List Cause → List Cause
  | [] => [c]
  | d :: rest => if c.rank < d.rank then c :: d :: rest else d :: insertCause c rest

/-- What an added cause does to the posture and phase (R4, R8, R9, R13); `hadPath` says that a PATH cause was held before. -/
def State.causeEffect (s : State) (i : Fin 4) (c : Cause) (hadPath : Bool) : State :=
  match (s.segment i).posture, (s.segment i).phase with
  | .opened, _ => (s.beginConfirm i).evalConfirmPhase i
  | .caution, _ => (s.beginConfirm i).evalConfirmPhase i
  | .reopening, _ => ((s.gatesOf i).foldl State.gateBack (s.beginConfirm i)).evalConfirmPhase i
  | .closing, .confirm =>
    if c.isPath && !hadPath then (s.updSegment i fun r => { r with pathLimit := true }).timeoutConfirm i else s
  | .closing, .lead => if c.isPath then s.enterLower i else s
  | .closing, .lower => s
  | .closing, .noPhase => s
  | .closed, _ => s

/-- Add a closure cause (R3, R4). What hands the cause has the DPL recompute once its change is complete (R110, R119). -/
def State.addCause (s : State) (i : Fin 4) (c : Cause) : State :=
  let r := s.segment i
  if r.causes.contains c then s
  else
    ((s.setSegment i { r with causes := insertCause c r.causes }).postSeg i Flag.segCauses).causeEffect i c r.hasPath

/-- Remove a closure cause (R3, R5). -/
def State.removeCause (s : State) (i : Fin 4) (c : Cause) : State :=
  let r := s.segment i
  if !r.causes.contains c then s
  else
    let left := r.causes.filter (· != c)
    let s := (s.setSegment i { r with causes := left }).postSeg i Flag.segCauses
    if left = [] ∧ (r.posture = .closing ∨ r.posture = .closed) then s.enterReopening i else s

/-! ### Membership (R2) and hand-overs of signs (R125) -/

/-- A gate that has joined a segment is commanded by the segment's posture (R2). -/
def State.gateJoins (s : State) (i : Fin 4) (g : Fin 6) : State :=
  let r := s.segment i
  if r.phase = .lower ∨ r.posture = .closed then s.gateDown g
  else if r.posture = .reopening then s.gateUp g
  else s

/-- What follows a change of a segment's gates set (R2). -/
def State.gatesChanged (s : State) (i : Fin 4) : State := ((s.evalConfirmPhase i).completeLower i).completeReopen i

/-- The SGC evaluates confirmation for each segment one of whose ADVANCE signs has changed its displayed record or its service
state between two states, or whose ADVANCE signs set has changed (R2, R7, R125). -/
def State.evalConfirmFor (before : State) (s : State) (i : Fin 4) : State :=
  if before.advanceOf i ≠ s.advanceOf i
      ∨ (s.advanceOf i).any fun n =>
          (before.sign n).shown != (s.sign n).shown || (before.sign n).service != (s.sign n).service then
    s.evalConfirm i
  else s

/-- The hand-overs of the signs' displayed records and service states to the SGC (R125). DEDUCED, log entry 9. -/
def State.handSigns (before s : State) : State := (List.finRange 4).foldl (State.evalConfirmFor before) s

/-! ### The reserve posture (R16, R159, R164, R167) -/

/-- What a line does at a change of the reserve posture: in RESERVE the reserve shed and then a recomputation, in MAINS the wake of
cause 4 and a recomputation (R156, R159, R167). DESIGN CHOICE, log entry 43. -/
def State.lineReserve (s : State) (l : Fin 2) : State :=
  (if s.inReserve then s.reserveShed l else s.wake l 4).settleLoad l

/-- Set what the posture depends on; a change of the posture is reported and made known to the SFE, the BCN and the SLCs. -/
def State.setPower (s : State) (request low : Bool) : State :=
  let before := s.inReserve
  let s := { s with reserveRequest := request, supplyLow := low }
  if s.inReserve = before then s
  else
    let s := s.post .system Flag.reserveChanged
    ((s.settleFlashers).lineReserve 0).lineReserve 1

end Sys2Proof.Machine
end

