-- ==== Sys2Proof/Machine/Arbiter.lean ====
section
/-! DEFINITION. The line arbiter: candidates and their ranking, readiness, fallback, the building of a sign frame, and the
arbitrations that a step owes (R126, R127, R140 to R142, R193). -/

namespace Sys2Proof.Machine

/-! ### Candidates (R140) -/

/-- A candidate: the sign, the class, the frame that serves it, and the tick of its need. `page` is the page carried, none for
BLANK, HOLD and POLL. `falls` says that R126 gives it a fallback and `shedding` that its BLANK frame is sent by shedding. -/
structure Candidate where
  sign     : Fin 16
  cls      : ArbClass
  kind     : FrameKind
  page     : Option Page
  strips   : BitVec 8
  since    : Tick
  falls    : Bool
  shedding : Bool
  deriving DecidableEq, Repr

/-- The strips of the bands at the cursor: 2c to 2c + 2k - 1 (R150). -/
def refreshStrips (c k : Nat) : BitVec 8 := BitVec.ofNat 8 ((2 ^ (2 * k) - 1) * 2 ^ (2 * c))

/-- A content candidate: a CONTENT frame of the wanted page, or a BLANK frame when the wanted page is none. -/
def Sign.contentCandidate (g : Sign) (n : Fin 16) (cls : ArbClass) (since : Tick) (falls : Bool) : Candidate :=
  match g.wanted with
  | some p =>
    { sign := n, cls := cls, kind := .content, page := some p, strips := 0xFF, since := since, falls := falls,
      shedding := false }
  | none =>
    { sign := n, cls := cls, kind := .blank, page := none, strips := 0, since := since, falls := falls, shedding := false }

/-- The candidate of the DPL need. -/
def Sign.planCandidates (g : Sign) (n : Fin 16) : List Candidate :=
  match g.need with
  | .none => []
  | .plan hazard since => [g.contentCandidate n (if hazard then .hazard else .content) since true]
  | .recovery since => [g.contentCandidate n .content since false]

/-- The candidate of the restore need. -/
def Sign.restoreCandidates (g : Sign) (n : Fin 16) : List Candidate :=
  match g.restoreNeed with
  | some t => [g.contentCandidate n .restore t true]
  | none => []

/-- The candidate of the HOLD need (R165). -/
def Sign.holdCandidates (g : Sign) (n : Fin 16) : List Candidate :=
  match g.holdNeed with
  | some t =>
    [{ sign := n, cls := .content, kind := .hold, page := none, strips := 0, since := t, falls := false, shedding := false }]
  | none => []

/-- The candidate of the shed need (R157). -/
def Sign.shedCandidates (g : Sign) (n : Fin 16) : List Candidate :=
  match g.shedNeed with
  | some t =>
    [{ sign := n, cls := .content, kind := .blank, page := none, strips := 0, since := t, falls := false, shedding := true }]
  | none => []

/-- The refresh candidate (R150). -/
def Sign.refreshCandidates (g : Sign) (n : Fin 16) : List Candidate :=
  match g.shown.page with
  | some p =>
    if 1 ≤ g.owed then
      [{ sign := n, cls := .refresh, kind := .refresh, page := some p, strips := refreshStrips g.cursor g.granularity.bands,
         since := g.refreshSince, falls := false, shedding := false }]
    else []
  | none => []

/-- The poll candidate. -/
def Sign.pollCandidates (g : Sign) (n : Fin 16) : List Candidate :=
  match g.pollNeed with
  | some t =>
    [{ sign := n, cls := .poll, kind := .poll, page := none, strips := 0, since := t, falls := false, shedding := false }]
  | none => []

/-- The needs that a sign offers by its service state (R140). -/
def Sign.offers (g : Sign) (n : Fin 16) : List Candidate :=
  match g.service with
  | .absent => []
  | .showing =>
    g.planCandidates n ++ g.restoreCandidates n ++ g.holdCandidates n ++ g.refreshCandidates n ++ g.pollCandidates n
  | .lapsed =>
    g.planCandidates n ++ g.restoreCandidates n ++ g.holdCandidates n ++ g.refreshCandidates n ++ g.pollCandidates n
  | .blank => g.planCandidates n ++ g.pollCandidates n
  | .shed => g.shedCandidates n ++ g.pollCandidates n
  | .held => g.planCandidates n ++ g.restoreCandidates n
  | .offline => g.pollCandidates n

/-- The arbiter's order: class, then need tick, oldest first, then address, lower first (R141). -/
def Candidate.before (now : Tick) (a b : Candidate) : Bool :=
  decide (b.cls.code < a.cls.code)
    || (a.cls == b.cls
        && (decide (ticksSince now b.since < ticksSince now a.since)
            || (ticksSince now b.since == ticksSince now a.since && decide (a.sign < b.sign))))

/-- The first of a list in the arbiter's order; of equals, the one that stands first. -/
def firstCandidate (now : Tick) : List Candidate → Option Candidate
  | [] => none
  | c :: rest =>
    match firstCandidate now rest with
    | none => some c
    | some d => if d.before now c then some d else some c

/-- The candidate of a sign: its most urgent need (R140). -/
def State.candidate (s : State) (n : Fin 16) : Option Candidate := firstCandidate s.now ((s.sign n).offers n)

/-- Insert a candidate into a ranked list. -/
def insertCandidate (now : Tick) (c : Candidate) : List Candidate → List Candidate
  | [] => [c]
  | d :: rest => if c.before now d then c :: d :: rest else d :: insertCandidate now c rest

/-- The candidates of a line in ranking order (R141). -/
def State.ranking (s : State) (l : Fin 2) : List Candidate :=
  ((signsOf l).filterMap s.candidate).foldl (fun acc c => insertCandidate s.now c acc) []

/-! ### Readiness and fallback (R126, R141) -/

/-- A frame of a page and strips is ready: a fixed page always, a library page with those strips VALID and not faulted. -/
def State.pageReady (s : State) (p : Page) (strips : BitVec 8) : Bool :=
  !isLibraryPage p || (s.validStrips p &&& strips == strips && !s.isFaulted p)

/-- A candidate is ready (R141). -/
def State.ready (s : State) (c : Candidate) : Bool :=
  match c.page with
  | some p => s.pageReady p c.strips
  | none => true

/-- The wait and the frame of R126's table; a BLANK plan wants no page and has no fallback. -/
def PlanClass.fallback : PlanClass → Option (Nat × Option Page)
  | .hazard => some (16, some 1)
  | .closure => some (40, some 2)
  | .caution => some (40, some 3)
  | .condition => some (80, none)
  | .blank => none

/-- The fallback frame of a candidate that is not ready, if it is due: its wait is reached or its page is faulted (R126). -/
def State.fallbackOf (s : State) (c : Candidate) : Option Candidate :=
  if !c.falls then none
  else
    match (s.sign c.sign).planClass.fallback, c.page with
    | some (wait, page), some p =>
      if wait ≤ ticksSince s.now c.since ∨ s.isFaulted p then
        match page with
        | some q => some { c with page := some q }
        | none => some { c with kind := .blank, page := none, strips := 0 }
      else none
    | _, _ => none

/-! ### Building and sending a frame (R142, R193) -/

/-- The data of a strip as a frame carries it: from the device's own store or from the page cache. -/
def State.stripData (s : State) (p : Page) (i : Fin 8) : StripData :=
  if h : p.toNat < 8 then Config.fixedStrip ⟨p.toNat, h⟩ i
  else
    match s.cachedWay p with
    | some w => (s.strip p w i).data
    | none => 0

/-- The page field of a sign frame: 0xFFFF when the frame carries none (R193). -/
def pageField (p : Option Page) : List Byte := u16opt (p.map BitVec.toNat)

/-- A sign frame: start, address, kind, page, strip count, each strip with its index, CRC-16 (R193). -/
def signFrame (address : Fin 8) (kind : FrameKind) (page : Option Page) (strips : List (Fin 8 × StripData)) : List Byte :=
  let body := u8 address.val ++ u8 kind.wire ++ pageField page ++ u8 strips.length
    ++ strips.flatMap fun x => u8 x.1.val ++ bytesBE 32 x.2
  0x5A :: (body ++ bytesBE 2 (crc16 body))

/-- The strips of a candidate's frame with their data. -/
def State.frameStrips (s : State) (c : Candidate) : List (Fin 8 × StripData) :=
  match c.page with
  | some p => (bitsOf c.strips).map fun i => (i, s.stripData p i)
  | none => []

/-- The cache way a frame of a page is built from. -/
def State.frameWay (s : State) (c : Candidate) : Option (Fin 32 × Bool) :=
  c.page.bind fun p => (s.cachedWay p).map fun w => (setOfPage p, w)

/-- The frame record of a candidate as its frame is built (R132, R142). -/
def State.frameOf (s : State) (c : Candidate) (fallback : Bool) : Frame :=
  let g := s.sign c.sign
  { address := addressOf c.sign, kind := c.kind, page := c.page, strips := c.strips, cls := c.cls, fallback := fallback,
    attempt := 1, startTick := s.now, builtClass := g.planClass, wanted := g.wanted, firstBand := g.cursor,
    bands := g.granularity.bands, baud := (s.line (lineOf c.sign)).cfg.baud, way := s.frameWay c, shedding := c.shedding,
    once := c.kind == .poll && g.service == .offline }

/-- The first strip whose parity does not check, among those a frame reads from the page cache (R142, R172).
DEDUCED, log entry 29. -/
def State.badStrip (s : State) (c : Candidate) : Option (Page × Bool × Fin 8) :=
  match c.page with
  | none => none
  | some p =>
    match s.cachedWay p with
    | none => none
    | some w => ((bitsOf c.strips).find? fun i => (s.strip p w i).parityBad).map fun i => (p, w, i)

/-- Put a candidate's frame in flight: it enters the transmit buffer and its cache way is used (R142, R172). -/
def State.sendFrame (s : State) (c : Candidate) (fallback : Bool) : State :=
  let f := s.frameOf c fallback
  let bytes := signFrame f.address f.kind f.page (s.frameStrips c)
  let s := s.updLine (lineOf c.sign) fun r => { r with inFlight := some f, txBuffer := bytes }
  match c.page, s.cachedWay (c.page.getD 0) with
  | some p, some w => s.useWay p w
  | _, _ => s

/-- The fill request of a candidate passed over: its strips that are not VALID, unless its page is faulted (R141). -/
def State.passOver (s : State) (c : Candidate) : State :=
  match c.page with
  | some p => if s.isFaulted p then s else s.requestFill p (c.strips &&& ~~~(s.validStrips p))
  | none => s

/-- Take the ranked candidates in order until one is sent. A candidate that is not ready is passed over, with its fill request,
and its fallback is then checked (R141, R142). -/
def State.takeCandidates : List Candidate → State → State
  | [], s => s
  | c :: rest, s =>
    if s.ready c then
      match s.badStrip c with
      | none => s.sendFrame c false
      | some (p, w, i) => takeCandidates rest ((s.parityError p w i).passOver c)
    else
      match s.fallbackOf c with
      | some d => (s.passOver c).sendFrame d true
      | none => takeCandidates rest (s.passOver c)

/-- One arbitration of a line: nothing is sent while a frame is in flight or the line is HELD (R141). -/
def State.arbitrate (s : State) (l : Fin 2) : State :=
  if (s.line l).inFlight.isSome ∨ (s.line l).state = .held then s else State.takeCandidates (s.ranking l) s

/-! ### The arbitrations that a step owes (R141, R174) -/

/-- Take the arbitration a line owes, if it owes one; the port arbiter then chooses if an entry joined the miss queue. -/
def State.serveLine (s : State) (l : Fin 2) : State :=
  if (s.line l).arbitrate then ((s.updLine l fun r => { r with arbitrate := false }).arbitrate l).portChoice else s

/-- No line owes an arbitration any more. -/
def State.clearArbitrations (s : State) : State :=
  (s.updLine 0 fun r => { r with arbitrate := false }).updLine 1 fun r => { r with arbitrate := false }

/-- An arbitration of some line is owed. -/
def State.owesArbitration (s : State) : Bool := (s.line 0).arbitrate || (s.line 1).arbitrate

/-- Arbitrations are taken, line A before line B (R173), until none is owed: a fill that ends at once brings on another round. -/
def State.serveLines : Nat → State → State
  | 0, s => s.clearArbitrations
  | k + 1, s => if s.owesArbitration then serveLines k ((s.serveLine 0).serveLine 1) else s

/-- The end of a step: the arbitrations it owes. DEDUCED, log entry 5. -/
def State.finish (s : State) : State := State.serveLines 8 s

/-- What ends every command that may reach the signs: the hand-overs of changed signs to the SGC (R125), then the arbitrations
owed (R141). -/
def State.conclude (before s : State) : State := (State.handSigns before s).finish

end Sys2Proof.Machine
end

