-- ==== Sys2Proof/Machine/Paths.lean ====
section
/-! DEFINITION. The event trace, path health, the vote, changes of path state and what they hand on, and what a channel change
does to the paths (R40 to R45, R53 to R55). -/

namespace Sys2Proof.Machine

/-! ### The event trace (R53 to R55) -/

/-- Entries in the protected span of a marked trace, or entries held when it is unmarked (R55). -/
def Trace.spanned (t : Trace) : Nat :=
  match t.mark with
  | some m => t.entries.length - m
  | none => t.entries.length

/-- The free count (R55). -/
def Trace.free (t : Trace) : Nat := 128 - t.spanned

/-- Append an entry to an unmarked trace: the oldest is removed first from a full one (R53). -/
def Trace.append (t : Trace) (e : TraceEntry) : Trace :=
  { t with entries := (if t.entries.length < 128 then t.entries else t.entries.tail) ++ [e] }

/-- Mark the trace at its newest entry, a PATH_ALERT: the mark stands pre-count entries back, or on the oldest (R54). -/
def Trace.setMark (t : Trace) : Trace :=
  { t with mark := some (t.entries.length - 1 - t.preCount), nearFullPosted := false }

/-- An entry has been written while marked: the near-full indication (R55). -/
def Trace.checkNearFull (t : Trace) : Trace × BitVec 16 :=
  if t.free ≤ t.margin ∧ !t.nearFullPosted then ({ t with nearFullPosted := true }, Flag.traceNearFull) else (t, 0)

/-- Record an entry; the second part is what it posts (R53 to R55). -/
def Trace.record (t : Trace) (e : TraceEntry) : Trace × BitVec 16 :=
  match t.mark with
  | none => if e.kind = .pathAlert then ((t.append e).setMark, Flag.traceMarked) else (t.append e, 0)
  | some m =>
    if t.entries.length < 128 then (t.append e).checkNearFull
    else if 0 < m then { t.append e with mark := some (m - 1) }.checkNearFull
    else ({ t with truncated := true }, if t.truncated then 0 else Flag.traceFull)

/-- Record an entry at the present second and tick (R53). -/
def State.traceAdd (s : State) (k : TraceKind) (object value : Nat) : State :=
  let e : TraceEntry :=
    { second := s.tmb.passClock, tick := s.tmb.tickInSecond, kind := k, object := object, value := value }
  let r := s.trace.record e
  { s with trace := r.1 }.postIf (r.2 != 0) .trace r.2

/-- Record an entry where the change gives one. -/
def State.traceMaybe (s : State) (e : Option (TraceKind × Nat)) (object : Nat) : State :=
  match e with
  | some (k, v) => s.traceAdd k object v
  | none => s

/-! ### Health (R40, R41) -/

/-- The channel is a member of the path. -/
def PathRec.hasMember (p : PathRec) (c : Fin 16) : Bool := p.cfg.members.getLsbD c.val

/-- A member counts as healthy while its channel is QUIET or ACTIVE (R40). -/
def Channel.healthy (c : Channel) : Bool := c.state == .quiet || c.state == .active

/-- The number of healthy members. -/
def State.healthyCount (s : State) (p : PathRec) : Nat :=
  ((List.finRange 16).filter fun c => p.hasMember c && (s.channel c).healthy).length

/-- Some member is ACTIVE. -/
def State.anyActive (s : State) (p : PathRec) : Bool :=
  (List.finRange 16).any fun c => p.hasMember c && (s.channel c).state == .active

/-- A path record with its health recomputed; an unconfigured path has none (R39, R41). -/
def State.withHealth (s : State) (p : PathRec) : PathRec :=
  if p.configured then
    let h := s.healthyCount p
    { p with healthy := h, kEff := max 1 (min p.cfg.k h), degraded := decide (h < p.cfg.k) }
  else { p with healthy := 0, kEff := 1, degraded := false }

/-- Recompute a path's health; a change of DEGRADED posts it (R41). -/
def State.updateHealth (s : State) (n : Fin 12) : State :=
  let old := s.path n
  let p := s.withHealth old
  (s.setPath n p).postIf (old.degraded != p.degraded) (.path n) Flag.pathDegraded

/-! ### Changes of path state (R43 to R45) -/

/-- The path's number is in its segment's cause set: HOLD, or ALERT with autoclose set (R44). -/
def PathRec.isCause (p : PathRec) : Bool := p.state == .hold || (p.state == .alert && p.cfg.autoclose)

/-- The flasher on which the path requests ALERT: while ALERT or HOLD (R45). -/
def PathRec.request (p : PathRec) : Option (Fin 8) := if p.state = .alert ∨ p.state = .hold then p.cfg.flasher else none

/-- Hand a change of a path to the SGC's cause sets (R44). -/
def State.handCause (s : State) (n : Fin 12) (old new : PathRec) : State :=
  match old.isCause, new.isCause with
  | false, true => s.addCause new.cfg.segment (.path n)
  | true, false => s.removeCause old.cfg.segment (.path n)
  | true, true => s
  | false, false => s

/-- Withdraw a path's request from a flasher, if it has one. -/
def State.pathWithdraw (s : State) (n : Fin 12) (f : Option (Fin 8)) : State :=
  match f with
  | some i => s.pathRequest i n false
  | none => s

/-- Post a path's request on a flasher, if it has one. -/
def State.pathPost (s : State) (n : Fin 12) (f : Option (Fin 8)) : State :=
  match f with
  | some i => s.pathRequest i n true
  | none => s

/-- Hand a change of a path to the BCN (R45). -/
def State.handFlasher (s : State) (n : Fin 12) (old new : PathRec) : State :=
  if old.request = new.request then s else (s.pathWithdraw n old.request).pathPost n new.request

/-- Hand a change of a path to the open-posture evaluations of the segments concerned (R6, R44). DEDUCED, log entry 27. -/
def State.handOpen (s : State) (old new : PathRec) : State :=
  if old.state = new.state ∧ old.cfg.segment = new.cfg.segment ∧ old.cfg.autoclose = new.cfg.autoclose then s
  else
    let s := s.evalOpen new.cfg.segment
    if old.cfg.segment = new.cfg.segment then s else s.evalOpen old.cfg.segment

/-- A changed path record is written: its report, its trace entry, and the hand-overs to BCN, SGC and DPL (R43 to R45). The rules
give the hand-overs of one change no order: that the request moves on the flasher before the cause set and the open postures
follow, and the plans last, is a DESIGN CHOICE, log entry 47. -/
def State.putPath (s : State) (n : Fin 12) (new : PathRec) (flags : BitVec 16) (entry : Option (TraceKind × Nat)) : State :=
  let old := s.path n
  let f := flags ||| (if old.state = new.state then 0 else Flag.pathState)
  let s := (s.setPath n new).postIf (f != 0) (.path n) f
  let s := (s.traceMaybe entry n.val).handFlasher n old new
  ((s.handCause n old new).handOpen old new).replan

/-! ### The vote (R42) -/

/-- A member's last activation lies in the window. -/
def PathRec.inWindow (p : PathRec) (now : Tick) (c : Fin 16) : Bool :=
  match p.lastAct[c] with
  | some t => decide (ticksSince now t < p.cfg.window)
  | none => false

/-- The count of a vote: healthy members whose last activation lies in the window. -/
def State.voteCount (s : State) (p : PathRec) : Nat :=
  ((List.finRange 16).filter fun c => p.hasMember c && (s.channel c).healthy && p.inWindow s.now c).length

/-- A vote of a path after a member's activation was written: ALERT where the count meets k_eff, else WATCH. -/
def State.vote (s : State) (n : Fin 12) (p : PathRec) : State :=
  let count := s.voteCount p
  let p := { p with lastVote := count }
  if p.kEff ≤ count then s.putPath n { p with state := .alert } 0 (some (.pathAlert, count))
  else s.putPath n { p with state := .watch } 0 (if p.state = .quiet then some (.pathWatch, 0) else none)

/-- A member activation is taken by the path's state (R42). -/
def State.activation (s : State) (n : Fin 12) (c : Fin 16) : State :=
  let p := s.path n
  let q := { p with lastAct := p.lastAct.set c (some s.now) }
  match p.state with
  | .masked => s
  | .quiet => s.vote n q
  | .watch => s.vote n q
  | .alert => s.setPath n q
  | .hold => s.setPath n q

/-- A member has left ACTIVE (R43). -/
def State.memberLeft (s : State) (n : Fin 12) : State :=
  let p := s.path n
  if p.state = .watch ∧ !s.anyActive p then s.putPath n { p with state := .quiet } 0 none else s

/-! ### Channel changes (R31, R41, R43) -/

/-- The trace entry of a channel change (R31). -/
def channelEntry (old new : ChannelState) : Option TraceKind :=
  if old = new then none
  else if new = .fault then some .chFault
  else if old = .fault then some .chRecover
  else if old = .quiet ∧ new = .active then some .chActive
  else if old = .active ∧ new = .quiet then some .chQuiet
  else none

/-- A channel change for one path: its health, then its state. -/
def State.pathTakes (c : Fin 16) (old new : ChannelState) (s : State) (n : Fin 12) : State :=
  if !(s.path n).configured || !(s.path n).hasMember c then s
  else
    let s := s.updateHealth n
    if old = .quiet ∧ new = .active then s.activation n c
    else if old = .active then s.memberLeft n
    else s

/-- The PTM takes a change of a channel's state: the channel's trace entry, then the paths in ascending number (R43). -/
def State.channelChanged (s : State) (c : Fin 16) (old new : ChannelState) : State :=
  if old = new then s
  else
    let s := s.traceMaybe ((channelEntry old new).map fun k => (k, (s.channel c).lastSample.toNat)) c.val
    (List.finRange 12).foldl (State.pathTakes c old new) s

/-- The last activations all absent. -/
def noActivations : Vector (Option Tick) 16 := Vector.replicate 16 none

/-- A path released from ALERT or HOLD by the host: activations and vote gone, WATCH if a member is ACTIVE (R47, R48). -/
def State.releasePath (s : State) (n : Fin 12) (k : TraceKind) : State :=
  let p := s.path n
  s.putPath n
    { p with state := (if s.anyActive p then .watch else .quiet), lastAct := noActivations, lastVote := 0 } 0 (some (k, 0))

end Sys2Proof.Machine
end

