-- ==== Sys2Proof/Machine/Channels.lean ====
section
/-! DEFINITION. The sensor channels: sampling ticks, the two passes of a sampling tick, and the changes of channel state
(R25 to R31, R33, R34). -/

namespace Sys2Proof.Machine

/-- Post a channel's report. -/
def State.postChannel (s : State) (i : Fin 16) (f : BitVec 16) : State := s.post (.channel i) f

/-- A channel names another as its reference. -/
def Channel.references (c : Channel) (r : Fin 16) : Bool := c.cfg.mode == .reference && c.cfg.reference == some r

/-- The referrers set of a channel (R24). -/
def State.referrers (s : State) (r : Fin 16) : List (Fin 16) := (List.finRange 16).filter fun i => (s.channel i).references r

/-! ### Sampling ticks (R26) -/

/-- Some path is in WATCH, ALERT or HOLD. -/
def State.anyPathAwake (s : State) : Bool :=
  (List.finRange 12).any fun n =>
    (s.path n).state == .watch || (s.path n).state == .alert || (s.path n).state == .hold

/-- The tick is a sampling tick (R26). DEDUCED, log entry 28. -/
def State.isSamplingTick (s : State) : Bool := !s.inReserve || s.anyPathAwake || decide (4 ≤ s.economy + 1)

/-- An out-of-range sample (R28). -/
def outOfRange (x : BitVec 12) : Bool := decide (x.toNat ≤ 15) || decide (4080 ≤ x.toNat)

/-! ### The first pass (R27, R28) -/

/-- A conversion is written: the compared value is none until the channel compares, and a channel in FAULT counts its
recovery. A channel in OFF is not converted. -/
def Channel.convert (x : BitVec 12) (c : Channel) : Channel :=
  if c.cfg.mode = .off then { c with compared := none }
  else
    { c with lastSample := x, compared := none,
             recoveryRun := (if c.state = .fault then (if outOfRange x then 0 else min 8 (c.recoveryRun + 1))
               else c.recoveryRun) }

/-- The channel's sample takes it to FAULT. -/
def Channel.faults (c : Channel) : Bool := c.cfg.mode != .off && c.state != .fault && outOfRange c.lastSample

/-- The channel has made its recovery run. -/
def Channel.recovers (c : Channel) : Bool := c.state == .fault && c.recoveryRun == 8

/-- The event the first pass owes a channel. -/
def Channel.firstDue (c : Channel) (i : Fin 16) : List Due :=
  if c.faults then [.chFault i] else if c.recovers then [.chRecover i] else []

/-- A channel is in FAULT once the first pass of the sampling tick is complete: entries and exits still owed count. -/
def State.faultAfterPass (s : State) (r : Fin 16) : Bool :=
  if s.due.contains (.chFault r) then true
  else if s.due.contains (.chRecover r) then false
  else (s.channel r).state == .fault

/-- The reference of a channel in REFERENCE is in FAULT after the first pass. -/
def State.referenceFaulted (s : State) (c : Channel) : Bool :=
  c.cfg.mode == .reference && match c.cfg.reference with
    | some r => s.faultAfterPass r
    | none => false

/-! ### The second pass (R29, R30) -/

/-- The channel settles REF_FAULT and does not compare in this pass. -/
def State.refSettles (s : State) (c : Channel) : Bool :=
  match c.state with
  | .quiet => s.referenceFaulted c
  | .active => s.referenceFaulted c
  | .refFault => !s.referenceFaulted c
  | .off => false
  | .fault => false
  | .serve => false

/-- The compared value: the sample, less the reference's sample in REFERENCE (R30). -/
def State.comparedValue (s : State) (c : Channel) : Int :=
  match c.cfg.mode, c.cfg.reference with
  | .reference, some r => (c.lastSample.toNat : Int) - ((s.channel r).lastSample.toNat : Int)
  | _, _ => (c.lastSample.toNat : Int)

/-- A channel counts a compared value by its state (R30). -/
def Channel.count (v : Int) (c : Channel) : Channel :=
  match c.state with
  | .quiet => { c with compared := some v, riseRun := (if c.cfg.rise ≤ v then min 8 (c.riseRun + 1) else 0), fallRun := 0 }
  | .active => { c with compared := some v, riseRun := 0, fallRun := (if v ≤ c.cfg.fall then min 8 (c.fallRun + 1) else 0) }
  | .off => c
  | .fault => c
  | .refFault => c
  | .serve => c

/-- The channel compares in the second pass: FIXED or REFERENCE, QUIET or ACTIVE, not entering FAULT, reference sound. -/
def State.compares (s : State) (i : Fin 16) : Bool :=
  let c := s.channel i
  (c.cfg.mode == .fixed || c.cfg.mode == .reference) && (c.state == .quiet || c.state == .active)
    && !s.due.contains (.chFault i) && !s.refSettles c

/-- The rise run has reached the persist count in QUIET. -/
def Channel.goesActive (c : Channel) : Bool := c.state == .quiet && decide (c.cfg.persist ≤ c.riseRun)

/-- The fall run has reached the persist count in ACTIVE. -/
def Channel.goesQuiet (c : Channel) : Bool := c.state == .active && decide (c.cfg.persist ≤ c.fallRun)

/-- The second pass counts one channel. -/
def State.countChannel (s : State) (i : Fin 16) : State :=
  if s.compares i then s.setChannel i ((s.channel i).count (s.comparedValue (s.channel i))) else s

/-- The event the second pass owes a channel. -/
def State.secondDue (s : State) (i : Fin 16) : List Due :=
  let c := s.channel i
  if s.due.contains (.chFault i) ∨ s.due.contains (.chRecover i) then []
  else if s.refSettles c then [.chRefFault i]
  else if c.goesActive then [.chActive i]
  else if c.goesQuiet then [.chQuiet i]
  else []

/-- Convert and evaluate all channels (R27): samples and runs are written, and the changes of state they bring are owed, the
first pass of all channels before the second pass of any. -/
def State.sample (s : State) (x : Vector (BitVec 12) 16) : State :=
  let s := (List.finRange 16).foldl (fun s i => s.updChannel i (Channel.convert x[i])) s
  let s := { s with due := s.due ++ (List.finRange 16).flatMap fun i => (s.channel i).firstDue i }
  let s := (List.finRange 16).foldl State.countChannel s
  { s with due := s.due ++ (List.finRange 16).flatMap s.secondDue }

/-! ### Changes of state (R28 to R31) -/

/-- A channel record that takes a state, its runs as R28 to R30 leave them. -/
def Channel.enter (new : ChannelState) (c : Channel) : Channel :=
  { c with state := new, riseRun := 0, fallRun := 0, recoveryRun := 0 }

/-- A channel changes its state: its report and the hand-over to the PTM (R31). -/
def State.channelTo (s : State) (i : Fin 16) (new : ChannelState) (flags : BitVec 16) : State :=
  let old := (s.channel i).state
  ((s.updChannel i (Channel.enter new)).postChannel i flags).channelChanged i old new

/-- CH_FAULT: an out-of-range sample takes the channel to FAULT; out of REF_FAULT that change is reported too (R28, R29). -/
def State.channelFaults (s : State) (i : Fin 16) : State :=
  if (s.channel i).faults then
    s.channelTo i .fault (Flag.chFault ||| if (s.channel i).state = .refFault then Flag.chRefFault else 0)
  else s

/-- The state that a channel leaving FAULT takes by its mode (R28). -/
def State.recoveredState (s : State) (c : Channel) : ChannelState :=
  match c.cfg.mode with
  | .off => .off
  | .fixed => .quiet
  | .reference => if s.referenceFaulted c then .refFault else .quiet
  | .serve => .serve

/-- CH_RECOVER: the recovery run has reached 8 (R28). -/
def State.channelRecovers (s : State) (i : Fin 16) : State :=
  if (s.channel i).recovers then
    let v := s.recoveredState (s.channel i)
    s.channelTo i v (Flag.chRecover ||| if v = .refFault then Flag.chRefFault else 0)
  else s

/-- A channel enters or leaves REF_FAULT with its reference (R29). -/
def State.channelRefFault (s : State) (i : Fin 16) : State :=
  if s.refSettles (s.channel i) then
    s.channelTo i (if (s.channel i).state = .refFault then .quiet else .refFault) Flag.chRefFault
  else s

/-- CH_ACTIVE (R30). -/
def State.channelActive (s : State) (i : Fin 16) : State :=
  if (s.channel i).goesActive then s.channelTo i .active Flag.chState else s

/-- CH_QUIET (R30). -/
def State.channelQuiet (s : State) (i : Fin 16) : State :=
  if (s.channel i).goesQuiet then s.channelTo i .quiet Flag.chState else s

/-! ### References and configuration (R25, R33, R34) -/

/-- The range of thresholds for a mode: its bottom (the top is 4095) (R24, R33). -/
def thresholdBottom (m : ChannelMode) : Int := if m = .reference then -4095 else 0

/-- The applied thresholds (R33). -/
def applyThresholds (m : ChannelMode) (rise fall : Int) : Int × Int :=
  let lo := thresholdBottom m
  let r := clampInt lo 4095 rise
  let f := clampInt lo 4095 fall
  if f < r then (r, f) else if r = lo then (lo + 1, lo) else (r, r - 1)

/-- The event flags of a change of state made by SET_CHANNEL (R35). -/
def channelFlags (old new : Channel) : BitVec 16 :=
  (if old.state = new.state then 0 else Flag.chState)
    ||| (if old.state = .fault ∧ new.state ≠ .fault then Flag.chRecover else 0)
    ||| (if old.state ≠ new.state ∧ (old.state = .refFault ∨ new.state = .refFault) then Flag.chRefFault else 0)
    ||| (if (old.cfg.mode = .serve) = (new.cfg.mode = .serve) then 0 else Flag.chServe)

/-- A channel record changed by SET_CHANNEL is written: its report, and its change of state handed to the PTM (R31, R35). -/
def State.putChannel (s : State) (i : Fin 16) (new : Channel) (extra : BitVec 16) : State :=
  let old := s.channel i
  let f := channelFlags old new ||| extra
  ((s.setChannel i new).postIf (f != 0) (.channel i) f).channelChanged i old.state new.state

/-- A channel that becomes SERVE (R25). -/
def Channel.toServe (c : Channel) : Channel :=
  { c with
    cfg := { c.cfg with mode := .serve, baseFixed := c.cfg.mode == .fixed },
    state := (if c.state = .fault then .fault else .serve), riseRun := 0, fallRun := 0 }

/-- A channel that leaves SERVE for its base mode (R25). The base mode itself, which R35 gives a meaning in SERVE only, keeps its
last value: DESIGN CHOICE, log entry 38. -/
def Channel.fromServe (c : Channel) : Channel :=
  if c.cfg.baseFixed then
    { c with
      cfg := { c.cfg with mode := .fixed }, state := (if c.state = .fault then .fault else .quiet),
      riseRun := 0, fallRun := 0, recoveryRun := (if c.state = .fault then c.recoveryRun else 0) }
  else
    { c with cfg := { c.cfg with mode := .off }, state := .off, riseRun := 0, fallRun := 0, recoveryRun := 0 }

/-- Channel r loses the referrer i and leaves SERVE if no other channel names it (R25, R34). -/
def State.releaseReference (s : State) (i r : Fin 16) : State :=
  if (s.referrers r).all (· == i) then s.putChannel r (s.channel r).fromServe 0 else s

/-- Channel r gains a referrer and becomes SERVE if it was not (R25, R34). -/
def State.takeReference (s : State) (r : Fin 16) : State :=
  if (s.channel r).cfg.mode = .serve then s else s.putChannel r (s.channel r).toServe 0

/-- The references of an accepted SET_CHANNEL are changed first (R34). -/
def State.changeReferences (s : State) (i : Fin 16) (ref : Option (Fin 16)) : State :=
  let old := (s.channel i).cfg.reference
  if old = ref then s
  else
    let s := match old with
      | some r => s.releaseReference i r
      | none => s
    match ref with
    | some r => s.takeReference r
    | none => s

/-- The channel's record as SET_CHANNEL leaves it: mode, reference and numbers written, and the state by R34's table. -/
def State.reconfigured (s : State) (c : Channel) (m : ChannelMode) (ref : Option (Fin 16)) (rise fall : Int)
    (persist : Nat) : Channel :=
  let kept := c.cfg.mode == m && c.cfg.reference == ref
  let cfg := { c.cfg with mode := m, reference := ref, rise := rise, fall := fall, persist := persist }
  if c.cfg.mode = .serve then
    { c with cfg := { c.cfg with baseFixed := true, rise := rise, fall := fall, persist := persist },
             riseRun := 0, fallRun := 0 }
  else if kept then { c with cfg := cfg, riseRun := 0, fallRun := 0 }
  else if m = .off then { Channel.enter .off c with cfg := cfg }
  else if c.state = .fault then { c with cfg := cfg, riseRun := 0, fallRun := 0 }
  else
    let refBad : Bool := match ref with
      | some r => (s.channel r).state == .fault
      | none => false
    { Channel.enter (if refBad then .refFault else .quiet) c with cfg := cfg }

end Sys2Proof.Machine
end

