-- ==== Sys2Proof/Machine/Counters.lean ====
section
/-! DEFINITION. The counter units: input changes, encoder decoding, loop-pair crossings, stuck loops (R81 to R89). -/

namespace Sys2Proof.Machine

/-- Post a counter unit's report. -/
def State.postCounter (s : State) (i : Fin 12) (f : BitVec 16) : State := s.post (.counter i) f

/-- The configured gate whose encoder unit is this one: the lowest-numbered, and SET_GATE keeps it the only one (R83). -/
def State.gateOfUnit (s : State) (i : Fin 12) : Option (Fin 6) :=
  (List.finRange 6).find? fun g => (s.gate g).configured && (s.gate g).cfg.encoder == i

/-- A count changed by one, with saturation (R81). -/
def bumpCount (up : Bool) (x : Int) : Int := clampInt (-32768) 32767 (if up then x + 1 else x - 1)

/-! ### ENCODER decoding (R83) -/

/-- The place of a code on the cycle 00, 01, 11, 10. -/
def codePlace (a b : Bool) : Nat :=
  match a, b with
  | false, false => 0
  | false, true => 1
  | true, true => 2
  | true, false => 3

/-- A single change is a step forward (+1) or backward (-1) along the cycle. -/
def stepForward (a b a' b' : Bool) : Bool := (codePlace a b + 1) % 4 == codePlace a' b'

/-- Deliver a step to the gate that names the unit, if a configured one does (R63, R83). -/
def State.deliverStep (s : State) (i : Fin 12) (forward : Bool) : State :=
  match s.gateOfUnit i with
  | some g => s.updGate g (Gate.step forward)
  | none => s

/-- A step of an ENCODER unit (R83). -/
def State.encoderStep (s : State) (i : Fin 12) (forward : Bool) : State :=
  (s.updCounter i fun c => { c with count := bumpCount forward c.count }).deliverStep i forward

/-! ### Double changes (R82) -/

/-- A double change raises the illegal count and posts ILLEGAL, up to its saturation. -/
def State.illegalChange (s : State) (i : Fin 12) : State :=
  let c := s.counter i
  if c.illegal < 255 then (s.setCounter i { c with illegal := c.illegal + 1 }).postCounter i Flag.ctrIllegal else s

/-! ### LOOP_PAIR decoding (R85) -/

/-- A single change of a loop input: which loop and its new level. -/
inductive LoopChange where
  | aOn
  | aOff
  | bOn
  | bOff
  deriving DecidableEq, Repr

/-- R85's table: the state after a change, and the crossing it completes, forward for +1. -/
def Crossing.next : Crossing → LoopChange → Crossing × Option Bool
  | .idle, .aOn => (.a, none)
  | .idle, .bOn => (.b, none)
  | .a, .aOff => (.idle, none)
  | .a, .bOn => (.ab, none)
  | .ab, .aOff => (.bAfterA, none)
  | .ab, .bOff => (.a, none)
  | .bAfterA, .aOn => (.ab, none)
  | .bAfterA, .bOff => (.idle, some true)
  | .b, .aOn => (.ba, none)
  | .b, .bOff => (.idle, none)
  | .ba, .aOff => (.b, none)
  | .ba, .bOff => (.aAfterB, none)
  | .aAfterB, .aOff => (.idle, some false)
  | .aAfterB, .bOn => (.ba, none)
  | c, _ => (c, none)

/-- A completed crossing: the count, the report, and the movement of one vehicle (R86). -/
def State.cross (s : State) (i : Fin 12) (forward : Bool) : State :=
  let c := s.counter i
  let s := (s.setCounter i { c with count := bumpCount forward c.count }).postCounter i Flag.ctrCrossing
  match c.cfg.boundary with
  | some (src, dst) =>
    if forward then (s.moveVehicle src false).moveVehicle dst true
    else (s.moveVehicle dst false).moveVehicle src true
  | none => s

/-- A single change of a LOOP_PAIR unit. -/
def State.loopChange (s : State) (i : Fin 12) (ch : LoopChange) : State :=
  let r := (s.counter i).crossing.next ch
  let s := s.updCounter i fun c => { c with crossing := r.1 }
  match r.2 with
  | some forward => s.cross i forward
  | none => s

/-- A double change of a LOOP_PAIR unit abandons the crossing (R85). -/
def State.loopDouble (s : State) (i : Fin 12) : State :=
  (s.illegalChange i).updCounter i fun c => { c with crossing := .idle }

/-! ### Stuck loops (R88, R89) -/

/-- A loop has been covered for 480 ticks. -/
def Counter.becomesStuck (c : Counter) : Bool :=
  c.cfg.mode == .loopPair && !c.stuck && ((c.codeA && c.aOnTicks == 480) || (c.codeB && c.bOnTicks == 480))

/-- Both loops have been uncovered for 8 ticks. -/
def Counter.leavesStuck (c : Counter) : Bool := c.cfg.mode == .loopPair && c.stuck && c.clearTicks == 8

/-- STUCK (R88). -/
def State.becomeStuck (s : State) (i : Fin 12) : State :=
  let c := s.counter i
  if c.becomesStuck then
    let s := (s.setCounter i { c with stuck := true, crossing := .idle, clearTicks := 0 }).postCounter i Flag.ctrStuck
    match c.cfg.boundary with
    | some (src, dst) => (s.setUncertain src).setUncertain dst
    | none => s
  else s

/-- STUCK_LEFT (R89). -/
def State.leaveStuck (s : State) (i : Fin 12) : State :=
  let c := s.counter i
  if c.leavesStuck then
    (s.setCounter i { c with stuck := false, crossing := .idle, aOnTicks := 0, bOnTicks := 0, clearTicks := 0 }).postCounter i
      Flag.ctrStuck
  else s

/-! ### Observations (R82) -/

/-- The change that an observation finds, by the loop table. -/
def changeOf (a b a' b' : Bool) : Option LoopChange :=
  if a ≠ a' then some (if a' then .aOn else .aOff)
  else if b ≠ b' then some (if b' then .bOn else .bOff)
  else none

/-- An observation of a unit's two inputs: the code takes the levels, and the change acts by the unit's mode (R82). DESIGN CHOICE, log entry 35. -/
def State.observe (s : State) (i : Fin 12) (a b : Bool) : State :=
  let c := s.counter i
  let s := s.setCounter i { c with codeA := a, codeB := b }
  match changeOf c.codeA c.codeB a b with
  | none => s
  | some ch =>
    let double := c.codeA != a && c.codeB != b
    match c.cfg.mode with
    | .off => s
    | .encoder => if double then s.illegalChange i else s.encoderStep i (stepForward c.codeA c.codeB a b)
    | .loopPair => if c.stuck then s else if double then s.loopDouble i else s.loopChange i ch

/-! ### The tick (R88, R89) -/

/-- A unit at a tick event. -/
def Counter.tick (c : Counter) : Counter :=
  if c.cfg.mode ≠ .loopPair then c
  else if c.stuck then { c with clearTicks := (if c.codeA || c.codeB then 0 else min 8 (c.clearTicks + 1)) }
  else
    { c with aOnTicks := (if c.codeA then min 480 (c.aOnTicks + 1) else 0),
             bOnTicks := (if c.codeB then min 480 (c.bOnTicks + 1) else 0) }

end Sys2Proof.Machine
end

