-- ==== Sys2Proof/Machine/ProfileImage.lean ====
section
/-! DEFINITION. Flash block 0: the header, the image and the CRC-16 that a profile save writes, what a full reset makes of them,
and the layout of the image (R181). The layout within the image is the device's own: DESIGN CHOICE, log entry 21. -/

namespace Sys2Proof.Machine

/-! ### The image: one object after another, each field in the bytes below -/

/-- Two bytes of 0xFF stand for a boundary that is absent. -/
def boundaryBytes : Option (Fin 5 × Fin 5) → List Byte
  | some (x, y) => u8 x.val ++ u8 y.val
  | none => [0xFF, 0xFF]

/-- A channel's configuration in 9 bytes. -/
def ChannelConfig.image (c : ChannelConfig) : List Byte :=
  u8 c.mode.code ++ u8 (flagBit 0 c.baseFixed) ++ u8opt (c.reference.map Fin.val) ++ i16 c.rise ++ i16 c.fall ++ u16 c.persist

/-- A path's configuration in 12 bytes. -/
def PathConfig.image (c : PathConfig) : List Byte :=
  u8 c.segment.val ++ u16 c.members.toNat ++ u16 c.k ++ u16 c.window ++ u8 (flagBit 0 c.autoclose) ++ u16 c.hazardPage.toNat
    ++ u8opt (c.flasher.map Fin.val) ++ u8 (flagBit 0 c.masked)

/-- A gate's configuration in 7 bytes. -/
def GateConfig.image (c : GateConfig) : List Byte :=
  u8opt (c.segment.map Fin.val) ++ u8 c.encoder.val ++ u16 c.travel ++ u16 c.motionLimit ++ u8opt (c.flasher.map Fin.val)

/-- A counter unit's configuration in 3 bytes. -/
def CounterConfig.image (c : CounterConfig) : List Byte := u8 c.mode.code ++ boundaryBytes c.boundary

/-- A segment's configuration in 4 bytes. -/
def SegmentConfig.image (c : SegmentConfig) : List Byte := u16 c.lead ++ u16 c.confirm

/-- A sign's configuration in 10 bytes. -/
def SignConfig.image (c : SignConfig) : List Byte :=
  u8 c.role.code ++ u8 c.segments.toNat ++ u8opt (c.path.map Fin.val) ++ u16 c.holdover ++ u8 (flagBit 0 c.sheddable)
    ++ u16opt (c.condition.map BitVec.toNat) ++ u16 c.dwell

/-- A line's configuration in 4 bytes. -/
def LineConfig.image (c : LineConfig) : List Byte := u16 c.baud.rate ++ u8 c.policy.code ++ u8 c.bandMode.code

/-- A pattern in 4 bytes. -/
def Pattern.image (c : Pattern) : List Byte := u16 c.on ++ u16 c.off

/-- The configuration image (R181). -/
def Profile.image (p : Profile) : List Byte :=
  p.channels.toList.flatMap ChannelConfig.image ++ p.paths.toList.flatMap PathConfig.image
    ++ p.gates.toList.flatMap GateConfig.image ++ p.counters.toList.flatMap CounterConfig.image
    ++ p.segments.toList.flatMap SegmentConfig.image ++ p.signs.toList.flatMap SignConfig.image
    ++ p.lines.toList.flatMap LineConfig.image
    ++ p.patterns.closed.image ++ p.patterns.moving.image ++ p.patterns.alert.image
    ++ u16 p.listMargin ++ u16 p.preCount ++ u16 p.traceMargin

/-! ### Reading an image: each reader answers the value and the bytes after it -/

/-- One byte; a missing byte reads as erased flash does. -/
def readU8 : List Byte → Byte × List Byte
  | b :: rest => (b, rest)
  | [] => (0xFF, [])

/-- Two bytes, the more significant first. -/
def readU16 (bs : List Byte) : Half × List Byte :=
  let x := readU8 bs
  let y := readU8 x.2
  (x.1 ++ y.1, y.2)

/-- A channel mode's code: R35's. -/
def readMode (b : Byte) : ChannelMode :=
  if b = 0 then .off else if b = 1 then .fixed else if b = 2 then .reference else .serve

/-- A boundary. -/
def readBoundary (x y : Byte) : Option (Fin 5 × Fin 5) :=
  match indexOf 5 x, indexOf 5 y with
  | some i, some j => some (i, j)
  | _, _ => none

/-- A channel's configuration. -/
def readChannel (bs : List Byte) : ChannelConfig × List Byte :=
  let mode := readU8 bs
  let base := readU8 mode.2
  let reference := readU8 base.2
  let rise := readU16 reference.2
  let fall := readU16 rise.2
  let persist := readU16 fall.2
  ({ mode := readMode mode.1, baseFixed := base.1 == 1, reference := indexOf 16 reference.1, rise := rise.1.toInt,
     fall := fall.1.toInt, persist := persist.1.toNat }, persist.2)

/-- A path's configuration. -/
def readPath (bs : List Byte) : PathConfig × List Byte :=
  let segment := readU8 bs
  let members := readU16 segment.2
  let k := readU16 members.2
  let window := readU16 k.2
  let autoclose := readU8 window.2
  let page := readU16 autoclose.2
  let flasher := readU8 page.2
  let masked := readU8 flasher.2
  ({ segment := (indexOf 4 segment.1).getD 0, members := members.1, k := k.1.toNat, window := window.1.toNat,
     autoclose := autoclose.1 == 1, hazardPage := page.1.setWidth 12, flasher := indexOf 8 flasher.1,
     masked := masked.1 == 1 }, masked.2)

/-- A gate's configuration. -/
def readGate (bs : List Byte) : GateConfig × List Byte :=
  let segment := readU8 bs
  let encoder := readU8 segment.2
  let travel := readU16 encoder.2
  let limit := readU16 travel.2
  let flasher := readU8 limit.2
  ({ segment := indexOf 4 segment.1, encoder := (indexOf 12 encoder.1).getD 0, travel := travel.1.toNat,
     motionLimit := limit.1.toNat, flasher := indexOf 8 flasher.1 }, flasher.2)

/-- A counter unit's configuration. -/
def readCounter (bs : List Byte) : CounterConfig × List Byte :=
  let mode := readU8 bs
  let x := readU8 mode.2
  let y := readU8 x.2
  ({ mode := (counterModeOf mode.1).getD .off, boundary := readBoundary x.1 y.1 }, y.2)

/-- A segment's configuration. -/
def readSegment (bs : List Byte) : SegmentConfig × List Byte :=
  let lead := readU16 bs
  let confirm := readU16 lead.2
  ({ lead := lead.1.toNat, confirm := confirm.1.toNat }, confirm.2)

/-- A sign's configuration. -/
def readSign (bs : List Byte) : SignConfig × List Byte :=
  let role := readU8 bs
  let segments := readU8 role.2
  let path := readU8 segments.2
  let holdover := readU16 path.2
  let sheddable := readU8 holdover.2
  let condition := readU16 sheddable.2
  let dwell := readU16 condition.2
  ({ role := (roleOf role.1).getD .none, segments := segments.1.setWidth 4, path := indexOf 12 path.1,
     holdover := holdover.1.toNat, sheddable := sheddable.1 == 1, condition := pageOf condition.1,
     dwell := dwell.1.toNat }, dwell.2)

/-- A line's configuration. -/
def readLine (bs : List Byte) : LineConfig × List Byte :=
  let baud := readU16 bs
  let policy := readU8 baud.2
  let bandMode := readU8 policy.2
  ({ baud := (baudOf baud.1).getD .b19200, policy := (policyOf policy.1).getD .adaptive,
     bandMode := (bandModeOf bandMode.1).getD .auto }, bandMode.2)

/-- A pattern. -/
def readPattern (bs : List Byte) : Pattern × List Byte :=
  let on := readU16 bs
  let off := readU16 on.2
  ({ on := on.1.toNat, off := off.1.toNat }, off.2)

/-- n objects one after another. -/
def readList {α : Type} (rd : List Byte → α × List Byte) : Nat → List Byte → List α × List Byte
  | 0, bs => ([], bs)
  | n + 1, bs =>
    let x := rd bs
    let xs := readList rd n x.2
    (x.1 :: xs.1, xs.2)

/-- n objects as a vector. -/
def readVec {α : Type} (rd : List Byte → α × List Byte) (n : Nat) (bs : List Byte) : Vector α n × List Byte :=
  let xs := readList rd n bs
  (Vector.ofFn fun i => xs.1.getD i.val (rd []).1, xs.2)

/-- The configuration that an image of any bytes stands for. -/
def readImage (bs : List Byte) : Profile :=
  let channels := readVec readChannel 16 bs
  let paths := readVec readPath 12 channels.2
  let gates := readVec readGate 6 paths.2
  let counters := readVec readCounter 12 gates.2
  let segments := readVec readSegment 4 counters.2
  let signs := readVec readSign 16 segments.2
  let lines := readVec readLine 2 signs.2
  let closed := readPattern lines.2
  let moving := readPattern closed.2
  let alert := readPattern moving.2
  let listMargin := readU16 alert.2
  let preCount := readU16 listMargin.2
  let traceMargin := readU16 preCount.2
  { channels := channels.1, paths := paths.1, gates := gates.1, counters := counters.1, segments := segments.1,
    signs := signs.1, lines := lines.1, patterns := { closed := closed.1, moving := moving.1, alert := alert.1 },
    listMargin := listMargin.1.toNat, preCount := preCount.1.toNat, traceMargin := traceMargin.1.toNat }

/-! ### Block 0 -/

/-- What a save programs into the erased block 0: the format word and the image length, the image, and the CRC-16 over header
and image (R181). -/
def profileBytes (p : Profile) : List Byte :=
  let body := u16 0xA640 ++ u16 p.image.length ++ p.image
  body ++ bytesBE 2 (crc16 body)

/-- The flash after a completed save: block 0 erased and programmed (R181). -/
def writeProfile (m : Flash) (p : Profile) : Flash := flashProgram (flashErase m 0 4096) 0 (profileBytes p)

/-- The bytes a .. a + n - 1 of the flash. -/
def flashBytes (m : Flash) (a n : Nat) : List Byte := (List.range n).map fun i => flashRead m (a + i)

/-- The length that the header of block 0 gives (R181). -/
def imageLength (m : Flash) : Nat := (ofBytesBE 16 (flashBytes m 2 2)).toNat

/-- What a full reset finds in block 0: a header of 0xFF throughout is no profile; the format word, a length within the block and
a CRC that checks are a profile; anything else is a bad one (R181). -/
def profileResult (m : Flash) : ProfileResult :=
  if (flashBytes m 0 4).all (· == 0xFF) then .absent
  else if ofBytesBE 16 (flashBytes m 0 2) = 0xA640 ∧ 4 + imageLength m + 2 ≤ 4096
      ∧ crc16 (flashBytes m 0 (4 + imageLength m)) = ofBytesBE 16 (flashBytes m (4 + imageLength m) 2) then .loaded
  else .bad

/-- The profile load: the result, and the configuration every block takes, the image's or the defaults (R36, R181). -/
def loadProfile (m : Flash) (preset : BitVec 3) : ProfileResult × Profile :=
  if profileResult m = .loaded then (.loaded, readImage (flashBytes m 4 (imageLength m)))
  else (profileResult m, Profile.defaults preset)

/-- Bytes for block 0 that read as a bad profile: the bytes given, but zeros where those would read as none or as a good one. -/
def asBadBlock (free : List Byte) : List Byte :=
  if profileResult (flashWriteAll [] 0 free) = .bad then free else free.map fun _ => 0

/-- The bytes of block 0 after a save that has failed: free values within what R181 says of them, that the next full reset finds a
bad profile. DESIGN CHOICE, log entry 20. -/
def badBlock (start : Nat) : List Byte := asBadBlock (freeBytes start 4096)

end Sys2Proof.Machine
end

