-- ==== Sys2Proof/Machine/LibraryEvents.lean ====
section
/-! DEFINITION. What ends an operation of the flash port (R174, R175, R177, R178, R181) and the library requests (R178 to R181,
R187). -/

namespace Sys2Proof.Machine

/-- Post the LIBRARY report. -/
def State.postLib (s : State) (f : BitVec 16) : State := s.post .library f

/-- The port is idle and the arbiter chooses (R174). The operation ticks of an idle port are 0 (R182 counts them for an operation
in flight only). DESIGN CHOICE, log entry 22. -/
def State.portFree (s : State) : State := (s.updLib fun lib => { lib with port := .idle, opTicks := 0 }).portChoice

/-- A work item has completed. -/
def State.workDone (s : State) (seq : Byte) (f : BitVec 16) : State :=
  (s.updLib fun lib => { lib with lastDone := seq }).postLib f

/-- A work item has failed (R177). -/
def State.workFailed (s : State) (it : WorkItem) (r : FailReason) : State :=
  (s.updLib fun lib => { lib with lastFailure := some (it, r) }).postLib Flag.libWriteFailed

/-! ### Fills (R175, R176) -/

/-- A fill ends with FAULT. -/
def State.fillFault (s : State) (p : Page) : State :=
  (((s.enterFaulted p).updLib fun lib => { lib with lastFillFault := some p }).postLib Flag.libFillFault).endFill p

/-- The read of a fill's strip completes: which of its 34 × 8 bits were read wrong is given. A good read makes the strip VALID
and the fill goes on, a bad read is repeated once, and a second ends the fill with FAULT. -/
def State.readDone (s : State) (err : BitVec 272) : State :=
  match s.lib.port with
  | .fill p w i retried =>
    let x := readSlotHead s.flash p i ^^^ err
    if headGood x then (State.runFill 9 (s.installStrip p w i (headData x))).portChoice
    else if retried then (s.fillFault p).portChoice
    else s.updLib fun lib => { lib with port := .fill p w i true }
  | _ => s

/-! ### PROGRAM (R177) -/

/-- A completed PROGRAM replaces the cached strip. -/
def State.replaceCached (s : State) (p : Page) (i : Fin 8) (d : StripData) : State :=
  match s.cachedWay p with
  | some w => s.installStrip p w i d
  | none => s

/-- The strip, if cached, is made INVALID. -/
def State.dropCached (s : State) (p : Page) (i : Fin 8) : State :=
  match s.cachedWay p with
  | some w => s.dropStrip p w i
  | none => s

/-- Write flash bytes. -/
def State.setFlash (s : State) (m : Flash) : State := { s with flash := m }

/-- A PROGRAM's write and read-back complete; which bits were read wrong in the read-back is given. An operation that the last tick
has taken to its limit has ended by its FLASH_TIMEOUT before (R174), here and at the end of an ERASE or a save: DEDUCED, log
entry 14. -/
def State.programDone (s : State) (err : BitVec 272) : State :=
  match s.lib.port with
  | .program seq p i d =>
    let s := s.setFlash (flashProgram s.flash (slotAddress p i) (slotBytes d))
    let s := if readSlotHead s.flash p i ^^^ err = slotHead d then
        ((((s.replaceCached p i d).unfault p).pageChanged p).askBoth).workDone seq Flag.libWriteDone
      else s.workFailed { seq := seq, kind := .program p i d } .verify
    s.portFree
  | _ => s

/-! ### ERASE (R178) -/

/-- The pages of a block: 8b to 8b + 7. -/
def blockPages (b : Fin 512) : List Page := (List.range 8).map fun i => BitVec.ofNat 12 (8 * b.val + i)

/-- Every cached strip of a page is made INVALID; the line keeps its tag. -/
def State.dropPage (s : State) (p : Page) : State :=
  match s.cachedWay p with
  | some w => s.updWay p w fun l => { l with strips := Vector.ofFn fun i => { l.strips[i] with valid := false } }
  | none => s

/-- An ERASE completes. -/
def State.eraseDone (s : State) : State :=
  match s.lib.port with
  | .erase seq b =>
    let s := s.setFlash (flashErase s.flash (4096 * b.val) (4096 * (b.val + 1)))
    let s := (blockPages b).foldl State.dropPage s
    let s := (blockPages b).foldl State.unfault s
    let s := (blockPages b).foldl State.pageChanged s
    (s.workDone seq Flag.libEraseDone).portFree
  | _ => s

/-! ### Profile save (R181) -/

/-- Block 0 after a save that has failed: its bytes are unknown, and it reads as a bad profile, whatever they are (R181).
DESIGN CHOICE, log entry 20. -/
def State.spoilProfile (s : State) : State :=
  { s with flash := flashWriteAll s.flash 0 (badBlock s.freeCount), freeCount := s.freeCount + 4096 }

/-- A profile save's erase, program and read-back complete; whether the read-back equals what was written is given. -/
def State.saveDone (s : State) (equal : Bool) : State :=
  match s.lib.port with
  | .save seq image =>
    if equal then ((s.setFlash (writeProfile s.flash image)).workDone seq Flag.libProfileSaved).portFree
    else (s.spoilProfile.workFailed { seq := seq, kind := .saveProfile } .verify).portFree
  | _ => s

/-! ### FLASH_TIMEOUT (R174, R177, R178, R181) -/

/-- The limit of an operation in ticks; a fill has none (R174). -/
def PortOp.limit : PortOp → Option Nat
  | .idle => none
  | .fill .. => none
  | .program .. => some 8
  | .erase .. => some 40
  | .save .. => some 80

/-- The operation is still busy at its limit. -/
def Library.overdue (lib : Library) : Bool :=
  match lib.port.limit with
  | some n => decide (n ≤ lib.opTicks)
  | none => false

/-- Flash bytes whose contents are unknown become free values. DESIGN CHOICE, log entry 20. -/
def State.freeFlash (s : State) (a n : Nat) : State :=
  { s with flash := flashWriteAll s.flash a (freeBytes s.freeCount n), freeCount := s.freeCount + n }

/-- The flash is reset at an operation's limit: the operation fails. -/
def State.timeoutFlash (s : State) : State :=
  if !s.lib.overdue then s
  else match s.lib.port with
    | .idle => s
    | .fill .. => s
    | .program seq p i d =>
      (((s.freeFlash (slotAddress p i) 64).dropCached p i).workFailed { seq := seq, kind := .program p i d }
        .flashTimeout).portFree
    | .erase seq b =>
      (((blockPages b).foldl State.dropPage (s.freeFlash (4096 * b.val) 4096)).workFailed
        { seq := seq, kind := .erase b } .flashTimeout).portFree
    | .save seq _ =>
      (s.spoilProfile.workFailed { seq := seq, kind := .saveProfile } .flashTimeout).portFree

/-! ### Requests (R178 to R180, R187) -/

/-- The reply data of a queued item: its sequence number and the free places left (R178, R187). DEDUCED, log entry 30. -/
def queuedData (seq : Byte) (s : State) : List Byte := [seq] ++ u8 s.workFree

/-- Queue an item, or refuse with QUEUE_FULL. -/
def State.applyQueue (k : WorkKind) (s : State) : Answer :=
  if 6 ≤ s.lib.workQueue.length then refuse .queueFull s
  else accept (queuedData s.lib.nextSeq (s.queueWork k)) (s.queueWork k)

/-- SAVE_PROFILE (R187). -/
def State.applySaveProfile (s : State) : Answer := s.applyQueue .saveProfile

/-- ERASE_BLOCK (R178). -/
def State.applyEraseBlock (block : Half) (s : State) : Answer :=
  if h : 1 ≤ block.toNat ∧ block.toNat ≤ 511 then s.applyQueue (.erase ⟨block.toNat, by omega⟩)
  else refuse .outOfRange s

/-- A page field 8..4095. -/
def libraryPageOf (h : Half) : Option Page := if 8 ≤ h.toNat then pageOf h else none

/-- OPEN_PAGE (R179). -/
def State.applyOpenPage (page : Half) (strip : Byte) (s : State) : Answer :=
  match libraryPageOf page, indexOf 8 strip with
  | some p, some i =>
    accept (u16 p.toNat ++ u8 i.val) (s.updLib fun lib => { lib with cursor := some (p, i) })
  | _, _ => refuse .outOfRange s

/-- The cursor after a strip is queued: the next strip, or closed after strip 7 (R179). -/
def nextCursor (p : Page) (i : Fin 8) : Option (Page × Fin 8) :=
  if h : i.val + 1 < 8 then some (p, ⟨i.val + 1, h⟩) else none

/-- PAGE_DATA (R179). -/
def State.applyPageData (d : StripData) (s : State) : Answer :=
  match s.lib.cursor with
  | none => refuse .wrongState s
  | some (p, i) =>
    if 6 ≤ s.lib.workQueue.length then refuse .queueFull s
    else
      let t := (s.updLib fun lib => { lib with cursor := nextCursor p i }).queueWork (.program p i d)
      accept ([s.lib.nextSeq] ++ u16 p.toNat ++ u8 i.val ++ u8opt ((nextCursor p i).map fun c => c.2.val) ++ u8 t.workFree) t

/-- CLEAR_FAULTS (R180). -/
def State.applyClearFaults (s : State) : Answer :=
  accept (u8 s.lib.faulted.length) (s.updLib fun lib => { lib with faulted := [] })

/-! ### READ_DIRECTORY (R180) -/

/-- A way of set k is in use by a frame in flight. -/
def State.setWayInUse (s : State) (k : Fin 32) (w : Bool) : Bool :=
  (List.finRange 2).any fun l => match (s.line l).inFlight with
    | some f => f.way == some (k, w)
    | none => false

/-- One way of a set as READ_DIRECTORY returns it. -/
def State.wayBytes (s : State) (k : Fin 32) (w : Bool) : List Byte :=
  let l := s.lib.cache[k].way w
  u8 (flagBit 0 l.valid + flagBit 1 (s.setWayInUse k w))
    ++ u16opt (if l.valid then some (32 * l.tag + k.val) else none) ++ u8 l.validMask.toNat

/-- One set as READ_DIRECTORY returns it. -/
def State.setBytes (s : State) (k : Fin 32) : List Byte :=
  u8 (flagBit 0 s.lib.cache[k].lru1) ++ s.wayBytes k false ++ s.wayBytes k true

/-- The page or block that a work item names, 0 for a save. -/
def WorkKind.place : WorkKind → Nat
  | .program p _ _ => p.toNat
  | .erase b => b.val
  | .saveProfile => 0

/-- The strip that a work item names. -/
def WorkKind.strip : WorkKind → Option Nat
  | .program _ i _ => some i.val
  | .erase _ => none
  | .saveProfile => none

/-- A work item as READ_DIRECTORY returns it. -/
def WorkItem.bytes (it : WorkItem) : List Byte := [it.seq] ++ u8 it.kind.code ++ u16 it.kind.place ++ u8opt it.kind.strip

/-- A fill request as READ_DIRECTORY returns it. -/
def FillRequest.bytes (r : FillRequest) : List Byte :=
  u16 r.page.toNat ++ [r.strips] ++ u8 (flagBit 0 r.inService)

/-- READ_DIRECTORY (R180). -/
def State.applyReadDirectory (first count : Byte) (s : State) : Answer :=
  match indexOf 32 first with
  | none => refuse .outOfRange s
  | some k =>
    let sets := (List.finRange 32).filter fun j =>
      decide (k.val ≤ j.val) && decide (j.val < k.val + clampNat 1 8 count.toNat)
    accept
      (u8 sets.length ++ sets.flatMap s.setBytes
        ++ u8 s.lib.faulted.length ++ s.lib.faulted.flatMap (fun p => u16 p.toNat)
        ++ u8 s.lib.missQueue.length ++ s.lib.missQueue.flatMap FillRequest.bytes
        ++ u8 s.lib.workQueue.length ++ s.lib.workQueue.flatMap WorkItem.bytes)
      s

end Sys2Proof.Machine
end

