-- ==== Sys2Proof/Machine/Notices.lean ====
section
/-! DEFINITION. The notice list: numbers, the margin, notice states against the pass clock and what they hand on (R104 to R112). -/

namespace Sys2Proof.Machine

/-- Post a notice slot's report. -/
def State.postNotice (s : State) (i : Fin 24) (f : BitVec 16) : State := s.post (.notice i) f

/-- A live state (R104). -/
def NoticeState.live : NoticeState → Bool
  | .pending => true
  | .posted => true
  | .inForce => true
  | .lifted => false
  | .cancelled => false

/-- The free count (R105). -/
def NoticeList.freeCount (l : NoticeList) : Nat := ((List.finRange 24).filter fun i => l.slots[i] == none).length

/-- A slot holds the number (R106). -/
def NoticeList.holdsNumber (l : NoticeList) (k : Nat) : Bool :=
  (List.finRange 24).any fun i => match l.slots[i] with
    | some x => x.number == k
    | none => false

/-- The number after a number: 1 follows 255. -/
def numberAfter (k : Nat) : Nat := k % 255 + 1

/-- The first number from k on that no slot holds; at most 24 are held (R106). -/
def NoticeList.search (l : NoticeList) : Nat → Nat → Nat
  | 0, k => k
  | n + 1, k => if l.holdsNumber k then search l n (numberAfter k) else k

/-- The number of the next notice (R106). -/
def NoticeList.nextNumber (l : NoticeList) : Nat := l.search 24 (numberAfter l.lastNumber)

/-- The slot whose notice has the number. -/
def NoticeList.slotOf (l : NoticeList) (k : Nat) : Option (Fin 24) :=
  (List.finRange 24).find? fun i => match l.slots[i] with
    | some x => x.number == k
    | none => false

/-- The near-full check at a change of the free count or of the margin (R112). -/
def State.checkListMargin (s : State) : State :=
  if s.notices.freeCount ≤ s.notices.margin then
    if s.notices.spent then s
    else { s with notices := { s.notices with spent := true } }.post .system Flag.listNearFull
  else { s with notices := { s.notices with spent := false } }

/-- The announce point of a notice with a start (R104). -/
def Notice.announcePoint (x : Notice) (start : Nat) : Nat := start - 60 * x.lead

/-- The target of an evaluation at second n; none for removal (R109). -/
def Notice.target (x : Notice) (n : Nat) : Option NoticeState :=
  if (match x.stop with | some e => decide (e ≤ n) | none => false) then none
  else match x.start with
    | none => some .inForce
    | some t =>
      if t ≤ n then some .inForce
      else if x.announcePoint t ≤ n then some .posted
      else some .pending

/-- The segments a notice names, ascending. -/
def Notice.segmentList (x : Notice) : List (Fin 4) := bitsOf x.segments

/-- Write a slot. -/
def State.setSlot (s : State) (i : Fin 24) (x : Option Notice) : State :=
  { s with notices := { s.notices with slots := s.notices.slots.set i x } }

/-- The open-posture evaluation of each named segment (R110). -/
def State.evalNamed (s : State) (x : Notice) : State := x.segmentList.foldl State.evalOpen s

/-- Add a notice's cause to each named segment (R110). -/
def State.addNotice (s : State) (x : Notice) : State :=
  x.segmentList.foldl (fun s i => s.addCause i (.notice x.number)) s

/-- Remove a notice's cause from each named segment (R110). -/
def State.dropNotice (s : State) (x : Notice) : State :=
  x.segmentList.foldl (fun s i => s.removeCause i (.notice x.number)) s

/-- A notice, already written into its slot, has entered a live state: the report, then the hand-overs (R110). -/
def State.noticeEntered (s : State) (i : Fin 24) (x : Notice) (flags : BitVec 16) : State :=
  let s := s.postNotice i flags
  let s := if x.state = .inForce then s.addNotice x else s
  (s.evalNamed x).replan

/-- A live notice moves forward to POSTED or IN_FORCE. DEDUCED, log entry 26. -/
def State.noticeTo (s : State) (i : Fin 24) (x : Notice) (v : NoticeState) : State :=
  (s.setSlot i (some { x with state := v })).noticeEntered i { x with state := v } Flag.noticeState

/-- A notice is removed with a final state: its causes go, it leaves the list order and keeps its slot (R110).
DEDUCED, log entry 26. -/
def State.removeNotice (s : State) (i : Fin 24) (x : Notice) (v : NoticeState) : State :=
  let s := if x.state = .inForce then s.dropNotice x else s
  let s := s.setSlot i (some { x with state := v })
  let s := { s with notices := { s.notices with order := s.notices.order.filter (· != i) } }
  ((s.postNotice i (Flag.noticeState ||| Flag.noticeRemoved)).evalNamed x).replan

/-- The evaluation of one live notice at second n; states move forward only (R109). -/
def State.evalNotice (n : Nat) (s : State) (i : Fin 24) : State :=
  match s.notices.slots[i] with
  | none => s
  | some x =>
    if !x.state.live then s
    else match x.target n with
      | none => s.removeNotice i x .lifted
      | some v => if x.state.code < v.code then s.noticeTo i x v else s

/-- Every live notice is evaluated, in list order, at second n (R109). -/
def State.evalNotices (s : State) (n : Nat) : State := s.notices.order.foldl (State.evalNotice n) s

/-- The LIF has taken a NOTICE report: a slot that holds a removed notice is released (R105). -/
def State.releaseSlot (s : State) (i : Fin 24) : State :=
  match s.notices.slots[i] with
  | some x => if x.state.live then s else (s.setSlot i none).checkListMargin
  | none => s

/-- The pass clock gains a second and the NLU evaluates (R109, R186). -/
def State.clockSecond (s : State) : State :=
  match s.tmb.passClock with
  | some n =>
    if n < 0xFFFFFFFE then
      { s with tmb := { s.tmb with passClock := some (n + 1) } }.evalNotices (n + 1)
    else s
  | none => s

end Sys2Proof.Machine
end

