-- ==== Sys2Proof/Machine/Events.lean ====
section
/-! DEFINITION. The timebase and the timers: what a tick and a flash step advance, which events they make due, and what each
event does when it is taken (R1, R26, R66 to R70, R88, R98, R123, R139, R150, R164, R167, R174, R186). -/

namespace Sys2Proof.Machine

/-! ### Signs and lines at an event of their timers -/

/-- An owed refresh: the slot timer has reached 0 (R150, step 3). -/
def Sign.refreshFalls (now : Tick) (g : Sign) : Sign :=
  if g.shown.page = none then { g with owed := 0, slotTimer := g.slotPeriod }
  else
    { g with owed := min (g.owed + 1) g.granularity.frames, slotTimer := g.slotPeriod,
             refreshSince := (if g.owed = 0 then now else g.refreshSince) }

/-- REFRESH_DUE (R150, step 3): a refresh need that arises has the line arbitrate (R141). -/
def State.refreshDue (s : State) (n : Fin 16) : State :=
  let g := s.sign n
  if g.counted ∧ g.slotTimer = 0 then
    let s := s.updSign n (Sign.refreshFalls s.now)
    if g.owed = 0 ∧ (s.sign n).owed ≠ 0 then s.askArbitration (lineOf n) else s
  else s

/-- A sign that is no longer HELD at step 3 of the tick has its slot timer lowered by it, and what that brings on (R150). -/
def State.lowerSlot (s : State) (n : Fin 16) : State :=
  (s.updSign n fun g => { g with slotTimer := g.slotTimer - 1 }).refreshDue n

/-- SIGN_LAPSED (R150, step 2): a HELD sign that lapses takes step 3 of the same tick here, which the others have taken with the
tick itself; the recomputation of the load follows (R156). -/
def State.signLapses (s : State) (n : Fin 16) : State :=
  let g := s.sign n
  let s := s.checkLapse n
  let s := if g.service = .held ∧ (s.sign n).service = .lapsed then s.lowerSlot n else s
  s.settleCounted n g

/-- The poll interval of a service state; 0 where nothing is polled (R139). -/
def Service.pollInterval : Service → Nat
  | .blank => 480
  | .shed => 480
  | .offline => 80
  | .absent => 0
  | .showing => 0
  | .lapsed => 0
  | .held => 0

/-- The poll count has reached the interval and no poll need stands (R139). -/
def Sign.pollFalls (g : Sign) : Bool :=
  g.service.pollInterval != 0 && decide (g.service.pollInterval ≤ g.pollCount) && g.pollNeed == none

/-- POLL_DUE (R139). -/
def State.pollDue (s : State) (n : Fin 16) : State :=
  if (s.sign n).pollFalls then
    (s.updSign n fun g => { g with pollNeed := some s.now }).askArbitration (lineOf n)
  else s

/-- The dwell count has reached the dwell of a rotation of more than one page on a sign that is SHOWING or LAPSED (R123). -/
def Sign.rotates (g : Sign) : Bool := g.counted && decide (1 < g.rotation.length) && decide (g.cfg.dwell ≤ g.dwellCount)

/-- ROTATION_STEP (R123). -/
def State.rotationStep (s : State) (n : Fin 16) : State :=
  if (s.sign n).rotates then (s.updSign n (Sign.stepRotation s.now)).needRaised n 2 else s

/-- A candidate at class HAZARD, RESTORE or CONTENT. -/
def Candidate.isContent (c : Candidate) : Bool := decide (ArbClass.content.code ≤ c.cls.code)

/-- The accounting of the line's signs that this tick still owes (R164: the check comes after it). -/
def State.owesAccounting (s : State) (l : Fin 2) : Bool :=
  (signsOf l).any fun n => s.due.contains (.lapsed n) || s.due.contains (.critical n)

/-- The entry conditions of hold (R164). That no frame was in flight has been checked at the tick, before the tick's arbitration
of the line, so that a REFRESH or POLL sent at the same tick may be in flight now: DESIGN CHOICE, log entry 44. -/
def State.mayHold (s : State) (l : Fin 2) : Bool :=
  (s.line l).state == .active && s.inReserve && (s.line l).activeCount == 80 && !s.owesAccounting l
    && ((signsOf l).all fun n =>
      (s.sign n).planClass != .hazard && (s.sign n).service != .lapsed
        && match s.candidate n with
          | some c => !c.isContent
          | none => true)

/-- Raise the HOLD need of a SHOWING sign. -/
def State.raiseHold (s : State) (n : Fin 16) : State :=
  s.updSign n fun g => if g.service = .showing then { g with holdNeed := some s.now } else g

/-- HOLD_ENTRY (R164). -/
def State.enterHold (s : State) (l : Fin 2) : State :=
  if s.mayHold l then
    let s := (signsOf l).foldl State.raiseHold (s.updLine l fun r => { r with state := .holdEntry })
    ((s.post (.line l) Flag.lineHold).checkHeld l).askArbitration l
  else s

/-- A HELD sign has reached its wake age, 2 × He (R167). -/
def Sign.wakes (g : Sign) : Bool := g.service == .held && decide (2 * g.heldSpan ≤ g.ages.oldest)

/-- HELD_WAKE_AGE (R167, cause 6). -/
def State.heldWake (s : State) (l : Fin 2) : State :=
  if (signsOf l).any fun n => (s.sign n).wakes then s.wake l 6 else s

/-! ### Flashers -/

/-- A generator's phase has run out (R98). -/
def Flasher.phaseOver (f : Flasher) : Bool := f.running != .none && f.countdown == 0

/-- FLASH_PHASE_END (R98). -/
def State.flashPhaseEnd (s : State) (i : Fin 8) : State :=
  if (s.flasher i).phaseOver then s.updFlasher i (Flasher.nextPhase s.patterns) else s

/-- A generator at a flash step (R98). -/
def Flasher.step (f : Flasher) : Flasher := if f.running = .none then f else { f with countdown := f.countdown - 1 }

/-! ### Taking an event that is due -/

/-- What an event does, by its own guard: where the state has moved on and its condition no longer holds, nothing. -/
def State.applyDue (s : State) : Due → State
  | .second => s.clockSecond
  | .sampling => s.sample s.analog
  | .chFault i => s.channelFaults i
  | .chRecover i => s.channelRecovers i
  | .chRefFault i => s.channelRefFault i
  | .chActive i => s.channelActive i
  | .chQuiet i => s.channelQuiet i
  | .confirmTimeout i => s.timeoutConfirm i
  | .leadEnd i => s.endLead i
  | .stall i => if (s.gate i).stalled then s.gateFault i .stall else s
  | .motion i => if (s.gate i).timedOut then s.gateFault i .timeout else s
  | .pause i => if (s.gate i).pauseEnds then s.endPause i else s
  | .relower i => if (s.gate i).relowers then s.relowerGate i else s
  | .stuck i => s.becomeStuck i
  | .stuckLeft i => s.leaveStuck i
  | .rotation i => s.rotationStep i
  | .refresh i => s.refreshDue i
  | .lapsed i => s.signLapses i
  | .critical i => s.checkCritical i
  | .poll i => s.pollDue i
  | .holdEntry l => s.enterHold l
  | .heldWake l => s.heldWake l
  | .phaseEnd i => s.flashPhaseEnd i
  | .flashTimeout => s.timeoutFlash

/-- An entry leaves the list of due events and takes effect. -/
def State.takeOne (s : State) (d : Due) : State := { s with due := s.due.erase d }.applyDue d

/-- The entries of a sampling tick, whose order R27 to R31 fix. -/
def Due.isChannel : Due → Bool
  | .chFault _ => true
  | .chRecover _ => true
  | .chRefFault _ => true
  | .chActive _ => true
  | .chQuiet _ => true
  | _ => false

/-- The entries that stand for no row of the table: they come about inside the step before them (95). -/
def Due.isSilent : Due → Bool
  | .chFault _ => true
  | .chRefFault _ => true
  | _ => false

/-- The channel entries that are owed, in their order. -/
def State.channelDue (s : State) : List Due := s.due.filter Due.isChannel

/-- The silent entries that now stand first among the channel entries come about. -/
def State.takeSilent (s : State) : State := (s.channelDue.takeWhile Due.isSilent).foldl State.takeOne s

/-- The channel entries that are owed before an entry. -/
def State.channelBefore (s : State) (d : Due) : List Due := s.channelDue.takeWhile (· != d)

/-- Take an event that is due. A channel entry takes with it the channel entries before it, so that their order stands, and the
silent ones after it. -/
def State.takeEvent (s : State) (d : Due) : State :=
  if d.isChannel then ((s.channelBefore d ++ [d]).foldl State.takeOne s).takeSilent
  else if d = .sampling then (s.takeOne d).takeSilent
  else s.takeOne d

/-- A step that takes an event: where the event is not due, nothing happens. DESIGN CHOICE, log entry 2. -/
def State.runEvent (s : State) (d : Due) : State := if s.due.contains d then State.conclude s (s.takeEvent d) else s

/-- Every event that is due is taken, in order; a sampling tick brings on channel entries, which the second round takes. A sampling
tick taken here uses the levels held: DESIGN CHOICE, log entry 4. -/
def State.settleDue (s : State) : State :=
  let t := s.due.foldl State.runEvent s
  t.due.foldl State.runEvent t

/-! ### The tick (R186) -/

/-- A segment at a tick (R1). -/
def Segment.tick (r : Segment) : Segment :=
  if r.phase = .noPhase then r else { r with phaseTimer := min 65535 (r.phaseTimer + 1) }

/-- A sign at a tick: ages, slot timer and dwell count, or the poll count (R123, R139, R150). The dwell count goes by the service
state before the tick's lapses, so that a HELD sign that lapses at a tick gains no dwell at it: DESIGN CHOICE, log entry 51. -/
def Sign.tick (g : Sign) : Sign :=
  let aged := g.ages.map fun a => min g.lapsePoint (a + 1)
  match g.service with
  | .absent => g
  | .showing =>
    { g with ages := aged, slotTimer := g.slotTimer - 1,
             dwellCount := (if 1 < g.rotation.length then g.dwellCount + 1 else g.dwellCount) }
  | .lapsed =>
    { g with ages := aged, slotTimer := g.slotTimer - 1,
             dwellCount := (if 1 < g.rotation.length then g.dwellCount + 1 else g.dwellCount) }
  | .held => { g with ages := aged }
  | .blank => { g with pollCount := min g.service.pollInterval (g.pollCount + 1) }
  | .shed => { g with pollCount := min g.service.pollInterval (g.pollCount + 1) }
  | .offline => { g with pollCount := min g.service.pollInterval (g.pollCount + 1) }

/-- A line at a tick (R164). -/
def Line.tick (r : Line) : Line := if r.state = .active then { r with activeCount := min 80 (r.activeCount + 1) } else r

/-- The library at a tick: the operation's ticks (R174, R182). -/
def Library.tick (b : Library) : Library := if b.port = .idle then b else { b with opTicks := min 255 (b.opTicks + 1) }

/-- The timebase at a tick; the pass clock gains its second with the event (R109, R186). -/
def Timebase.tick (t : Timebase) : Timebase :=
  { t with tickCounter := t.tickCounter + 1, tickInSecond := (if t.tickInSecond < 7 then t.tickInSecond + 1 else 0) }

/-- The second passes at this tick and the pass clock counts it (R186). -/
def Timebase.passes (t : Timebase) : Bool :=
  decide (7 ≤ t.tickInSecond) && match t.passClock with
    | some n => decide (n < 0xFFFFFFFE)
    | none => false

/-- An event, if its condition holds. -/
def dueIf (c : Bool) (d : Due) : List Due := if c then [d] else []

/-- What a gate owes after a tick; TIMEOUT outranks STALL (R67). -/
def Gate.dueAfter (old g : Gate) (i : Fin 6) : List Due :=
  dueIf g.timedOut (.motion i) ++ dueIf (g.stalled && !g.timedOut) (.stall i)
    ++ dueIf (g.pauseEnds && !old.pauseElapsed) (.pause i) ++ dueIf g.relowers (.relower i)

/-- What a sign owes after a tick. -/
def Sign.dueAfter (g : Sign) (n : Fin 16) : List Due :=
  dueIf ((g.service == .showing || g.service == .held) && decide (g.lapsePoint ≤ g.ages.oldest)) (.lapsed n)
    ++ dueIf (g.counted && g.slotTimer == 0) (.refresh n)
    ++ dueIf (g.counted && decide (g.critical ≤ g.ages.oldest) && g.restoreNeed == none) (.critical n)
    ++ dueIf g.pollFalls (.poll n) ++ dueIf g.rotates (.rotation n)

/-- A held wake is due on a line (R167). -/
def State.wakeDue (s : State) (l : Fin 2) : Bool :=
  ((s.line l).state == .holdEntry || (s.line l).state == .held) && (signsOf l).any fun n => (s.sign n).wakes

/-- The check of the entry to hold is due on a line: ACTIVE for 80 ticks in RESERVE with no frame in flight (R164). -/
def State.holdDue (s : State) (l : Fin 2) : Bool :=
  (s.line l).state == .active && (s.line l).activeCount == 80 && s.inReserve && (s.line l).inFlight.isNone

/-- Every timer that a tick paces advances by one tick. -/
def State.advance (s : State) : State :=
  { s with
    tmb := s.tmb.tick
    segments := Vector.ofFn fun i => (s.segment i).tick
    economy := (if s.isSamplingTick then 0 else s.economy + 1)
    gates := Vector.ofFn fun i => (s.gate i).tick
    counters := Vector.ofFn fun i => (s.counter i).tick
    signs := Vector.ofFn fun i => (s.sign i).tick
    lines := Vector.ofFn fun i => (s.line i).tick
    lib := s.lib.tick }

/-- The events that a tick makes due, from the state before it and the state with its timers advanced. -/
def State.dueAfter (s t : State) : List Due :=
  dueIf s.tmb.passes .second ++ dueIf s.isSamplingTick .sampling
    ++ ((List.finRange 4).flatMap fun i =>
      dueIf (t.segment i).confirmOver (.confirmTimeout i) ++ dueIf (t.segment i).leadOver (.leadEnd i))
    ++ ((List.finRange 6).flatMap fun i => (s.gate i).dueAfter (t.gate i) i)
    ++ ((List.finRange 12).flatMap fun i =>
      dueIf (t.counter i).becomesStuck (.stuck i) ++ dueIf (t.counter i).leavesStuck (.stuckLeft i))
    ++ ((List.finRange 2).flatMap fun l => dueIf (t.wakeDue l) (.heldWake l))
    ++ ((List.finRange 16).flatMap fun n => (t.sign n).dueAfter n)
    ++ ((List.finRange 2).flatMap fun l => dueIf (t.holdDue l) (.holdEntry l))
    ++ dueIf t.lib.overdue .flashTimeout

/-- A tick event on a state that owes nothing: the timers, the events they make due, and an arbitration of both lines
(R141, R186). -/
def State.tickOnce (s : State) : State :=
  let t := s.advance
  { t with due := t.due ++ s.dueAfter t }.askBoth

/-! ### Commands that find nothing owed -/

/-- A command that comes after a tick, a sampling tick or a flash step finds every event taken that this has made due; its own
effect and the end of the step follow. DEDUCED, log entry 14. -/
def State.command (s : State) (effect : State → State) : State :=
  let s := s.settleDue
  State.conclude s (effect s)

/-- A tick event. -/
def State.tick (s : State) : State := s.command State.tickOnce

/-! ### The flash step (R98) -/

/-- A flash-step event on a state that owes nothing: every running generator counts down, and a phase end is due where its countdown
reaches 0. -/
def State.flashStepOnce (s : State) : State :=
  let t := { s with flashers := Vector.ofFn fun i => (s.flasher i).step }
  { t with due := t.due ++ (List.finRange 8).flatMap fun i => dueIf (t.flasher i).phaseOver (.phaseEnd i) }

/-- A flash-step event. -/
def State.flashStep (s : State) : State := s.command State.flashStepOnce

/-! ### The commands of the timebase and the timers -/

/-- TICK (R186). DESIGN CHOICE, log entry 34. -/
def execTick (s : State) : Host.Outcome State Fault Refusal := .next s.tick

/-- PASS_CLOCK_SECOND (R109). -/
def execPassClockSecond (s : State) : Host.Outcome State Fault Refusal := .next (s.runEvent .second)

/-- FLASH_STEP (R98). -/
def execFlashStep (s : State) : Host.Outcome State Fault Refusal := .next s.flashStep

/-- FLASH_PHASE_END (R98). -/
def execFlashPhaseEnd (i : Fin 8) (s : State) : Host.Outcome State Fault Refusal := .next (s.runEvent (.phaseEnd i))

/-- SAMPLING_TICK (R27) with the sixteen conversions of the tick. -/
def State.samplingTick (x : Vector (BitVec 12) 16) (s : State) : State :=
  if s.due.contains .sampling then State.conclude s ({ s with analog := x }.takeEvent .sampling) else s

/-- SAMPLING_TICK (R27). -/
def execSamplingTick (x : Vector (BitVec 12) 16) (s : State) : Host.Outcome State Fault Refusal := .next (s.samplingTick x)

/-- CH_RECOVER (R28). -/
def execChRecover (i : Fin 16) (s : State) : Host.Outcome State Fault Refusal := .next (s.runEvent (.chRecover i))

/-- CH_ACTIVE (R30). -/
def execChActive (i : Fin 16) (s : State) : Host.Outcome State Fault Refusal := .next (s.runEvent (.chActive i))

/-- CH_QUIET (R30). -/
def execChQuiet (i : Fin 16) (s : State) : Host.Outcome State Fault Refusal := .next (s.runEvent (.chQuiet i))

/-- CONFIRM_TIMEOUT (R8). -/
def execConfirmTimeout (i : Fin 4) (s : State) : Host.Outcome State Fault Refusal := .next (s.runEvent (.confirmTimeout i))

/-- LEAD_END (R9). -/
def execLeadEnd (i : Fin 4) (s : State) : Host.Outcome State Fault Refusal := .next (s.runEvent (.leadEnd i))

/-- STALL_FAULT (R66). -/
def execStallFault (i : Fin 6) (s : State) : Host.Outcome State Fault Refusal := .next (s.runEvent (.stall i))

/-- MOTION_TIMEOUT (R67). -/
def execMotionTimeout (i : Fin 6) (s : State) : Host.Outcome State Fault Refusal := .next (s.runEvent (.motion i))

/-- PAUSE_END (R68). -/
def execPauseEnd (i : Fin 6) (s : State) : Host.Outcome State Fault Refusal := .next (s.runEvent (.pause i))

/-- RELOWER (R70). -/
def execRelower (i : Fin 6) (s : State) : Host.Outcome State Fault Refusal := .next (s.runEvent (.relower i))

/-- STUCK (R88). -/
def execStuck (i : Fin 12) (s : State) : Host.Outcome State Fault Refusal := .next (s.runEvent (.stuck i))

/-- STUCK_LEFT (R89). -/
def execStuckLeft (i : Fin 12) (s : State) : Host.Outcome State Fault Refusal := .next (s.runEvent (.stuckLeft i))

/-- ROTATION_STEP (R123). -/
def execRotationStep (n : Fin 16) (s : State) : Host.Outcome State Fault Refusal := .next (s.runEvent (.rotation n))

/-- REFRESH_DUE (R150). -/
def execRefreshDue (n : Fin 16) (s : State) : Host.Outcome State Fault Refusal := .next (s.runEvent (.refresh n))

/-- SIGN_LAPSED (R150). -/
def execSignLapsed (n : Fin 16) (s : State) : Host.Outcome State Fault Refusal := .next (s.runEvent (.lapsed n))

/-- CRITICAL_POINT (R150). -/
def execCriticalPoint (n : Fin 16) (s : State) : Host.Outcome State Fault Refusal := .next (s.runEvent (.critical n))

/-- POLL_DUE (R139). -/
def execPollDue (n : Fin 16) (s : State) : Host.Outcome State Fault Refusal := .next (s.runEvent (.poll n))

/-- HOLD_ENTRY (R164). -/
def execHoldEntry (l : Fin 2) (s : State) : Host.Outcome State Fault Refusal := .next (s.runEvent (.holdEntry l))

/-- HELD_WAKE_AGE (R167). -/
def execHeldWakeAge (l : Fin 2) (s : State) : Host.Outcome State Fault Refusal := .next (s.runEvent (.heldWake l))

/-- FLASH_TIMEOUT (R174). -/
def execFlashTimeout (s : State) : Host.Outcome State Fault Refusal := .next (s.runEvent .flashTimeout)

/-! ### The commands of the input pins -/

/-- LIMIT_ARRIVAL (R64). -/
def execLimitArrival (i : Fin 6) (side : LimitSide) (s : State) : Host.Outcome State Fault Refusal :=
  .next (s.command fun s => s.limitArrives i side)

/-- LIMIT_LOST (R65). -/
def execLimitLost (i : Fin 6) (side : LimitSide) (s : State) : Host.Outcome State Fault Refusal :=
  .next (s.command fun s => s.limitDeparts i side)

/-- PRESENCE_CHANGE (R69). -/
def execPresenceChange (i : Fin 6) (level : Bool) (s : State) : Host.Outcome State Fault Refusal :=
  .next (s.command fun s => s.presenceTo i level)

/-- ENCODER_STEP (R82, R83). -/
def execEncoderStep (i : Fin 12) (a b : Bool) (s : State) : Host.Outcome State Fault Refusal :=
  .next (s.command fun s => s.observe i a b)

/-- LOOP_INPUT_CHANGE (R82, R85, R88). -/
def execLoopInputChange (i : Fin 12) (a b : Bool) (s : State) : Host.Outcome State Fault Refusal :=
  .next (s.command fun s => s.observe i a b)

/-- SUPPLY_LOW_CHANGE (R16). -/
def execSupplyLowChange (level : Bool) (s : State) : Host.Outcome State Fault Refusal :=
  .next (s.command fun s => s.setPower s.reserveRequest level)

/-! ### The commands of the flash port -/

/-- FLASH_READ_DONE (R175). -/
def execFlashReadDone (readError : BitVec 272) (s : State) : Host.Outcome State Fault Refusal :=
  .next (s.command fun s => s.readDone readError)

/-- PROGRAM_DONE (R177). -/
def execProgramDone (readError : BitVec 272) (s : State) : Host.Outcome State Fault Refusal :=
  .next (s.command fun s => s.programDone readError)

/-- ERASE_DONE (R178). -/
def execEraseDone (s : State) : Host.Outcome State Fault Refusal := .next (s.command State.eraseDone)

/-- PROFILE_SAVED (R181). -/
def execProfileSaved (readBackEqual : Bool) (s : State) : Host.Outcome State Fault Refusal :=
  .next (s.command fun s => s.saveDone readBackEqual)

end Sys2Proof.Machine
end

