-- ==== Sys2Proof/Machine/Exchange.lean ====
section
/-! DEFINITION. The end of an attempt on a sign line: replies, the displayed record, the effects of an ACK on service state,
needs and retention, resends and OFFLINE (R124, R134 to R137, R139, R151, R157, R165). -/

namespace Sys2Proof.Machine

/-! ### Replies (R133, R134, R193) -/

/-- The result byte of a valid reply. -/
inductive ReplyResult where
  | ack
  | check
  | mismatch
  deriving DecidableEq, Repr

/-- A valid reply: its result, status flags and temperature, clamped to -60..+80. -/
structure SignReply where
  result      : ReplyResult
  status      : SignStatus
  temperature : Int
  deriving DecidableEq, Repr

/-- The status flags of a status byte (R193). -/
def SignStatus.ofByte (b : Byte) : SignStatus :=
  { blanked := b.getLsbD 0, held := b.getLsbD 1, door := b.getLsbD 2, pixelFault := b.getLsbD 3 }

/-- The result that a result byte names (R193). -/
def replyResultOf (b : Byte) : Option ReplyResult :=
  match b.toNat with
  | 0 => some .ack
  | 1 => some .check
  | 2 => some .mismatch
  | _ => none

/-- The reply that eight bytes make to a frame: none where they are no valid reply (R134, R193). -/
def readReply (f : Frame) (bytes : BitVec 64) : Option SignReply :=
  match bytesBE 8 bytes with
  | [start, address, kind, result, status, temperature, c1, c0] =>
    if start = 0x5A ∧ address.toNat = f.address.val + 0x80 ∧ kind.toNat = f.kind.wire
        ∧ crc16 [address, kind, result, status, temperature] = ofBytesBE 16 [c1, c0] then
      (replyResultOf result).map fun r =>
        { result := r, status := SignStatus.ofByte status, temperature := clampInt (-60) 80 temperature.toInt }
    else none
  | _ => none

/-! ### The displayed record (R124) -/

/-- The record that an acknowledged CONTENT or BLANK frame writes. -/
def Frame.displays (f : Frame) : Displayed :=
  if f.kind = .content then { page := f.page, cls := f.builtClass, confirmed := true, fallback := f.fallback }
  else if f.fallback then { page := none, cls := f.builtClass, confirmed := true, fallback := true }
  else { page := none, cls := .blank, confirmed := true, fallback := false }

/-- The need as it is settled at the write against the plan as it stands; a BLANK sent by shedding settles nothing. -/
def Sign.settleNeed (now : Tick) (f : Frame) (g : Sign) : Need :=
  if f.shedding then g.need
  else if f.fallback then
    if f.wanted = g.wanted ∧ f.builtClass = g.planClass then .recovery now else g.need
  else if f.kind = .content then
    if f.page = g.wanted ∧ f.builtClass = g.planClass then .none else g.need
  else if g.planClass = .blank then .none
  else g.need

/-- The event flags of a change of displayed record. -/
def displayFlags (a b : Displayed) : BitVec 16 :=
  (if a = b then 0 else Flag.signDisplay) ||| (if a.fallback = b.fallback then 0 else Flag.signFallback)

/-- An acknowledged CONTENT or BLANK frame writes the displayed record and settles the need. -/
def State.writeDisplayed (s : State) (n : Fin 16) (f : Frame) : State :=
  let g := s.sign n
  let fl := displayFlags g.shown f.displays
  (s.setSign n { g with shown := f.displays, need := g.settleNeed s.now f }).postIf (fl != 0) (.sign n) fl

/-! ### Retention at an ACK (R151) -/

/-- e: the ticks since the frame-start tick of the attempt answered, at most the lapse point. -/
def Sign.elapsed (now : Tick) (f : Frame) (g : Sign) : Nat := min g.lapsePoint (ticksSince now f.startTick)

/-- The retention fields after a CONTENT ACK. -/
def Sign.afterContent (now : Tick) (f : Frame) (g : Sign) : Sign :=
  { g with ages := Ages.all (g.elapsed now f), owed := 0, cursor := 0, slotTimer := g.slotPeriod }

/-- The retention fields after a REFRESH ACK. -/
def Sign.afterRefresh (now : Tick) (f : Frame) (g : Sign) : Sign :=
  { g with ages := g.ages.setFrom f.firstBand f.bands (g.elapsed now f), owed := g.owed - 1,
           cursor := (f.firstBand + f.bands) % 4 }

/-- The check of a sign after an update of its ages: steps 2 and 4 of R150. -/
def State.checkAges (s : State) (n : Fin 16) : State := (s.checkLapse n).checkCritical n

/-! ### ACKs (R136, R157, R165) -/

/-- Clear the restore need. -/
def State.clearRestore (s : State) (n : Fin 16) : State := s.updSign n fun g => { g with restoreNeed := none }

/-- A HOLD ACK: with HELD the sign becomes HELD, also one that lapsed while the frame was in flight, and where the line is no
longer entering hold its restore need is raised at once (R165; ABSENT and SHED signs do not come here, R136, R157); with neither
HELD nor BLANKED the service state stays and the line is woken (R165, R167). DEDUCED, log entry 15. -/
def State.ackHold (s : State) (n : Fin 16) (st : SignStatus) : State :=
  if st.held then
    let s := s.changeService n .held
    if (s.line (lineOf n)).state = .holdEntry ∨ (s.line (lineOf n)).state = .held then s else s.raiseRestore n
  else if st.blanked then s
  else s.wake (lineOf n) 7

/-- The effects of an ACK on a sign that is neither ABSENT nor SHED (R136, R151). -/
def State.ackSign (s : State) (n : Fin 16) (f : Frame) (st : SignStatus) : State :=
  match f.kind with
  | .content =>
    ((((s.writeDisplayed n f).changeService n .showing).clearRestore n).updSign n (Sign.afterContent s.now f)).checkAges n
  | .refresh => (s.updSign n (Sign.afterRefresh s.now f)).checkAges n
  | .blank =>
    let s := s.writeDisplayed n f
    if f.shedding then s else (s.changeService n .blank).clearRestore n
  | .hold => s.ackHold n st
  | .poll => if (s.sign n).service = .offline then s.changeService n .lapsed else s

/-- The effects of an ACK on a SHED sign, of the shedding BLANK or of a frame sent before the shedding (R157). -/
def State.ackShed (s : State) (n : Fin 16) (f : Frame) : State :=
  let s := if f.kind = .content ∨ f.kind = .blank then s.writeDisplayed n f else s
  if f.shedding then s.updSign n fun g => { g with shedNeed := none } else s

/-! ### Status and temperature (R137) -/

/-- The event flags of a change of status. -/
def statusFlags (a b : SignStatus) : BitVec 16 :=
  (if a.door = b.door then 0 else Flag.signDoor) ||| (if a.pixelFault = b.pixelFault then 0 else Flag.signPixelFault)

/-- A valid reply writes the status flags and the temperature. -/
def State.writeStatus (s : State) (n : Fin 16) (r : SignReply) : State :=
  let g := s.sign n
  let fl := statusFlags g.status r.status
  (s.setSign n { g with status := r.status, temperature := some r.temperature }).postIf (fl != 0) (.sign n) fl

/-- The temperature of an ACK moves the band on a line whose band mode is AUTO (R148). -/
def State.bandRule (s : State) (n : Fin 16) (t : Int) : State :=
  if (s.line (lineOf n)).cfg.bandMode = .auto then s.setBand n ((s.sign n).band.moved t) else s

/-- BLANKED in a reply to a REFRESH, HOLD or POLL frame takes a SHOWING or HELD sign to LAPSED. -/
def State.takeBlanked (s : State) (n : Fin 16) (f : Frame) (st : SignStatus) : State :=
  let g := s.sign n
  if st.blanked ∧ (f.kind = .refresh ∨ f.kind = .hold ∨ f.kind = .poll) ∧ (g.service = .showing ∨ g.service = .held) then
    s.enterService n .lapsed
  else s

/-! ### The end of a frame (R135, R139, R154, R174) -/

/-- The line is idle again. -/
def State.clearFlight (s : State) (l : Fin 2) : State := s.updLine l fun r => { r with inFlight := none, txBuffer := [] }

/-- The end of any frame to a sign: its poll count and poll need (R139), and its HOLD need where the frame was HOLD (R165). -/
def State.frameEnded (s : State) (n : Fin 16) (f : Frame) : State :=
  s.updSign n fun g =>
    { g with pollCount := 0, pollNeed := none, holdNeed := (if f.kind = .hold then none else g.holdNeed) }

/-- What follows the end of a frame: the port arbiter (R174) and an arbitration of the line (R141), in this order, so that a
waiting fill can take the way of the page that the line would send next. DESIGN CHOICE, log entry 53. -/
def State.lineIdle (s : State) (l : Fin 2) : State := s.portChoice.askArbitration l

/-- A frame ends with an ACK. An ACK to a sign that is ABSENT when it arrives is taken off the line, and the end of the frame is
still a boundary for adoption (R136, R154). A sign that became ABSENT and was configured again in flight takes the ACK whole:
DESIGN CHOICE, log entry 40. The order of the effects: DEDUCED, log entry 16. -/
def State.endAck (s : State) (l : Fin 2) (f : Frame) (r : SignReply) : State :=
  let n := signAt l f.address
  let before := s.sign n
  let s := s.clearFlight l
  if before.service = .absent then (s.adoptSigns l [n]).lineIdle l
  else
    let s := if before.service = .shed then s.ackShed n f else s.ackSign n f r.status
    let s := (s.frameEnded n f).settleCounted n before
    let s := ((s.adoptSigns l [n]).writeStatus n r).bandRule n r.temperature
    (((s.takeBlanked n f r.status).checkHeld l).checkResume l).lineIdle l

/-- A NAK MISMATCH to a REFRESH frame ends the frame (R137). DEDUCED, log entry 17. From a sign that is ABSENT by then it writes
and posts nothing: DESIGN CHOICE, log entry 40. -/
def State.endMismatch (s : State) (l : Fin 2) (f : Frame) (r : SignReply) : State :=
  let n := signAt l f.address
  let before := s.sign n
  let s := s.clearFlight l
  if before.service = .absent then (s.adoptSigns l [n]).lineIdle l
  else
    let s := (s.frameEnded n f).writeStatus n r
    let s := (s.raiseRestore n).post (.sign n) Flag.signMismatch
    ((s.takeBlanked n f r.status).adoptSigns l [n]).lineIdle l

/-- A failed attempt: a resend, or the end of the frame with the sign OFFLINE (R135). A frame that is sent once, a POLL to a sign
that was OFFLINE, ends with its first failure and leaves the service state: also that of a sign that SET_SIGN has taken out of
OFFLINE in flight (DEDUCED, log entry 46). -/
def State.failAttempt (s : State) (l : Fin 2) (f : Frame) : State :=
  let n := signAt l f.address
  let v := (s.sign n).service
  if f.attempt < 3 ∧ f.once = false then
    s.updLine l fun r =>
      { r with inFlight := some { f with attempt := f.attempt + 1, startTick := s.now, baud := r.cfg.baud } }
  else
    let s := (s.clearFlight l).frameEnded n f
    let s := if f.once ∨ v = .absent ∨ v = .offline then s else s.enterService n .offline
    (((s.adoptSigns l [n]).checkHeld l).checkResume l).lineIdle l

/-- A valid NAK that fails the attempt: its status and temperature are taken (R134, R137). DEDUCED, log entry 17. From a sign that
is ABSENT by then they are not: DESIGN CHOICE, log entry 40. -/
def State.nakAttempt (s : State) (l : Fin 2) (f : Frame) (r : SignReply) : State :=
  let n := signAt l f.address
  if (s.sign n).service = .absent then s.failAttempt l f
  else ((s.writeStatus n r).takeBlanked n f r.status).failAttempt l f

/-- Eight bytes of a reply on a line (R134 to R137); without an exchange on the line nothing is listening. -/
def State.takeReply (s : State) (l : Fin 2) (bytes : BitVec 64) : State :=
  match (s.line l).inFlight with
  | none => s
  | some f =>
    match readReply f bytes with
    | none => s.failAttempt l f
    | some r =>
      match r.result with
      | .ack => s.endAck l f r
      | .check => s.nakAttempt l f r
      | .mismatch => if f.kind = .refresh then s.endMismatch l f r else s.nakAttempt l f r

/-- No valid reply in time on a line (R134, R135). -/
def State.replyFails (s : State) (l : Fin 2) : State :=
  match (s.line l).inFlight with
  | none => s
  | some f => s.failAttempt l f

/-! ### Commands -/

/-- SIGN_REPLY (R134 to R137). -/
def execSignReply (line : Fin 2) (bytes : BitVec 64) (s : State) : Host.Outcome State Fault Refusal :=
  .next (s.command fun s => s.takeReply line bytes)

/-- SIGN_REPLY_FAILURE (R134, R135). -/
def execSignReplyFailure (line : Fin 2) (s : State) : Host.Outcome State Fault Refusal :=
  .next (s.command fun s => s.replyFails line)

end Sys2Proof.Machine
end

