-- ==== Sys2Proof/Machine/GateRequests.lean ====
section
/-! DEFINITION. The requests of the gate drive unit, the counter array and the beacon unit: SET_GATE, MOVE_GATE, RESET_GATE,
SET_COUNTER and SET_FLASH (R74 to R77, R90, R91, R100). -/

namespace Sys2Proof.Machine

/-- A request on a configured gate: OUT_OF_RANGE, NOT_CONFIGURED, then the request's own effect. -/
def onGate (gate : Byte) (s : State) (f : Fin 6 → Answer) : Answer :=
  match indexOf 6 gate with
  | none => refuse .outOfRange s
  | some i => if (s.gate i).configured then f i else refuse .notConfigured s

/-! ### MOVE_GATE (R74) -/

/-- The gate's segment is OPEN, CAUTION or REOPENING. -/
def State.mayRaise (s : State) (g : Gate) : Bool :=
  match g.cfg.segment with
  | some i =>
    (s.segment i).posture == .opened || (s.segment i).posture == .caution || (s.segment i).posture == .reopening
  | none => false

/-- The check of an action against the gate's state and its segment (R74). -/
def State.moveAllowed (s : State) (g : Gate) (a : MoveAction) (overriding : Bool) : Bool :=
  match a with
  | .stop => g.state == .lowering || g.state == .raising || g.state == .pause
  | .up => overriding || s.mayRaise g
  | .down => overriding || s.mayLower g

/-- The gate as an accepted MOVE_GATE finds it: a BLOCKED gate released, relowering disarmed, manual lowering as the action
gives it (R71, R74). -/
def Gate.released (a : MoveAction) (overriding : Bool) (g : Gate) : Gate :=
  { g with
    state := (if g.state = .blocked then .halted else g.state),
    attempts := (if g.state = .blocked then 0 else g.attempts),
    relowerArmed := false, clearCount := 0,
    manualLowering := (match a with
      | .stop => g.manualLowering
      | .up => false
      | .down => overriding && g.state != .closed) }

/-- STOP on a driven or pausing gate. -/
def State.moveStop (s : State) (i : Fin 6) : State := s.gateTo i .halted

/-- UP by the gate's state (R74). -/
def State.moveUp (s : State) (i : Fin 6) : State :=
  match (s.gate i).state with
  | .lowering => s.gatePause i .up
  | .raising => s
  | .pause =>
    let s := s.updGate i fun g => { g with pending := .up }
    if (s.gate i).pauseElapsed then s.pauseUp i else s
  | .opened => s
  | .closed => s.gateTo i .raising
  | .unknown => s.pauseUp i
  | .halted => s.pauseUp i
  | .blocked => s.pauseUp i
  | .fault => s

/-- DOWN from a standstill: CLOSED where the closed limit is active, else lowering begins (R74). -/
def State.moveDownStill (s : State) (i : Fin 6) : State :=
  if (s.gate i).closedLimit then s.gateTo i .closed else s.lower i

/-- DOWN by the gate's state (R74). -/
def State.moveDown (s : State) (i : Fin 6) : State :=
  match (s.gate i).state with
  | .lowering => s
  | .raising => s.gatePause i .down
  | .pause =>
    let s := s.updGate i fun g => { g with pending := .down }
    if (s.gate i).pauseElapsed then s.lower i else s
  | .opened => s.lower i
  | .closed => s
  | .unknown => s.moveDownStill i
  | .halted => s.moveDownStill i
  | .blocked => s.moveDownStill i
  | .fault => s

/-- The effect of an accepted MOVE_GATE; a released BLOCKED gate posts BLOCKED and its change of state (R71, R74). -/
def State.moveGate (s : State) (i : Fin 6) (a : MoveAction) (overriding : Bool) : State :=
  let g := s.gate i
  let s := (s.setGate i (g.released a overriding)).postIf (g.state == .blocked) (.gate i) (Flag.gateBlocked ||| Flag.gateState)
  match a with
  | .stop => s.moveStop i
  | .up => s.moveUp i
  | .down => s.moveDown i

/-- MOVE_GATE (R74). DEDUCED, log entries 10 and 11. -/
def State.applyMoveGate (gate action overriding : Byte) (s : State) : Answer :=
  match indexOf 6 gate, moveActionOf action, boolOf overriding with
  | some i, some a, some o =>
    let g := s.gate i
    if !g.configured then refuse .notConfigured s
    else if g.state = .fault ∨ !s.moveAllowed g a o then refuse .wrongState s
    else
      let t := s.moveGate i a o
      let r := t.gate i
      accept (u8 i.val ++ u8 r.state.code ++ u8 r.pending.code ++ u8 r.percent) t
  | _, _, _ => refuse .outOfRange s

/-! ### RESET_GATE (R75) -/

/-- The effect of RESET_GATE on a gate in FAULT. -/
def State.resetGate (s : State) (i : Fin 6) : State :=
  let g := s.gate i
  if g.rebuild.state = .fault then s.setGate i g.rebuild else s.putGate i .fault g.rebuild

/-- RESET_GATE (R75). -/
def State.applyResetGate (gate : Byte) (s : State) : Answer :=
  onGate gate s fun i =>
    if (s.gate i).state = .fault then
      let t := s.resetGate i
      accept (u8 i.val ++ u8 (t.gate i).state.code ++ u8 (t.gate i).faultCause.code) t
    else refuse .wrongState s

/-! ### SET_GATE (R76, R77) -/

/-- The gate is in LOWERING, RAISING or PAUSE. -/
def Gate.busy (g : Gate) : Bool := g.state == .lowering || g.state == .raising || g.state == .pause

/-- Another configured gate names the unit (R76). -/
def State.unitTaken (s : State) (i : Fin 6) (u : Fin 12) : Bool :=
  (List.finRange 6).any fun j => j != i && (s.gate j).configured && (s.gate j).cfg.encoder == u

/-- The record that an accepted SET_GATE leaves (R77). -/
def Gate.configuredAs (cfg : GateConfig) (old : Gate) : Gate :=
  let g := { old with cfg := cfg }
  if old.configured && g.configured then
    { g with position := (if old.cfg.travel ≠ cfg.travel ∧ g.closedLimit ∧ g.state ≠ .fault then (cfg.travel : Int)
        else g.position) }
  else g.startUp

/-- The flasher request of a gate moves with a change of its flasher, or is withdrawn when it is unconfigured (R73, R77). -/
def State.moveRequest (s : State) (i : Fin 6) (old new : Gate) : State :=
  let oldReq := if old.configured then old.cfg.flasher else none
  let newReq := if new.configured then new.cfg.flasher else none
  if oldReq = newReq ∧ old.state.request = new.state.request then s
  else
    let s := match oldReq with
      | some f => if oldReq = newReq then s else s.gateRequest f i .none
      | none => s
    match newReq with
    | some f => s.gateRequest f i new.state.request
    | none => s

/-- The SGC is told of a change of membership and of the gate's change of state (R2, R73). -/
def State.moveMember (s : State) (i : Fin 6) (old new : Gate) : State :=
  let s := match new.cfg.segment with
    | some seg => if old.state = new.state then s else s.gateChanged seg old.state new.state
    | none => s
  if old.cfg.segment = new.cfg.segment then s
  else
    let s := match new.cfg.segment with
      | some seg => (s.gateJoins seg i).gatesChanged seg
      | none => s
    match old.cfg.segment with
    | some seg => s.gatesChanged seg
    | none => s

/-- The effect of an accepted SET_GATE. -/
def State.setGateTo (s : State) (i : Fin 6) (cfg : GateConfig) : State :=
  let old := s.gate i
  let new := old.configuredAs cfg
  let f := Flag.gateConfig ||| (if old.state = new.state then 0 else gateFlags old.state new.state)
  (((s.setGate i new).postGate i f).moveRequest i old new).moveMember i old new

/-- SET_GATE with its fields read: the checks of R76 after the ranges. -/
def State.acceptGate (s : State) (i : Fin 6) (cfg : GateConfig) : Answer :=
  let old := s.gate i
  if old.busy ∧ (old.cfg.segment ≠ cfg.segment ∨ old.cfg.encoder ≠ cfg.encoder) then refuse .wrongState s
  else if cfg.segment.isSome ∧ ((s.counter cfg.encoder).cfg.mode ≠ .encoder ∨ s.unitTaken i cfg.encoder) then
    refuse .conflict s
  else
    let t := s.setGateTo i cfg
    accept (u8 i.val ++ u8 (t.gate i).state.code ++ u16 cfg.travel ++ u16 cfg.motionLimit) t

/-- A segment field with 0 for none. The outer `none` is out of range. -/
def gateSegmentOf (b : Byte) : Option (Option (Fin 4)) := if b = 0 then some none else (segmentOf b).map some

/-- SET_GATE (R76). DEDUCED, log entry 12. -/
def State.applySetGate (gate segment unit : Byte) (travel motionLimit : Half) (flasher : Byte) (s : State) : Answer :=
  match indexOf 6 gate, gateSegmentOf segment, indexOf 12 unit, flasherOf flasher with
  | some i, some seg, some u, some f =>
    s.acceptGate i
      { segment := seg, encoder := u, travel := clampNat 100 8000 travel.toNat,
        motionLimit := clampNat 40 2400 motionLimit.toNat, flasher := f }
  | _, _, _, _ => refuse .outOfRange s

/-! ### SET_COUNTER (R90, R91) -/

/-- The record that an accepted SET_COUNTER leaves; the code is the present input levels (R91). -/
def Counter.configuredAs (cfg : CounterConfig) (c : Counter) : Counter :=
  { c with cfg := cfg, count := 0, illegal := 0, crossing := .idle, stuck := false, aOnTicks := 0, bOnTicks := 0,
           clearTicks := 0 }

/-- The reply data of SET_COUNTER (R91). -/
def State.counterReply (s : State) (i : Fin 12) : List Byte :=
  let c := (s.counter i).cfg
  u8 i.val ++ u8 c.mode.code ++ u8opt (c.boundary.map fun b => b.1.val) ++ u8opt (c.boundary.map fun b => b.2.val)
    ++ u8opt ((s.gateOfUnit i).map fun g => g.val)

/-- SET_COUNTER with its fields read: the conflicts of R90, then its effect. -/
def State.acceptCounter (s : State) (i : Fin 12) (cfg : CounterConfig) : Answer :=
  let old := s.counter i
  let equalSides := match cfg.boundary with
    | some (x, y) => x == y
    | none => false
  if equalSides || (cfg.mode != .encoder && (s.gateOfUnit i).isSome) then refuse .conflict s
  else
    let t := (s.setCounter i (old.configuredAs cfg)).postCounter i
      (Flag.ctrConfig ||| if old.stuck then Flag.ctrStuck else 0)
    accept (t.counterReply i) t

/-- SET_COUNTER (R90). -/
def State.applySetCounter (unit mode fromSegment toSegment : Byte) (s : State) : Answer :=
  match indexOf 12 unit, counterModeOf mode with
  | some i, some m =>
    if m = .loopPair then
      match indexOf 5 fromSegment, indexOf 5 toSegment with
      | some a, some b => s.acceptCounter i { mode := m, boundary := some (a, b) }
      | _, _ => refuse .outOfRange s
    else s.acceptCounter i { mode := m, boundary := none }
  | _, _ => refuse .outOfRange s

/-! ### SET_FLASH (R100) -/

/-- The patterns with one class's pattern written. -/
def Patterns.write (p : Patterns) (c : FlashClass) (x : Pattern) : Patterns :=
  match c with
  | .none => p
  | .closed => { p with closed := x }
  | .moving => { p with moving := x }
  | .alert => { p with alert := x }

/-- SET_FLASH (R100). -/
def State.applySetFlash (cls on off : Byte) (s : State) : Answer :=
  match flashClassOf cls with
  | none => refuse .outOfRange s
  | some c =>
    let x : Pattern := { on := max 1 on.toNat, off := max 1 off.toNat }
    accept (u8 c.code ++ u8 x.on ++ u8 x.off)
      ({ s with patterns := s.patterns.write c x }.post .system Flag.flashConfig)

end Sys2Proof.Machine
end

