-- ==== Sys2Proof/Machine/NoticeRequests.lean ====
section
/-! DEFINITION. The requests of the notice list: POST_NOTICE, END_NOTICE and SET_LIST_MARGIN (R107, R108, R111, R112). -/

namespace Sys2Proof.Machine

/-! ### POST_NOTICE (R107, R108) -/

/-- The second page that is read: only where the page count is 2. The outer `none` is out of range. -/
def secondPageOf (count : Byte) (h : Half) : Option (Option Page) :=
  if count = 1 then some none else if count = 2 then (pageOf h).map some else none

/-- An end at or before the start, or at or before the present second (R107). -/
def badEnd (clock start stop : Option Nat) : Bool :=
  match stop with
  | none => false
  | some e =>
    (match start with | some t => decide (e ≤ t) | none => false)
      || (match clock with | some n => decide (e ≤ n) | none => false)

/-- The lowest-numbered free slot (R108). -/
def NoticeList.freeSlot (l : NoticeList) : Option (Fin 24) := (List.finRange 24).find? fun i => l.slots[i] == none

/-- The first state of an accepted notice at the present second; without a start it does not ask the clock (R108). -/
def Notice.firstState (x : Notice) (clock : Option Nat) : NoticeState := (x.target (clock.getD 0)).getD .pending

/-- A slot is filled with a new notice: numbered, placed last in the list order (R106, R108). -/
def State.fillSlot (s : State) (i : Fin 24) (x : Notice) : State :=
  { s with notices := { s.notices with slots := s.notices.slots.set i (some x), order := s.notices.order ++ [i],
                                       lastNumber := x.number } }

/-- The new notice takes effect: its report with NEW and STATE, the hand-overs of its state, and the check of the free count
(R108, R110, R112). -/
def State.placeNotice (s : State) (i : Fin 24) (x : Notice) : State :=
  ((s.fillSlot i x).noticeEntered i x (Flag.noticeNew ||| Flag.noticeState)).checkListMargin

/-- POST_NOTICE with its fields read: the checks of R107 from CLOCK_UNSET on, then its effect. -/
def State.acceptNotice (s : State) (reference : Half) (segments : BitVec 4) (first : Page) (second : Option Page)
    (start stop : Option Nat) (lead : Half) : Answer :=
  if (start.isSome ∨ stop.isSome) ∧ s.tmb.passClock = none then refuse .clockUnset s
  else if badEnd s.tmb.passClock start stop then refuse .outOfRange s
  else match s.notices.freeSlot with
    | none => refuse .listFull s
    | some i =>
      let x : Notice :=
        { number := s.notices.nextNumber, reference := reference, segments := segments, firstPage := first,
          secondPage := second, start := start, stop := stop, lead := clampNat 0 1440 lead.toNat, state := .pending }
      let x := { x with state := x.firstState s.tmb.passClock }
      let t := s.placeNotice i x
      accept (u8 i.val ++ u8 x.number ++ u8 x.state.code ++ u16 x.lead ++ u8 t.notices.freeCount) t

/-- POST_NOTICE (R107). -/
def State.applyPostNotice (reference : Half) (segments pageCount : Byte) (firstPage secondPage : Half) (start stop : Word)
    (lead : Half) (s : State) : Answer :=
  if segments = 0 ∨ 16 ≤ segments.toNat then refuse .outOfRange s
  else match pageOf firstPage, secondPageOf pageCount secondPage with
    | some p, some q => s.acceptNotice reference (segments.setWidth 4) p q (secondOf start) (secondOf stop) lead
    | _, _ => refuse .outOfRange s

/-! ### END_NOTICE (R111) -/

/-- The final state of a notice that is ended early. -/
def NoticeState.ended (v : NoticeState) : NoticeState := if v = .inForce then .lifted else .cancelled

/-- END_NOTICE (R111). -/
def State.applyEndNotice (number : Byte) (s : State) : Answer :=
  if number = 0 then refuse .outOfRange s
  else match s.notices.slotOf number.toNat with
    | none => refuse .notConfigured s
    | some i =>
      match s.notices.slots[i] with
      | none => refuse .notConfigured s
      | some x =>
        if x.state.live then accept (u8 i.val ++ u8 x.state.ended.code) (s.removeNotice i x x.state.ended)
        else refuse .wrongState s

/-! ### SET_LIST_MARGIN (R112) -/

/-- SET_LIST_MARGIN (R112). -/
def State.applySetListMargin (margin : Byte) (s : State) : Answer :=
  let m := clampNat 0 8 margin.toNat
  let t := ({ s with notices := { s.notices with margin := m } }.post .system Flag.listConfig).checkListMargin
  accept (u8 m ++ u8 t.notices.freeCount ++ u8 (flagBit 0 t.notices.spent)) t

end Sys2Proof.Machine
end

