-- ==== Sys2Proof/Machine/SignRequests.lean ====
section
/-! DEFINITION. The requests of the display planner and the sign line controllers: SET_LINE, SET_SIGN, SET_CONDITION and
WAKE_LINE (R117, R118, R143, R169). -/

namespace Sys2Proof.Machine

/-! ### SET_LINE (R143) -/

/-- The band that a band mode holds its signs in; AUTO holds none (R148). -/
def BandMode.band : BandMode → Option Band
  | .auto => none
  | .normal => some .normal
  | .cold => some .cold
  | .severe => some .severe

/-- Every sign of a line takes a band (R148): one sign after another by ascending address, each with its own recomputation of the
load and what follows it. DESIGN CHOICE, log entry 41. -/
def State.setBands (s : State) (l : Fin 2) (b : Band) : State := (signsOf l).foldl (fun s n => s.setBand n b) s

/-- The effect of an accepted SET_LINE: the settings, the load (R156), the target (R153) and the bands (R148). -/
def State.setLineTo (s : State) (l : Fin 2) (cfg : LineConfig) : State :=
  let old := (s.line l).cfg
  let s := (s.updLine l fun r => { r with cfg := cfg }).post (.line l) Flag.lineConfig
  let s := if old.baud = cfg.baud then s else s.settleLoad l
  let s := s.retarget l
  match cfg.bandMode.band with
  | some b => s.setBands l b
  | none => s

/-- SET_LINE (R143). -/
def State.applySetLine (line : Byte) (baud : Half) (policy bandMode : Byte) (s : State) : Answer :=
  match indexOf 2 line, baudOf baud, policyOf policy, bandModeOf bandMode with
  | some l, some b, some p, some m =>
    accept (u8 l.val ++ u16 b.rate ++ u8 p.code ++ u8 m.code)
      (s.setLineTo l { baud := b, policy := p, bandMode := m })
  | _, _, _, _ => refuse .outOfRange s

/-! ### SET_SIGN (R117) -/

/-- The content configuration that SET_SIGN leaves: the fields its role reads written, the others as R116 gives them for the
role; none is out of range (R117). -/
def signConfigOf (old : SignConfig) (role segments path : Byte) (holdover : Half) (sheddable dwell : Byte) : Option SignConfig :=
  let h := clampNat 16 1020 holdover.toNat / 4 * 4
  let d := clampNat 16 240 dwell.toNat
  let segs : Option (BitVec 4) := if segments = 0 ∨ 16 ≤ segments.toNat then none else some (segments.setWidth 4)
  match roleOf role with
  | none => none
  | some .none => some { old with role := .none, segments := 0, path := none, sheddable := false }
  | some .advance => segs.map fun m =>
      { role := .advance, segments := m, path := none, holdover := h, sheddable := false, condition := old.condition, dwell := d }
  | some .path => (indexOf 12 path).map fun p =>
      { role := .path, segments := 0, path := some p, holdover := h, sheddable := false, condition := old.condition, dwell := d }
  | some .info =>
    match segs, boolOf sheddable with
    | some m, some b =>
      some { role := .info, segments := m, path := none, holdover := h, sheddable := b, condition := old.condition, dwell := d }
    | _, _ => none

/-- The event flags of what a sign loses as it becomes unconfigured: DISPLAY and FALLBACK where its displayed record changes
(R117, R129), and PLAN where its plan was not already BLANK. The PLAN is a DESIGN CHOICE, log entry 48: R117 names CONFIG only,
and R119 and R122 speak of the plans of configured signs. -/
def clearedFlags (g : Sign) : BitVec 16 :=
  (if g.planClass = .blank ∧ g.rotation = [] then 0 else Flag.signPlan)
    ||| (if g.shown = Displayed.unknown then 0 else Flag.signDisplay) ||| (if g.shown.fallback then Flag.signFallback else 0)

/-- A sign becomes unconfigured: ABSENT, plan BLANK, no need, nothing known of what it shows (R117, R138). -/
def State.unconfigureSign (s : State) (n : Fin 16) : State :=
  let f := clearedFlags (s.sign n)
  let s := s.enterService n .absent
  let s := s.updSign n fun g =>
    { g with planClass := .blank, rotation := [], index := 0, dwellCount := 0, need := .none, shown := Displayed.unknown }
  (s.postIf (f != 0) (.sign n) f).retarget (lineOf n)

/-- A sign becomes configured: it leaves ABSENT for LAPSED (R117, R138), in the band its line's mode holds (R148). -/
def State.configureSign (s : State) (n : Fin 16) : State :=
  let s := match (s.line (lineOf n)).cfg.bandMode.band with
    | some b => s.setBand n b
    | none => s
  s.enterService n .lapsed

/-- A SHED sign that has ceased to be sheddable is restored at once (R158). -/
def State.restoreUnsheddable (s : State) (n : Fin 16) : State :=
  if (s.sign n).service = .shed ∧ !(s.sign n).cfg.sheddable then (s.restoreSign n).settleLoad (lineOf n) else s

/-- A sign's service state follows its becoming configured or unconfigured. -/
def State.followRole (s : State) (n : Fin 16) (was : Bool) : State :=
  match was, (s.sign n).configured with
  | true, false => s.unconfigureSign n
  | false, true => s.configureSign n
  | true, true => s.restoreUnsheddable n
  | false, false => s

/-- The effect of an accepted SET_SIGN: the configuration, the line controller's part, then the plan (R117) and the reserve
shed (R159). -/
def State.setSignTo (s : State) (n : Fin 16) (cfg : SignConfig) : State :=
  let old := s.sign n
  let s := (s.setSign n { old with cfg := cfg }).post (.sign n) Flag.signConfig
  let s := if old.cfg.holdover = cfg.holdover then s else s.lapsePointChanged n
  ((s.followRole n old.configured).replanSigns [n]).reserveSettle (lineOf n)

/-- SET_SIGN (R117). -/
def State.applySetSign (sign role segments path : Byte) (holdover : Half) (sheddable dwell : Byte) (s : State) : Answer :=
  match indexOf 16 sign with
  | none => refuse .outOfRange s
  | some n =>
    match signConfigOf (s.sign n).cfg role segments path holdover sheddable dwell with
    | none => refuse .outOfRange s
    | some cfg =>
      accept (u8 n.val ++ u8 cfg.role.code ++ u16 cfg.holdover ++ u8 cfg.dwell ++ u8 (flagBit 0 cfg.sheddable))
        (s.setSignTo n cfg)

/-! ### SET_CONDITION (R118) -/

/-- A condition page field: 0..4095, or 0xFFFF for absent. The outer `none` is out of range. -/
def conditionOf (h : Half) : Option (Option Page) := if h = 0xFFFF then some none else (pageOf h).map some

/-- The condition page of one sign is written; a configured sign posts CONFIG (R118). -/
def State.writeCondition (p : Option Page) (s : State) (n : Fin 16) : State :=
  let g := s.sign n
  (s.setSign n { g with cfg := { g.cfg with condition := p } }).postIf g.configured (.sign n) Flag.signConfig

/-- The effect of an accepted SET_CONDITION. -/
def State.setConditions (s : State) (m : BitVec 16) (p : Option Page) : State :=
  ((bitsOf m).foldl (State.writeCondition p) s).replanSigns (bitsOf m)

/-- SET_CONDITION (R118). -/
def State.applySetCondition (signs page : Half) (s : State) : Answer :=
  if signs = 0 then refuse .outOfRange s
  else match conditionOf page with
    | none => refuse .outOfRange s
    | some p => accept (u16 signs.toNat ++ u16 page.toNat) (s.setConditions signs p)

/-! ### WAKE_LINE (R169) -/

/-- WAKE_LINE (R169). -/
def State.applyWakeLine (line : Byte) (s : State) : Answer :=
  match indexOf 2 line with
  | none => refuse .outOfRange s
  | some l => accept (u8 l.val ++ u8 ((s.wake l 5).line l).state.code) (s.wake l 5)

end Sys2Proof.Machine
end

