-- ==== Sys2Proof/Machine/SensorRequests.lean ====
section
/-! DEFINITION. The requests of the sensor front end and the path monitor: SET_CHANNEL, the path requests and the trace
requests (R32 to R34, R46 to R51, R56 to R58). -/

namespace Sys2Proof.Machine

/-! ### SET_CHANNEL (R32 to R34) -/

/-- A channel is a vote member of some path. -/
def State.isMember (s : State) (i : Fin 16) : Bool := (List.finRange 12).any fun n => (s.path n).hasMember i

/-- The conflicts of R32. -/
def State.channelConflict (s : State) (i : Fin 16) (m : ChannelMode) (ref : Option (Fin 16)) : Bool :=
  match ref with
  | some r =>
    r == i || (s.channel r).cfg.mode == .reference || s.isMember r || (s.channel i).cfg.mode == .serve
  | none => (s.channel i).cfg.mode == .serve && m == .off

/-- Apply an accepted SET_CHANNEL: the references first, the channel second (R34). -/
def State.setChannelTo (s : State) (i : Fin 16) (m : ChannelMode) (ref : Option (Fin 16)) (rise fall : Int)
    (persist : Nat) : State :=
  let s := if (s.channel i).cfg.mode = .serve then s else s.changeReferences i ref
  s.putChannel i (s.reconfigured (s.channel i) m ref rise fall persist) Flag.chConfig

/-- The reply data of SET_CHANNEL (R33). -/
def channelReply (i : Fin 16) (c : Channel) : List Byte :=
  u8 i.val ++ u8 c.cfg.mode.code ++ u8opt (c.cfg.reference.map fun r => r.val) ++ i16 c.cfg.rise ++ i16 c.cfg.fall
    ++ u8 c.cfg.persist

/-- SET_CHANNEL with its indices read: the conflict check and the applied numbers. -/
def State.acceptChannel (s : State) (i : Fin 16) (m : ChannelMode) (ref : Option (Fin 16)) (rise fall : Half)
    (persist : Byte) : Answer :=
  if s.channelConflict i m ref then refuse .conflict s
  else
    let t := applyThresholds m rise.toInt fall.toInt
    let s' := s.setChannelTo i m ref t.1 t.2 (clampNat 1 8 persist.toNat)
    accept (channelReply i (s'.channel i)) s'

/-- SET_CHANNEL (R32). -/
def State.applySetChannel (channel mode reference : Byte) (rise fall : Half) (persist : Byte) (s : State) : Answer :=
  match indexOf 16 channel, channelModeOf mode with
  | some i, some m =>
    if m = .reference then
      match indexOf 16 reference with
      | some r => s.acceptChannel i m (some r) rise fall persist
      | none => refuse .outOfRange s
    else s.acceptChannel i m none rise fall persist
  | _, _ => refuse .outOfRange s

/-! ### SET_PATH (R50, R51) -/

/-- The number of channels in a member set. -/
def memberCount (m : BitVec 16) : Nat := (bitsOf m).length

/-- The k that is applied: clamped to 1..8 and to the member count, 1 for an empty set (R51). -/
def appliedK (k : Byte) (m : BitVec 16) : Nat := if m = 0 then 1 else min (clampNat 1 8 k.toNat) (memberCount m)

/-- The state of a path after SET_PATH has written its configuration (R51). -/
def State.pathStateAfter (s : State) (old new : PathRec) : PathState :=
  if !new.configured then .quiet
  else if old.cfg.members = new.cfg.members then old.state
  else if old.state = .masked then .masked
  else if s.anyActive new then .watch
  else .quiet

/-- The record that an accepted SET_PATH leaves (R51). -/
def State.pathAfter (s : State) (old : PathRec) (cfg : PathConfig) : PathRec :=
  let moved := old.cfg.members != cfg.members
  let new := { old with cfg := cfg, lastAct := (if moved then noActivations else old.lastAct),
                        lastVote := (if moved then 0 else old.lastVote) }
  let new := { new with state := s.pathStateAfter old new }
  let new := { new with cfg := { cfg with masked := cfg.masked && new.configured } }
  s.withHealth new

/-- The reply data of SET_PATH (R51). -/
def pathReply (n : Fin 12) (p : PathRec) : List Byte :=
  u8 n.val ++ u8 p.state.code ++ u8 p.cfg.k ++ u16 p.cfg.window ++ u8 p.healthy

/-- SET_PATH with its fields read: the checks against the path's state and the channels, then its effect. -/
def State.acceptPath (s : State) (n : Fin 12) (cfg : PathConfig) : Answer :=
  let old := s.path n
  if (old.state = .alert ∨ old.state = .hold) ∧ (old.cfg.members ≠ cfg.members ∨ old.cfg.segment ≠ cfg.segment) then
    refuse .wrongState s
  else if (bitsOf cfg.members).any fun c => (s.channel c).cfg.mode == .serve then refuse .conflict s
  else
    let new := s.pathAfter old cfg
    let f := Flag.pathConfig ||| (if old.degraded = new.degraded then 0 else Flag.pathDegraded)
    let t := s.putPath n new f none
    accept (pathReply n (t.path n)) t

/-- SET_PATH (R50). -/
def State.applySetPath (path segment : Byte) (members : Half) (k : Byte) (window : Half) (autoclose : Byte) (hazardPage : Half)
    (flasher : Byte) (s : State) : Answer :=
  match indexOf 12 path, segmentOf segment, boolOf autoclose, pageOf hazardPage, flasherOf flasher with
  | some n, some i, some a, some p, some f =>
    if 8 < memberCount members then refuse .outOfRange s
    else
      s.acceptPath n
        { segment := i, members := members, k := appliedK k members, window := clampNat 1 2400 window.toNat, autoclose := a,
          hazardPage := p, flasher := f, masked := (s.path n).cfg.masked }
  | _, _, _, _, _ => refuse .outOfRange s

/-! ### ACK_PATH, DISMISS_PATH, CLEAR_PATH, MASK_PATH (R46 to R49) -/

/-- A request on a configured path: OUT_OF_RANGE, NOT_CONFIGURED, then the request's own effect. -/
def onPath (path : Byte) (s : State) (f : Fin 12 → Answer) : Answer :=
  match indexOf 12 path with
  | none => refuse .outOfRange s
  | some n => if (s.path n).configured then f n else refuse .notConfigured s

/-- The answer of an accepted path request: the path state after it. -/
def pathAnswer (n : Fin 12) (t : State) : Answer := accept (u8 (t.path n).state.code) t

/-- ACK_PATH (R46). -/
def State.applyAckPath (path : Byte) (s : State) : Answer :=
  onPath path s fun n =>
    if (s.path n).state = .alert then
      pathAnswer n (s.putPath n { s.path n with state := .hold } 0 (some (.pathHold, 0)))
    else refuse .wrongState s

/-- DISMISS_PATH (R47). -/
def State.applyDismissPath (path : Byte) (s : State) : Answer :=
  onPath path s fun n =>
    if (s.path n).state = .alert then pathAnswer n (s.releasePath n .pathDismiss) else refuse .wrongState s

/-- CLEAR_PATH (R48). -/
def State.applyClearPath (path : Byte) (s : State) : Answer :=
  onPath path s fun n =>
    if (s.path n).state = .hold then pathAnswer n (s.releasePath n .pathClear) else refuse .wrongState s

/-- A QUIET or WATCH path is masked (R49). -/
def State.maskPath (s : State) (n : Fin 12) : State :=
  let p := s.path n
  s.putPath n
    { p with state := .masked, cfg := { p.cfg with masked := true }, lastAct := noActivations, lastVote := 0 } 0 none

/-- A MASKED path is unmasked (R49). -/
def State.unmaskPath (s : State) (n : Fin 12) : State :=
  let p := s.path n
  s.putPath n
    { p with state := (if s.anyActive p then .watch else .quiet), cfg := { p.cfg with masked := false } } 0 none

/-- MASK_PATH (R49). DEDUCED, log entry 10. -/
def State.applyMaskPath (path on : Byte) (s : State) : Answer :=
  match indexOf 12 path, boolOf on with
  | some n, some b =>
    if !(s.path n).configured then refuse .notConfigured s
    else match (s.path n).state, b with
      | .quiet, true => pathAnswer n (s.maskPath n)
      | .watch, true => pathAnswer n (s.maskPath n)
      | .masked, true => pathAnswer n s
      | .alert, true => refuse .wrongState s
      | .hold, true => refuse .wrongState s
      | .masked, false => pathAnswer n (s.unmaskPath n)
      | .quiet, false => pathAnswer n s
      | .watch, false => pathAnswer n s
      | .alert, false => pathAnswer n s
      | .hold, false => pathAnswer n s
  | _, _ => refuse .outOfRange s

/-! ### The trace requests (R56 to R58) -/

/-- The trace flags byte: marked, TRUNCATED, near-full posted. -/
def Trace.flags (t : Trace) : Nat := flagBit 0 t.mark.isSome + flagBit 1 t.truncated + flagBit 2 t.nearFullPosted

/-- A trace entry as READ_TRACE returns it. -/
def TraceEntry.bytes (e : TraceEntry) : List Byte :=
  u32second e.second ++ u8 e.tick ++ u8 e.kind.code ++ u8 e.object ++ u16 e.value

/-- The entries that READ_TRACE returns from a start on. -/
def Trace.read (t : Trace) (start count : Nat) : List TraceEntry := (t.entries.drop start).take count

/-- The reply data of READ_TRACE. -/
def Trace.reply (t : Trace) (es : List TraceEntry) : List Byte :=
  u8 t.entries.length ++ u8 t.flags ++ u8opt t.mark ++ u8 es.length ++ es.flatMap TraceEntry.bytes

/-- READ_TRACE (R56). -/
def State.applyReadTrace (origin offset count : Byte) (s : State) : Answer :=
  if 127 < offset.toNat then refuse .outOfRange s
  else
    let k := clampNat 1 8 count.toNat
    if origin = 0 then accept (s.trace.reply (s.trace.read offset.toNat k)) s
    else if origin = 1 then
      match s.trace.mark with
      | none => refuse .wrongState s
      | some m => accept (s.trace.reply (s.trace.read (m + offset.toNat) k)) s
    else refuse .outOfRange s

/-- RELEASE_TRACE (R57). -/
def State.applyReleaseTrace (s : State) : Answer :=
  let data := u8 s.trace.entries.length
  if s.trace.mark.isSome then
    accept data
      ({ s with trace := { s.trace with mark := none, truncated := false, nearFullPosted := false } }.post .trace
        Flag.traceReleased)
  else accept data s

/-- SET_TRACE (R58). -/
def State.applySetTrace (preCount margin : Byte) (s : State) : Answer :=
  let p := clampNat 0 64 preCount.toNat
  let m := clampNat 0 32 margin.toNat
  accept (u8 p ++ u8 m) ({ s with trace := { s.trace with preCount := p, margin := m } }.post .trace Flag.traceConfig)

end Sys2Proof.Machine
end

