-- ==== Sys2Proof/Machine/Snapshots.lean ====
section
/-! DEFINITION. The snapshots of the report objects, laid out as each chapter gives them, and how a report or an INSPECT names
an object (R21, R35, R52, R59, R78, R92, R101, R113, R129, R144, R161, R169, R182, R188, R192). -/

namespace Sys2Proof.Machine

/-! ### Objects (R188) -/

/-- The object kind code. -/
def Obj.kindCode : Obj → Nat
  | .system => 0
  | .segment _ => 1
  | .channel _ => 2
  | .path _ => 3
  | .gate _ => 4
  | .counter _ => 5
  | .notice _ => 6
  | .sign _ => 7
  | .line _ => 8
  | .library => 9
  | .trace => 10

/-- The index within the kind; segments count from 1. -/
def Obj.index : Obj → Nat
  | .system => 0
  | .segment i => segmentNumber i
  | .channel i => i.val
  | .path i => i.val
  | .gate i => i.val
  | .counter i => i.val
  | .notice i => i.val
  | .sign i => i.val
  | .line i => i.val
  | .library => 0
  | .trace => 0

/-- The object that a kind byte and an index byte name. -/
def objectOf (kind index : Byte) : Option Obj :=
  match kind.toNat with
  | 0 => (indexOf 1 index).map fun _ => .system
  | 1 => (segmentOf index).map .segment
  | 2 => (indexOf 16 index).map .channel
  | 3 => (indexOf 12 index).map .path
  | 4 => (indexOf 6 index).map .gate
  | 5 => (indexOf 12 index).map .counter
  | 6 => (indexOf 24 index).map .notice
  | 7 => (indexOf 16 index).map .sign
  | 8 => (indexOf 2 index).map .line
  | 9 => (indexOf 1 index).map fun _ => .library
  | 10 => (indexOf 1 index).map fun _ => .trace
  | _ => none

/-- Every object, in ascending kind and index. -/
def Obj.all : List Obj :=
  [.system] ++ (List.finRange 4).map .segment ++ (List.finRange 16).map .channel ++ (List.finRange 12).map .path
    ++ (List.finRange 6).map .gate ++ (List.finRange 12).map .counter ++ (List.finRange 24).map .notice
    ++ (List.finRange 16).map .sign ++ (List.finRange 2).map .line ++ [.library, .trace]

/-! ### Segments, channels, paths, the trace -/

/-- A cause as a snapshot lists it (R21). -/
def Cause.bytes : Cause → List Byte
  | .manual => u8 1 ++ u8 0
  | .restart => u8 2 ++ u8 0
  | .path n => u8 3 ++ u8 n.val
  | .notice k => u8 4 ++ u8 k

/-- The SEGMENT snapshot (R21). -/
def State.segmentSnapshot (s : State) (i : Fin 4) : List Byte :=
  let r := s.segment i
  u8 r.posture.code ++ u8 r.phase.code ++ u16 r.phaseTimer ++ u16 r.cfg.lead ++ u16 r.cfg.confirm ++ u16 r.occupancy
    ++ u8 (flagBit 0 r.drift + flagBit 1 r.uncertain + flagBit 2 r.occupied + flagBit 3 r.confirmMissing)
    ++ u8 (maskNat 6 fun g => (s.gate g).cfg.segment == some i)
    ++ u16 (maskNat 16 fun n => (s.sign n).isAdvanceOf i)
    ++ u8 r.causes.length ++ r.causes.flatMap Cause.bytes

/-- The compared value's field: 0x8000 when none (R35). -/
def comparedField (v : Option Int) : List Byte :=
  match v with
  | some x => i16 x
  | none => u16 0x8000

/-- The CHANNEL snapshot (R35). -/
def State.channelSnapshot (s : State) (i : Fin 16) : List Byte :=
  let c := s.channel i
  u8 c.cfg.mode.code ++ u8 (flagBit 0 c.cfg.baseFixed) ++ u8opt (c.cfg.reference.map fun r => r.val) ++ u8 c.state.code
    ++ i16 c.cfg.rise ++ i16 c.cfg.fall ++ u8 c.cfg.persist ++ u16 c.lastSample.toNat ++ comparedField c.compared
    ++ u8 c.riseRun ++ u8 c.fallRun ++ u8 c.recoveryRun ++ u16 (maskNat 16 fun j => (s.channel j).references i)

/-- The PATH snapshot (R52). -/
def State.pathSnapshot (s : State) (n : Fin 12) : List Byte :=
  let p := s.path n
  u8 (segmentNumber p.cfg.segment) ++ u8 p.state.code
    ++ u8 (flagBit 0 p.configured + flagBit 1 p.cfg.autoclose + flagBit 2 p.degraded + flagBit 3 p.cfg.masked)
    ++ u16 p.cfg.members.toNat ++ u8 p.cfg.k ++ u8 p.kEff ++ u8 p.healthy ++ u16 p.cfg.window ++ u16 p.cfg.hazardPage.toNat
    ++ u8opt (p.cfg.flasher.map fun f => f.val) ++ u8 p.lastVote
    ++ (bitsOf p.cfg.members).flatMap fun c => u16age s.now p.lastAct[c]

/-- The TRACE snapshot (R59). -/
def Trace.snapshot (t : Trace) : List Byte :=
  u8 t.entries.length ++ u8 t.flags ++ u8opt t.mark
    ++ u8 t.free ++ u8 t.preCount ++ u8 t.margin

/-! ### Gates, counters, flashers -/

/-- The GATE snapshot (R78). -/
def Gate.snapshot (g : Gate) : List Byte :=
  u8 (match g.cfg.segment with | some i => segmentNumber i | none => 0) ++ u8 g.cfg.encoder.val ++ u16 g.cfg.travel
    ++ u16 g.cfg.motionLimit ++ u8opt (g.cfg.flasher.map fun f => f.val) ++ u8 g.state.code ++ u8 g.pending.code
    ++ u8 g.faultCause.code ++ i16 g.position ++ u8 g.percent ++ u8 g.attempts ++ u16 g.motionTicks
    ++ u8 (flagBit 0 g.referenced + flagBit 1 g.manualLowering + flagBit 2 g.relowerArmed + flagBit 3 g.openLimit
        + flagBit 4 g.closedLimit + flagBit 5 g.presence)

/-- The COUNTER snapshot (R92). -/
def State.counterSnapshot (s : State) (i : Fin 12) : List Byte :=
  let c := s.counter i
  u8 c.cfg.mode.code ++ u8opt (c.cfg.boundary.map fun b => b.1.val) ++ u8opt (c.cfg.boundary.map fun b => b.2.val)
    ++ i16 c.count ++ u8 c.illegal ++ u8 c.crossing.code
    ++ u8 (flagBit 0 c.stuck + flagBit 1 c.codeA + flagBit 2 c.codeB)
    ++ u8opt ((s.gateOfUnit i).map fun g => g.val) ++ u16 c.aOnTicks ++ u16 c.bOnTicks ++ u8 c.clearTicks

/-- A class pattern's two bytes (R101). -/
def Pattern.bytes (p : Pattern) : List Byte := u8 p.on ++ u8 p.off

/-- One flasher of the flasher section (R101). -/
def Flasher.bytes (f : Flasher) : List Byte :=
  u8 f.running.code ++ u8 (flagBit 0 f.phaseOn) ++ u8 f.countdown ++ u8 (maskNat 6 fun g => f.gateReq[g] == .moving)
    ++ u8 (maskNat 6 fun g => f.gateReq[g] == .closed) ++ u16 (maskNat 12 fun n => f.pathReq[n])

/-- The flasher section of the SYSTEM snapshot (R101). -/
def State.flasherSection (s : State) : List Byte :=
  s.patterns.closed.bytes ++ s.patterns.moving.bytes ++ s.patterns.alert.bytes
    ++ (List.finRange 8).flatMap fun i => (s.flasher i).bytes

/-! ### Notices -/

/-- A notice slot's snapshot (R113). -/
def noticeSnapshot (x : Option Notice) : List Byte :=
  match x with
  | none => List.replicate 20 0
  | some x =>
    u8 x.state.code ++ u8 x.number ++ bytesBE 2 x.reference ++ u8 x.segments.toNat ++ u8 x.pages.length
      ++ u16 x.firstPage.toNat ++ u16 ((x.secondPage.map BitVec.toNat).getD 0) ++ u32second x.start ++ u32second x.stop
      ++ u16 x.lead

/-- The notice section of the SYSTEM snapshot (R113). -/
def NoticeList.bytes (l : NoticeList) : List Byte :=
  u8 l.margin ++ u8 l.freeCount ++ u8 (flagBit 0 l.spent) ++ u8 l.lastNumber ++ u8 l.order.length
    ++ ((l.order.map fun (i : Fin 24) => BitVec.ofNat 8 i.val) ++ List.replicate 24 (0xFF : Byte)).take 24

/-! ### Signs and lines -/

/-- The need's code and the tick it was raised at (R129). -/
def Need.code : Need → Nat × Option Tick
  | .none => (0, Option.none)
  | .plan false t => (1, some t)
  | .plan true t => (2, some t)
  | .recovery t => (3, some t)

/-- A page field, 0xFFFF when none. -/
def pageBytes (p : Option Page) : List Byte := u16opt (p.map BitVec.toNat)

/-- The plan section of the SIGN snapshot (R129). -/
def State.planSection (s : State) (g : Sign) : List Byte :=
  u8 g.cfg.role.code
    ++ u8 (maskNat 4 fun i => (s.watchedSegments g).contains i)
    ++ u8opt (g.cfg.path.map fun p => p.val) ++ u8 (flagBit 0 g.cfg.sheddable) ++ pageBytes g.cfg.condition ++ u8 g.cfg.dwell
    ++ u8 g.planClass.code ++ u8 g.rotation.length
    ++ (List.range 6).flatMap (fun i => pageBytes g.rotation[i]?)
    ++ u8 g.index ++ u8 g.dwellCount ++ pageBytes g.wanted ++ pageBytes g.shown.page ++ u8 g.shown.cls.code
    ++ u8 (flagBit 0 g.shown.confirmed + flagBit 1 g.shown.fallback) ++ u8 g.need.code.1 ++ u16age s.now g.need.code.2

/-- The status byte (R144). -/
def SignStatus.byte (x : SignStatus) : List Byte :=
  u8 (flagBit 0 x.blanked + flagBit 1 x.held + flagBit 2 x.door + flagBit 3 x.pixelFault)

/-- The service section of the SIGN snapshot (R144). -/
def State.serviceSection (s : State) (n : Fin 16) : List Byte :=
  let g := s.sign n
  u8 n.val ++ u8 g.service.code ++ g.status.byte
    ++ [match g.temperature with | some t => BitVec.ofInt 8 t | none => 0x80]
    ++ u16age s.now g.restoreNeed ++ u16 g.pollCount
    ++ u8 (match s.candidate n with | some c => c.cls.code | none => 0)

/-- The retention section of the SIGN snapshot (R161). -/
def Sign.retentionSection (g : Sign) : List Byte :=
  u16 g.cfg.holdover ++ u8 g.band.code ++ u8 g.granularity.code ++ u16 g.lapsePoint ++ u16 g.critical ++ u16 g.slotPeriod
    ++ u16 g.ages.a0 ++ u16 g.ages.a1 ++ u16 g.ages.a2 ++ u16 g.ages.a3 ++ u8 g.owed ++ u8 g.cursor ++ u16 g.slotTimer
    ++ u32 g.share

/-- The SIGN snapshot (R192). -/
def State.signSnapshot (s : State) (n : Fin 16) : List Byte :=
  s.planSection (s.sign n) ++ s.serviceSection n ++ (s.sign n).retentionSection

/-- The signs of a line in a service state, as a mask by address. -/
def State.serviceMask (s : State) (l : Fin 2) (v : Service) : List Byte :=
  u8 (maskNat 8 fun a => (s.sign (signAt l a)).service == v)

/-- The arbiter section of the LINE snapshot (R144). -/
def Line.arbiterSection (r : Line) : List Byte :=
  u16 r.cfg.baud.rate ++ u8 r.cfg.policy.code ++ u8 r.cfg.bandMode.code
    ++ u8opt (r.inFlight.map fun f => f.address.val) ++ u8opt (r.inFlight.map fun f => f.kind.code)
    ++ u8 ((r.inFlight.map fun f => f.cls.code).getD 0) ++ u8 ((r.inFlight.map fun f => f.attempt).getD 0)
    ++ pageBytes (r.inFlight.bind fun f => f.page)

/-- The LINE snapshot: the arbiter, load and hold sections (R144, R161, R169, R192). -/
def State.lineSnapshot (s : State) (l : Fin 2) : List Byte :=
  let r := s.line l
  r.arbiterSection
    ++ (u8 r.target.code ++ u16 r.load ++ u32 r.sum ++ u8 (flagBit 0 r.overloaded) ++ s.serviceMask l .shed)
    ++ (u8 r.state.code ++ u8 r.activeCount ++ u8 r.wakeCause ++ s.serviceMask l .held)

/-! ### The library -/

/-- The port's code (R182). -/
def PortOp.code : PortOp → Nat
  | .idle => 0
  | .fill .. => 1
  | .program .. => 2
  | .erase .. => 3
  | .save .. => 4

/-- The last failure's six bytes (R182). -/
def failureBytes (x : Option (WorkItem × FailReason)) : List Byte :=
  match x with
  | none => u8 0 ++ u8 0 ++ u16 0 ++ u8 0xFF ++ u8 0
  | some (it, r) => [it.seq] ++ u8 it.kind.code ++ u16 it.kind.place ++ u8opt it.kind.strip ++ u8 r.code

/-- The LIBRARY snapshot (R182). -/
def Library.snapshot (b : Library) : List Byte :=
  u8 b.port.code ++ u8 b.opTicks ++ u8 b.missQueue.length ++ u8 b.workQueue.length ++ u8 b.faulted.length
    ++ (match b.cursor with
      | some (p, i) => u16 p.toNat ++ u8 i.val
      | none => u16 0xFFFF ++ [Config.closedCursorStrip])
    ++ [b.nextSeq, b.lastDone] ++ failureBytes b.lastFailure ++ pageBytes b.lastFillFault ++ u8 b.parityErrors

/-! ### The system object and the snapshot of any object -/

/-- The SYSTEM snapshot (R192). -/
def State.systemSnapshot (s : State) : List Byte :=
  u8 s.link.resetCause.code ++ u8 s.link.profileResult.code ++ u8 s.link.preset.toNat
    ++ u8 (flagBit 0 s.inReserve + flagBit 1 s.reserveRequest + flagBit 2 s.supplyLow)
    ++ u32second s.tmb.passClock ++ u8 s.tmb.tickInSecond ++ s.flasherSection ++ s.notices.bytes

/-- The snapshot of an object as it stands. -/
def State.snapshot (s : State) : Obj → List Byte
  | .system => s.systemSnapshot
  | .segment i => s.segmentSnapshot i
  | .channel i => s.channelSnapshot i
  | .path i => s.pathSnapshot i
  | .gate i => (s.gate i).snapshot
  | .counter i => s.counterSnapshot i
  | .notice i => noticeSnapshot s.notices.slots[i]
  | .sign i => s.signSnapshot i
  | .line i => s.lineSnapshot i
  | .library => s.lib.snapshot
  | .trace => s.trace.snapshot

/-- INSPECT (R188). -/
def State.applyInspect (kind index : Byte) (s : State) : Answer :=
  match objectOf kind index with
  | none => refuse .outOfRange s
  | some o => accept ([kind, index] ++ s.snapshot o) s

end Sys2Proof.Machine
end

