-- ==== Sys2Proof/Machine/Resets.lean ====
section
/-! DEFINITION. The full reset and the partial reset, block by block as each chapter states them (R22, R23, R36 to R38, R60, R61,
R79, R80, R93, R94, R102, R103, R114, R115, R130, R131, R145, R146, R162, R163, R170, R181, R183, R189, R190). -/

namespace Sys2Proof.Machine

/-! ### Flash operations cut short -/

/-- A full reset cuts the operation on the flash port short: what it was writing or erasing is unknown.
DESIGN CHOICE, log entry 20. -/
def State.cutFlash (s : State) : State :=
  match s.lib.port with
  | .idle => s
  | .fill .. => s
  | .program _ p i _ => s.freeFlash (slotAddress p i) 64
  | .erase _ b => s.freeFlash (4096 * b.val) 4096
  | .save .. => s.freeFlash 0 4096

/-! ### Full reset: the records (R181 and each chapter's reset rule) -/

/-- The state of a channel after a reset, by its mode (R37). -/
def ChannelMode.resetState : ChannelMode → ChannelState
  | .off => .off
  | .fixed => .quiet
  | .reference => .quiet
  | .serve => .serve

/-- A channel record after a full reset (R37). -/
def ChannelConfig.start (c : ChannelConfig) : Channel :=
  { cfg := c, lastSample := 0, compared := none, riseRun := 0, fallRun := 0, recoveryRun := 0, state := c.mode.resetState }

/-- A path record after a full reset, before its health is computed (R60). -/
def PathConfig.start (c : PathConfig) : PathRec :=
  { cfg := c, state := (if c.members ≠ 0 ∧ c.masked then .masked else .quiet), lastAct := noActivations, healthy := 0,
    kEff := 1, degraded := false, lastVote := 0 }

/-- A gate record after a full reset: its start-up state by its limit inputs (R79). The position of an unconfigured gate: DEDUCED,
log entry 12. -/
def GateConfig.start (c : GateConfig) (openLimit closedLimit presence : Bool) : Gate :=
  Gate.startUp
    { cfg := c, state := .unknown, pending := .none, faultCause := .none, position := 0, referenced := false, motionTicks := 0,
      stallCount := 0, pauseCount := 0, attempts := 0, relowerArmed := false, clearCount := 0, manualLowering := false,
      openLimit := openLimit, closedLimit := closedLimit, presence := presence }

/-- A counter unit after a full reset: its code is read from the inputs (R93). -/
def CounterConfig.start (c : CounterConfig) (a b : Bool) : Counter :=
  { cfg := c, codeA := a, codeB := b, count := 0, illegal := 0, crossing := .idle, stuck := false, aOnTicks := 0,
    bOnTicks := 0, clearTicks := 0 }

/-- A segment record after a full reset, before its gates are looked at: CAUTION, since UNCERTAIN is set (R6, R22). -/
def SegmentConfig.start (c : SegmentConfig) : Segment :=
  { cfg := c, posture := .caution, phase := .noPhase, causes := [], phaseTimer := 0, pathLimit := false, occupancy := 0,
    drift := false, uncertain := true, occupied := false, confirmMissing := false }

/-- A flasher after a full reset: CLOSED entries of the gates found CLOSED, and the generator as it then starts (R79, R102). -/
def startFlasher (pats : Patterns) (reserve : Bool) (gates : Vector Gate 6) (i : Fin 8) : Flasher :=
  Flasher.restart pats reserve
    { gateReq := Vector.ofFn fun g =>
        if gates[g].configured && gates[g].cfg.flasher == some i then gates[g].state.request else .none,
      pathReq := Vector.replicate 12 false, running := .none, phaseOn := false, countdown := 0 }

/-- A sign after a full reset, before its plan and its line's target are known (R130, R145, R162). DEDUCED, log entry 24. -/
def SignConfig.start (c : SignConfig) (mode : BandMode) : Sign :=
  { cfg := c, planClass := .blank, rotation := [], index := 0, dwellCount := 0, need := .none, shown := Displayed.unknown,
    service := (if c.role = .none then .absent else .lapsed), restoreNeed := none, pollCount := 0, pollNeed := none,
    shedNeed := none, holdNeed := none, status := SignStatus.clear, temperature := none,
    band := (if c.role = .none then .normal else mode.band.getD .normal), granularity := .full, lapsePoint := 0, dueSpan := 0,
    critical := 0, slotPeriod := 0, ages := Ages.all 0, owed := 0, cursor := 0, slotTimer := 0, refreshSince := 0,
    heldShare := 0 }

/-- A line after a full reset (R145, R170). -/
def LineConfig.start (c : LineConfig) : Line :=
  { cfg := c, state := .active, inFlight := none, txBuffer := [], activeCount := 0, wakeCause := 0, target := .full, load := 0,
    sum := 0, overloaded := false, arbitrate := false }

/-- The library after a full reset (R183). -/
def Library.start : Library :=
  { cache := Vector.replicate 32 { way0 := CacheLine.empty, way1 := CacheLine.empty, lru1 := false }, missQueue := [],
    workQueue := [], faulted := [], cursor := none, port := .idle, opTicks := 0, nextSeq := 0, lastDone := 0,
    lastFailure := none, lastFillFault := none, parityErrors := 0 }

/-- The link after a full reset (R184, R190, R192). The reset drops a reply that waits in the reply slot, of which the rules do not
speak: DESIGN CHOICE, log entry 50. -/
def Link.start (cause : ResetCause) (result : ProfileResult) (preset : BitVec 3) : Link :=
  { rxFrames := [], rxPartial := [], reply := none, reports := [{ obj := .system, flags := Flag.started }], lastSent := [],
    resetCause := cause, profileResult := result, preset := preset }

/-- The cause of a full reset as the SYSTEM snapshot records it (R192). -/
def resetCauseOf : FullResetCause → ResetCause
  | .powerOn => .powerOn
  | .resetPin => .resetPin

/-- Every record of the device in its start-up value, from a configuration and the pins. -/
def State.records (s : State) (cause : FullResetCause) (pins : Pins) (result : ProfileResult) (p : Profile) : State :=
  let gates : Vector Gate 6 := Vector.ofFn fun i =>
    p.gates[i].start (pins.openLimits.getLsbD i.val) (pins.closedLimits.getLsbD i.val) (pins.presence.getLsbD i.val)
  { pending := s.pending
    due := []
    freeCount := s.freeCount
    tmb := { tickCounter := 0, tickInSecond := 0, passClock := none }
    link := Link.start (resetCauseOf cause) result pins.preset
    segments := Vector.ofFn fun i => p.segments[i].start
    reserveRequest := false
    supplyLow := pins.supplyLow
    analog := s.analog
    channels := Vector.ofFn fun i => p.channels[i].start
    economy := 0
    paths := Vector.ofFn fun i => p.paths[i].start
    trace := { entries := [], mark := none, truncated := false, nearFullPosted := false, preCount := p.preCount,
               margin := p.traceMargin }
    gates := gates
    counters := Vector.ofFn fun i => p.counters[i].start (pins.inputA.getLsbD i.val) (pins.inputB.getLsbD i.val)
    patterns := p.patterns
    flashers := Vector.ofFn fun i => startFlasher p.patterns pins.supplyLow gates i
    notices := { slots := Vector.replicate 24 none, order := [], lastNumber := 0, margin := p.listMargin, spent := false }
    signs := Vector.ofFn fun n => p.signs[n].start (p.lines[lineOf n].bandMode)
    lines := Vector.ofFn fun l => p.lines[l].start
    lib := Library.start
    flash := s.flash }

/-! ### Full reset: what the blocks make of one another -/

/-- The health of every path, from the channel states (R60). -/
def State.startPaths (s : State) : State := { s with paths := Vector.ofFn fun n => s.withHealth (s.path n) }

/-- A segment takes its start-up posture from its gates: RESTART unless all are OPEN (R22). -/
def State.startSegment (s : State) (i : Fin 4) : State :=
  if (s.gatesOf i).all fun g => (s.gate g).state == .opened then s
  else
    let s := s.updSegment i fun r => { r with causes := [.restart] }
    if (s.gatesOf i).all fun g => (s.gate g).state == .closed then s.setPosture i .closed .noPhase
    else (s.beginConfirm i).evalConfirmPhase i

/-- A sign takes its start-up plan (R130). -/
def State.startPlan (s : State) (n : Fin 16) : State :=
  let g := s.sign n
  if g.configured then s.setSign n { g with planClass := (s.planOf g).1, rotation := (s.planOf g).2 } else s

/-- A sign takes its line's target and what follows from it (R162). -/
def Sign.startRetention (t : Granularity) (g : Sign) : Sign :=
  let d := Sign.derive { g with granularity := t }
  { d with ages := Ages.all (if d.configured then d.lapsePoint else 0), slotTimer := d.slotPeriod }

/-- A line takes its target, its signs their retention values (R162). -/
def State.startLine (s : State) (l : Fin 2) : State :=
  let t := s.targetOf l
  (signsOf l).foldl (fun s n => s.updSign n (Sign.startRetention t)) (s.updLine l fun r => { r with target := t })

/-- A line's load, with shedding and then the reserve shed, in the order R162 names them. DESIGN CHOICE, log entry 43. -/
def State.startLoad (s : State) (l : Fin 2) : State := (s.recomputeShed l).reserveSettle l

/-- Start-up is complete: no report but STARTED, no arbitration before the first tick, nothing due (R145, R190).
DEDUCED, log entry 23. -/
def State.started (s : State) : State :=
  { s.clearArbitrations with due := [], link := { s.link with reports := [{ obj := .system, flags := Flag.started }] } }

/-- A full reset (R190). DESIGN CHOICE, log entry 19. -/
def State.fullReset (s : State) (cause : FullResetCause) (pins : Pins) : State :=
  let s := s.cutFlash
  let p := loadProfile s.flash pins.preset
  let s := (s.records cause pins p.1 p.2).startPaths
  let s := (List.finRange 4).foldl State.startSegment s
  let s := (List.finRange 16).foldl State.startPlan s
  let s := (s.startLine 0).startLine 1
  ((s.startLoad 0).startLoad 1).started

/-- FULL_RESET (R190). -/
def execFullReset (cause : FullResetCause) (pins : Pins) (s : State) : Host.Outcome State Fault Refusal :=
  .next (s.fullReset cause pins)

/-! ### Partial reset (R189) -/

/-- A channel after a partial reset (R38). -/
def Channel.restart (c : Channel) : Channel :=
  { c with state := c.cfg.mode.resetState, riseRun := 0, fallRun := 0, recoveryRun := 0, compared := none }

/-- The sensor front end (R38). -/
def State.restartChannels (s : State) : State :=
  { s with channels := Vector.ofFn fun i => (s.channel i).restart, economy := 0 }

/-- The event flags of a path's partial reset. -/
def restartFlags (old new : PathRec) : BitVec 16 :=
  (if old.state = new.state then 0 else Flag.pathState) ||| (if old.degraded = new.degraded then 0 else Flag.pathDegraded)

/-- A path after a partial reset: WATCH takes QUIET, handed to the SGC's open-posture evaluation; activations and vote are
cleared, the health recomputed (R61). -/
def State.restartPath (s : State) (n : Fin 12) : State :=
  let old := s.path n
  let new := s.withHealth
    { old with state := (if old.state = .watch then .quiet else old.state), lastAct := noActivations, lastVote := 0 }
  ((s.setPath n new).postIf (restartFlags old new != 0) (.path n) (restartFlags old new)).handOpen old new

/-- The path monitor and its trace (R61). -/
def State.restartPaths (s : State) : State :=
  let s := (List.finRange 12).foldl State.restartPath s
  { s with trace := { s.trace with entries := [], mark := none, truncated := false, nearFullPosted := false } }

/-- A counter unit after a partial reset (R94). -/
def Counter.restart (c : Counter) : Counter :=
  if c.cfg.mode = .loopPair then { c with crossing := .idle, aOnTicks := 0, bOnTicks := 0, clearTicks := 0 } else c

/-- The counter array and the beacon unit (R94, R103). -/
def State.restartOutputs (s : State) : State :=
  { s with counters := Vector.ofFn fun i => (s.counter i).restart,
           flashers := Vector.ofFn fun i => (s.flasher i).restart s.patterns s.inReserve }

/-- A sign's plan after a partial reset: recomputed, at its first page, with no need; PLAN where it differs (R131). -/
def State.restartPlan (s : State) (n : Fin 16) : State :=
  let g := s.sign n
  let p := if g.configured then s.planOf g else (g.planClass, g.rotation)
  (s.setSign n { g with planClass := p.1, rotation := p.2, index := 0, dwellCount := 0, need := .none }).postIf
    (g.planClass != p.1 || g.rotation != p.2) (.sign n) Flag.signPlan

/-- A HELD sign becomes SHOWING, with the effects of R152 (R170). -/
def State.releaseHeld (s : State) (n : Fin 16) : State :=
  if (s.sign n).service = .held then ((s.changeService n .showing).checkLapse n).checkCritical n else s

/-- The needs of a sign after a partial reset (R146, R170). -/
def Sign.restart (now : Tick) (g : Sign) : Sign :=
  { g with holdNeed := none, pollCount := 0, pollNeed := none,
           restoreNeed := (if g.counted then some now else g.restoreNeed) }

/-- A line after a partial reset: any hold is abandoned, the signs' needs are set, the load recomputed (R146, R163, R170). -/
def State.restartLine (s : State) (l : Fin 2) : State :=
  let s := s.updLine l fun r => { r with state := .active, activeCount := 0 }
  let s := (signsOf l).foldl State.releaseHeld s
  let s := (signsOf l).foldl (fun s n => s.updSign n (Sign.restart s.now)) s
  ((s.reserveShed l).settleLoad l).askArbitration l

/-- The failure record of the work items that are discarded: the last of them, in queue order (R183). -/
def discardFailure (q : List WorkItem) (old : Option (WorkItem × FailReason)) : Option (WorkItem × FailReason) :=
  match q.getLast? with
  | some it => some (it, .discarded)
  | none => old

/-- A cache line made not valid. -/
def CacheLine.drop (l : CacheLine) : CacheLine := { l with valid := false }

/-- The library after a partial reset (R183). -/
def Library.restart (b : Library) : Library :=
  { b with
    cache := Vector.ofFn fun k => { way0 := b.cache[k].way0.drop, way1 := b.cache[k].way1.drop, lru1 := false }
    missQueue := []
    workQueue := []
    faulted := []
    cursor := none
    port := (match b.port with | .fill .. => .idle | op => op)
    opTicks := (match b.port with | .fill .. => 0 | _ => b.opTicks)
    lastFailure := discardFailure b.workQueue b.lastFailure }

/-- The library's partial reset, with WRITE_FAILED where an item was discarded (R183). -/
def State.restartLibrary (s : State) : State :=
  { s with lib := s.lib.restart }.postIf (!s.lib.workQueue.isEmpty) .library Flag.libWriteFailed

/-- The objects that are re-reported (R189). -/
def State.isConfigured (s : State) : Obj → Bool
  | .system => false
  | .segment _ => true
  | .channel i => (s.channel i).cfg.mode != .off
  | .path n => (s.path n).configured
  | .gate i => (s.gate i).configured
  | .counter i => (s.counter i).cfg.mode != .off
  | .notice i => s.notices.slots[i] != none
  | .sign n => (s.sign n).configured
  | .line _ => true
  | .library => true
  | .trace => true

/-- An entry with no event flags for every configured object that has none (R189). -/
def State.rereport (s : State) : State := (Obj.all.filter s.isConfigured).foldl (fun s o => s.post o 0) s

/-- The report set is emptied and the cause recorded (R189, R192). -/
def State.beginRestart (s : State) : State := { s with link := { s.link with reports := [], resetCause := .restart } }

/-- A partial reset (R189). DEDUCED, log entry 31. -/
def State.partialReset (s : State) : State :=
  let s := s.beginRestart.restartChannels.restartPaths.restartOutputs
  let s := (List.finRange 16).foldl State.restartPlan s
  let s := ((s.restartLine 0).restartLine 1).restartLibrary
  s.rereport.post .system Flag.started

/-- RESTART (R189). -/
def State.applyRestart (s : State) : Answer :=
  let t := s.partialReset
  accept (u8 t.link.reports.length ++ u8 s.lib.workQueue.length) t

end Sys2Proof.Machine
end

