-- ==== Sys2Proof/Machine/SegmentRequests.lean ====
section
/-! DEFINITION. The requests of the segment controller: SET_SEGMENT, CLOSE_SEGMENT, OPEN_SEGMENT, ADJUST_COUNT and SET_RESERVE
(R16 to R20). -/

namespace Sys2Proof.Machine

/-- SET_SEGMENT on a segment (R17): the clamped times are written, and a CONFIRM or LEAD that already meets them ends. -/
def State.setTimes (s : State) (i : Fin 4) (lead confirm : Nat) : State :=
  (((s.updSegment i fun r => { r with cfg := { lead := lead, confirm := confirm } }).postSeg i Flag.segConfig).timeoutConfirm
    i).endLead i

/-- SET_SEGMENT (R17). -/
def State.applySetSegment (segment : Byte) (lead confirm : Half) (s : State) : Answer :=
  match segmentOf segment with
  | none => refuse .outOfRange s
  | some i =>
    let l := clampNat 0 4800 lead.toNat
    let c := clampNat 40 960 confirm.toNat
    accept (u8 (segmentNumber i) ++ u16 l ++ u16 c) (s.setTimes i l c)

/-- Add MANUAL (R18); a segment that holds it is left as it was. -/
def State.closeSegment (s : State) (i : Fin 4) : State :=
  if (s.segment i).causes.contains .manual then s else (s.addCause i .manual).replan

/-- CLOSE_SEGMENT (R18). -/
def State.applyCloseSegment (segment : Byte) (s : State) : Answer :=
  match segmentOf segment with
  | none => refuse .outOfRange s
  | some i =>
    let t := s.closeSegment i
    accept (u8 (t.segment i).posture.code ++ u8 (t.segment i).causes.length) t

/-- Remove MANUAL and RESTART (R19); a segment that holds neither is left as it was. -/
def State.openSegment (s : State) (i : Fin 4) : State :=
  if (s.segment i).causes.contains .manual || (s.segment i).causes.contains .restart then
    ((s.removeCause i .manual).removeCause i .restart).replan
  else s

/-- OPEN_SEGMENT (R19). -/
def State.applyOpenSegment (segment : Byte) (s : State) : Answer :=
  match segmentOf segment with
  | none => refuse .outOfRange s
  | some i =>
    let t := s.openSegment i
    accept (u8 (t.segment i).causes.length ++ u8 (t.segment i).posture.code) t

/-- ADJUST_COUNT (R20). -/
def State.applyAdjustCount (segment : Byte) (count : Half) (s : State) : Answer :=
  match segmentOf segment with
  | none => refuse .outOfRange s
  | some i =>
    let k := clampNat 0 999 count.toNat
    accept (u16 k) (s.setCount i { s.segment i with occupancy := k, drift := false, uncertain := false })

/-- SET_RESERVE (R16). -/
def State.applySetReserve (on : Byte) (s : State) : Answer :=
  match boolOf on with
  | none => refuse .outOfRange s
  | some b =>
    let t := s.setPower b s.supplyLow
    accept (u8 (flagBit 0 t.inReserve)) t

end Sys2Proof.Machine
end

