-- ==== Sys2Proof/Machine/Link.lean ====
section
/-! DEFINITION. The host link: receiving, parsing and answering requests, the two system requests that are the link's own, and
sending replies and reports (R184 to R187, R190, R191). -/

namespace Sys2Proof.Machine

/-! ### Receiving (R184) -/

/-- The bytes held in the receive buffer: each waiting frame whole, and the frame being received. -/
def Link.occupancy (k : Link) : Nat := k.rxFrames.foldl (fun t b => t + (b.length + 3)) 0 + k.rxPartial.length

/-- The size of the receive buffer. -/
def rxSize : Nat := 256

/-- The frame being received is whole: start, length, body and CRC. -/
def frameWhole (bytes : List Byte) : Bool :=
  match bytes with
  | _ :: l :: _ => bytes.length == l.toNat + 3
  | _ => false

/-- The length byte, if it has come, is in 2..240. -/
def lengthGood (bytes : List Byte) : Bool :=
  match bytes with
  | _ :: l :: _ => decide (2 ≤ l.toNat) && decide (l.toNat ≤ 240)
  | _ => true

/-- The CRC-8 of a whole frame checks. -/
def crcGood (bytes : List Byte) : Bool := bytes.getLast? == some (crc8 bytes.tail.dropLast)

/-- The body of a whole frame. -/
def frameBody (bytes : List Byte) : List Byte := (bytes.drop 2).dropLast

/-- The frame being received after one more byte of it. -/
def Link.extend (k : Link) (bytes : List Byte) : Link :=
  if !lengthGood bytes then { k with rxPartial := [] }
  else if !frameWhole bytes then { k with rxPartial := bytes }
  else if crcGood bytes then { k with rxPartial := [], rxFrames := k.rxFrames ++ [frameBody bytes] }
  else { k with rxPartial := [] }

/-- One byte arrives. Bytes are hunted and checked as they arrive, also while a reply waits, so that only good frames and the frame
being received stand in the buffer. DESIGN CHOICE, log entry 45. -/
def Link.receiveByte (k : Link) (b : Byte) : Link :=
  if rxSize ≤ k.occupancy then { k with rxPartial := [] }
  else if k.rxPartial = [] then (if b = 0xC3 then { k with rxPartial := [b] } else k)
  else k.extend (k.rxPartial ++ [b])

/-- Change the link record. -/
def State.updLink (s : State) (f : Link → Link) : State := { s with link := f s.link }

/-! ### The link's own requests (R186, R187) -/

/-- IDENTIFY (R187). -/
def State.applyIdentify (s : State) : Answer :=
  accept
    (u16 0x0640 ++ [Config.deviceRevision] ++ u8 s.link.resetCause.code ++ u8 s.link.profileResult.code ++ u16 rxSize) s

/-- Write the pass clock. -/
def State.setPassClock (s : State) (n : Nat) : State := { s with tmb := { s.tmb with passClock := some n } }

/-- SET_CLOCK (R186): the notices are evaluated against the new second. -/
def State.applySetClock (second : Word) (s : State) : Answer :=
  if second = 0xFFFFFFFF then refuse .outOfRange s
  else
    accept (bytesBE 4 second)
      (((s.setPassClock second.toNat).evalNotices second.toNat).post .system Flag.clockSet)

/-! ### Requests and replies (R185) -/

/-- What a request's owner answers. A kind the table does not hold and a length that is not the table's are the LIF's own
refusals; a command that is no request stands in no frame. -/
def State.applyRequest (s : State) : Instr → Answer
  | .identify _ => s.applyIdentify
  | .restart _ => s.applyRestart
  | .setClock _ second => s.applySetClock second
  | .setReserve _ on => s.applySetReserve on
  | .saveProfile _ => s.applySaveProfile
  | .inspect _ kind index => s.applyInspect kind index
  | .setSegment _ segment lead confirm => s.applySetSegment segment lead confirm
  | .closeSegment _ segment => s.applyCloseSegment segment
  | .openSegment _ segment => s.applyOpenSegment segment
  | .adjustCount _ segment count => s.applyAdjustCount segment count
  | .setChannel _ channel mode reference rise fall persist => s.applySetChannel channel mode reference rise fall persist
  | .setPath _ path segment members k window autoclose hazardPage flasher =>
    s.applySetPath path segment members k window autoclose hazardPage flasher
  | .ackPath _ path => s.applyAckPath path
  | .dismissPath _ path => s.applyDismissPath path
  | .clearPath _ path => s.applyClearPath path
  | .maskPath _ path on => s.applyMaskPath path on
  | .readTrace _ origin offset count => s.applyReadTrace origin offset count
  | .releaseTrace _ => s.applyReleaseTrace
  | .setTrace _ preCount margin => s.applySetTrace preCount margin
  | .setGate _ gate segment unit travel motionLimit flasher => s.applySetGate gate segment unit travel motionLimit flasher
  | .moveGate _ gate action overriding => s.applyMoveGate gate action overriding
  | .resetGate _ gate => s.applyResetGate gate
  | .setCounter _ unit mode fromSegment toSegment => s.applySetCounter unit mode fromSegment toSegment
  | .setFlash _ cls on off => s.applySetFlash cls on off
  | .postNotice _ reference segments pageCount firstPage secondPage start stop lead =>
    s.applyPostNotice reference segments pageCount firstPage secondPage start stop lead
  | .endNotice _ number => s.applyEndNotice number
  | .setListMargin _ margin => s.applySetListMargin margin
  | .setLine _ line baud policy bandMode => s.applySetLine line baud policy bandMode
  | .setSign _ sign role segments path holdover sheddable dwell =>
    s.applySetSign sign role segments path holdover sheddable dwell
  | .setCondition _ signs page => s.applySetCondition signs page
  | .wakeLine _ line => s.applyWakeLine line
  | .openPage _ page strip => s.applyOpenPage page strip
  | .pageData _ data => s.applyPageData data
  | .eraseBlock _ block => s.applyEraseBlock block
  | .clearFaults _ => s.applyClearFaults
  | .readDirectory _ firstSet count => s.applyReadDirectory firstSet count
  | .badLength .. => refuse .badLength s
  | _ => refuse .unknownKind s

/-- The kind and tag bytes of a frame's body. -/
def bodyHead (body : List Byte) : Byte × Byte :=
  match body with
  | kind :: tag :: _ => (kind, tag)
  | _ => (0, 0)

/-- The reply enters the reply slot (R185). -/
def State.putReply (a : Answer) (head : Byte × Byte) : State :=
  a.state.updLink fun k =>
    { k with reply := some { kind := head.1, tag := head.2, outcome := a.outcome, data := a.data } }

/-- A request frame's body is dispatched: its owner applies it and the reply enters the slot (R185). -/
def State.dispatch (s : State) (body : List Byte) : State := State.putReply (s.applyRequest (decodeBody body)) (bodyHead body)

/-- The next frame in the buffer is parsed, unless a reply is still to be sent (R184). -/
def State.parse (s : State) : State :=
  match s.link.reply, s.link.rxFrames with
  | none, body :: rest => (s.updLink fun k => { k with rxFrames := rest }).dispatch body
  | _, _ => s

/-- Bytes arrive, each followed by the parsing it makes possible. -/
def State.receive (s : State) (bytes : List Byte) : State :=
  bytes.foldl (fun s b => (s.updLink fun k => k.receiveByte b).parse) s

/-- No frame waits or is being received, and no reply is to be sent: a request frame that arrives now is applied at once. -/
def Link.idle (k : Link) : Bool := k.rxFrames == [] && k.rxPartial == [] && k.reply == none

/-- A host request arrives as a frame: on an idle link it is applied at once, on another its bytes are received (R184, R185).
DESIGN CHOICE, log entry 6. -/
def State.request (s : State) (c : Instr) : State :=
  s.command fun s =>
    if s.link.idle then State.putReply (s.applyRequest c) (bodyHead (encodeBody c))
    else s.receive (hostFrame (encodeBody c))

/-! ### Sending (R190, R191) -/

/-- The frame that carries a reply (R185). -/
def Reply.frame (r : Reply) : List Byte :=
  hostFrame ([r.kind + 0x80, r.tag] ++ u8 r.outcome.code ++ r.data)

/-- The reply in the slot is sent, and the next frame in the buffer is parsed after it (R184, R191). -/
def State.sendReply (s : State) : State :=
  match s.link.reply with
  | none => s
  | some r => (s.updLink fun k => { k with reply := none, lastSent := r.frame }).parse

/-- The frame of a report: kind 0xC0, tag 0, the object, its flags and its snapshot (R191). -/
def State.reportFrame (s : State) (e : ReportEntry) : List Byte :=
  hostFrame ([0xC0, 0] ++ u8 e.obj.kindCode ++ u8 e.obj.index ++ bytesBE 2 e.flags ++ s.snapshot e.obj)

/-- The NLU is told of a NOTICE report that has been taken (R105, R191). -/
def State.reportTaken (s : State) : Obj → State
  | .notice i => s.releaseSlot i
  | _ => s

/-- The report of the oldest entry is sent where no reply is in the slot: snapshot, removal, and the release of a notice slot. -/
def State.sendReport (s : State) : State :=
  match s.link.reply, s.link.reports with
  | none, e :: rest => (s.updLink fun k => { k with reports := rest, lastSent := s.reportFrame e }).reportTaken e.obj
  | _, _ => s

/-- The gap between two bytes abandons the frame being received (R184). -/
def State.abandonFrame (s : State) : State := s.updLink fun k => { k with rxPartial := [] }

/-! ### The commands of the link -/

/-- UNKNOWN_KIND (R185): the frame arrives as any frame. -/
def execUnknownKind (kind tag : Byte) (fields : List Byte) (s : State) : Host.Outcome State Fault Refusal :=
  .next (s.command fun s => s.receive (hostFrame (kind :: tag :: fields)))

/-- BAD_LENGTH (R185): the frame arrives as any frame. -/
def execBadLength (kind tag : Byte) (fields : List Byte) (s : State) : Host.Outcome State Fault Refusal :=
  .next (s.command fun s => s.receive (hostFrame (kind :: tag :: fields)))

/-- FRAME_DISCARDED (R184): the bytes arrive as any bytes, and the receiver discards what is no good frame. -/
def execFrameDiscarded (bytes : List Byte) (s : State) : Host.Outcome State Fault Refusal :=
  .next (s.command fun s => s.receive bytes)

/-- INTER_BYTE_GAP_TIMEOUT (R184). -/
def execInterByteGapTimeout (bytes : List Byte) (s : State) : Host.Outcome State Fault Refusal :=
  .next (s.command fun s => (s.receive bytes).abandonFrame)

/-- RECEIVE_BUFFER_OVERFLOW (R184). -/
def execReceiveBufferOverflow (byte : Byte) (s : State) : Host.Outcome State Fault Refusal :=
  .next (s.command fun s => s.receive [byte])

/-- REPLY_SEND (R191). -/
def execReplySend (s : State) : Host.Outcome State Fault Refusal := .next (s.command State.sendReply)

/-- REPORT_SEND (R191). -/
def execReportSend (s : State) : Host.Outcome State Fault Refusal := .next (s.command State.sendReport)

end Sys2Proof.Machine
end

