-- ==== Sys2Proof/Machine/Requests.lean ====
section
/-! DEFINITION. The host requests as commands: each arrives as a frame on the link (R184, R185). -/

namespace Sys2Proof.Machine

/-- IDENTIFY (R187). -/
def execIdentify (tag : Byte) (s : State) : Host.Outcome State Fault Refusal := .next (s.request (.identify tag))

/-- RESTART (R189). -/
def execRestart (tag : Byte) (s : State) : Host.Outcome State Fault Refusal := .next (s.request (.restart tag))

/-- SET_CLOCK (R186). -/
def execSetClock (tag : Byte) (second : Word) (s : State) : Host.Outcome State Fault Refusal :=
  .next (s.request (.setClock tag second))

/-- SET_RESERVE (R16). -/
def execSetReserve (tag on : Byte) (s : State) : Host.Outcome State Fault Refusal := .next (s.request (.setReserve tag on))

/-- SAVE_PROFILE (R187). -/
def execSaveProfile (tag : Byte) (s : State) : Host.Outcome State Fault Refusal := .next (s.request (.saveProfile tag))

/-- INSPECT (R188). -/
def execInspect (tag kind index : Byte) (s : State) : Host.Outcome State Fault Refusal :=
  .next (s.request (.inspect tag kind index))

/-- SET_SEGMENT (R17). -/
def execSetSegment (tag segment : Byte) (lead confirm : Half) (s : State) : Host.Outcome State Fault Refusal :=
  .next (s.request (.setSegment tag segment lead confirm))

/-- CLOSE_SEGMENT (R18). -/
def execCloseSegment (tag segment : Byte) (s : State) : Host.Outcome State Fault Refusal :=
  .next (s.request (.closeSegment tag segment))

/-- OPEN_SEGMENT (R19). -/
def execOpenSegment (tag segment : Byte) (s : State) : Host.Outcome State Fault Refusal :=
  .next (s.request (.openSegment tag segment))

/-- ADJUST_COUNT (R20). -/
def execAdjustCount (tag segment : Byte) (count : Half) (s : State) : Host.Outcome State Fault Refusal :=
  .next (s.request (.adjustCount tag segment count))

/-- SET_CHANNEL (R32). -/
def execSetChannel (tag channel mode reference : Byte) (rise fall : Half) (persist : Byte)
    (s : State) : Host.Outcome State Fault Refusal :=
  .next (s.request (.setChannel tag channel mode reference rise fall persist))

/-- SET_PATH (R50). -/
def execSetPath (tag path segment : Byte) (members : Half) (k : Byte) (window : Half) (autoclose : Byte) (hazardPage : Half) (flasher : Byte)
    (s : State) : Host.Outcome State Fault Refusal :=
  .next (s.request (.setPath tag path segment members k window autoclose hazardPage flasher))

/-- ACK_PATH (R46). -/
def execAckPath (tag path : Byte) (s : State) : Host.Outcome State Fault Refusal := .next (s.request (.ackPath tag path))

/-- DISMISS_PATH (R47). -/
def execDismissPath (tag path : Byte) (s : State) : Host.Outcome State Fault Refusal :=
  .next (s.request (.dismissPath tag path))

/-- CLEAR_PATH (R48). -/
def execClearPath (tag path : Byte) (s : State) : Host.Outcome State Fault Refusal := .next (s.request (.clearPath tag path))

/-- MASK_PATH (R49). -/
def execMaskPath (tag path on : Byte) (s : State) : Host.Outcome State Fault Refusal :=
  .next (s.request (.maskPath tag path on))

/-- READ_TRACE (R56). -/
def execReadTrace (tag origin offset count : Byte) (s : State) : Host.Outcome State Fault Refusal :=
  .next (s.request (.readTrace tag origin offset count))

/-- RELEASE_TRACE (R57). -/
def execReleaseTrace (tag : Byte) (s : State) : Host.Outcome State Fault Refusal := .next (s.request (.releaseTrace tag))

/-- SET_TRACE (R58). -/
def execSetTrace (tag preCount margin : Byte) (s : State) : Host.Outcome State Fault Refusal :=
  .next (s.request (.setTrace tag preCount margin))

/-- SET_GATE (R76). -/
def execSetGate (tag gate segment unit : Byte) (travel motionLimit : Half) (flasher : Byte)
    (s : State) : Host.Outcome State Fault Refusal :=
  .next (s.request (.setGate tag gate segment unit travel motionLimit flasher))

/-- MOVE_GATE (R74). -/
def execMoveGate (tag gate action overriding : Byte) (s : State) : Host.Outcome State Fault Refusal :=
  .next (s.request (.moveGate tag gate action overriding))

/-- RESET_GATE (R75). -/
def execResetGate (tag gate : Byte) (s : State) : Host.Outcome State Fault Refusal := .next (s.request (.resetGate tag gate))

/-- SET_COUNTER (R90). -/
def execSetCounter (tag unit mode fromSegment toSegment : Byte) (s : State) : Host.Outcome State Fault Refusal :=
  .next (s.request (.setCounter tag unit mode fromSegment toSegment))

/-- SET_FLASH (R100). -/
def execSetFlash (tag cls on off : Byte) (s : State) : Host.Outcome State Fault Refusal :=
  .next (s.request (.setFlash tag cls on off))

/-- POST_NOTICE (R107). -/
def execPostNotice (tag : Byte) (reference : Half) (segments pageCount : Byte) (firstPage secondPage : Half) (start stop : Word) (lead : Half)
    (s : State) : Host.Outcome State Fault Refusal :=
  .next (s.request (.postNotice tag reference segments pageCount firstPage secondPage start stop lead))

/-- END_NOTICE (R111). -/
def execEndNotice (tag number : Byte) (s : State) : Host.Outcome State Fault Refusal :=
  .next (s.request (.endNotice tag number))

/-- SET_LIST_MARGIN (R112). -/
def execSetListMargin (tag margin : Byte) (s : State) : Host.Outcome State Fault Refusal :=
  .next (s.request (.setListMargin tag margin))

/-- SET_LINE (R143). -/
def execSetLine (tag line : Byte) (baud : Half) (policy bandMode : Byte) (s : State) : Host.Outcome State Fault Refusal :=
  .next (s.request (.setLine tag line baud policy bandMode))

/-- SET_SIGN (R117). -/
def execSetSign (tag sign role segments path : Byte) (holdover : Half) (sheddable dwell : Byte)
    (s : State) : Host.Outcome State Fault Refusal :=
  .next (s.request (.setSign tag sign role segments path holdover sheddable dwell))

/-- SET_CONDITION (R118). -/
def execSetCondition (tag : Byte) (signs page : Half) (s : State) : Host.Outcome State Fault Refusal :=
  .next (s.request (.setCondition tag signs page))

/-- WAKE_LINE (R169). -/
def execWakeLine (tag line : Byte) (s : State) : Host.Outcome State Fault Refusal := .next (s.request (.wakeLine tag line))

/-- OPEN_PAGE (R179). -/
def execOpenPage (tag : Byte) (page : Half) (strip : Byte) (s : State) : Host.Outcome State Fault Refusal :=
  .next (s.request (.openPage tag page strip))

/-- PAGE_DATA (R179). -/
def execPageData (tag : Byte) (data : StripData) (s : State) : Host.Outcome State Fault Refusal :=
  .next (s.request (.pageData tag data))

/-- ERASE_BLOCK (R178). -/
def execEraseBlock (tag : Byte) (block : Half) (s : State) : Host.Outcome State Fault Refusal :=
  .next (s.request (.eraseBlock tag block))

/-- CLEAR_FAULTS (R180). -/
def execClearFaults (tag : Byte) (s : State) : Host.Outcome State Fault Refusal := .next (s.request (.clearFaults tag))

/-- READ_DIRECTORY (R180). -/
def execReadDirectory (tag firstSet count : Byte) (s : State) : Host.Outcome State Fault Refusal :=
  .next (s.request (.readDirectory tag firstSet count))

end Sys2Proof.Machine
end

