-- ==== Sys2Proof/Machine/Dispatch.lean ====
section
/-! DEFINITION. The meaning of every command: one arm for each row of spec/opcode_table.json. -/

namespace Sys2Proof.Machine

/-- The effect of a command on everything but the queue. -/
def exec (i : Instr) (s : State) : Host.Outcome State Fault Refusal :=
  match i with
  | .identify tag => Sys2Proof.Machine.execIdentify tag s
  | .restart tag => Sys2Proof.Machine.execRestart tag s
  | .setClock tag second => Sys2Proof.Machine.execSetClock tag second s
  | .setReserve tag on => Sys2Proof.Machine.execSetReserve tag on s
  | .saveProfile tag => Sys2Proof.Machine.execSaveProfile tag s
  | .inspect tag kind index => Sys2Proof.Machine.execInspect tag kind index s
  | .setSegment tag segment lead confirm => Sys2Proof.Machine.execSetSegment tag segment lead confirm s
  | .closeSegment tag segment => Sys2Proof.Machine.execCloseSegment tag segment s
  | .openSegment tag segment => Sys2Proof.Machine.execOpenSegment tag segment s
  | .adjustCount tag segment count => Sys2Proof.Machine.execAdjustCount tag segment count s
  | .setChannel tag channel mode reference rise fall persist => Sys2Proof.Machine.execSetChannel tag channel mode reference rise fall persist s
  | .setPath tag path segment members k window autoclose hazardPage flasher => Sys2Proof.Machine.execSetPath tag path segment members k window autoclose hazardPage flasher s
  | .ackPath tag path => Sys2Proof.Machine.execAckPath tag path s
  | .dismissPath tag path => Sys2Proof.Machine.execDismissPath tag path s
  | .clearPath tag path => Sys2Proof.Machine.execClearPath tag path s
  | .maskPath tag path on => Sys2Proof.Machine.execMaskPath tag path on s
  | .readTrace tag origin offset count => Sys2Proof.Machine.execReadTrace tag origin offset count s
  | .releaseTrace tag => Sys2Proof.Machine.execReleaseTrace tag s
  | .setTrace tag preCount margin => Sys2Proof.Machine.execSetTrace tag preCount margin s
  | .setGate tag gate segment unit travel motionLimit flasher => Sys2Proof.Machine.execSetGate tag gate segment unit travel motionLimit flasher s
  | .moveGate tag gate action overriding => Sys2Proof.Machine.execMoveGate tag gate action overriding s
  | .resetGate tag gate => Sys2Proof.Machine.execResetGate tag gate s
  | .setCounter tag unit mode fromSegment toSegment => Sys2Proof.Machine.execSetCounter tag unit mode fromSegment toSegment s
  | .setFlash tag cls on off => Sys2Proof.Machine.execSetFlash tag cls on off s
  | .postNotice tag reference segments pageCount firstPage secondPage start stop lead => Sys2Proof.Machine.execPostNotice tag reference segments pageCount firstPage secondPage start stop lead s
  | .endNotice tag number => Sys2Proof.Machine.execEndNotice tag number s
  | .setListMargin tag margin => Sys2Proof.Machine.execSetListMargin tag margin s
  | .setLine tag line baud policy bandMode => Sys2Proof.Machine.execSetLine tag line baud policy bandMode s
  | .setSign tag sign role segments path holdover sheddable dwell => Sys2Proof.Machine.execSetSign tag sign role segments path holdover sheddable dwell s
  | .setCondition tag signs page => Sys2Proof.Machine.execSetCondition tag signs page s
  | .wakeLine tag line => Sys2Proof.Machine.execWakeLine tag line s
  | .openPage tag page strip => Sys2Proof.Machine.execOpenPage tag page strip s
  | .pageData tag data => Sys2Proof.Machine.execPageData tag data s
  | .eraseBlock tag block => Sys2Proof.Machine.execEraseBlock tag block s
  | .clearFaults tag => Sys2Proof.Machine.execClearFaults tag s
  | .readDirectory tag firstSet count => Sys2Proof.Machine.execReadDirectory tag firstSet count s
  | .unknownKind kind tag fields => Sys2Proof.Machine.execUnknownKind kind tag fields s
  | .frameDiscarded bytes => Sys2Proof.Machine.execFrameDiscarded bytes s
  | .interByteGapTimeout bytes => Sys2Proof.Machine.execInterByteGapTimeout bytes s
  | .receiveBufferOverflow byte => Sys2Proof.Machine.execReceiveBufferOverflow byte s
  | .replySend => Sys2Proof.Machine.execReplySend s
  | .reportSend => Sys2Proof.Machine.execReportSend s
  | .fullReset cause pins => Sys2Proof.Machine.execFullReset cause pins s
  | .supplyLowChange level => Sys2Proof.Machine.execSupplyLowChange level s
  | .tick => Sys2Proof.Machine.execTick s
  | .passClockSecond => Sys2Proof.Machine.execPassClockSecond s
  | .flashStep => Sys2Proof.Machine.execFlashStep s
  | .flashPhaseEnd flasher => Sys2Proof.Machine.execFlashPhaseEnd flasher s
  | .samplingTick samples => Sys2Proof.Machine.execSamplingTick samples s
  | .chRecover channel => Sys2Proof.Machine.execChRecover channel s
  | .chActive channel => Sys2Proof.Machine.execChActive channel s
  | .chQuiet channel => Sys2Proof.Machine.execChQuiet channel s
  | .confirmTimeout segment => Sys2Proof.Machine.execConfirmTimeout segment s
  | .leadEnd segment => Sys2Proof.Machine.execLeadEnd segment s
  | .limitArrival gate side => Sys2Proof.Machine.execLimitArrival gate side s
  | .limitLost gate side => Sys2Proof.Machine.execLimitLost gate side s
  | .presenceChange gate level => Sys2Proof.Machine.execPresenceChange gate level s
  | .stallFault gate => Sys2Proof.Machine.execStallFault gate s
  | .motionTimeout gate => Sys2Proof.Machine.execMotionTimeout gate s
  | .pauseEnd gate => Sys2Proof.Machine.execPauseEnd gate s
  | .relower gate => Sys2Proof.Machine.execRelower gate s
  | .encoderStep unit a b => Sys2Proof.Machine.execEncoderStep unit a b s
  | .loopInputChange unit a b => Sys2Proof.Machine.execLoopInputChange unit a b s
  | .stuck unit => Sys2Proof.Machine.execStuck unit s
  | .stuckLeft unit => Sys2Proof.Machine.execStuckLeft unit s
  | .rotationStep sign => Sys2Proof.Machine.execRotationStep sign s
  | .signReply line bytes => Sys2Proof.Machine.execSignReply line bytes s
  | .signReplyFailure line => Sys2Proof.Machine.execSignReplyFailure line s
  | .refreshDue sign => Sys2Proof.Machine.execRefreshDue sign s
  | .signLapsed sign => Sys2Proof.Machine.execSignLapsed sign s
  | .criticalPoint sign => Sys2Proof.Machine.execCriticalPoint sign s
  | .pollDue sign => Sys2Proof.Machine.execPollDue sign s
  | .holdEntry line => Sys2Proof.Machine.execHoldEntry line s
  | .heldWakeAge line => Sys2Proof.Machine.execHeldWakeAge line s
  | .flashReadDone readError => Sys2Proof.Machine.execFlashReadDone readError s
  | .programDone readError => Sys2Proof.Machine.execProgramDone readError s
  | .eraseDone => Sys2Proof.Machine.execEraseDone s
  | .profileSaved readBackEqual => Sys2Proof.Machine.execProfileSaved readBackEqual s
  | .flashTimeout => Sys2Proof.Machine.execFlashTimeout s
  | .badLength kind tag fields => Sys2Proof.Machine.execBadLength kind tag fields s

end Sys2Proof.Machine
end

