-- ==== Sys2Proof/Machine/Step.lean ====
section
/-! DEFINITION. One step: the command at the front of the queue, or on an empty queue the first event the device owes. -/

namespace Sys2Proof.Machine

/-- A state without the command at the front of its queue. -/
def State.withPending (s : State) (q : List Instr) : State := { s with pending := q }

/-- One step. With commands waiting, the first is taken and its effect is the outcome. With none, an event that the last tick,
sampling tick or flash step has made due is taken; where none is due the device idles. DESIGN CHOICE, log entry 1. -/
def step (s : State) : Host.Outcome State Fault Refusal :=
  match s.pending with
  | c :: rest => exec c (s.withPending rest)
  | [] =>
    match s.due with
    | d :: _ => .next (s.runEvent d)
    | [] => .next s

/-- The command a table word spells goes to the front of the queue; spec/opcode_table.json gives no row bits, so no word spells
one and the state stays as it is. DESIGN CHOICE, log entry 3. -/
def State.withFetchWord (s : State) (nbits w : Nat) : State :=
  match decodeTableWord nbits w with
  | some c => s.withPending (c :: s.pending)
  | none => s

end Sys2Proof.Machine
end

