-- ==== Sys2Proof/WellFormed.lean ====
section
/-! DEFINITION. When a command is one that its row of spec/opcode_table.json describes. Host requests and events with
operands of a bounded type are always so; the commands that carry raw bytes of the link are checked here. A command that is
not well-formed still has a meaning (its bytes are received as any bytes are): the predicate says which commands their
mnemonics fit. -/

namespace Sys2Proof

/-- Every byte of a frame up to and with its CRC: a start byte, a length in 2..240, as many body bytes and one more. -/
def isWholeFrame (bytes : List Byte) : Bool :=
  match bytes with
  | s :: l :: rest => s == 0xC3 && decide (2 ≤ l.toNat) && decide (l.toNat ≤ 240) && rest.length == l.toNat + 1
  | _ => false

/-- A whole frame whose CRC-8 checks (R184). -/
def isGoodFrame (bytes : List Byte) : Bool :=
  isWholeFrame bytes && bytes.getLast? == some (crc8 (bytes.tail.dropLast))

/-- A frame that R184 discards: it ends at a length byte outside 2..240, or it is whole and its CRC-8 does not check. -/
def isDiscardedFrame (bytes : List Byte) : Bool :=
  match bytes with
  | [s, l] => s == 0xC3 && (decide (l.toNat < 2) || decide (240 < l.toNat))
  | _ => isWholeFrame bytes && !isGoodFrame bytes

/-- A frame begun and not ended: a start byte, and if a length byte followed it is in range and bytes are still to come. -/
def isPartialFrame (bytes : List Byte) : Bool :=
  match bytes with
  | [s] => s == 0xC3
  | s :: l :: rest => s == 0xC3 && decide (2 ≤ l.toNat) && decide (l.toNat ≤ 240) && decide (rest.length < l.toNat + 1)
  | [] => false

/-- Whether a command is one that its row describes. DESIGN CHOICE, log entry 7. -/
def Instr.wellFormed : Instr → Bool
  | .unknownKind kind _ f => (RequestKind.ofCode kind).isNone && decide (f.length + 2 ≤ 240)
  | .badLength kind _ f =>
    match RequestKind.ofCode kind with
    | none => false
    | some k => f.length + 2 != k.bodyLength && decide (f.length + 2 ≤ 240)
  | .frameDiscarded bytes => isDiscardedFrame bytes
  | .interByteGapTimeout bytes => isPartialFrame bytes
  | _ => true

end Sys2Proof
end

