-- ==== Sys2Proof/Safety.lean ====
section
/-! DEFINITION. What claims about the device are stated in: a safe run, the invariants every step keeps, the states in which a
command finds the device listening, and the parts of the state a claim leaves out. -/

namespace Sys2Proof.Machine

/-! ### Safe runs -/

/-- A step goes on: it ends in no fault and no refusal. -/
def Goes (o : Host.Outcome State Fault Refusal) : Prop := ∃ t, o = .next t

/-- A run of k steps from a state never stops. -/
def Safe (k : Nat) (s : State) : Prop := ∃ t, Sys2Proof.core.run k s = .next t

/-! ### States between steps -/

/-- No arbitration is owed: true between steps (R141). -/
def State.calm (s : State) : Prop := s.owesArbitration = false

/-- Nothing is owed: no arbitration, and no event of a tick, a sampling tick or a flash step. -/
def State.settled (s : State) : Prop := s.calm ∧ s.due = []

/-- The device listens: nothing is owed, no frame waits or is being received, and no reply is to be sent. -/
def State.listening (s : State) : Prop := s.settled ∧ s.link.idle = true

/-- A state with a reply in the reply slot (R185, R191). -/
def State.answered (s : State) (kind tag : Byte) (outcome : OutcomeCode) (data : List Byte) : State :=
  { s with link := { s.link with reply := some { kind := kind, tag := tag, outcome := outcome, data := data } } }

/-- The report set holds an entry for the object with these event flags among its own (R190). -/
def State.reported (s : State) (o : Obj) (f : BitVec 16) : Prop :=
  ∃ e ∈ s.link.reports, e.obj = o ∧ e.flags &&& f = f

/-! ### Invariants -/

/-- The report set holds at most one entry for each object (R190). -/
def State.reportsDistinct (s : State) : Prop := (s.link.reports.map ReportEntry.obj).Nodup

/-- The queues within the bounds the spec gives them (R53, R173, R176, R177). -/
def State.queuesBounded (s : State) : Prop :=
  s.lib.missQueue.length ≤ 4 ∧ s.lib.workQueue.length ≤ 6 ∧ s.lib.faulted.length ≤ 8 ∧ s.trace.entries.length ≤ 128

/-- What holds between steps: no arbitration owed, one report entry for each object, bounded queues, and the flash in its
canonical form. -/
def State.Inv (s : State) : Prop := s.calm ∧ s.reportsDistinct ∧ s.queuesBounded ∧ s.flash.wf = true

/-! ### Configurations that a profile image holds whole -/

/-- The numbers of a channel's configuration fit the image's fields. -/
def ChannelConfig.fits (c : ChannelConfig) : Prop :=
  -32768 ≤ c.rise ∧ c.rise < 32768 ∧ -32768 ≤ c.fall ∧ c.fall < 32768 ∧ c.persist < 65536

/-- The numbers of a pattern fit the image's fields. -/
def Pattern.fits (c : Pattern) : Prop := c.on < 65536 ∧ c.off < 65536

/-- Every number of a configuration fits its field of the image: true of what the requests clamp (R33, R51, R76, R100, R117). -/
def Profile.fits (p : Profile) : Prop :=
  (∀ c ∈ p.channels.toList, c.fits) ∧ (∀ c ∈ p.paths.toList, c.k < 65536 ∧ c.window < 65536) ∧
  (∀ c ∈ p.gates.toList, c.travel < 65536 ∧ c.motionLimit < 65536) ∧
  (∀ c ∈ p.segments.toList, c.lead < 65536 ∧ c.confirm < 65536) ∧
  (∀ c ∈ p.signs.toList, c.holdover < 65536 ∧ c.dwell < 65536) ∧
  p.patterns.closed.fits ∧ p.patterns.moving.fits ∧ p.patterns.alert.fits ∧
  p.listMargin < 65536 ∧ p.preCount < 65536 ∧ p.traceMargin < 65536

/-! ### Closing, as claims state it -/

/-- A segment after LOWER was entered: still in LOWER, or CLOSED where every gate is CLOSED (R10). -/
def State.lowered (t : State) (i : Fin 4) : Prop :=
  ((t.segment i).posture = .closing ∧ (t.segment i).phase = .lower ∧ (t.segment i).phaseTimer = 0) ∨
    ((t.segment i).posture = .closed ∧ (t.segment i).phase = .noPhase ∧
      ∀ g ∈ t.gatesOf i, (t.gate g).state = .closed)

/-- A segment after CONFIRM has ended: LEAD, or past it where the lead time is 0 or a PATH cause is held (R9). -/
def State.pastConfirm (t : State) (i : Fin 4) : Prop :=
  if (t.segment i).cfg.lead = 0 ∨ (t.segment i).hasPath = true then t.lowered i
  else (t.segment i).posture = .closing ∧ (t.segment i).phase = .lead ∧ (t.segment i).phaseTimer = 0

/-- A segment that a change of causes reaches while it is CLOSING or CLOSED, at rest: CONFIRM waits for a sign, and
CONFIRM_MISSING is not set where confirmation is met (R7, R8). -/
def State.confirmSettled (s : State) (i : Fin 4) : Prop :=
  s.confirmed i = false ∨ ((s.segment i).phase ≠ .confirm ∧ (s.segment i).confirmMissing = false)

/-- A segment in CONFIRM waits for a confirmation that is not met: where it is met CONFIRM has ended (R7). -/
def State.confirmWaits (s : State) : Prop := ∀ i : Fin 4, (s.segment i).phase = .confirm → s.confirmed i = false

/-- A segment record whose closing is sound, its confirmation met or not: causes are held in CLOSING and CLOSED and in no other
posture, a closing phase runs in CLOSING and in no other posture, and CONFIRM_MISSING is clear in CONFIRM and wherever confirmation
is met in CLOSING or CLOSED (R1, R4, R5, R7, R8). -/
def Segment.closingSound (r : Segment) (confirmed : Bool) : Prop :=
  (r.causes ≠ [] ↔ r.posture = .closing ∨ r.posture = .closed) ∧ (r.phase ≠ .noPhase ↔ r.posture = .closing) ∧
  (r.phase = .confirm → r.confirmMissing = false) ∧
  (r.posture = .closing ∨ r.posture = .closed → confirmed = true → r.confirmMissing = false)

/-- The segment records between steps: CONFIRM waits for its confirmation, and each record's closing is sound. -/
def State.closingSound (s : State) : Prop := s.confirmWaits ∧ ∀ i : Fin 4, (s.segment i).closingSound (s.confirmed i)

/-- A condition of CAUTION holds for a segment: UNCERTAIN, a path of it in WATCH or in ALERT with autoclose clear, or a POSTED
notice that names it (R6). -/
def State.mustCaution (s : State) (i : Fin 4) : Prop :=
  (s.segment i).uncertain = true ∨
  (∃ n : Fin 12, (s.path n).cfg.segment = i ∧
    ((s.path n).state = .watch ∨ ((s.path n).state = .alert ∧ (s.path n).cfg.autoclose = false))) ∨
  ∃ x ∈ s.listedNotices, x.state = .posted ∧ x.segments.getLsbD i.val = true

/-! ### Channel changes, as claims state them -/

/-- A trace entry of the present second and tick (R53). -/
def State.entry (s : State) (k : TraceKind) (object value : Nat) : TraceEntry :=
  { second := s.tmb.passClock, tick := s.tmb.tickInSecond, kind := k, object := object, value := value }

/-- The trace after entries are recorded in their order (R53 to R55). -/
def Trace.recordAll (t : Trace) (es : List TraceEntry) : Trace := es.foldl (fun u e => (u.record e).1) t

/-- The members of a path whose channels are QUIET or ACTIVE (R40). -/
def State.healthyMembers (s : State) (p : PathRec) : Nat :=
  ((List.finRange 16).filter fun c =>
    p.hasMember c && ((s.channel c).state == .quiet || (s.channel c).state == .active)).length

/-- Path n has the health that the channels of t give it: the healthy count, k_eff, and DEGRADED with the report of its change
(R41). -/
def State.healthTaken (s t : State) (n : Fin 12) : Prop :=
  let p := s.path n
  let h := t.healthyMembers p
  (t.path n).healthy = h ∧ (t.path n).kEff = max 1 (min p.cfg.k h) ∧ (t.path n).degraded = decide (h < p.cfg.k) ∧
  ((t.path n).degraded ≠ p.degraded → t.reported (.path n) Flag.pathDegraded)

/-! ### SET_CHANNEL, as claims state it -/

/-- A channel j that channel i has let go of as its reference: another referrer keeps it as it was, and with none left it leaves
SERVE for its base mode (R25). -/
def State.letGo (s t : State) (i j : Fin 16) : Prop :=
  let d := s.channel j
  let d' := t.channel j
  let named := ∃ k : Fin 16, k ≠ i ∧ (s.channel k).cfg.mode = .reference ∧ (s.channel k).cfg.reference = some j
  (named → d' = d) ∧
  (¬named →
    d'.cfg = { d.cfg with mode := if d.cfg.baseFixed then .fixed else .off } ∧ d'.lastSample = d.lastSample ∧
    d'.state = (if d.cfg.baseFixed then if d.state = .fault then .fault else .quiet else .off) ∧
    d'.riseRun = 0 ∧ d'.fallRun = 0 ∧
    d'.recoveryRun = (if d.cfg.baseFixed = true ∧ d.state = .fault then d.recoveryRun else 0) ∧
    (d.cfg.mode = .serve → t.reported (.channel j) Flag.chServe))

/-- What a channel record lets go of as its reference is no change that the PTM hears of: it names no reference, or one that is
neither in FAULT nor ACTIVE and no vote member of any path (R25, R31, R32). -/
def State.letsGoUnseen (s : State) (c : Channel) : Prop :=
  ∀ j : Fin 16, c.cfg.reference = some j →
    (s.channel j).state ≠ .fault ∧ (s.channel j).state ≠ .active ∧ ∀ n : Fin 12, (s.path n).hasMember j = false

/-- The change of state of channel i is handed to the PTM: CH_QUIET or CH_RECOVER in the trace or no entry, and a WATCH path that
the change leaves with no ACTIVE member takes QUIET, with no entry (R31, R34, R43). -/
def State.handedOver (s t : State) (i : Fin 16) : Prop :=
  let old := (s.channel i).state
  let new := (t.channel i).state
  let entry (k : TraceKind) : TraceEntry :=
    { second := s.tmb.passClock, tick := s.tmb.tickInSecond, kind := k, object := i.val,
      value := (t.channel i).lastSample.toNat }
  (old = .active → new = .quiet → t.trace = (s.trace.record (entry .chQuiet)).1) ∧
  (old = .fault → new ≠ .fault → t.trace = (s.trace.record (entry .chRecover)).1) ∧
  (¬(old = .active ∧ new = .quiet) → ¬(old = .fault ∧ new ≠ .fault) → t.trace = s.trace) ∧
  ∀ n : Fin 12, (t.path n).state =
    (if old = .active ∧ new ≠ .active ∧ (s.path n).hasMember i = true ∧ (s.path n).state = .watch ∧
        (List.finRange 16).all (fun c => !((s.path n).hasMember c && c != i && (s.channel c).state == .active)) = true
      then .quiet else (s.path n).state)

/-! ### Events that are due, as claims state them -/

/-- A command whose moment the list of due events gives, and the reset, which drops that list; every other command takes what is
due before it acts. -/
def leavesDue : Instr → Bool
  | .fullReset .. | .passClockSecond | .samplingTick .. | .chRecover .. | .chActive .. | .chQuiet .. | .confirmTimeout ..
  | .leadEnd .. | .stallFault .. | .motionTimeout .. | .pauseEnd .. | .relower .. | .stuck .. | .stuckLeft .. | .flashPhaseEnd ..
  | .rotationStep .. | .refreshDue .. | .signLapsed .. | .criticalPoint .. | .pollDue .. | .holdEntry .. | .heldWakeAge ..
  | .flashTimeout => true
  | _ => false

/-- A channel event is the first that the channels owe, and none that comes about with it stands behind it (R31). -/
def State.channelFirst (s : State) (d : Due) : Prop :=
  ∃ ds : List Due, s.channelDue = d :: ds ∧ ∀ e : Due, ds.head? = some e → e.isSilent = false

/-! ### Plans, as claims state them -/

/-- A sign watches a segment: one it names, or for role PATH the segment of its path (R116). -/
def State.watches (s : State) (g : Sign) (i : Fin 4) : Prop :=
  match g.cfg.role with
  | .none => False
  | .path => ∃ p : Fin 12, g.cfg.path = some p ∧ (s.path p).cfg.segment = i
  | .advance => g.cfg.segments.getLsbD i.val = true
  | .info => g.cfg.segments.getLsbD i.val = true

/-- A configured path is relevant to a sign: its own for role PATH, and else one of a watched segment (R116). -/
def State.relevantTo (s : State) (g : Sign) (p : Fin 12) : Prop :=
  (s.path p).cfg.members ≠ 0 ∧
  match g.cfg.role with
  | .none => False
  | .path => g.cfg.path = some p
  | .advance => s.watches g (s.path p).cfg.segment
  | .info => s.watches g (s.path p).cfg.segment

/-- Sign n has the plan that R120 gives it: the first class whose condition holds, with the rotation of that class, of at most six
distinct pages, and the device's own closure or caution page in front where R120 puts it. -/
def State.planStands (t : State) (n : Fin 16) : Prop :=
  let g := t.sign n
  let danger (p : Fin 12) : Prop := t.relevantTo g p ∧ ((t.path p).state = .alert ∨ (t.path p).state = .hold)
  let shut (i : Fin 4) : Prop := t.watches g i ∧ ((t.segment i).posture = .closing ∨ (t.segment i).posture = .closed)
  let watching : Prop := ∃ p : Fin 12, t.relevantTo g p ∧ (t.path p).state = .watch
  let announced : Prop := ∃ x ∈ t.listedNotices, x.state = .posted ∧ ∃ i : Fin 4, t.watches g i ∧ x.segments.getLsbD i.val = true
  (g.planClass = .hazard ↔ ∃ p, danger p) ∧
  (g.planClass = .closure ↔ (∀ p, ¬danger p) ∧ ∃ i, shut i) ∧
  (g.planClass = .caution ↔ (∀ p, ¬danger p) ∧ (∀ i, ¬shut i) ∧ (watching ∨ announced)) ∧
  (g.planClass = .condition ↔
    (∀ p, ¬danger p) ∧ (∀ i, ¬shut i) ∧ ¬watching ∧ ¬announced ∧ g.cfg.condition ≠ none) ∧
  g.rotation = (t.planOf g).2 ∧ g.rotation.Nodup ∧ g.rotation.length ≤ 6 ∧
  (g.planClass = .hazard → ∀ q ∈ g.rotation, ∃ p, danger p ∧ (t.path p).cfg.hazardPage = q) ∧
  (g.planClass = .closure → (∃ i, shut i ∧ ∃ c ∈ (t.segment i).causes, ∀ k : Nat, c ≠ .notice k) →
    g.rotation.head? = some (if g.cfg.role = .advance then 4 else 2)) ∧
  (g.planClass = .caution → watching → g.rotation.head? = some 3) ∧
  (g.planClass = .condition → g.rotation = g.cfg.condition.toList) ∧ (g.planClass = .blank → g.rotation = [])

/-- What a plan reads of paths, segments and notices differs between two states: a path's state, hazard page or segment, a cause
set, or the notices (R119). -/
def State.planInputsChanged (s t : State) : Prop :=
  (∃ n : Fin 12, (t.path n).state ≠ (s.path n).state ∨ (t.path n).cfg.hazardPage ≠ (s.path n).cfg.hazardPage ∨
    (t.path n).cfg.segment ≠ (s.path n).cfg.segment) ∨
  (∃ i : Fin 4, (t.segment i).causes ≠ (s.segment i).causes) ∨
  t.notices.slots ≠ s.notices.slots ∨ t.notices.order ≠ s.notices.order

/-- Sign n has taken another plan: from its first page, with a PLAN need of this tick, of class HAZARD for a HAZARD plan where no
HAZARD picture is displayed, and the report PLAN (R121, R122). -/
def State.planReplaced (s t : State) (n : Fin 16) : Prop :=
  let g := t.sign n
  g.index = 0 ∧ g.dwellCount = 0 ∧
  g.need = .plan (decide (g.planClass = .hazard ∧ (s.sign n).shown.cls ≠ .hazard)) s.now ∧ t.reported (.sign n) Flag.signPlan

/-- Sign n has kept its plan with its place in the rotation and its need (R122). -/
def State.planKept (s t : State) (n : Fin 16) : Prop :=
  (t.sign n).index = (s.sign n).index ∧ (t.sign n).dwellCount = (s.sign n).dwellCount ∧ (t.sign n).need = (s.sign n).need

/-- A request that changes one path, the causes of one segment or one notice: one change for the planner (R119). -/
def changesOne : Instr → Bool
  | .setPath .. | .ackPath .. | .dismissPath .. | .clearPath .. | .maskPath .. | .closeSegment .. | .openSegment ..
  | .postNotice .. | .endNotice .. => true
  | _ => false

/-- A command that may change several paths or notices, one after another: several changes for the planner (R119). -/
def changesMany : Instr → Bool
  | .setClock .. | .passClockSecond | .samplingTick .. | .chActive .. | .chQuiet .. | .chRecover .. | .setChannel .. => true
  | _ => false

/-! ### Line load, as claims state it -/

/-- The share of a sign while it is counted, by the cycle bits of R155's table. -/
def Sign.shareIfCounted (g : Sign) : Nat :=
  let bits : Nat := match g.granularity with
    | .full => 2840
    | .half => 3040
    | .quarter => 3440
  (8000 * bits + g.dueSpan - 1) / g.dueSpan

/-- The shares of the counted signs of a line, those in SHOWING or LAPSED, that are among the signs kept (R155). -/
def State.sharesOf (s : State) (l : Fin 2) (keep : Fin 16 → Bool) : Nat :=
  ((signsOf l).map fun n =>
    if keep n = true ∧ ((s.sign n).service = .showing ∨ (s.sign n).service = .lapsed) then (s.sign n).shareIfCounted else 0).sum

/-- A sum of shares in thousandths of the line's baud (R155). -/
def State.thousandths (s : State) (l : Fin 2) (sum : Nat) : Nat :=
  (sum + (s.line l).cfg.baud.rate - 1) / (s.line l).cfg.baud.rate

/-- A sign that R157 may shed: counted, sheddable, with plan CONDITION or BLANK. -/
def State.mayBeShed (s : State) (n : Fin 16) : Bool :=
  ((s.sign n).service == .showing || (s.sign n).service == .lapsed) && (s.sign n).cfg.sheddable
    && ((s.sign n).planClass == .condition || (s.sign n).planClass == .blank)

/-- A SHED sign that R159 does not hold shed. -/
def State.mayBeRestored (s : State) (n : Fin 16) : Bool :=
  (s.sign n).service == .shed && !(s.inReserve && (s.sign n).cfg.sheddable && (s.sign n).planClass == .condition)

/-- A line whose load is computed and settled: the sum and the load follow the counted signs, a load above 700 is OVERLOADED and
leaves no sign to shed, and the lowest SHED sign that is not held shed would bring the load above 500, the shares of HELD signs
counted while the line holds or resumes (R155 to R160, R166). -/
def State.loadSettled (t : State) (l : Fin 2) : Prop :=
  let r := t.line l
  let held : Nat := if r.state = .active then 0
    else ((signsOf l).map fun n => if (t.sign n).service = .held then (t.sign n).heldShare else 0).sum
  r.sum = t.sharesOf l (fun _ => true) ∧ r.load = t.thousandths l r.sum ∧ r.overloaded = decide (700 < r.load) ∧
  (700 < r.load → ∀ n : Fin 16, n.val / 8 = l.val → t.mayBeShed n = false) ∧
  ∀ n : Fin 16, n.val / 8 = l.val → t.mayBeRestored n = true →
    (∀ m : Fin 16, m.val / 8 = l.val → m < n → t.mayBeRestored m = false) →
    500 < t.thousandths l (r.sum + held + (t.sign n).shareIfCounted)

/-! ### What a claim leaves out: two states agree apart from a part when they are equal with the part put aside -/

/-- The state with its report set put aside. -/
def State.exceptReports (s : State) : State := { s with link := { s.link with reports := [] } }

/-- The state with its segment records and report set put aside. -/
def State.exceptSegments (s : State) : State := { s.exceptReports with segments := State.reset.segments }

/-- The state with segments, gates, flashers and the report set put aside. -/
def State.exceptBarriers (s : State) : State :=
  { s.exceptSegments with gates := State.reset.gates, flashers := State.reset.flashers }

/-- The state with signs, lines and the report set put aside. -/
def State.exceptSigns (s : State) : State :=
  { s.exceptReports with signs := State.reset.signs, lines := State.reset.lines }

/-- The state with all that an arbitration of a line or of the flash port can reach put aside: lines, the library unit and the
report set. -/
def State.exceptTraffic (s : State) : State :=
  { s.exceptReports with lines := State.reset.lines, lib := State.reset.lib }

/-- The state with all that the end of a step can reach put aside: what an arbitration can reach, and segments, gates and
flashers. -/
def State.exceptConclusion (s : State) : State :=
  { s.exceptBarriers with lines := State.reset.lines, lib := State.reset.lib }

/-- The state with all that the display and closure rules can reach from an event put aside: segments, gates, flashers, signs,
lines, the library unit and the report set. Sensor channels, counters, paths, the trace, notices, flash, timebase and the rest
of the link remain. -/
def State.exceptOutputs (s : State) : State :=
  { s.exceptBarriers with signs := State.reset.signs, lines := State.reset.lines, lib := State.reset.lib }

end Sys2Proof.Machine
end

