-- ==== Sys2Proof/Certificates/Slice0/Obligations.lean ====
section
/-! DEFINITION. The statements for the provers, one `def Obligations.<Name>` each: what the numbered rules of spec/ say that each command
and the machine do. Commands that are host requests are stated for a device that listens; each statement names what it changes and
puts everything else under one equation. -/

section

open Sys2Proof Sys2Proof.Machine

/-! ### The queue and the steps of the model -/

/-- The command at the front of the queue is taken, and its meaning on the state with the queue's rest is the step. -/
def Obligations.StepTakesFront : Prop :=
  ∀ (c : Instr) (q : List Instr) (s : State), s.pending = c :: q → step s = exec c (s.withPending q)

/-- The model's choices (log entries 1, 4 and 14). On an empty queue the device takes the first event that the last tick,
sampling tick or flash step made due, and idles where none is due. Every command that is no timed event, no SAMPLING_TICK and no
FULL_RESET first takes all that is due, one event after another, and then acts on a state that owes nothing: the other
statements speak of that state (95, TICK; R88, R98, R99, R150). -/
def Obligations.EmptyQueueTakesDue : Prop :=
  (∀ s : State, s.pending = [] →
    (s.due = [] → step s = .next s) ∧
    ∀ (d : Due) (ds : List Due), s.due = d :: ds → d.isChannel = false → d ≠ .sampling →
      step s = .next (State.conclude s ({ s with due := ds }.applyDue d))) ∧
  (∀ (c : Instr) (s : State), leavesDue c = false → exec c s = exec c s.settleDue) ∧
  (∀ s : State, s.settleDue.due = []) ∧
  (∀ s : State, s.due = [] → s.settleDue = s) ∧
  ∀ (d : Due) (ds : List Due) (s : State), s.due = d :: ds → d.isChannel = false → d ≠ .sampling →
    s.settleDue = (State.conclude s ({ s with due := ds }.applyDue d)).settleDue

/-! ### Request frames (13) -/

/-- Every request of the table is read back from its own body, whatever its fields, and its body has the table's kind and length;
and every body of a frame spells one command, which spells that body again: UNKNOWN_KIND for a kind outside the table, BAD_LENGTH
for a known kind of another length, and otherwise a request of that kind (R185). -/
def Obligations.FramesSpellCommands : Prop :=
  (∀ (c : Instr) (k : RequestKind), c.requestKind = some k →
     decodeBody (encodeBody c) = c ∧ (encodeBody c).length = k.bodyLength ∧ (encodeBody c).head? = some k.code) ∧
  (∀ (kind tag : Byte) (f : List Byte),
     encodeBody (decodeBody (kind :: tag :: f)) = kind :: tag :: f ∧
     (RequestKind.ofCode kind = none → decodeBody (kind :: tag :: f) = .unknownKind kind tag f) ∧
     ∀ k : RequestKind, RequestKind.ofCode kind = some k →
       if f.length + 2 = k.bodyLength then (decodeBody (kind :: tag :: f)).requestKind = some k
       else decodeBody (kind :: tag :: f) = .badLength kind tag f)

/-- A request acts as the bytes of its frame do on any link, idle or not: on an idle link they are parsed and the request is
applied at once, after the events that are due (R184, R185; log entry 14). -/
def Obligations.RequestIsItsFrame : Prop :=
  ∀ (c : Instr) (k : RequestKind) (s : State), c.requestKind = some k →
    let u := s.settleDue
    exec c s = .next (State.conclude u (u.receive (hostFrame (encodeBody c))))

/-- A frame of a kind that is not in the table is answered UNKNOWN_KIND and one of a wrong length BAD_LENGTH, with no data, and
nothing else changes; a request that is refused is answered with its outcome code and no data, and changes nothing else; every
answer carries the request's kind and tag (R184, R185). -/
def Obligations.RefusalsChangeNothing : Prop :=
  (∀ (kind tag : Byte) (f : List Byte) (s : State), s.listening →
     ((Instr.unknownKind kind tag f).wellFormed = true →
       exec (.unknownKind kind tag f) s = .next (s.answered kind tag .unknownKind [])) ∧
     ((Instr.badLength kind tag f).wellFormed = true →
       exec (.badLength kind tag f) s = .next (s.answered kind tag .badLength []))) ∧
  (∀ (c : Instr) (k : RequestKind) (s : State), s.listening → c.requestKind = some k →
     ∃ (t : State) (r : Reply), exec c s = .next t ∧ t.link.reply = some r ∧ r.kind = k.code ∧
       (encodeBody c)[1]? = some r.tag ∧
       (r.outcome ≠ .ok → r.data = [] ∧ t = s.answered r.kind r.tag r.outcome []))

/-- Bytes that make no good frame change nothing while the buffer has room for them: a frame that the receiver discards, and a
frame cut short by a gap. A byte that arrives while the buffer is full is dropped with the frame it belonged to (R184). The
model's choices: a bad frame that comes while a reply waits leaves the buffer at once and takes no room (log entry 45), and the
gap command carries the bytes before the gap (log entry 7). -/
def Obligations.NoFrameLeavesNothing : Prop :=
  (∀ (bytes : List Byte) (s : State), s.settled → s.link.rxPartial = [] → (s.link.rxFrames = [] ∨ s.link.reply ≠ none) →
     s.link.occupancy + bytes.length ≤ 256 →
     ((Instr.frameDiscarded bytes).wellFormed = true → exec (.frameDiscarded bytes) s = .next s) ∧
     ((Instr.interByteGapTimeout bytes).wellFormed = true → exec (.interByteGapTimeout bytes) s = .next s)) ∧
  (∀ (b : Byte) (s : State), s.settled → 256 ≤ s.link.occupancy → (s.link.rxFrames = [] ∨ s.link.reply ≠ none) →
     exec (.receiveBufferOverflow b) s = .next { s with link := { s.link with rxPartial := [] } })

/-- A request that arrives while a reply is still to be sent waits in the buffer, and is acted on when that reply has been sent.
Sending the reply empties the slot; the frame is the start byte, the length, the kind plus 0x80, the tag, the outcome code, the
data and the CRC-8; with no reply in the slot and no frame waiting nothing is sent (R184, R185, R191). -/
def Obligations.ReplySentBeforeNextRequest : Prop :=
  (∀ (c : Instr) (k : RequestKind) (r : Reply) (s : State), c.requestKind = some k → s.settled → s.link.reply = some r →
     s.link.rxPartial = [] →
     (s.link.occupancy + k.bodyLength + 3 ≤ 256 →
       exec c s = .next { s with link := { s.link with rxFrames := s.link.rxFrames ++ [encodeBody c] } }) ∧
     (s.link.rxFrames = [encodeBody c] →
       exec .replySend s = exec c { s with link := { s.link with reply := none, rxFrames := [], lastSent := r.frame } })) ∧
  (∀ s : State, s.settled → s.link.rxFrames = [] →
     (s.link.reply = none → exec .replySend s = .next s) ∧
     ∀ r : Reply, s.link.reply = some r →
       exec .replySend s = .next
         { s with link := { s.link with reply := none,
                                        lastSent := hostFrame ([r.kind + 0x80, r.tag] ++ u8 r.outcome.code ++ r.data) } })

/-- The report of the oldest entry is sent with the object's snapshot of that moment, and the entry leaves the set; with a reply
in the slot or an empty set nothing is sent. The report of a removed notice goes with its final snapshot and releases its slot, and
the near-full indication follows the free count, its posting joining the entries left (R105, R112, R191). -/
def Obligations.OldestReportSent : Prop :=
  ∀ s : State, s.settled →
    let sent (e : ReportEntry) : List Byte :=
      hostFrame ([0xC0, 0] ++ u8 e.obj.kindCode ++ u8 e.obj.index ++ bytesBE 2 e.flags ++ s.snapshot e.obj)
    ((s.link.reply ≠ none ∨ s.link.reports = []) → exec .reportSend s = .next s) ∧
    (∀ (e : ReportEntry) (rest : List ReportEntry), s.link.reply = none → s.link.reports = e :: rest →
       (∀ i : Fin 24, e.obj = .notice i → ∀ x : Notice, s.notices.slots[i] = some x → x.state.live = true) →
       exec .reportSend s = .next { s with link := { s.link with reports := rest, lastSent := sent e } }) ∧
    (∀ (e : ReportEntry) (rest : List ReportEntry) (i : Fin 24) (x : Notice),
       s.link.reply = none → s.link.reports = e :: rest → e.obj = .notice i → s.notices.slots[i] = some x →
       x.state.live = false →
       ∃ t : State, exec .reportSend s = .next t ∧ t.link.lastSent = sent e ∧
         t.notices.slots = s.notices.slots.set i none ∧
         t.notices.order = s.notices.order ∧ t.notices.lastNumber = s.notices.lastNumber ∧
         t.notices.freeCount = s.notices.freeCount + 1 ∧
         t.notices.spent = decide (t.notices.freeCount ≤ s.notices.margin) ∧
         (t.notices.spent = false ∨ s.notices.spent = true → t.link.reports = rest) ∧
         (t.notices.spent = true → s.notices.spent = false → t.reported .system Flag.listNearFull ∧
           (t.link.reports.filter fun r => r.obj != .system) = rest.filter fun r => r.obj != .system) ∧
         { t.exceptReports with notices := s.notices, link := { t.exceptReports.link with lastSent := s.link.lastSent } } =
           s.exceptReports)

/-- The requests that only read. IDENTIFY answers its six fields; INSPECT answers the kind, the index and the snapshot of every one
of the 95 objects, and refuses any other kind and index; READ_TRACE answers at most eight entries from the origin and offset asked
for, and is refused for an origin other than 0 or 1, for an offset above 127, and for origin MARK in an unmarked trace; none of
them changes anything (R56, R187, R188). -/
def Obligations.ReadingRequestsAnswer : Prop :=
  (∀ (tag : Byte) (s : State), s.listening →
     exec (.identify tag) s = .next
       (s.answered 0x01 tag .ok
         ([0x06, 0x40, Config.deviceRevision, BitVec.ofNat 8 s.link.resetCause.code,
           BitVec.ofNat 8 s.link.profileResult.code, 0x01, 0x00]))) ∧
  (∀ (tag : Byte) (s : State), s.listening →
     (∀ o : Obj, exec (.inspect tag (BitVec.ofNat 8 o.kindCode) (BitVec.ofNat 8 o.index)) s = .next
       (s.answered 0x06 tag .ok (u8 o.kindCode ++ u8 o.index ++ s.snapshot o))) ∧
     ∀ kind index : Byte, (∀ o : Obj, kind.toNat = o.kindCode → index.toNat ≠ o.index) →
       exec (.inspect tag kind index) s = .next (s.answered 0x06 tag .outOfRange [])) ∧
  ∀ (tag origin offset count : Byte) (s : State), s.listening →
    let tr := s.trace
    let es (start : Nat) := (tr.entries.drop start).take (max 1 (min 8 count.toNat))
    let reply (start : Nat) : List Byte :=
      u8 tr.entries.length ++ u8 tr.flags ++ u8 (tr.mark.getD 0xFF) ++ u8 (es start).length ++
        (es start).flatMap fun e => u32 (e.second.getD 0xFFFFFFFF) ++ u8 e.tick ++ u8 e.kind.code ++ u8 e.object ++ u16 e.value
    (127 < offset.toNat ∨ 1 < origin.toNat →
      exec (.readTrace tag origin offset count) s = .next (s.answered 0x1E tag .outOfRange [])) ∧
    (offset.toNat ≤ 127 →
      exec (.readTrace tag 0 offset count) s = .next (s.answered 0x1E tag .ok (reply offset.toNat)) ∧
      (tr.mark = none → exec (.readTrace tag 1 offset count) s = .next (s.answered 0x1E tag .wrongState [])) ∧
      ∀ m : Nat, tr.mark = some m →
        exec (.readTrace tag 1 offset count) s = .next (s.answered 0x1E tag .ok (reply (m + offset.toNat))))

/-! ### Segments (01) -/

/-- SET_SEGMENT clamps and writes the two times with the report CONFIG; a CONFIRM or LEAD whose timer already meets the new value
ends at once, and otherwise nothing else changes (R17). ADJUST_COUNT writes the clamped count and clears DRIFT and UNCERTAIN, with
the reports of what changed; an open segment is evaluated again and OCCUPIED recomputed in CLOSED (R14, R15, R20). That it posts no
report where it changes neither the count nor a flag is the model's choice (log entry 37). -/
def Obligations.SegmentSettingsApply : Prop :=
  (∀ (tag segment : Byte) (lead confirm : Half) (i : Fin 4) (s : State), s.listening → segment.toNat = i.val + 1 →
     let l := min 4800 lead.toNat
     let c := max 40 (min 960 confirm.toNat)
     let r := s.segment i
     let timedOut := r.phase = .confirm ∧ (if r.pathLimit then 32 else c) ≤ r.phaseTimer
     let ended := r.phase = .lead ∧ l ≤ r.phaseTimer
     let data := u8 (i.val + 1) ++ u16 l ++ u16 c
     (¬timedOut → ¬ended →
       exec (.setSegment tag segment lead confirm) s = .next
         (((s.setSegment i { r with cfg := { lead := l, confirm := c } }).post (.segment i) Flag.segConfig).answered
           0x10 tag .ok data)) ∧
     (timedOut ∨ ended →
       ∃ t : State, exec (.setSegment tag segment lead confirm) s = .next t ∧
         (t.segment i).cfg = { lead := l, confirm := c } ∧ (t.segment i).causes = r.causes ∧
         (timedOut → t.pastConfirm i ∧ (t.segment i).confirmMissing = true ∧
           t.reported (.segment i) (Flag.segConfig ||| Flag.segConfirmMissing ||| Flag.segPosture)) ∧
         (ended → t.lowered i ∧ (t.segment i).confirmMissing = r.confirmMissing ∧
           t.reported (.segment i) (Flag.segConfig ||| Flag.segPosture)) ∧
         (∀ j : Fin 4, j ≠ i → t.segment j = s.segment j) ∧
         t.exceptBarriers = (s.answered 0x10 tag .ok data).exceptBarriers)) ∧
  (∀ (tag segment : Byte) (count : Half) (i : Fin 4) (s : State), s.listening → segment.toNat = i.val + 1 →
     let k := min 999 count.toNat
     let r := s.segment i
     ∃ t : State, exec (.adjustCount tag segment count) s = .next t ∧
       (t.segment i).occupancy = k ∧ (t.segment i).drift = false ∧ (t.segment i).uncertain = false ∧
       (t.segment i).causes = r.causes ∧ (t.segment i).cfg = r.cfg ∧
       (k ≠ r.occupancy → t.reported (.segment i) Flag.segCount) ∧
       (r.drift = true → t.reported (.segment i) Flag.segDrift) ∧
       (r.uncertain = true → t.reported (.segment i) Flag.segUncertain) ∧
       (t.segment i).posture =
         (if (r.posture = .opened ∨ r.posture = .caution) ∧ r.uncertain = true then t.openPosture i else r.posture) ∧
       (r.posture = .closed → k ≠ r.occupancy ∨ r.uncertain = true → (t.segment i).occupied = decide (0 < k)) ∧
       ((t.segment i).posture ≠ r.posture → t.reported (.segment i) Flag.segPosture) ∧
       ((t.segment i).occupied ≠ r.occupied → t.reported (.segment i) Flag.segOccupied) ∧
       (k = r.occupancy → r.drift = false → r.uncertain = false → t = s.answered 0x13 tag .ok (u16 k)) ∧
       (∀ j : Fin 4, j ≠ i → t.segment j = s.segment j) ∧
       t.exceptSegments = (s.answered 0x13 tag .ok (u16 k)).exceptSegments)

/-- CLOSE_SEGMENT adds MANUAL in every posture: an open or reopening segment begins CONFIRM and goes past it at once where
confirmation is met, a closing or closed segment only gains the cause, and one that holds MANUAL is left as it was. A reopening
segment commands its RAISING and PAUSE gates down: they pause with DOWN pending, and while CONFIRM lasts a pause that has elapsed
ends at the closed limit only and no other gate changes. The reply gives the posture and the number of causes (R3, R4, R7, R13,
R18, R68, R72). -/
def Obligations.CloseSegmentAddsManual : Prop :=
  ∀ (tag segment : Byte) (i : Fin 4) (s : State), s.listening → segment.toNat = i.val + 1 →
    let r := s.segment i
    (Cause.manual ∈ r.causes →
      exec (.closeSegment tag segment) s = .next
        (s.answered 0x11 tag .ok (u8 r.posture.code ++ u8 r.causes.length))) ∧
    (Cause.manual ∉ r.causes →
      ∃ t : State, exec (.closeSegment tag segment) s = .next t ∧
        t.reported (.segment i) Flag.segCauses ∧
        ((r.posture = .opened ∨ r.posture = .caution ∨ r.posture = .reopening) →
          (t.segment i).causes = insertCause .manual r.causes ∧ t.reported (.segment i) Flag.segPosture ∧
          (t.segment i).confirmMissing = false ∧
          (if s.confirmed i = true then t.pastConfirm i
            else (t.segment i).posture = .closing ∧ (t.segment i).phase = .confirm ∧ (t.segment i).phaseTimer = 0)) ∧
        (r.posture = .reopening → ∀ g ∈ s.gatesOf i,
          let x := s.gate g
          let y := t.gate g
          (x.state = .raising ∨ (x.state = .pause ∧ x.pauseCount ≠ 4) →
            y.state = .pause ∧ y.pending = .down ∧ y.manualLowering = false) ∧
          (s.confirmed i = false → x.state = .pause → x.pauseCount = 4 →
            (x.closedLimit = true → y.state = .closed) ∧
            (x.closedLimit = false → y = { x with pending := .down, manualLowering := false })) ∧
          (s.confirmed i = false → x.state ≠ .raising → x.state ≠ .pause → y = x)) ∧
        ((r.posture = .closing ∨ r.posture = .closed) → s.confirmSettled i →
          t.segment i = { r with causes := insertCause .manual r.causes }) ∧
        ((r.posture = .closing ∨ r.posture = .closed → s.confirmSettled i) →
          t.exceptOutputs =
            (s.answered 0x11 tag .ok (u8 (t.segment i).posture.code ++ u8 (r.causes.length + 1))).exceptOutputs))

/-- OPEN_SEGMENT removes MANUAL and RESTART: with neither held nothing changes, with other causes left only the set changes, and
the removal of the last cause in CLOSING or CLOSED commands the gates up and enters REOPENING, which ends at once where every
gate is OPEN: a gate in PAUSE takes UP, at once where its pause has elapsed, a BLOCKED gate leaves it, and every gate's attempts,
relowering and manual lowering are cleared; the reply gives the causes that remain and the posture (R3, R5, R12, R19, R68, R71,
R72). -/
def Obligations.OpenSegmentRemovesCauses : Prop :=
  ∀ (tag segment : Byte) (i : Fin 4) (s : State), s.listening → segment.toNat = i.val + 1 →
    let r := s.segment i
    let left := r.causes.filter fun c => c != .manual && c != .restart
    (left = r.causes →
      exec (.openSegment tag segment) s = .next
        (s.answered 0x12 tag .ok (u8 r.causes.length ++ u8 r.posture.code))) ∧
    (left ≠ r.causes →
      ∃ t : State, exec (.openSegment tag segment) s = .next t ∧ t.reported (.segment i) Flag.segCauses ∧
        (left ≠ [] → s.confirmSettled i → t.segment i = { r with causes := left }) ∧
        (left = [] → r.posture = .closing ∨ r.posture = .closed →
          (t.segment i).causes = [] ∧ (t.segment i).phase = .noPhase ∧ (t.segment i).occupied = false ∧
          t.reported (.segment i) Flag.segPosture ∧
          ((t.segment i).posture =
            if (t.gatesOf i).all fun g => (t.gate g).state == .opened then t.openPosture i else .reopening) ∧
          ∀ g ∈ s.gatesOf i,
            ((s.gate g).state = .closed ∨ (s.gate g).state = .halted ∨ (s.gate g).state = .unknown →
              (t.gate g).state = .raising) ∧
            ((s.gate g).state = .lowering → (t.gate g).state = .pause ∧ (t.gate g).pending = .up) ∧
            ((s.gate g).state = .pause → (s.gate g).pauseCount ≠ 4 →
              (t.gate g).state = .pause ∧ (t.gate g).pending = .up) ∧
            ((s.gate g).state = .blocked ∨ ((s.gate g).state = .pause ∧ (s.gate g).pauseCount = 4) →
              (t.gate g).state = (if (s.gate g).openLimit then .opened else .raising) ∧
              ((s.gate g).state = .blocked → t.reported (.gate g) (Flag.gateState ||| Flag.gateBlocked))) ∧
            ((s.gate g).state = .opened ∨ (s.gate g).state = .raising ∨ (s.gate g).state = .fault →
              (t.gate g).state = (s.gate g).state) ∧
            (t.gate g).attempts = 0 ∧ (t.gate g).relowerArmed = false ∧ (t.gate g).manualLowering = false) ∧
        (s.confirmSettled i ∨ (left = [] ∧ (r.posture = .closing ∨ r.posture = .closed)) →
          t.exceptOutputs =
            (s.answered 0x12 tag .ok (u8 left.length ++ u8 (t.segment i).posture.code)).exceptOutputs))

/-- The segment records stay sound at every step, and are sound at reset: a segment holds a cause in CLOSING and CLOSED and in no
other posture, a closing phase runs in CLOSING and in no other posture, CONFIRM waits only while its confirmation is not met, and
CONFIRM_MISSING is clear in CONFIRM and wherever confirmation is met in CLOSING or CLOSED (R1, R4, R5, R7, R8). -/
def Obligations.ClosingRecordsSound : Prop :=
  (∀ s : State, s.closingSound → ∃ t : State, step s = .next t ∧ t.closingSound) ∧ State.reset.closingSound

/-- At the CONFIRM limit CONFIRM ends by timeout: CONFIRM_MISSING is set and reported, and the segment goes past CONFIRM. At the
lead time LEAD ends and LOWER begins: every gate of the segment is commanded down. One that stands still in OPEN, HALTED or
UNKNOWN, or whose pause has elapsed with the closed limit not active, is LOWERING with the DOWN output on, or reversed at once
where presence is active; a RAISING gate pauses before it goes down, one in PAUSE takes the direction DOWN, and at the closed
limit CLOSED where its pause has elapsed; a LOWERING, CLOSED, BLOCKED or FAULT gate stays; and no other segment's gate changes
(R8, R9, R10, R68, R69, R71, R72). -/
def Obligations.ClosingTimersEndPhases : Prop :=
  (∀ (i : Fin 4) (s : State), s.calm → Due.confirmTimeout i ∈ s.due → (s.segment i).phase = .confirm →
     (if (s.segment i).pathLimit then 32 else (s.segment i).cfg.confirm) ≤ (s.segment i).phaseTimer →
     ∃ t : State, exec (.confirmTimeout i) s = .next t ∧ (t.segment i).confirmMissing = true ∧
       t.reported (.segment i) (Flag.segConfirmMissing ||| Flag.segPosture) ∧ t.pastConfirm i ∧
       (t.segment i).causes = (s.segment i).causes ∧ (t.segment i).cfg = (s.segment i).cfg ∧
       (∀ j : Fin 4, j ≠ i → t.segment j = s.segment j) ∧
       t.exceptBarriers = { s with due := s.due.erase (.confirmTimeout i) }.exceptBarriers) ∧
  (∀ (i : Fin 4) (s : State), s.calm → Due.leadEnd i ∈ s.due → (s.segment i).phase = .lead →
     (s.segment i).cfg.lead ≤ (s.segment i).phaseTimer →
     ∃ t : State, exec (.leadEnd i) s = .next t ∧ t.lowered i ∧ t.reported (.segment i) Flag.segPosture ∧
       (t.segment i).causes = (s.segment i).causes ∧ (t.segment i).confirmMissing = (s.segment i).confirmMissing ∧
       (∀ g ∈ s.gatesOf i,
         let a := s.gate g
         let b := t.gate g
         let lowered : Prop := b.state = .lowering ∧ b.driveDown = true ∧ b.driveUp = false ∧ b.motionTicks = 0
         let reversed : Prop :=
           b.state = (if a.openLimit then (if 4 ≤ a.attempts then .blocked else .opened) else .raising) ∧
             b.attempts = min 5 (a.attempts + 1) ∧ t.reported (.gate g) Flag.gateReversal
         let lowers : Prop := (a.presence = false → lowered) ∧ (a.presence = true → reversed)
         b.cfg = a.cfg ∧ b.position = a.position ∧ b.presence = a.presence ∧ b.manualLowering = false ∧
         (a.state = .opened ∨ a.state = .halted ∨ a.state = .unknown → lowers) ∧
         (a.state = .lowering ∨ a.state = .closed ∨ a.state = .blocked ∨ a.state = .fault →
           b = { a with manualLowering := false }) ∧
         (a.state = .raising → b.state = .pause ∧ b.pending = .down ∧ b.pauseCount = 0) ∧
         (a.state = .pause → a.pauseCount ≠ 4 → b = { a with manualLowering := false, pending := .down }) ∧
         (a.state = .pause → a.pauseCount = 4 → (a.closedLimit = true → b.state = .closed) ∧ (a.closedLimit = false → lowers))) ∧
       (∀ g : Fin 6, g ∉ s.gatesOf i → t.gate g = s.gate g) ∧
       (∀ j : Fin 4, j ≠ i → t.segment j = s.segment j) ∧
       t.exceptBarriers = { s with due := s.due.erase (.leadEnd i) }.exceptBarriers)

/-- The reserve posture follows the request flag and the SUPPLY_LOW input: a change that leaves the posture changes nothing else;
a change of posture is reported, every flasher runs its effective class, in RESERVE no sheddable CONDITION sign stays counted, and
at the return to MAINS a line in HOLD_ENTRY or HELD wakes with cause 4; on both lines the load is computed again and the shedding
and the restoring it allows are done (R16, R97, R156, R158, R159, R167). -/
def Obligations.ReservePostureFollows : Prop :=
  ∀ (tag on : Byte) (v : Bool) (s : State), s.settled →
    let changed (before t : State) : Prop :=
      t.reported .system Flag.reserveChanged ∧
        (∀ i : Fin 8, (t.flasher i).running = (t.flasher i).effective t.inReserve) ∧
        (t.inReserve = true → ∀ n : Fin 16,
          ¬((t.sign n).counted = true ∧ (t.sign n).cfg.sheddable = true ∧ (t.sign n).planClass = .condition)) ∧
        (∀ l : Fin 2, t.loadSettled l ∧
          (t.inReserve = false → (s.line l).state = .holdEntry ∨ (s.line l).state = .held →
            (t.line l).wakeCause = 4 ∧ t.reported (.line l) Flag.lineWake ∧
              ((t.line l).state = .active ∨ (t.line l).state = .resuming))) ∧
        t.exceptOutputs = before.exceptOutputs
    (s.link.idle = true → 2 ≤ on.toNat → exec (.setReserve tag on) s = .next (s.answered 0x04 tag .outOfRange [])) ∧
    (s.link.idle = true → on.toNat < 2 →
      let flag := on == 1
      let before := { s with reserveRequest := flag }.answered 0x04 tag .ok [if flag || s.supplyLow then 1 else 0]
      ((flag || s.supplyLow) = s.inReserve → exec (.setReserve tag on) s = .next before) ∧
      ((flag || s.supplyLow) ≠ s.inReserve → ∃ t : State, exec (.setReserve tag on) s = .next t ∧ changed before t)) ∧
    ((s.reserveRequest || v) = s.inReserve → exec (.supplyLowChange v) s = .next { s with supplyLow := v }) ∧
    ((s.reserveRequest || v) ≠ s.inReserve →
      ∃ t : State, exec (.supplyLowChange v) s = .next t ∧ changed { s with supplyLow := v } t)

/-! ### Sensor channels (02) -/

/-- SET_CHANNEL to FIXED or OFF: numbers clamped by R33; a channel that keeps its mode only takes the numbers, another takes the
state of R34's table, a reference it lets go of stays SERVE for another referrer or takes its base mode, the change is handed to
the PTM, a SERVE channel set to FIXED stays SERVE and one set OFF is refused with CONFLICT; the reply gives what was applied
(R25, R31, R32, R33, R34). That the base mode keeps its last value outside SERVE is the model's choice (log entry 38). -/
def Obligations.SetChannelFixedOrOff : Prop :=
  ∀ (tag channel reference : Byte) (rise fall : Half) (persist : Byte) (i : Fin 16) (off : Bool) (s : State), s.listening →
    channel.toNat = i.val →
    let c := s.channel i
    let m : ChannelMode := if off then .off else .fixed
    let r0 := clampInt 0 4095 rise.toInt
    let f0 := clampInt 0 4095 fall.toInt
    let r : Int := if f0 < r0 then r0 else if r0 = 0 then 1 else r0
    let f : Int := if f0 < r0 then f0 else if r0 = 0 then 0 else r0 - 1
    let p := max 1 (min 8 persist.toNat)
    let command : Instr := .setChannel tag channel (if off then 0 else 1) reference rise fall persist
    let reply (mode : Nat) : List Byte := u8 i.val ++ u8 mode ++ u8 0xFF ++ i16 r ++ i16 f ++ u8 p
    (c.cfg.mode = m → c.cfg.reference = none →
      exec command s = .next
        (((s.setChannel i { c with cfg := { c.cfg with rise := r, fall := f, persist := p }, riseRun := 0, fallRun := 0 }).post
          (.channel i) Flag.chConfig).answered 0x18 tag .ok (reply (if off then 0 else 1)))) ∧
    (c.cfg.mode = .serve → c.cfg.reference = none →
      exec command s = .next
        (if off then s.answered 0x18 tag .conflict []
          else ((s.setChannel i { c with
              cfg := { c.cfg with baseFixed := true, rise := r, fall := f, persist := p }, riseRun := 0, fallRun := 0 }).post
            (.channel i) Flag.chConfig).answered 0x18 tag .ok (reply 3))) ∧
    (c.cfg.mode ≠ m → c.cfg.mode ≠ .serve → c.cfg.reference ≠ some i →
      ∃ t : State, exec command s = .next t ∧ t.reported (.channel i) Flag.chConfig ∧
        (t.channel i).cfg = { c.cfg with mode := m, reference := none, rise := r, fall := f, persist := p } ∧
        (t.channel i).riseRun = 0 ∧ (t.channel i).fallRun = 0 ∧ (t.channel i).lastSample = c.lastSample ∧
        (t.channel i).recoveryRun = (if off = false ∧ c.state = .fault then c.recoveryRun else 0) ∧
        (t.channel i).state = (if off then .off else if c.state = .fault then .fault else .quiet) ∧
        (∀ j : Fin 16, c.cfg.reference = some j → s.letGo t i j) ∧ (s.letsGoUnseen c → s.handedOver t i) ∧
        (∀ j : Fin 16, j ≠ i → c.cfg.reference ≠ some j → t.channel j = s.channel j) ∧
        { t.exceptOutputs with channels := s.channels, paths := s.paths, trace := s.trace } =
          (s.answered 0x18 tag .ok (reply (if off then 0 else 1))).exceptOutputs)

/-- SET_CHANNEL to REFERENCE: refused with CONFLICT on itself, on a channel in REFERENCE, on a vote member and for a SERVE
channel; the numbers are clamped to the range of REFERENCE; the reference it already names is kept with its state; otherwise the
channel takes the reference, which becomes SERVE with its mode kept as the base mode, it is REF_FAULT where that reference is in
FAULT, the reference it lets go of stays SERVE for another referrer or takes its base mode, and the change is handed to the PTM
(R25, R29, R31, R32, R33, R34). That the base mode keeps its last value outside SERVE is the model's choice (log entry 38). -/
def Obligations.SetChannelReference : Prop :=
  ∀ (tag channel reference : Byte) (rise fall : Half) (persist : Byte) (i j : Fin 16) (s : State), s.listening →
    channel.toNat = i.val → reference.toNat = j.val →
    let c := s.channel i
    let d := s.channel j
    let command : Instr := .setChannel tag channel 2 reference rise fall persist
    let conflict := j = i ∨ d.cfg.mode = .reference ∨ (∃ n : Fin 12, (s.path n).hasMember j = true) ∨ c.cfg.mode = .serve
    let r0 := clampInt (-4095) 4095 rise.toInt
    let f0 := clampInt (-4095) 4095 fall.toInt
    let r : Int := if f0 < r0 then r0 else if r0 = -4095 then -4094 else r0
    let f : Int := if f0 < r0 then f0 else if r0 = -4095 then -4095 else r0 - 1
    let p := max 1 (min 8 persist.toNat)
    let reply : List Byte := u8 i.val ++ u8 2 ++ u8 j.val ++ i16 r ++ i16 f ++ u8 p
    (conflict → exec command s = .next (s.answered 0x18 tag .conflict [])) ∧
    (¬conflict → c.cfg.mode = .reference → c.cfg.reference = some j →
      exec command s = .next
        (((s.setChannel i { c with cfg := { c.cfg with rise := r, fall := f, persist := p }, riseRun := 0, fallRun := 0 }).post
          (.channel i) Flag.chConfig).answered 0x18 tag .ok reply)) ∧
    (¬conflict → c.cfg.reference ≠ some j → c.cfg.reference ≠ some i →
      ∃ t : State, exec command s = .next t ∧ t.reported (.channel i) Flag.chConfig ∧
        (t.channel i).cfg = { c.cfg with mode := .reference, reference := some j, rise := r, fall := f, persist := p } ∧
        (t.channel i).riseRun = 0 ∧ (t.channel i).fallRun = 0 ∧ (t.channel i).lastSample = c.lastSample ∧
        (t.channel i).recoveryRun = (if c.state = .fault then c.recoveryRun else 0) ∧
        (t.channel i).state =
          (if c.state = .fault then .fault else if d.state = .fault then .refFault else .quiet) ∧
        (d.cfg.mode = .serve → t.channel j = d) ∧
        (d.cfg.mode ≠ .serve →
          (t.channel j).cfg = { d.cfg with mode := .serve, baseFixed := d.cfg.mode == .fixed } ∧
            (t.channel j).state = (if d.state = .fault then .fault else .serve) ∧
            (t.channel j).riseRun = 0 ∧ (t.channel j).fallRun = 0 ∧
            (t.channel j).recoveryRun = d.recoveryRun ∧ t.reported (.channel j) Flag.chServe) ∧
        (∀ k : Fin 16, c.cfg.reference = some k → s.letGo t i k) ∧ (s.letsGoUnseen c → s.handedOver t i) ∧
        (∀ k : Fin 16, k ≠ i → k ≠ j → c.cfg.reference ≠ some k → t.channel k = s.channel k) ∧
        { t.exceptOutputs with channels := s.channels, paths := s.paths, trace := s.trace } =
          (s.answered 0x18 tag .ok reply).exceptOutputs)

/-- A sampling tick takes every conversion of a channel that is not OFF; a QUIET or ACTIVE channel in FIXED or REFERENCE with a
sound reference compares and counts, and owes its change where the run reaches the persist count; a FAULT channel counts its
recovery; an out-of-range sample takes a channel to FAULT, and a reference found in FAULT or out of it takes a REFERENCE channel
into REF_FAULT or back to QUIET without comparing (R27, R28, R29, R30). Each entry to FAULT is traced, and a change of state of a
member gives its path the health of its members; a WATCH path whose last ACTIVE member is lost takes QUIET, and every other path
keeps its state (R31, R40, R41, R43, R53). That CH_ACTIVE, CH_QUIET and CH_RECOVER are steps of their
own, owed with the run standing at its end, so that a FAULT or REF_FAULT change behind one of them in R31's order is owed with it,
is the model's choice (log entry 1); a change with none of them before it comes about within this step. -/
def Obligations.SamplingTickConverts : Prop :=
  ∀ (x : Vector (BitVec 12) 16) (s : State), s.calm → Due.sampling ∈ s.due → (∀ d ∈ s.due, d.isChannel = false) →
    ∃ t : State, exec (.samplingTick x) s = .next t ∧ t.analog = x ∧
      (∀ i : Fin 16,
        let c := s.channel i
        let bad (j : Fin 16) : Prop := x[j].toNat ≤ 15 ∨ 4080 ≤ x[j].toNat
        (c.cfg.mode = .off → c.state = .off → t.channel i = { c with compared := none }) ∧
        (c.cfg.mode ≠ .off → (t.channel i).lastSample = x[i] ∧ (t.channel i).cfg = c.cfg) ∧
        (c.cfg.mode ≠ .off → c.state = .fault →
          (t.channel i).state = .fault ∧ (t.channel i).compared = none ∧
            (t.channel i).recoveryRun = (if x[i].toNat ≤ 15 ∨ 4080 ≤ x[i].toNat then 0 else min 8 (c.recoveryRun + 1)) ∧
            (Due.chRecover i ∈ t.due ↔ (t.channel i).recoveryRun = 8)) ∧
        (c.cfg.mode ≠ .off → c.state ≠ .fault → bad i →
          (∀ j : Fin 16, (s.channel j).state = .fault → (s.channel j).recoveryRun < 7) →
            (t.channel i).state = .fault ∧ (t.channel i).recoveryRun = 0 ∧ t.reported (.channel i) Flag.chFault) ∧
        (∀ j : Fin 16, c.cfg.mode = .reference → c.cfg.reference = some j → c.state ≠ .fault → ¬bad i →
          (∀ k : Fin 16, (s.channel k).state = .fault → (s.channel k).recoveryRun < 7) →
          let down := (s.channel j).state = .fault ∨ ((s.channel j).cfg.mode ≠ .off ∧ bad j)
          let first := ∀ k : Fin 16, k < i → Due.chActive k ∉ t.due ∧ Due.chQuiet k ∉ t.due
          let takes (v : ChannelState) : Prop :=
            (first → t.channel i =
                { c with lastSample := x[i], compared := none, riseRun := 0, fallRun := 0, recoveryRun := 0, state := v } ∧
              t.reported (.channel i) Flag.chRefFault) ∧
            (¬first → Due.chRefFault i ∈ t.due)
          (c.state = .quiet ∨ c.state = .active → down → takes .refFault) ∧
          (c.state = .refFault → ¬down → takes .quiet) ∧
          (c.state = .refFault → down → t.channel i = { c with lastSample := x[i], compared := none })) ∧
        ∀ v : Int,
          (c.cfg.mode = .fixed ∧ v = x[i].toNat) ∨
            (c.cfg.mode = .reference ∧ ∃ j : Fin 16, c.cfg.reference = some j ∧ (s.channel j).cfg.mode ≠ .off ∧
              (s.channel j).state ≠ .fault ∧ ¬bad j ∧ v = (x[i].toNat : Int) - x[j].toNat) →
          ¬bad i →
          (c.state = .quiet →
            let run := if c.cfg.rise ≤ v then min 8 (c.riseRun + 1) else 0
            t.channel i = { c with lastSample := x[i], compared := some v, riseRun := run, fallRun := 0 } ∧
              (Due.chActive i ∈ t.due ↔ c.cfg.persist ≤ run)) ∧
          (c.state = .active →
            let run := if v ≤ c.cfg.fall then min 8 (c.fallRun + 1) else 0
            t.channel i = { c with lastSample := x[i], compared := some v, riseRun := 0, fallRun := run } ∧
              (Due.chQuiet i ∈ t.due ↔ c.cfg.persist ≤ run))) ∧
      (t.trace = s.trace.recordAll ((List.finRange 16).filterMap fun i =>
        if (s.channel i).state ≠ .fault ∧ (t.channel i).state = .fault then some (s.entry .chFault i.val x[i].toNat) else none)) ∧
      (∀ n : Fin 12,
        let p := s.path n
        let changed : Prop := ∃ c : Fin 16, p.hasMember c = true ∧ (t.channel c).state ≠ (s.channel c).state
        let lost : Prop :=
          (∃ c : Fin 16, p.hasMember c = true ∧ (s.channel c).state = .active ∧ (t.channel c).state ≠ .active) ∧
            ∀ c : Fin 16, p.hasMember c = true → (t.channel c).state ≠ .active
        (¬changed → t.path n = p) ∧ (changed → s.healthTaken t n) ∧
        (t.path n).cfg = p.cfg ∧ (t.path n).lastAct = p.lastAct ∧ (t.path n).lastVote = p.lastVote ∧
        (p.state = .watch → lost → (t.path n).state = .quiet ∧ t.reported (.path n) Flag.pathState) ∧
        (¬(p.state = .watch ∧ lost) → (t.path n).state = p.state)) ∧
      { t.exceptOutputs with channels := s.channels, paths := s.paths, trace := s.trace, analog := s.analog, due := s.due } =
        s.exceptOutputs

/-- CH_ACTIVE takes a QUIET channel whose rise run has reached its persist count to ACTIVE, is reported and traced, and is a
member activation for every configured path that has the channel: MASKED takes nothing, ALERT and HOLD only the activation, and
QUIET and WATCH vote, to ALERT where the count meets k_eff and to WATCH otherwise, with the cause and the flasher request that
an ALERT brings (R30, R31, R42, R44, R45). The trace gains CH_ACTIVE and then, by ascending path, PATH_ALERT with the count of each
path that goes to ALERT and PATH_WATCH of each that leaves QUIET for WATCH, and each path that has the channel takes the health of
its members (R40, R41, R53). The events that other channels owe behind this one stay owed: that they are steps of
their own is the model's choice (log entry 1). -/
def Obligations.ChannelActivationVotes : Prop :=
  ∀ (i : Fin 16) (s : State), s.calm → s.channelFirst (.chActive i) → (s.channel i).state = .quiet →
    (s.channel i).cfg.persist ≤ (s.channel i).riseRun →
    let votes (p : PathRec) : Prop := p.hasMember i = true ∧ (p.state = .quiet ∨ p.state = .watch)
    let healthy (p : PathRec) := (List.finRange 16).filter fun c => p.hasMember c && (s.channel c).healthy
    let count (p : PathRec) : Nat := ((healthy p).filter fun c => c == i || p.inWindow s.now c).length
    let met (p : PathRec) : Prop := max 1 (min p.cfg.k (healthy p).length) ≤ count p
    ∃ t : State, exec (.chActive i) s = .next t ∧
      t.channels = s.channels.set i
        { s.channel i with state := .active, riseRun := 0, fallRun := 0, recoveryRun := 0 } ∧
      t.reported (.channel i) Flag.chState ∧
      ((∀ n : Fin 12, votes (s.path n) → 1 ≤ (s.path n).cfg.window) →
        t.trace = s.trace.recordAll
          (s.entry .chActive i.val (s.channel i).lastSample.toNat :: (List.finRange 12).filterMap fun n =>
            let p := s.path n
            if votes p then
              (if met p then some (s.entry .pathAlert n.val (count p))
                else if p.state = .quiet then some (s.entry .pathWatch n.val 0) else none)
            else none)) ∧
      (∀ n : Fin 12,
        let p := s.path n
        (p.hasMember i = false → t.path n = p) ∧
        (p.hasMember i = true → (t.path n).cfg = p.cfg ∧ s.healthTaken t n ∧
          ((t.path n).state ≠ p.state → t.reported (.path n) Flag.pathState) ∧
          (p.state = .masked → (t.path n).state = .masked ∧ (t.path n).lastAct = p.lastAct) ∧
          (p.state ≠ .masked → (t.path n).lastAct = p.lastAct.set i (some s.now)) ∧
          (p.state = .alert ∨ p.state = .hold → (t.path n).state = p.state ∧ (t.path n).lastVote = p.lastVote) ∧
          (p.state = .quiet ∨ p.state = .watch → 1 ≤ p.cfg.window →
            (t.path n).lastVote = count p ∧ (t.path n).state = (if met p then .alert else .watch) ∧
              (met p → t.reported (.path n) Flag.pathState ∧
                (p.cfg.autoclose = true → Cause.path n ∈ (t.segment p.cfg.segment).causes) ∧
                ∀ f : Fin 8, p.cfg.flasher = some f → (t.flasher f).pathReq[n] = true)))) ∧
      t.due = s.due.erase (.chActive i) ∧
      { t.exceptOutputs with channels := s.channels, paths := s.paths, trace := s.trace, due := s.due } = s.exceptOutputs

/-- CH_QUIET takes an ACTIVE channel whose fall run has reached its persist count to QUIET, and a WATCH path it leaves with no
ACTIVE member takes QUIET; CH_RECOVER takes a channel whose recovery run has reached 8 out of FAULT to the state of its mode; no
other path changes its state (R28, R30, R43). Each is traced, and each path that has the channel takes the health of its members
(R31, R40, R41, R53). The events that other channels owe behind this one stay owed: that they are steps
of their own is the model's choice (log entry 1). -/
def Obligations.ChannelQuietAndRecovery : Prop :=
  ∀ (i : Fin 16) (s : State), s.calm →
    (s.channelFirst (.chQuiet i) → (s.channel i).state = .active → (s.channel i).cfg.persist ≤ (s.channel i).fallRun →
      ∃ t : State, exec (.chQuiet i) s = .next t ∧
        t.channels = s.channels.set i { s.channel i with state := .quiet, riseRun := 0, fallRun := 0, recoveryRun := 0 } ∧
        t.reported (.channel i) Flag.chState ∧
        (∀ n : Fin 12,
          let p := s.path n
          (t.path n).cfg = p.cfg ∧ (t.path n).lastAct = p.lastAct ∧ (t.path n).lastVote = p.lastVote ∧
          (p.hasMember i = false → t.path n = p) ∧ (p.hasMember i = true → s.healthTaken t n) ∧
          ((t.path n).state ≠ p.state → t.reported (.path n) Flag.pathState) ∧
          (t.path n).state =
            (if p.hasMember i = true ∧ p.state = .watch ∧
                (List.finRange 16).all (fun c => !(p.hasMember c && c != i && (s.channel c).state == .active)) = true
              then .quiet else p.state)) ∧
        t.trace = s.trace.recordAll [s.entry .chQuiet i.val (s.channel i).lastSample.toNat] ∧
        t.due = s.due.erase (.chQuiet i) ∧
        { t.exceptOutputs with channels := s.channels, paths := s.paths, trace := s.trace, due := s.due } = s.exceptOutputs) ∧
    (s.channelFirst (.chRecover i) → (s.channel i).state = .fault → (s.channel i).recoveryRun = 8 →
      ∃ t : State, exec (.chRecover i) s = .next t ∧
        (∃ v : ChannelState,
          t.channels = s.channels.set i { s.channel i with state := v, riseRun := 0, fallRun := 0, recoveryRun := 0 } ∧
          ((s.channel i).cfg.mode = .fixed → v = .quiet) ∧ ((s.channel i).cfg.mode = .serve → v = .serve) ∧
          ∀ j : Fin 16, (s.channel i).cfg.mode = .reference → (s.channel i).cfg.reference = some j → j ≠ i →
            let bad := Due.chFault j ∈ s.due ∨ (Due.chRecover j ∉ s.due ∧ (s.channel j).state = .fault)
            v = if bad then .refFault else .quiet) ∧
        t.reported (.channel i) Flag.chRecover ∧
        (∀ n : Fin 12,
          let p := s.path n
          (t.path n).cfg = p.cfg ∧ (t.path n).state = p.state ∧ (t.path n).lastAct = p.lastAct ∧
            (t.path n).lastVote = p.lastVote ∧ (p.hasMember i = false → t.path n = p) ∧
            (p.hasMember i = true → s.healthTaken t n)) ∧
        t.trace = s.trace.recordAll [s.entry .chRecover i.val (s.channel i).lastSample.toNat] ∧
        t.due = s.due.erase (.chRecover i) ∧
        { t.exceptOutputs with channels := s.channels, paths := s.paths, trace := s.trace, due := s.due } = s.exceptOutputs)

/-! ### Avalanche paths and the event trace (03) -/

/-- SET_PATH: refused with OUT_OF_RANGE for more than eight members, then with WRONG_STATE in ALERT or HOLD where the members or the
segment change, then with CONFLICT for a SERVE member; otherwise the clamped fields are written, a change of members clears the
activations and the vote, and the state, the health, the cause and the reply follow (R41, R44, R50, R51). -/
def Obligations.SetPathApplies : Prop :=
  ∀ (tag path segment k autoclose flasher : Byte) (members window hazardPage : Half) (n : Fin 12) (i : Fin 4) (a : Bool)
    (fl : Option (Fin 8)) (s : State), s.listening → path.toNat = n.val → segment.toNat = i.val + 1 →
    autoclose.toNat = (if a then 1 else 0) → hazardPage.toNat < 4096 → flasher.toNat = (fl.map Fin.val).getD 0xFF →
    let p := s.path n
    let size := (bitsOf members).length
    let command : Instr := .setPath tag path segment members k window autoclose hazardPage flasher
    let moved := p.cfg.members ≠ members
    let cfg : PathConfig :=
      { segment := i, members := members, k := if members = 0 then 1 else min (max 1 (min 8 k.toNat)) size,
        window := max 1 (min 2400 window.toNat), autoclose := a, hazardPage := hazardPage.setWidth 12, flasher := fl,
        masked := p.cfg.masked && members != 0 }
    let active := (List.finRange 16).any fun c => members.getLsbD c.val && (s.channel c).state == .active
    let healthy := ((List.finRange 16).filter fun c => members.getLsbD c.val && (s.channel c).healthy).length
    let latched := p.state = .alert ∨ p.state = .hold
    let serving := ∃ c ∈ bitsOf members, (s.channel c).cfg.mode = .serve
    (8 < size → exec command s = .next (s.answered 0x19 tag .outOfRange [])) ∧
    (size ≤ 8 → latched ∧ (moved ∨ p.cfg.segment ≠ i) → exec command s = .next (s.answered 0x19 tag .wrongState [])) ∧
    (size ≤ 8 → ¬(latched ∧ (moved ∨ p.cfg.segment ≠ i)) → serving →
      exec command s = .next (s.answered 0x19 tag .conflict [])) ∧
    (size ≤ 8 → ¬(latched ∧ (moved ∨ p.cfg.segment ≠ i)) → ¬serving →
      ∃ t : State, exec command s = .next t ∧ t.reported (.path n) Flag.pathConfig ∧ (t.path n).cfg = cfg ∧
        (moved → (∀ c : Fin 16, (t.path n).lastAct[c] = none) ∧ (t.path n).lastVote = 0) ∧
        (¬moved → (t.path n).lastAct = p.lastAct ∧ (t.path n).lastVote = p.lastVote) ∧
        (t.path n).state =
          (if members = 0 then .quiet else if moved then
              if p.state = .masked then .masked else if active then .watch else .quiet
            else p.state) ∧
        ((t.path n).state ≠ p.state → t.reported (.path n) Flag.pathState) ∧
        (members ≠ 0 → (t.path n).healthy = healthy ∧ (t.path n).kEff = max 1 (min cfg.k healthy) ∧
          (t.path n).degraded = decide (healthy < cfg.k)) ∧
        (p.state = .alert → p.cfg.autoclose = false → a = true → members ≠ 0 → Cause.path n ∈ (t.segment i).causes) ∧
        (p.state = .alert → p.cfg.autoclose = true → a = false → Cause.path n ∉ (t.segment i).causes) ∧
        (∀ m : Fin 12, m ≠ n → t.path m = s.path m) ∧
        { t.exceptOutputs with paths := s.paths } =
          (s.answered 0x19 tag .ok
            (u8 n.val ++ u8 (t.path n).state.code ++ u8 cfg.k ++ u16 cfg.window ++ u8 (t.path n).healthy)).exceptOutputs)

/-- The path requests. ACK_PATH, DISMISS_PATH and CLEAR_PATH are refused on an unconfigured path and in any state but their own;
ACK_PATH takes ALERT to HOLD, which is a cause whatever the autoclose flag; the others clear the activations and the vote, take
WATCH where a member is ACTIVE and QUIET otherwise, and withdraw the cause and the flasher request; each change is traced.
MASK_PATH by state: QUIET and WATCH are masked with their activations and vote cleared, MASKED is unmasked to WATCH or QUIET,
ALERT and HOLD refuse masking, and the other cells change nothing; nothing is traced (R43 to R49). -/
def Obligations.PathRequestsByState : Prop :=
  (∀ (tag path : Byte) (n : Fin 12) (s : State), s.listening → path.toNat = n.val →
       let p := s.path n
       let active := (List.finRange 16).any fun c => p.hasMember c && (s.channel c).state == .active
       let free : PathState := if active then .watch else .quiet
       let entry (k : TraceKind) : TraceEntry :=
         { second := s.tmb.passClock, tick := s.tmb.tickInSecond, kind := k, object := n.val, value := 0 }
       let released (kind : Byte) (k : TraceKind) (t : State) : Prop :=
         t.path n = { p with state := free, lastAct := Vector.replicate 16 none, lastVote := 0 } ∧
           t.reported (.path n) Flag.pathState ∧ t.trace = (s.trace.record (entry k)).1 ∧
           (p.state = .hold ∨ p.cfg.autoclose = true → Cause.path n ∉ (t.segment p.cfg.segment).causes) ∧
           (∀ f : Fin 8, p.cfg.flasher = some f → (t.flasher f).pathReq[n] = false) ∧
           (∀ m : Fin 12, m ≠ n → t.path m = s.path m) ∧
           { t.exceptOutputs with paths := s.paths, trace := s.trace } =
             (s.answered kind tag .ok (u8 free.code)).exceptOutputs
       (p.cfg.members = 0 →
         exec (.ackPath tag path) s = .next (s.answered 0x1A tag .notConfigured []) ∧
         exec (.dismissPath tag path) s = .next (s.answered 0x1B tag .notConfigured []) ∧
         exec (.clearPath tag path) s = .next (s.answered 0x1C tag .notConfigured [])) ∧
       (p.cfg.members ≠ 0 →
         (p.state ≠ .alert →
           exec (.ackPath tag path) s = .next (s.answered 0x1A tag .wrongState []) ∧
           exec (.dismissPath tag path) s = .next (s.answered 0x1B tag .wrongState [])) ∧
         (p.state ≠ .hold → exec (.clearPath tag path) s = .next (s.answered 0x1C tag .wrongState [])) ∧
         (p.state = .alert → ∃ t : State, exec (.ackPath tag path) s = .next t ∧
           t.path n = { p with state := .hold } ∧ t.reported (.path n) Flag.pathState ∧
           t.trace = (s.trace.record (entry .pathHold)).1 ∧
           (p.cfg.autoclose = false → Cause.path n ∈ (t.segment p.cfg.segment).causes) ∧
           (∀ m : Fin 12, m ≠ n → t.path m = s.path m) ∧
           { t.exceptOutputs with paths := s.paths, trace := s.trace } =
             (s.answered 0x1A tag .ok (u8 PathState.hold.code)).exceptOutputs) ∧
         (p.state = .alert → ∃ t : State, exec (.dismissPath tag path) s = .next t ∧ released 0x1B .pathDismiss t) ∧
         (p.state = .hold → ∃ t : State, exec (.clearPath tag path) s = .next t ∧ released 0x1C .pathClear t))) ∧
  (∀ (tag path : Byte) (n : Fin 12) (s : State), s.listening → path.toNat = n.val → (s.path n).cfg.members ≠ 0 →
       let p := s.path n
       let active := (List.finRange 16).any fun c => p.hasMember c && (s.channel c).state == .active
       let frame (t : State) : Prop :=
         t.reported (.path n) Flag.pathState ∧ (∀ m : Fin 12, m ≠ n → t.path m = s.path m) ∧
           { t.exceptOutputs with paths := s.paths } = (s.answered 0x1D tag .ok (u8 (t.path n).state.code)).exceptOutputs
       (p.state = .quiet ∨ p.state = .watch → ∃ t : State, exec (.maskPath tag path 1) s = .next t ∧ frame t ∧
         t.path n = { p with state := .masked, cfg := { p.cfg with masked := true }, lastAct := Vector.replicate 16 none,
                             lastVote := 0 }) ∧
       (p.state = .masked → ∃ t : State, exec (.maskPath tag path 0) s = .next t ∧ frame t ∧
         t.path n = { p with state := (if active then .watch else .quiet), cfg := { p.cfg with masked := false } }) ∧
       (p.state = .alert ∨ p.state = .hold →
         exec (.maskPath tag path 1) s = .next (s.answered 0x1D tag .wrongState [])) ∧
       (p.state = .masked → exec (.maskPath tag path 1) s = .next (s.answered 0x1D tag .ok (u8 4))) ∧
       (p.state ≠ .masked → exec (.maskPath tag path 0) s = .next (s.answered 0x1D tag .ok (u8 p.state.code))))

/-- An entry recorded in an unmarked trace joins the newest 128, and a PATH_ALERT marks it the pre-count of entries back or at the
oldest. While the trace is marked no entry from the mark to the newest is lost: recording keeps the protected span as the first
part of the new one, and a full trace whose oldest entry is the marked one refuses the entry and sets TRUNCATED (R53 to R55). -/
def Obligations.TraceRecords : Prop :=
  (∀ (e : TraceEntry) (t : Trace), t.mark = none → t.entries.length ≤ 128 →
     (t.record e).1.entries = (t.entries ++ [e]).drop (t.entries.length - 127) ∧
     (e.kind ≠ .pathAlert → (t.record e).1.mark = none ∧ (t.record e).2 = 0) ∧
     (e.kind = .pathAlert →
       (t.record e).1.mark = some ((t.record e).1.entries.length - 1 - t.preCount) ∧
       (t.record e).1.nearFullPosted = false ∧ (t.record e).2 = Flag.traceMarked)) ∧
  (∀ (e : TraceEntry) (m : Nat) (t : Trace), t.mark = some m → m ≤ t.entries.length → t.entries.length ≤ 128 →
     ∃ m' : Nat, (t.record e).1.mark = some m' ∧
       (t.entries.drop m) <+: ((t.record e).1.entries.drop m') ∧ (t.record e).1.entries.length ≤ 128 ∧
       (t.entries.length = 128 → m = 0 →
         (t.record e).1 = { t with truncated := true } ∧ (t.record e).2 = (if t.truncated then 0 else Flag.traceFull)) ∧
       (t.entries.length < 128 → (t.record e).1.entries = t.entries ++ [e] ∧ m' = m) ∧
       (t.entries.length = 128 → 0 < m → (t.record e).1.entries = t.entries.tail ++ [e] ∧ m' + 1 = m))

/-- RELEASE_TRACE unmarks the trace and clears TRUNCATED and the near-full indication with the report RELEASED, keeps the entries,
and changes nothing on an unmarked trace; afterwards the ring overwrites its oldest entry and the next PATH_ALERT marks it afresh
(R57). -/
def Obligations.ReleaseTraceUnmarks : Prop :=
  ∀ (tag : Byte) (s : State), s.listening →
    let free : Trace := { s.trace with mark := none, truncated := false, nearFullPosted := false }
    (s.trace.mark = none →
      exec (.releaseTrace tag) s = .next (s.answered 0x1F tag .ok (u8 s.trace.entries.length))) ∧
    (s.trace.mark ≠ none →
      exec (.releaseTrace tag) s = .next
        (({ s with trace := free }.post .trace Flag.traceReleased).answered 0x1F tag .ok (u8 s.trace.entries.length))) ∧
    encodeBody (.releaseTrace tag) = [0x1F, tag] ∧
    ∀ e : TraceEntry,
      (s.trace.entries.length = 128 → (free.record e).1.entries = s.trace.entries.tail ++ [e]) ∧
      (e.kind = .pathAlert → (free.record e).2 = Flag.traceMarked ∧
        (free.record e).1.mark = some ((free.record e).1.entries.length - 1 - s.trace.preCount)) ∧
      (s.trace.mark ≠ none → e.kind = .pathAlert →
        (s.trace.record e).1.mark ≠ none ∧ (s.trace.record e).2 ≠ Flag.traceMarked ∧
        ∃ t : State, exec (.releaseTrace tag) { s with trace := (s.trace.record e).1 } = .next t ∧ t.trace.mark = none ∧
          t.trace.entries = (s.trace.record e).1.entries)

/-- SET_TRACE writes the clamped pre-count and margin with the report CONFIG and moves no mark; the next entry written in a marked
trace uses the new margin, and both values are saved with the profile (R58). -/
def Obligations.SetTraceApplies : Prop :=
  ∀ (tag preCount margin : Byte) (s : State), s.listening →
    let p := min 64 preCount.toNat
    let m := min 32 margin.toNat
    let t := ({ s with trace := { s.trace with preCount := p, margin := m } }.post .trace Flag.traceConfig).answered
      0x20 tag .ok (u8 p ++ u8 m)
    exec (.setTrace tag preCount margin) s = .next t ∧
    t.trace.mark = s.trace.mark ∧ t.configImage.preCount = p ∧ t.configImage.traceMargin = m ∧
    encodeBody (.setTrace tag preCount margin) = [0x20, tag, preCount, margin] ∧
    (s.trace.entries.length ≤ 128 →
      (∀ (e : TraceEntry) (k : Nat), s.trace.mark = some k → k ≤ s.trace.entries.length →
        s.trace.entries.length < 128 ∨ 0 < k → s.trace.nearFullPosted = false →
        let used := if s.trace.entries.length < 128 then s.trace.entries.length + 1 - k else 128 - (k - 1)
        (t.trace.record e).2 = if 128 - used ≤ m then Flag.traceNearFull else 0) ∧
      ∀ e : TraceEntry, s.trace.mark = none → e.kind = .pathAlert →
        (t.trace.record e).1.mark = some ((t.trace.record e).1.entries.length - 1 - p))

/-! ### Gate arms (04) -/

/-- SET_GATE refuses a change of segment or unit in LOWERING, RAISING or PAUSE, then a unit that is not an ENCODER or is taken.
Accepted, it writes the clamped fields: a gate made configured starts up from its limit inputs, one made unconfigured is cleared
to UNKNOWN, any other keeps its state; a gate that joins a segment in LOWER or CLOSED is commanded down and one that joins a
segment in REOPENING up, whether it was unconfigured or stood still in another segment; and a segment in LOWER that loses its
last gate becomes CLOSED, one in REOPENING OPEN or CAUTION (R2, R73, R76, R77, R79). A change of segment is stated where every
segment in CONFIRM waits for a confirmation that is not met (R7), which ClosingRecordsSound says of every state between steps.
That a gate made unconfigured stands at position 0, unreferenced, is the model's choice (log entry 12). -/
def Obligations.SetGateApplies : Prop :=
  ∀ (tag gate segment unit flasher : Byte) (travel motionLimit : Half) (i : Fin 6) (seg : Option (Fin 4)) (u : Fin 12)
    (fl : Option (Fin 8)) (s : State), s.listening → gate.toNat = i.val →
    segment.toNat = (match seg with | some k => k.val + 1 | none => 0) → unit.toNat = u.val →
    flasher.toNat = (fl.map Fin.val).getD 0xFF →
    let g := s.gate i
    let command : Instr := .setGate tag gate segment unit travel motionLimit flasher
    let cfg : GateConfig :=
      { segment := seg, encoder := u, travel := max 100 (min 8000 travel.toNat),
        motionLimit := max 40 (min 2400 motionLimit.toNat), flasher := fl }
    let busy := (g.state = .lowering ∨ g.state = .raising ∨ g.state = .pause) ∧ (g.cfg.segment ≠ seg ∨ g.cfg.encoder ≠ u)
    let conflict := seg ≠ none ∧ ((s.counter u).cfg.mode ≠ .encoder ∨
      ∃ j : Fin 6, j ≠ i ∧ (s.gate j).cfg.segment ≠ none ∧ (s.gate j).cfg.encoder = u)
    let startState : GateState :=
      if g.openLimit then (if g.closedLimit then .fault else .opened) else if g.closedLimit then .closed else .unknown
    let atRest (k : Fin 4) : Prop :=
      ((s.segment k).posture = .opened ∨ (s.segment k).posture = .caution) ∧ (s.segment k).phase = .noPhase
    let frame (t : State) : Prop :=
      t.reported (.gate i) Flag.gateConfig ∧ (t.gate i).cfg = cfg ∧ (∀ j : Fin 6, j ≠ i → t.gate j = s.gate j) ∧
        t.exceptBarriers =
          (s.answered 0x24 tag .ok
            (u8 i.val ++ u8 (t.gate i).state.code ++ u16 cfg.travel ++ u16 cfg.motionLimit)).exceptBarriers
    (busy → exec command s = .next (s.answered 0x24 tag .wrongState [])) ∧
    (¬busy → conflict → exec command s = .next (s.answered 0x24 tag .conflict [])) ∧
    (¬busy → ¬conflict →
      ∃ t : State, exec command s = .next t ∧
        (∀ k : Fin 4, seg = some k → g.cfg.segment = some k →
          frame t ∧ t.segments = s.segments ∧
          t.gate i = { g with cfg := cfg, position :=
            if g.cfg.travel ≠ cfg.travel ∧ g.closedLimit = true ∧ g.state ≠ .fault then (cfg.travel : Int) else g.position } ∧
          (∀ f : Fin 8, g.cfg.flasher = some f → fl ≠ some f → (t.flasher f).gateReq[i] = .none) ∧
          (∀ f : Fin 8, g.cfg.flasher ≠ some f → fl = some f → (t.flasher f).gateReq[i] = g.state.request)) ∧
        (∀ k k' : Fin 4, seg = some k → g.cfg.segment = some k' → k ≠ k' → s.confirmWaits →
          frame t ∧ (∀ j : Fin 4, j ≠ k → j ≠ k' → t.segment j = s.segment j) ∧
          (t.gate i).limit .openLimit = g.openLimit ∧ (t.gate i).limit .closedLimit = g.closedLimit ∧
          (t.gate i).presence = g.presence ∧ (t.gate i).referenced = g.referenced ∧
          (t.gate i).position =
            (if g.cfg.travel ≠ cfg.travel ∧ g.closedLimit = true ∧ g.state ≠ .fault then (cfg.travel : Int) else g.position) ∧
          (atRest k → (t.gate i).state = g.state ∧ t.segment k = s.segment k) ∧
          ((s.segment k).posture = .closed ∨ (s.segment k).phase = .lower →
            (g.state = .closed ∨ g.state = .blocked ∨ g.state = .fault → (t.gate i).state = g.state) ∧
            (g.state = .opened ∨ g.state = .halted ∨ g.state = .unknown → g.presence = false →
              (t.gate i).state = .lowering)) ∧
          ((s.segment k).posture = .reopening → (s.segment k).phase = .noPhase →
            (g.state = .opened ∨ g.state = .fault → (t.gate i).state = g.state) ∧
            (g.state = .closed ∨ g.state = .halted ∨ g.state = .unknown → (t.gate i).state = .raising)) ∧
          (atRest k' → t.segment k' = s.segment k') ∧
          ((s.segment k').posture = .closing → (s.segment k').phase = .lower → s.gatesOf k' = [i] →
            (t.segment k').posture = .closed ∧ (t.segment k').phase = .noPhase) ∧
          ((s.segment k').posture = .reopening → (s.segment k').phase = .noPhase → s.gatesOf k' = [i] →
            (t.segment k').posture = .opened ∨ (t.segment k').posture = .caution)) ∧
        (∀ k : Fin 4, seg = some k → g.cfg.segment = none → g.state = .unknown → atRest k →
          frame t ∧ t.segments = s.segments ∧ (t.gate i).state = startState ∧
          (t.gate i).position = (if startState = .closed then (cfg.travel : Int) else 0) ∧
          ((t.gate i).referenced = true ↔ startState = .opened ∨ startState = .closed) ∧
          (t.gate i).faultCause = (if startState = .fault then .limitConflict else .none) ∧ (t.gate i).attempts = 0 ∧
          (t.gate i).relowerArmed = false ∧ (t.gate i).manualLowering = false ∧
          ∀ f : Fin 8, fl = some f → (t.flasher f).gateReq[i] = startState.request) ∧
        (∀ k : Fin 4, seg = some k → g.cfg.segment = none → g.state = .unknown → (s.segment k).posture = .closing →
          (s.segment k).phase = .lower → startState = .opened ∨ startState = .unknown → g.presence = false →
          frame t ∧ (t.gate i).state = .lowering) ∧
        (∀ k : Fin 4, seg = none → g.cfg.segment = some k → atRest k →
          frame t ∧ t.segments = s.segments ∧ (t.gate i).state = .unknown ∧ (t.gate i).position = 0 ∧
          (t.gate i).referenced = false ∧ (t.gate i).faultCause = .none ∧ (t.gate i).attempts = 0 ∧
          ∀ f : Fin 8, g.cfg.flasher = some f → (t.flasher f).gateReq[i] = .none) ∧
        (∀ k : Fin 4, seg = none → g.cfg.segment = some k → s.gatesOf k = [i] → (s.segment k).phase = .lower →
          frame t ∧ (t.segment k).posture = .closed ∧ (t.segment k).phase = .noPhase))

/-- MOVE_GATE: refused on an unconfigured gate, in FAULT, and by the check of its action against the gate's state or its segment;
accepted, the gate takes the state of R74's table, through PAUSE for a reversal of a driven arm, with presence read before
lowering and the fifth reversal at the open limit blocking the gate; the reply gives the state, the pending direction and the
percentage (R63, R68, R69, R71, R74). -/
def Obligations.MoveGateByState : Prop :=
  ∀ (tag gate action : Byte) (o : Bool) (a : MoveAction) (i : Fin 6) (s : State), s.listening → gate.toNat = i.val →
    action.toNat = (match a with | .stop => 0 | .up => 1 | .down => 2) →
    let g := s.gate i
    let command : Instr := .moveGate tag gate action (if o then 1 else 0)
    let posture (p : Posture → Phase → Bool) : Prop := ∃ k : Fin 4, g.cfg.segment = some k ∧
      p (s.segment k).posture (s.segment k).phase = true
    let allowed : Prop := match a with
      | .stop => g.state = .lowering ∨ g.state = .raising ∨ g.state = .pause
      | .up => o = true ∨ posture fun p _ => p == .opened || p == .caution || p == .reopening
      | .down => o = true ∨ posture fun p ph => (p == .closing && ph == .lower) || p == .closed
    let attempts := if g.state = .blocked then 0 else g.attempts
    let raised : GateState := if g.openLimit then .opened else .raising
    let lowered : GateState :=
      if g.presence then (if g.openLimit then (if 4 ≤ attempts then .blocked else .opened) else .raising) else .lowering
    let result : GateState := match a, g.state with
      | .stop, _ => .halted
      | .up, .lowering => .pause
      | .up, .raising => .raising
      | .up, .pause => if g.pauseCount = 4 then raised else .pause
      | .up, .opened => .opened
      | .up, .closed => .raising
      | .up, _ => raised
      | .down, .lowering => .lowering
      | .down, .raising => .pause
      | .down, .pause => if g.pauseCount = 4 then lowered else .pause
      | .down, .opened => lowered
      | .down, .closed => .closed
      | .down, _ => if g.closedLimit then .closed else lowered
    (g.cfg.segment = none → exec command s = .next (s.answered 0x25 tag .notConfigured [])) ∧
    (g.cfg.segment ≠ none → g.state = .fault ∨ ¬allowed → exec command s = .next (s.answered 0x25 tag .wrongState [])) ∧
    (g.cfg.segment ≠ none → g.state ≠ .fault → allowed →
      ∃ t : State, exec command s = .next t ∧ (t.gate i).state = result ∧ (t.gate i).cfg = g.cfg ∧
        (t.gate i).position = g.position ∧
        (result = .pause → (t.gate i).pending = (match a with | .up => .up | .down => .down | .stop => .none)) ∧
        (result ≠ .pause → result ≠ g.state → (t.gate i).pending = .none) ∧
        (result = .lowering ∨ result = .pause → (t.gate i).manualLowering = (o && a == .down)) ∧
        (result ≠ g.state → t.reported (.gate i) Flag.gateState) ∧
        (g.state = .blocked → t.reported (.gate i) Flag.gateBlocked) ∧
        (∀ j : Fin 6, j ≠ i → t.gate j = s.gate j) ∧
        t.exceptBarriers =
          (s.answered 0x25 tag .ok
            (u8 i.val ++ u8 result.code ++ u8 (t.gate i).pending.code ++ u8 (t.gate i).percent)).exceptBarriers)

/-- RESET_GATE: refused on an unconfigured gate and outside FAULT; in FAULT the state is rebuilt from the limit inputs, and with
both active the gate stays in FAULT with cause LIMIT_CONFLICT (R75). -/
def Obligations.ResetGateRebuilds : Prop :=
  ∀ (tag gate : Byte) (i : Fin 6) (s : State), s.listening → gate.toNat = i.val →
    let g := s.gate i
    (g.cfg.segment = none → exec (.resetGate tag gate) s = .next (s.answered 0x26 tag .notConfigured [])) ∧
    (g.cfg.segment ≠ none → g.state ≠ .fault →
      exec (.resetGate tag gate) s = .next (s.answered 0x26 tag .wrongState [])) ∧
    (g.cfg.segment ≠ none → g.state = .fault →
      (g.openLimit = true → g.closedLimit = true →
        exec (.resetGate tag gate) s = .next
          ((s.setGate i { g with faultCause := .limitConflict }).answered 0x26 tag .ok (u8 i.val ++ u8 8 ++ u8 3))) ∧
      (¬(g.openLimit = true ∧ g.closedLimit = true) →
        ∃ t : State, exec (.resetGate tag gate) s = .next t ∧ t.reported (.gate i) Flag.gateState ∧
          (t.gate i).faultCause = .none ∧ (t.gate i).cfg = g.cfg ∧
          (g.openLimit = true →
            (t.gate i).state = .opened ∧ (t.gate i).position = 0 ∧ (t.gate i).referenced = true) ∧
          (g.closedLimit = true →
            (t.gate i).state = .closed ∧ (t.gate i).position = g.cfg.travel ∧ (t.gate i).referenced = true ∧
            (t.gate i).attempts = 0) ∧
          (g.openLimit = false → g.closedLimit = false →
            (t.gate i).state = .unknown ∧ (t.gate i).position = g.position ∧ (t.gate i).referenced = g.referenced) ∧
          (∀ j : Fin 6, j ≠ i → t.gate j = s.gate j) ∧
          t.exceptBarriers =
            (s.answered 0x26 tag .ok (u8 i.val ++ u8 (t.gate i).state.code ++ u8 0)).exceptBarriers))

/-- The limit inputs of a configured gate. An arrival with the other limit active is FAULT LIMIT_CONFLICT with no correction;
otherwise the position is set to the limit's, ENCODER_SLIP reported where it was off by more than T div 16, manual lowering
ends, and the state follows R64's table; the last gate to reach CLOSED in LOWER closes its segment, and the last to reach OPEN
in REOPENING ends it in OPEN or CAUTION. A departure from the limit the gate stands at takes it from OPEN or CLOSED to HALTED
with LIMIT_LOST, and a CLOSED segment reports GATE_TROUBLE; in any other state only the input's level changes (R6, R8, R10, R11,
R12, R14, R64, R65, R67, R71, R74). That a RAISING gate with five attempts is BLOCKED at the open limit, and that no other
arrival there is, is the model's reading (log entry 11). -/
def Obligations.LimitInputsAct : Prop :=
  (∀ (i : Fin 6) (side : LimitSide) (k : Fin 4) (s : State), s.settled → (s.gate i).cfg.segment = some k →
       (s.gate i).limit side = false →
       let g := s.gate i
       let expected : Int := if side = .openLimit then 0 else g.cfg.travel
       let result : GateState := match g.state, side with
         | .raising, .openLimit => if g.attempts = 5 then .blocked else .opened
         | .blocked, .openLimit => .blocked
         | .pause, _ => .pause
         | .fault, _ => .fault
         | _, .openLimit => .opened
         | _, .closedLimit => .closed
       ∃ t : State, exec (.limitArrival i side) s = .next t ∧ (t.gate i).limit side = true ∧ (t.gate i).cfg = g.cfg ∧
         (∀ j : Fin 6, j ≠ i → t.gate j = s.gate j) ∧ t.exceptBarriers = s.exceptBarriers ∧
         (g.limit (otherLimit side) = true →
           (t.gate i).state = .fault ∧ (t.gate i).position = g.position ∧ (t.gate i).referenced = g.referenced ∧
             (g.state ≠ .fault → (t.gate i).faultCause = .limitConflict ∧
               t.reported (.gate i) (Flag.gateFault ||| Flag.gateState)) ∧
             (g.state = .fault → (t.gate i).faultCause = g.faultCause)) ∧
         (g.limit (otherLimit side) = false →
           (t.gate i).position = expected ∧ (t.gate i).referenced = true ∧ (t.gate i).state = result ∧
             (t.gate i).manualLowering = false ∧
             (g.referenced = true → g.cfg.travel / 16 < (g.position - expected).natAbs →
               t.reported (.gate i) Flag.gateSlip) ∧
             ((g.state = .raising ∧ side = .closedLimit) ∨ (g.state = .lowering ∧ side = .openLimit) →
               t.reported (.gate i) Flag.gateWrongEnd) ∧
             (result = .closed → g.state ≠ .closed → (t.gate i).attempts = 0) ∧
             (result = .opened → g.state ≠ .raising → (t.gate i).relowerArmed = false) ∧
             (result = .opened → g.state = .raising → (t.gate i).relowerArmed = g.relowerArmed) ∧
             (side = .closedLimit → result = .closed → g.state ≠ .closed → (s.segment k).posture = .closing →
               (s.segment k).phase = .lower → (∀ j ∈ s.gatesOf k, j ≠ i → (s.gate j).state = .closed) →
               (t.segment k).posture = .closed ∧ (t.segment k).phase = .noPhase ∧
                 (t.segment k).occupied = (decide (0 < (s.segment k).occupancy) || (s.segment k).uncertain)) ∧
             (side = .openLimit → result = .opened → g.state ≠ .opened → (s.segment k).posture = .reopening →
               (∀ j ∈ s.gatesOf k, j ≠ i → (s.gate j).state = .opened) →
               (s.mustCaution k → (t.segment k).posture = .caution) ∧ (¬s.mustCaution k → (t.segment k).posture = .opened) ∧
                 (t.segment k).phase = .noPhase ∧ (t.segment k).causes = (s.segment k).causes ∧
                 (t.segment k).confirmMissing = false ∧ t.reported (.segment k) Flag.segPosture))) ∧
  (∀ (i : Fin 6) (side : LimitSide) (k : Fin 4) (s : State), s.settled → (s.gate i).cfg.segment = some k →
       (s.gate i).limit side = true →
       let g := s.gate i
       let stands := (side = .openLimit ∧ g.state = .opened) ∨ (side = .closedLimit ∧ g.state = .closed)
       (¬stands → exec (.limitLost i side) s = .next (s.setGate i (g.setLimit side false))) ∧
       (stands → ∃ t : State, exec (.limitLost i side) s = .next t ∧ (t.gate i).state = .halted ∧
         (t.gate i).limit side = false ∧ (t.gate i).position = g.position ∧ (t.gate i).referenced = g.referenced ∧
         (t.gate i).driveDown = false ∧ (t.gate i).driveUp = false ∧
         t.reported (.gate i) (Flag.gateLimitLost ||| Flag.gateState) ∧
         ((s.segment k).posture = .closed → g.state = .closed → t.reported (.segment k) Flag.segGateTrouble) ∧
         (∀ j : Fin 6, j ≠ i → t.gate j = s.gate j) ∧ t.exceptBarriers = s.exceptBarriers))

/-- Presence under a lowering arm raises it at once: one more attempt, relowering armed, REVERSAL reported, and RAISING, or OPEN at
the open limit, or BLOCKED there at the fifth attempt; in any other state only the input's level changes (R69, R70, R71). -/
def Obligations.PresenceReversesLowering : Prop :=
  ∀ (i : Fin 6) (level : Bool) (s : State), s.settled → (s.gate i).presence ≠ level →
    let g := s.gate i
    (¬(level = true ∧ g.cfg.segment ≠ none ∧ g.state = .lowering) →
      exec (.presenceChange i level) s = .next
        (s.setGate i { g with presence := level, clearCount := if level then 0 else g.clearCount })) ∧
    (level = true → g.cfg.segment ≠ none → g.state = .lowering →
      ∃ t : State, exec (.presenceChange i level) s = .next t ∧ (t.gate i).presence = true ∧
        (t.gate i).state =
          (if g.openLimit then (if 4 ≤ g.attempts then .blocked else .opened) else .raising) ∧
        (t.gate i).attempts = min 5 (g.attempts + 1) ∧ (t.gate i).clearCount = 0 ∧ (t.gate i).manualLowering = false ∧
        ((t.gate i).relowerArmed = true ↔ (t.gate i).state ≠ .blocked) ∧ (t.gate i).driveDown = false ∧
        ((t.gate i).state = .raising → (t.gate i).motionTicks = 0 ∧ (t.gate i).stallCount = 0) ∧
        t.reported (.gate i) Flag.gateReversal ∧
        (∀ j : Fin 6, j ≠ i → t.gate j = s.gate j) ∧ t.exceptBarriers = s.exceptBarriers)

/-- The timers of a gate. A driven gate that has stalled takes FAULT with cause STALL, and one whose motion ticks have reached its
motion limit takes FAULT with cause TIMEOUT: both outputs off, the position kept, FAULT and STATE reported, and GATE_TROUBLE for a
segment in LOWER or REOPENING (R10, R12, R66, R67). An elapsed pause takes its pending direction: up to OPEN at the open limit and
to RAISING otherwise; down to CLOSED at the closed limit, to lowering where the segment is in LOWER or CLOSED or the lowering is
manual, and otherwise nothing. After 24 ticks of clear presence a relowering gate lowers again in a segment in LOWER and is
disarmed in any other (R68, R69, R70). -/
def Obligations.GateTimersAct : Prop :=
  (∀ (i : Fin 6) (k : Fin 4) (s : State), s.calm → (s.gate i).cfg.segment = some k →
     (s.gate i).state = .lowering ∨ (s.gate i).state = .raising →
     let g := s.gate i
     let fails (d : Due) (cause : FaultCause) (t : State) : Prop :=
       (t.gate i).state = .fault ∧ (t.gate i).faultCause = cause ∧ (t.gate i).driveDown = false ∧
         (t.gate i).driveUp = false ∧ (t.gate i).position = g.position ∧ (t.gate i).referenced = g.referenced ∧
         (t.gate i).pending = .none ∧ (t.gate i).manualLowering = false ∧ (t.gate i).relowerArmed = false ∧
         t.reported (.gate i) (Flag.gateFault ||| Flag.gateState) ∧
         ((s.segment k).phase = .lower ∨ (s.segment k).posture = .reopening → t.reported (.segment k) Flag.segGateTrouble) ∧
         (∀ j : Fin 6, j ≠ i → t.gate j = s.gate j) ∧
         t.exceptBarriers = { s with due := s.due.erase d }.exceptBarriers
     (Due.stall i ∈ s.due → g.stallCount = 8 →
       ∃ t : State, exec (.stallFault i) s = .next t ∧ fails (.stall i) .stall t) ∧
     (Due.motion i ∈ s.due → g.cfg.motionLimit ≤ g.motionTicks →
       ∃ t : State, exec (.motionTimeout i) s = .next t ∧ fails (.motion i) .timeout t)) ∧
  (∀ (i : Fin 6) (k : Fin 4) (s : State), s.calm → (s.gate i).cfg.segment = some k →
     let g := s.gate i
     let r := s.segment k
     let lowers := (r.posture = .closing ∧ r.phase = .lower) ∨ r.posture = .closed
     let frame (d : Due) (t : State) : Prop :=
       (∀ j : Fin 6, j ≠ i → t.gate j = s.gate j) ∧ t.exceptBarriers = { s with due := s.due.erase d }.exceptBarriers
     (Due.pause i ∈ s.due → g.state = .pause → g.pauseCount = 4 →
       ∃ t : State, exec (.pauseEnd i) s = .next t ∧ frame (.pause i) t ∧
         (g.pending = .up → (t.gate i).state = if g.openLimit then .opened else .raising) ∧
         (g.pending = .down → g.closedLimit = true → (t.gate i).state = .closed) ∧
         (g.pending = .down → g.closedLimit = false → lowers ∨ g.manualLowering = true → g.presence = false →
           (t.gate i).state = .lowering ∧ (t.gate i).driveDown = true ∧ (t.gate i).motionTicks = 0) ∧
         (g.pending = .down → g.closedLimit = false → ¬lowers → g.manualLowering = false →
           t = { s with due := s.due.erase (.pause i) })) ∧
     (Due.relower i ∈ s.due → g.state = .opened → g.relowerArmed = true → g.clearCount = 24 →
       ∃ t : State, exec (.relower i) s = .next t ∧ frame (.relower i) t ∧
         (r.posture = .closing → r.phase = .lower → g.presence = false →
           (t.gate i).state = .lowering ∧ (t.gate i).relowerArmed = false ∧ (t.gate i).attempts = g.attempts) ∧
         (¬(r.posture = .closing ∧ r.phase = .lower) →
           t = { s with due := s.due.erase (.relower i) }.setGate i { g with relowerArmed := false, clearCount := 0 })))

/-! ### Counters and occupancy (05) -/

/-- ENCODER_STEP on an ENCODER unit: a single change is a step along the cycle 00, 01, 11, 10, which moves the count and the
position of the gate that names the unit by one and sets that gate's stall count to 0; a double change is counted as illegal and
gives no step; a unit in OFF only takes the code. No other state changes (R63, R82, R83). -/
def Obligations.EncoderStepMovesGate : Prop :=
  ∀ (u : Fin 12) (a b : Bool) (s : State), s.settled →
    let c := s.counter u
    let place (x y : Bool) : Nat := if x then (if y then 2 else 3) else (if y then 1 else 0)
    let forward : Bool := (place c.codeA c.codeB + 1) % 4 = place a b
    let c' : Counter := { c with codeA := a, codeB := b }
    let single := (c.codeA = a ∧ c.codeB ≠ b) ∨ (c.codeA ≠ a ∧ c.codeB = b)
    let double := c.codeA ≠ a ∧ c.codeB ≠ b
    let by1 (x : Int) : Int := if forward then min 32767 (x + 1) else max (-32768) (x - 1)
    let stepped := s.setCounter u { c' with count := clampInt (-32768) 32767 (if forward then c.count + 1 else c.count - 1) }
    (c.codeA = a → c.codeB = b → exec (.encoderStep u a b) s = .next s) ∧
    (c.cfg.mode = .off → exec (.encoderStep u a b) s = .next (s.setCounter u c')) ∧
    (c.cfg.mode = .encoder → single → (∀ g : Fin 6, (s.gate g).cfg.segment ≠ none → (s.gate g).cfg.encoder ≠ u) →
      exec (.encoderStep u a b) s = .next stepped) ∧
    (∀ g : Fin 6, c.cfg.mode = .encoder → single → s.gateOfUnit u = some g →
      -32768 ≤ (s.gate g).position → (s.gate g).position ≤ 32767 →
      exec (.encoderStep u a b) s = .next
        (stepped.setGate g { s.gate g with position := by1 (s.gate g).position, stallCount := 0 })) ∧
    (c.cfg.mode = .encoder → double →
      exec (.encoderStep u a b) s = .next
        (if c.illegal < 255 then
          (s.setCounter u { c' with illegal := c.illegal + 1 }).post (.counter u) Flag.ctrIllegal
        else s.setCounter u c'))

/-- LOOP_INPUT_CHANGE completes on a unit in OFF, which only takes the code, and on a LOOP_PAIR unit, where levels that change
neither input change nothing and a change moves the crossing state by R85's table; a completed crossing changes the count, is
reported, takes one vehicle off the segment it leaves and puts it into the segment it enters, and recomputes OCCUPIED of a
CLOSED segment (the two sides of a boundary differ, R90; nothing is said of the segments where a state has them equal); a change
the table does not list for the state only takes the code, as does any change of a STUCK unit; a double change is illegal and
abandons the crossing; (R14, R82, R85, R86, R87, R88). A STUCK or STUCK_LEFT that the last tick owes comes first, as
EmptyQueueTakesDue says of every command (log entry 14). -/
def Obligations.LoopChangeCountsCrossing : Prop :=
  ∀ (u : Fin 12) (a b : Bool) (src dst : Fin 5) (s : State), s.settled →
    ((s.counter u).cfg.mode = .off →
      exec (.loopInputChange u a b) s = .next (s.setCounter u { s.counter u with codeA := a, codeB := b })) ∧
    ((s.counter u).cfg.mode = .loopPair → (s.counter u).codeA = a → (s.counter u).codeB = b →
      exec (.loopInputChange u a b) s = .next s) ∧
    ((s.counter u).cfg.mode = .loopPair → (s.counter u).cfg.boundary = some (src, dst) →
    let c := s.counter u
    let c' : Counter := { c with codeA := a, codeB := b }
    let aOn := c.codeA = false ∧ a = true ∧ c.codeB = b
    let aOff := c.codeA = true ∧ a = false ∧ c.codeB = b
    let bOn := c.codeB = false ∧ b = true ∧ c.codeA = a
    let bOff := c.codeB = true ∧ b = false ∧ c.codeA = a
    let moves (v : Crossing) : Prop := exec (.loopInputChange u a b) s = .next (s.setCounter u { c' with crossing := v })
    let crosses (forward : Bool) (from' to' : Fin 5) : Prop :=
      ∃ t : State, exec (.loopInputChange u a b) s = .next t ∧
        t.counters = s.counters.set u
          { c' with crossing := .idle, count := clampInt (-32768) 32767 (if forward then c.count + 1 else c.count - 1) } ∧
        t.reported (.counter u) Flag.ctrCrossing ∧
        (∀ k : Fin 4, k.val + 1 = from'.val → from' ≠ to' →
          (t.segment k).occupancy = (s.segment k).occupancy - 1 ∧
          (t.segment k).drift = ((s.segment k).drift || (s.segment k).occupancy == 0) ∧
          ((s.segment k).occupancy ≠ 0 → t.reported (.segment k) Flag.segCount) ∧
          (t.segment k).posture = (s.segment k).posture ∧ (t.segment k).causes = (s.segment k).causes) ∧
        (∀ k : Fin 4, k.val + 1 = to'.val → from' ≠ to' →
          ((s.segment k).occupancy < 999 → (t.segment k).occupancy = (s.segment k).occupancy + 1 ∧
            (t.segment k).drift = (s.segment k).drift ∧ t.reported (.segment k) Flag.segCount) ∧
          ((s.segment k).occupancy = 999 → (t.segment k).occupancy = 999 ∧ (t.segment k).drift = true) ∧
          (t.segment k).posture = (s.segment k).posture ∧ (t.segment k).causes = (s.segment k).causes) ∧
        (∀ k : Fin 4, k.val + 1 ≠ from'.val → k.val + 1 ≠ to'.val → t.segment k = s.segment k) ∧
        (from' ≠ to' → ∀ k : Fin 4, (t.segment k).occupied =
          (if (s.segment k).posture = .closed ∧ (t.segment k).occupancy ≠ (s.segment k).occupancy then
            decide (0 < (t.segment k).occupancy) || (s.segment k).uncertain else (s.segment k).occupied)) ∧
        { t.exceptSegments with counters := s.counters } = s.exceptSegments
    (c.stuck = true → exec (.loopInputChange u a b) s = .next (s.setCounter u c')) ∧
    (c.stuck = false →
      (c.crossing = .idle → (aOn → moves .a) ∧ (bOn → moves .b) ∧ (aOff ∨ bOff → moves .idle)) ∧
      (c.crossing = .a → (aOff → moves .idle) ∧ (bOn → moves .ab) ∧ (aOn ∨ bOff → moves .a)) ∧
      (c.crossing = .ab → (aOff → moves .bAfterA) ∧ (bOff → moves .a) ∧ (aOn ∨ bOn → moves .ab)) ∧
      (c.crossing = .bAfterA → (aOn → moves .ab) ∧ (bOff → crosses true src dst) ∧ (aOff ∨ bOn → moves .bAfterA)) ∧
      (c.crossing = .b → (aOn → moves .ba) ∧ (bOff → moves .idle) ∧ (aOff ∨ bOn → moves .b)) ∧
      (c.crossing = .ba → (aOff → moves .b) ∧ (bOff → moves .aAfterB) ∧ (aOn ∨ bOn → moves .ba)) ∧
      (c.crossing = .aAfterB → (aOff → crosses false dst src) ∧ (bOn → moves .ba) ∧ (aOn ∨ bOff → moves .aAfterB)) ∧
      (c.codeA ≠ a → c.codeB ≠ b →
        exec (.loopInputChange u a b) s = .next
          (if c.illegal < 255 then
            (s.setCounter u { c' with illegal := c.illegal + 1, crossing := .idle }).post (.counter u) Flag.ctrIllegal
          else s.setCounter u { c' with crossing := .idle }))))

/-- A loop covered for 480 ticks makes its unit STUCK, abandons the crossing and sets UNCERTAIN on both sides of its boundary; a
STUCK unit with both loops clear for 8 ticks leaves STUCK with its crossing IDLE and its counts of ticks 0, and clears no
UNCERTAIN (R15, R88, R89). -/
def Obligations.StuckLoopSetsUncertain : Prop :=
  ∀ (u : Fin 12) (src dst : Fin 5) (s : State), s.calm → (s.counter u).cfg = { mode := .loopPair, boundary := some (src, dst) } →
    let c := s.counter u
    (Due.stuck u ∈ s.due → c.stuck = false →
      (c.codeA = true ∧ c.aOnTicks = 480) ∨ (c.codeB = true ∧ c.bOnTicks = 480) →
      ∃ t : State, exec (.stuck u) s = .next t ∧
        t.counters = s.counters.set u { c with stuck := true, crossing := .idle, clearTicks := 0 } ∧
        t.reported (.counter u) Flag.ctrStuck ∧
        (∀ k : Fin 4,
          (t.segment k).occupancy = (s.segment k).occupancy ∧ (t.segment k).causes = (s.segment k).causes ∧
          (k.val + 1 = src.val ∨ k.val + 1 = dst.val →
            (t.segment k).uncertain = true ∧
            ((s.segment k).uncertain = false → t.reported (.segment k) Flag.segUncertain) ∧
            ((s.segment k).uncertain = false → (s.segment k).posture = .opened →
              (t.segment k).posture = .caution ∧ t.reported (.segment k) Flag.segPosture) ∧
            ((s.segment k).uncertain = false → (s.segment k).posture = .closed → (t.segment k).occupied = true)) ∧
          (k.val + 1 ≠ src.val → k.val + 1 ≠ dst.val → t.segment k = s.segment k)) ∧
        { t.exceptSegments with counters := s.counters, due := s.due } = s.exceptSegments) ∧
    (Due.stuckLeft u ∈ s.due → c.stuck = true → c.clearTicks = 8 →
      exec (.stuckLeft u) s = .next
        (({ s with due := s.due.erase (.stuckLeft u) }.setCounter u
          { c with stuck := false, crossing := .idle, aOnTicks := 0, bOnTicks := 0, clearTicks := 0 }).post
          (.counter u) Flag.ctrStuck))

/-- SET_COUNTER: refused with CONFLICT for equal sides and for a unit that a configured gate names and that would leave ENCODER;
accepted, the unit takes its mode and boundary, keeps its code and starts from 0, with CONFIG reported and STUCK where it was
stuck; the reply gives the mode, the sides and the gate (R90, R91). -/
def Obligations.SetCounterApplies : Prop :=
  ∀ (tag unit fromSegment toSegment : Byte) (u : Fin 12) (x y : Fin 5) (m : CounterMode) (s : State), s.listening →
    unit.toNat = u.val → (m = .loopPair → fromSegment.toNat = x.val ∧ toSegment.toNat = y.val) →
    let c := s.counter u
    let command : Instr := .setCounter tag unit (BitVec.ofNat 8 m.code) fromSegment toSegment
    let boundary : Option (Fin 5 × Fin 5) := if m = .loopPair then some (x, y) else none
    let conflict := (m = .loopPair ∧ x = y) ∨ (m ≠ .encoder ∧ ∃ g : Fin 6, (s.gate g).cfg.segment ≠ none ∧ (s.gate g).cfg.encoder = u)
    (conflict → exec command s = .next (s.answered 0x27 tag .conflict [])) ∧
    (¬conflict →
      exec command s = .next
        (((s.setCounter u
          { cfg := { mode := m, boundary := boundary }, codeA := c.codeA, codeB := c.codeB, count := 0, illegal := 0,
            crossing := .idle, stuck := false, aOnTicks := 0, bOnTicks := 0, clearTicks := 0 }).post (.counter u)
          (Flag.ctrConfig ||| if c.stuck then Flag.ctrStuck else 0)).answered 0x27 tag .ok
            (u8 u.val ++ u8 m.code ++ (if m = .loopPair then u8 x.val ++ u8 y.val else [0xFF, 0xFF])
              ++ u8 ((s.gateOfUnit u).elim 0xFF Fin.val))))

/-! ### Beacon flashers (06) -/

/-- SET_FLASH writes the pattern of one class with a time of 0 taken as 1, restarts no generator, is reported as FLASH_CONFIG and
saved with the profile; a generator loads the new times at its next phase end or at a rise to the class; another class is refused
(R98, R100). -/
def Obligations.SetFlashApplies : Prop :=
  ∀ (tag cls on off : Byte) (s : State), s.listening →
    let x : Pattern := { on := max 1 on.toNat, off := max 1 off.toNat }
    let reply : List Byte := [cls, BitVec.ofNat 8 x.on, BitVec.ofNat 8 x.off]
    let sets (p : Patterns) (t : State) : Prop :=
      t = ({ s with patterns := p }.post .system Flag.flashConfig).answered 0x28 tag .ok reply ∧ t.configImage.patterns = p
    (cls ≠ 1 → cls ≠ 2 → cls ≠ 3 → exec (.setFlash tag cls on off) s = .next (s.answered 0x28 tag .outOfRange [])) ∧
    (cls = 1 → ∃ t : State, exec (.setFlash tag cls on off) s = .next t ∧ sets { s.patterns with closed := x } t) ∧
    (cls = 2 → ∃ t : State, exec (.setFlash tag cls on off) s = .next t ∧ sets { s.patterns with moving := x } t) ∧
    (cls = 3 → ∃ t : State, exec (.setFlash tag cls on off) s = .next t ∧ sets { s.patterns with alert := x } t) ∧
    encodeBody (.setFlash tag cls on off) = [0x28, tag, cls, on, off] ∧
    ∀ (f : Flasher) (c : FlashClass) (p : Patterns), c ≠ .none → p.of c = x →
      (f.running = c → (f.nextPhase p).countdown = if f.phaseOn then x.off else x.on) ∧
      (f.running.code < c.code → (f.retune p c).countdown = x.on ∧ (f.retune p c).phaseOn = true)

/-- A gate's request on a flasher: its entry takes the class, and the generator follows a change of the effective class by R99's
table, a rise at phase ON with the class's on time, a fall with phase and countdown kept, and NONE to off; no other flasher
changes (R96, R97, R99, R101). -/
def Obligations.FlasherFollowsRequests : Prop :=
  ∀ (i : Fin 8) (g : Fin 6) (c : FlashClass) (s : State), (s.flasher i).running = (s.flasher i).effective s.inReserve →
    let t := s.gateRequest i g c
    let f := s.flasher i
    let f' := t.flasher i
    f'.gateReq = f.gateReq.set g c ∧ f'.pathReq = f.pathReq ∧ f'.running = f'.effective s.inReserve ∧
    (f'.running = f.running → f'.phaseOn = f.phaseOn ∧ f'.countdown = f.countdown ∧ t.link = s.link) ∧
    (f'.running ≠ f.running → t.reported .system Flag.flasher) ∧
    (f.running.code < f'.running.code → f'.phaseOn = true ∧ f'.countdown = (s.patterns.of f'.running).on) ∧
    (f'.running.code < f.running.code → f'.running ≠ .none → f'.phaseOn = f.phaseOn ∧ f'.countdown = f.countdown) ∧
    (f.running ≠ .none → f'.running = .none → f'.output = false ∧ f'.countdown = 0) ∧
    (∀ j : Fin 8, j ≠ i → t.flasher j = s.flasher j) ∧ t.exceptBarriers = s.exceptBarriers

/-- A flash step lowers the countdown of every running generator and no other, and a phase end follows where it reaches 0; at
the phase end the other phase is loaded with its time from the running class's pattern as it stands (R98). That the phase end is
a step of its own, owed with the countdown standing at 0, is the model's choice (log entry 1); a command that comes after the
flash step finds it taken (log entry 14, EmptyQueueTakesDue). -/
def Obligations.FlashStepsAndPhases : Prop :=
  ∀ s : State, s.calm →
    (s.due = [] → ∃ t : State, exec .flashStep s = .next t ∧
      (∀ i : Fin 8,
        t.flasher i = (if (s.flasher i).running = .none then s.flasher i
          else { s.flasher i with countdown := (s.flasher i).countdown - 1 }) ∧
        (Due.phaseEnd i ∈ t.due ↔ (s.flasher i).running ≠ .none ∧ (s.flasher i).countdown ≤ 1)) ∧
      (∀ d ∈ t.due, ∃ i : Fin 8, d = .phaseEnd i) ∧
      { t with flashers := s.flashers, due := s.due } = s) ∧
    ∀ (i : Fin 8) (f : Flasher) (ds : List Due), f.running ≠ .none → f.countdown = 0 → s.flasher i = f →
      exec (.flashPhaseEnd i) { s with due := .phaseEnd i :: ds } = .next
        ({ s with due := ds }.setFlasher i
          { f with phaseOn := !f.phaseOn,
                   countdown := if f.phaseOn then (s.patterns.of f.running).off else (s.patterns.of f.running).on })

/-! ### Closure notices (07) -/

/-- POST_NOTICE is refused by R107's checks in their order. Accepted, the notice takes the lowest free slot, the first number after
the last assigned one that no slot holds, the last place in the list order and the state that R109 gives it against the present
second; IN_FORCE it is a cause of each segment it names, POSTED it makes each open one CAUTION; NEW and STATE are reported, and
the near-full indication follows the free count (R106 to R110, R112). -/
def Obligations.PostNoticeApplies : Prop :=
  ∀ (tag segments pageCount : Byte) (reference firstPage secondPage lead : Half) (start stop : Word) (s : State), s.listening →
    let command : Instr := .postNotice tag reference segments pageCount firstPage secondPage start stop lead
    let absent : Word := 0xFFFFFFFF
    let sound := 1 ≤ segments.toNat ∧ segments.toNat < 16 ∧ (pageCount = 1 ∨ pageCount = 2) ∧ firstPage.toNat < 4096 ∧
      (pageCount = 2 → secondPage.toNat < 4096)
    let unset := (start ≠ absent ∨ stop ≠ absent) ∧ s.tmb.passClock = none
    let late := stop ≠ absent ∧
      ((start ≠ absent ∧ stop.toNat ≤ start.toNat) ∨ ∃ n : Nat, s.tmb.passClock = some n ∧ stop.toNat ≤ n)
    let refused (o : OutcomeCode) : Prop := exec command s = .next (s.answered 0x2C tag o [])
    let held (k : Nat) : Prop := ∃ (j : Fin 24) (y : Notice), s.notices.slots[j] = some y ∧ y.number = k
    let reached (k : Nat) : Prop := ∃ n : Nat, s.tmb.passClock = some n ∧ k ≤ n
    let minutes := min 1440 lead.toNat
    (¬sound → refused .outOfRange) ∧
    (sound → unset → refused .clockUnset) ∧
    (sound → ¬unset → late → refused .outOfRange) ∧
    (sound → ¬unset → ¬late → (∀ j : Fin 24, s.notices.slots[j] ≠ none) → refused .listFull) ∧
    (sound → ¬unset → ¬late → ∀ i : Fin 24, s.notices.slots[i] = none → (∀ j : Fin 24, j < i → s.notices.slots[j] ≠ none) →
      ∃ (t : State) (x : Notice), exec command s = .next t ∧
        t.notices.slots = s.notices.slots.set i (some x) ∧ t.notices.order = s.notices.order ++ [i] ∧
        t.notices.lastNumber = x.number ∧ t.notices.margin = s.notices.margin ∧
        x.reference = reference ∧ x.segments = segments.setWidth 4 ∧ x.firstPage = firstPage.setWidth 12 ∧
        x.secondPage = (if pageCount = 2 then some (secondPage.setWidth 12) else none) ∧
        x.start = (if start = absent then none else some start.toNat) ∧
        x.stop = (if stop = absent then none else some stop.toNat) ∧ x.lead = minutes ∧
        (∃ m : Nat, x.number = (s.notices.lastNumber + m) % 255 + 1 ∧ ¬held x.number ∧
          ∀ k < m, held ((s.notices.lastNumber + k) % 255 + 1)) ∧
        (start = absent ∨ reached start.toNat → x.state = .inForce) ∧
        (start ≠ absent → ¬reached start.toNat →
          (reached (start.toNat - 60 * minutes) → x.state = .posted) ∧
          (¬reached (start.toNat - 60 * minutes) → x.state = .pending)) ∧
        (∀ k : Fin 4,
          (x.state = .inForce → x.segments.getLsbD k.val = true → Cause.notice x.number ∈ (t.segment k).causes) ∧
          (x.state = .posted → x.segments.getLsbD k.val = true →
            (s.segment k).posture = .opened ∨ (s.segment k).posture = .caution → (t.segment k).posture = .caution) ∧
          (x.state ≠ .inForce → (t.segment k).causes = (s.segment k).causes)) ∧
        t.reported (.notice i) (Flag.noticeNew ||| Flag.noticeState) ∧
        t.notices.freeCount + 1 = s.notices.freeCount ∧
        t.notices.spent = decide (t.notices.freeCount ≤ s.notices.margin) ∧
        (t.notices.spent = true → s.notices.spent = false → t.reported .system Flag.listNearFull) ∧
        { t.exceptOutputs with notices := s.notices } =
          (s.answered 0x2C tag .ok
            (u8 i.val ++ u8 x.number ++ u8 x.state.code ++ u16 minutes ++ u8 t.notices.freeCount)).exceptOutputs)

/-- END_NOTICE: refused for number 0, for a number no slot holds and for a removed notice; a live notice is removed, LIFTED where
it was IN_FORCE and CANCELLED otherwise: it leaves the list order, keeps its slot and its fields, is no cause any more, and
REMOVED and STATE are reported; the free count and the indication stay. SET_LIST_MARGIN writes the clamped margin with the report
LIST_CONFIG and checks the near-full indication at once (R104, R110, R111, R112). -/
def Obligations.NoticeEndsAndMargin : Prop :=
  (∀ (tag number : Byte) (s : State), s.listening →
     (number = 0 → exec (.endNotice tag number) s = .next (s.answered 0x2D tag .outOfRange [])) ∧
     (number ≠ 0 → (∀ (i : Fin 24) (x : Notice), s.notices.slots[i] = some x → x.number ≠ number.toNat) →
       exec (.endNotice tag number) s = .next (s.answered 0x2D tag .notConfigured [])) ∧
     ∀ (i : Fin 24) (x : Notice), number ≠ 0 → s.notices.slots[i] = some x → x.number = number.toNat →
       (∀ (j : Fin 24) (y : Notice), j ≠ i → s.notices.slots[j] = some y → y.number ≠ number.toNat) →
       let final : NoticeState := if x.state = .inForce then .lifted else .cancelled
       (x.state = .lifted ∨ x.state = .cancelled →
         exec (.endNotice tag number) s = .next (s.answered 0x2D tag .wrongState [])) ∧
       (x.state ≠ .lifted → x.state ≠ .cancelled →
         ∃ t : State, exec (.endNotice tag number) s = .next t ∧
           t.notices = { s.notices with slots := s.notices.slots.set i (some { x with state := final }),
                                        order := s.notices.order.filter (· != i) } ∧
           t.reported (.notice i) (Flag.noticeState ||| Flag.noticeRemoved) ∧
           (∀ k : Fin 4,
             (x.state = .inForce → x.segments.getLsbD k.val = true →
               (t.segment k).causes = (s.segment k).causes.filter (· != .notice x.number)) ∧
             (x.state ≠ .inForce ∨ x.segments.getLsbD k.val = false → (t.segment k).causes = (s.segment k).causes)) ∧
           { t.exceptOutputs with notices := s.notices } =
             (s.answered 0x2D tag .ok (u8 i.val ++ u8 final.code)).exceptOutputs)) ∧
  (∀ (tag margin : Byte) (s : State), s.listening →
     let m := min 8 margin.toNat
     let near := decide (s.notices.freeCount ≤ m)
     exec (.setListMargin tag margin) s = .next
       ((({ s with notices := { s.notices with margin := m, spent := near } }.post .system Flag.listConfig).postIf
         (near && !s.notices.spent) .system Flag.listNearFull).answered 0x2E tag .ok
           (u8 m ++ u8 s.notices.freeCount ++ u8 (if near then 1 else 0))))

/-- SET_CLOCK and a pass-clock second write the pass clock and evaluate every live notice against the second as it then stands:
one whose end is reached is removed with LIFTED, one whose start is reached or that has none is IN_FORCE, one whose announce point
is reached is POSTED, and no notice moves back; SET_CLOCK to 0xFFFFFFFF is refused (R109, R110, R186). -/
def Obligations.ClockMovesNotices : Prop :=
  ∀ s : State, s.calm → s.notices.order.Nodup →
    (∀ (i j : Fin 24) (x y : Notice), s.notices.slots[i] = some x → s.notices.slots[j] = some y → x.number = y.number → i = j) →
    let evaluated (n : Nat) (t : State) : Prop :=
      t.tmb = { s.tmb with passClock := some n } ∧ t.notices.lastNumber = s.notices.lastNumber ∧
      t.notices.margin = s.notices.margin ∧ t.notices.spent = s.notices.spent ∧
      (∀ i : Fin 24, i ∉ s.notices.order ∨ s.notices.slots[i] = none → t.notices.slots[i] = s.notices.slots[i]) ∧
      ∀ i ∈ s.notices.order, ∀ x : Notice, s.notices.slots[i] = some x →
        let named (k : Fin 4) : Prop := x.segments.getLsbD k.val = true
        let ended := ∃ e : Nat, x.stop = some e ∧ e ≤ n
        let begun := ∀ b : Nat, x.start = some b → b ≤ n
        let announced := ∀ b : Nat, x.start = some b → b - 60 * x.lead ≤ n
        (x.state = .lifted ∨ x.state = .cancelled → t.notices.slots[i] = some x) ∧
        (x.state = .pending ∨ x.state = .posted ∨ x.state = .inForce →
          (ended → t.notices.slots[i] = some { x with state := .lifted } ∧ i ∉ t.notices.order ∧
            t.reported (.notice i) (Flag.noticeState ||| Flag.noticeRemoved) ∧
            (x.state = .inForce → ∀ k : Fin 4, named k → Cause.notice x.number ∉ (t.segment k).causes)) ∧
          (¬ended → i ∈ t.notices.order) ∧
          (¬ended → x.state ≠ .inForce → begun → t.notices.slots[i] = some { x with state := .inForce } ∧
            t.reported (.notice i) Flag.noticeState ∧ ∀ k : Fin 4, named k → Cause.notice x.number ∈ (t.segment k).causes) ∧
          (¬ended → x.state = .pending → ¬begun → announced → t.notices.slots[i] = some { x with state := .posted } ∧
            t.reported (.notice i) Flag.noticeState) ∧
          (¬ended → x.state = .inForce ∨ ¬begun ∧ (x.state = .posted ∨ ¬announced) → t.notices.slots[i] = some x))
    (∀ (tag : Byte) (n : Word), s.due = [] → s.link.idle = true →
      (n = 0xFFFFFFFF → exec (.setClock tag n) s = .next (s.answered 0x03 tag .outOfRange [])) ∧
      (n ≠ 0xFFFFFFFF → s.notices.order = [] → exec (.setClock tag n) s = .next
        (({ s with tmb := { s.tmb with passClock := some n.toNat } }.post .system Flag.clockSet).answered 0x03 tag .ok
          (bytesBE 4 n))) ∧
      (n ≠ 0xFFFFFFFF → ∃ t : State, exec (.setClock tag n) s = .next t ∧ evaluated n.toNat t ∧
        t.reported .system Flag.clockSet ∧
        { t.exceptOutputs with notices := s.notices, tmb := s.tmb } =
          (s.answered 0x03 tag .ok (bytesBE 4 n)).exceptOutputs)) ∧
    ∀ n : Nat, Due.second ∈ s.due → s.tmb.passClock = some n → n < 0xFFFFFFFE →
      ∃ t : State, exec .passClockSecond s = .next t ∧ evaluated (n + 1) t ∧ t.due = s.due.erase .second ∧
        { t.exceptOutputs with notices := s.notices, tmb := s.tmb, due := s.due } = s.exceptOutputs

/-! ### Display plans (08) -/

/-- Plans follow what they read. SET_PATH, ACK_PATH, DISMISS_PATH, CLEAR_PATH, MASK_PATH, CLOSE_SEGMENT, OPEN_SEGMENT, POST_NOTICE and
END_NOTICE, and SET_CLOCK, PASS_CLOCK_SECOND, SAMPLING_TICK, CH_ACTIVE, CH_QUIET, CH_RECOVER and SET_CHANNEL, leave every configured
sign with the plan of R120 wherever they change a path's state, hazard page or segment, a cause set or the notices. A plan that
differs from the one before it starts at its first page, raises a PLAN need of this tick, of class HAZARD for a HAZARD plan where no
HAZARD picture is displayed, and is reported as PLAN; one of the first nine that leaves a sign's plan as it was keeps its index, its
dwell count and its need (R116, R119 to R122; R45, R51, R110). It is stated for sound segment records (ClosingRecordsSound). That
plans are computed again once for each change handed over, and at no change of posture alone, is the model's reading (log entry
25). -/
def Obligations.PlansFollowChanges : Prop :=
  ∀ (c : Instr) (s : State), changesOne c = true ∨ changesMany c = true → s.calm → (c.requestKind ≠ none → s.listening) →
    s.closingSound →
    ∃ t : State, exec c s = .next t ∧
      (s.planInputsChanged t → ∀ n : Fin 16, (t.sign n).cfg.role ≠ .none →
        let same : Prop := (t.sign n).planClass = (s.sign n).planClass ∧ (t.sign n).rotation = (s.sign n).rotation
        t.planStands n ∧ (¬same → s.planReplaced t n) ∧ (changesOne c = true → same → s.planKept t n))

/-! ### Sign lines, retention and hold (08 to 11) -/

/-- SET_LINE is refused for a line, baud, policy or band mode that is not in the table. Accepted, it writes the three settings with
the report CONFIG; the target follows the policy, ADAPTIVE taking QUARTER while a configured sign of the line has a protected plan;
a fixed band mode sets every sign of the line to its band and AUTO leaves the bands; a new baud has the load computed from the
shares, OVERLOADED above 700 (R120, R143, R148, R153, R155, R156, R160). -/
def Obligations.SetLineApplies : Prop :=
  ∀ (tag line policy bandMode : Byte) (baud : Half) (s : State), s.listening →
    let command : Instr := .setLine tag line baud policy bandMode
    (2 ≤ line.toNat ∨ 4 ≤ policy.toNat ∨ 4 ≤ bandMode.toNat ∨
        (baud.toNat ≠ 9600 ∧ baud.toNat ≠ 19200 ∧ baud.toNat ≠ 38400 ∧ baud.toNat ≠ 57600) →
      exec command s = .next (s.answered 0x30 tag .outOfRange [])) ∧
    ∀ (l : Fin 2) (b : Baud) (p : Policy) (m : BandMode), line.toNat = l.val → baud.toNat = b.rate → policy.toNat = p.code →
      bandMode.toNat = m.code →
      let cycleBits : Granularity → Nat | .full => 2840 | .half => 3040 | .quarter => 3440
      let share (g : Sign) : Nat :=
        if g.service = .showing ∨ g.service = .lapsed then (8000 * cycleBits g.granularity + g.dueSpan - 1) / g.dueSpan else 0
      let guarded := ∃ n : Fin 16, n.val / 8 = l.val ∧ (s.sign n).cfg.role ≠ .none ∧
        ((s.sign n).planClass = .hazard ∨ (s.sign n).planClass = .closure ∨ (s.sign n).planClass = .caution)
      ∃ t : State, exec command s = .next t ∧ (t.line l).cfg = { baud := b, policy := p, bandMode := m } ∧
        t.reported (.line l) Flag.lineConfig ∧
        (p = .full → (t.line l).target = .full) ∧ (p = .half → (t.line l).target = .half) ∧
        (p = .quarter → (t.line l).target = .quarter) ∧
        (p = .adaptive → (guarded → (t.line l).target = .quarter) ∧ (¬guarded → (t.line l).target = .full)) ∧
        ((t.line l).target ≠ (s.line l).target → t.reported (.line l) Flag.lineTarget) ∧
        (∀ n : Fin 16, (t.sign n).cfg = (s.sign n).cfg ∧ (t.sign n).planClass = (s.sign n).planClass ∧
          (n.val / 8 ≠ l.val → t.sign n = s.sign n) ∧
          (n.val / 8 = l.val →
            (m = .auto → (t.sign n).band = (s.sign n).band) ∧ (m = .normal → (t.sign n).band = .normal) ∧
            (m = .cold → (t.sign n).band = .cold) ∧ (m = .severe → (t.sign n).band = .severe))) ∧
        ((s.line l).cfg.baud ≠ b →
          (t.line l).sum = ((signsOf l).map fun n => share (t.sign n)).sum ∧
          (t.line l).load = ((t.line l).sum + b.rate - 1) / b.rate ∧
          (t.line l).overloaded = decide (700 < (t.line l).load)) ∧
        (∀ j : Fin 2, j ≠ l → (t.line j).cfg = (s.line j).cfg) ∧
        t.exceptOutputs =
          (s.answered 0x30 tag .ok (u8 l.val ++ u16 b.rate ++ u8 p.code ++ u8 m.code)).exceptOutputs

/-- WAKE_LINE, HOLD_ENTRY and HELD_WAKE_AGE. A wake of a line in HOLD_ENTRY or HELD records its cause, clears every pending HOLD
need, gives each HELD sign a restore need, and leaves the line RESUMING, or ACTIVE where no sign is HELD; in another line state
WAKE_LINE changes nothing. A line enters hold when every condition holds: each SHOWING sign is given its HOLD need, and with
none SHOWING the line is HELD at once (R164, R165, R167, R168, R169). That the entry is a step of its own which waits for the
accounting its tick still owes, and that no frame in flight is read at the tick and before the tick's arbitration, is the model's
choice (log entries 1 and 44). -/
def Obligations.HoldEntersAndWakes : Prop :=
  ∀ (l : Fin 2) (s : State), s.calm →
    let here (n : Fin 16) : Prop := n.val / 8 = l.val
    let holding := (s.line l).state = .holdEntry ∨ (s.line l).state = .held
    let held := ∃ n : Fin 16, here n ∧ (s.sign n).service = .held
    let wakes (cause : Nat) (before t : State) : Prop :=
      (t.line l).wakeCause = cause ∧ t.reported (.line l) Flag.lineWake ∧ (held → (t.line l).state = .resuming) ∧
        (¬held → (t.line l).state = .active ∧ (t.line l).activeCount = 0 ∧ t.reported (.line l) Flag.lineHold) ∧
        (∀ n : Fin 16, here n → t.sign n =
          { s.sign n with
            holdNeed := none,
            restoreNeed := if (s.sign n).service = .held then some ((s.sign n).restoreNeed.getD s.now)
              else (s.sign n).restoreNeed }) ∧
        (∀ n : Fin 16, ¬here n → t.sign n = s.sign n) ∧ { t.exceptSigns with lib := s.lib } = before.exceptSigns
    (∀ tag line : Byte, s.due = [] → s.link.idle = true →
      (2 ≤ line.toNat → exec (.wakeLine tag line) s = .next (s.answered 0x33 tag .outOfRange [])) ∧
      (line.toNat = l.val → ¬holding →
        exec (.wakeLine tag line) s = .next (s.answered 0x33 tag .ok (u8 l.val ++ u8 (s.line l).state.code))) ∧
      (line.toNat = l.val → holding → ∃ t : State, exec (.wakeLine tag line) s = .next t ∧
        wakes 5 (s.answered 0x33 tag .ok (u8 l.val ++ u8 (t.line l).state.code)) t)) ∧
    (Due.heldWake l ∈ s.due → holding →
      (∃ n : Fin 16, here n ∧ (s.sign n).service = .held ∧
        2 * (8 * (s.sign n).cfg.holdover / (match (s.sign n).band with | .normal => 2 | .cold => 4 | .severe => 4)) ≤
          (s.sign n).ages.oldest) →
      ∃ t : State, exec (.heldWakeAge l) s = .next t ∧ wakes 6 { s with due := s.due.erase (.heldWake l) } t) ∧
    (Due.holdEntry l ∈ s.due →
      ((s.line l).state = .active → s.inReserve = true → (s.line l).activeCount = 80 →
        (∀ n : Fin 16, here n → (s.sign n).planClass ≠ .hazard ∧ (s.sign n).service ≠ .lapsed ∧ Due.lapsed n ∉ s.due ∧
          Due.critical n ∉ s.due ∧ ∀ c : Candidate, s.candidate n = some c → c.cls = .refresh ∨ c.cls = .poll) →
        ∃ t : State, exec (.holdEntry l) s = .next t ∧ t.reported (.line l) Flag.lineHold ∧
          ((t.line l).state = if ∃ n : Fin 16, here n ∧ (s.sign n).service = .showing then .holdEntry else .held) ∧
          (∀ n : Fin 16, t.sign n =
            { s.sign n with holdNeed := if here n ∧ (s.sign n).service = .showing then some s.now else (s.sign n).holdNeed }) ∧
          { t.exceptSigns with lib := s.lib } = { s with due := s.due.erase (.holdEntry l) }.exceptSigns) ∧
      ((s.line l).state ≠ .active ∨ s.inReserve = false ∨ (s.line l).activeCount ≠ 80 ∨
          (∃ n : Fin 16, here n ∧ ((s.sign n).planClass = .hazard ∨ (s.sign n).service = .lapsed)) →
        exec (.holdEntry l) s = .next { s with due := s.due.erase (.holdEntry l) }))

/-- SET_SIGN is refused for a sign, role or field its role reads that is out of range. Accepted, it writes the configuration with
the holdover and dwell clamped and the report CONFIG; a sign with a role takes the plan the pass then gives it; one that leaves
ABSENT and cannot be shed is LAPSED with a restore need; one without a role is ABSENT with plan BLANK, no need and nothing known
of what it shows (R116, R117, R119, R138). -/
def Obligations.SetSignApplies : Prop :=
  ∀ (tag sign role segments path sheddable dwell : Byte) (holdover : Half) (s : State), s.listening →
    let command : Instr := .setSign tag sign role segments path holdover sheddable dwell
    let badSegments := segments = 0 ∨ 16 ≤ segments.toNat
    let bad := 16 ≤ sign.toNat ∨ 4 ≤ role.toNat ∨ ((role = 1 ∨ role = 3) ∧ badSegments) ∨ (role = 2 ∧ 12 ≤ path.toNat) ∨
      (role = 3 ∧ 2 ≤ sheddable.toNat)
    (bad → exec command s = .next (s.answered 0x31 tag .outOfRange [])) ∧
    (¬bad → ∀ n : Fin 16, sign.toNat = n.val →
      let g := s.sign n
      ∃ (t : State) (cfg : SignConfig), exec command s = .next t ∧ (t.sign n).cfg = cfg ∧
        cfg.condition = g.cfg.condition ∧
        cfg.role = (if role = 0 then .none else if role = 1 then .advance else if role = 2 then .path else .info) ∧
        cfg.segments = (if role = 1 ∨ role = 3 then segments.setWidth 4 else 0) ∧
        cfg.path.map Fin.val = (if role = 2 then some path.toNat else none) ∧
        cfg.holdover = (if role = 0 then g.cfg.holdover else max 16 (min 1020 holdover.toNat) / 4 * 4) ∧
        cfg.dwell = (if role = 0 then g.cfg.dwell else max 16 (min 240 dwell.toNat)) ∧
        cfg.sheddable = (role == 3 && sheddable == 1) ∧
        t.reported (.sign n) Flag.signConfig ∧
        (role ≠ 0 → ((t.sign n).planClass, (t.sign n).rotation) = s.planOf { g with cfg := cfg }) ∧
        (role ≠ 0 → g.cfg.role = .none → g.service = .absent → cfg.sheddable = false →
          (t.sign n).service = .lapsed ∧ (t.sign n).restoreNeed = some (g.restoreNeed.getD s.now) ∧
            (t.sign n).shown.confirmed = false ∧ t.reported (.sign n) Flag.signService) ∧
        (role = 0 → g.cfg.role ≠ .none →
          (t.sign n).service = .absent ∧ (t.sign n).planClass = .blank ∧ (t.sign n).rotation = [] ∧
            (t.sign n).need = .none ∧ (g.service ≠ .absent → (t.sign n).restoreNeed = none) ∧
            (t.sign n).shown = { page := none, cls := .blank, confirmed := false, fallback := false }) ∧
        (∀ m : Fin 16, m ≠ n → (t.sign m).cfg = (s.sign m).cfg ∧ (t.sign m).planClass = (s.sign m).planClass ∧
          (t.sign m).shown.page = (s.sign m).shown.page) ∧
        t.exceptOutputs =
          (s.answered 0x31 tag .ok
            (u8 n.val ++ u8 cfg.role.code ++ u16 cfg.holdover ++ u8 cfg.dwell ++ u8 (if cfg.sheddable then 1 else 0))).exceptOutputs)

/-- SET_CONDITION is refused for no sign and for a page from 4096 to 0xFFFE; accepted, the page is the condition page of every sign
named, each configured one is reported with CONFIG and takes the plan the pass then gives it, and no other sign's configuration
or plan changes (R118, R119). -/
def Obligations.SetConditionApplies : Prop :=
  ∀ (tag : Byte) (signs page : Half) (s : State), s.listening →
    let command : Instr := .setCondition tag signs page
    let bad := signs = 0 ∨ (4096 ≤ page.toNat ∧ page ≠ 0xFFFF)
    let p : Option Page := if page = 0xFFFF then none else some (page.setWidth 12)
    (bad → exec command s = .next (s.answered 0x32 tag .outOfRange [])) ∧
    (¬bad → ∃ t : State, exec command s = .next t ∧
      (∀ n : Fin 16,
        let g := s.sign n
        let cfg : SignConfig := { g.cfg with condition := p }
        (signs.getLsbD n.val = true → (t.sign n).cfg = cfg ∧
          (g.cfg.role ≠ .none → t.reported (.sign n) Flag.signConfig ∧
            ((t.sign n).planClass, (t.sign n).rotation) = s.planOf { g with cfg := cfg }) ∧
          (g.cfg.role = .none → (t.sign n).planClass = g.planClass)) ∧
        (signs.getLsbD n.val = false → (t.sign n).cfg = g.cfg ∧ (t.sign n).planClass = g.planClass ∧
          (t.sign n).rotation = g.rotation)) ∧
      t.exceptOutputs = (s.answered 0x32 tag .ok (u16 signs.toNat ++ u16 page.toNat)).exceptOutputs)

/-- What a sign's timers bring on when they fall due: ROTATION_STEP moves to the next page, from the last to the first, with a
PLAN need; POLL_DUE raises the poll need; REFRESH_DUE owes one more refresh, up to n, with no picture none, and reloads the slot
timer; SIGN_LAPSED takes a SHOWING or HELD sign to LAPSED with its ages at the lapse point, and a sheddable one with plan
CONDITION or BLANK on to SHED where the load asks for it, or the reserve posture for a CONDITION plan, and a HELD one then has
its slot timer lowered with what that brings on; CRITICAL_POINT raises the restore need; a need raised wakes a holding line
(R123, R138, R139, R150, R152, R156, R157, R159, R166, R167). That each is a step of its own after the tick is the model's
choice (log entry 1), as is the clipping of the slot timer of a sign that leaves HELD (log entry 18). -/
def Obligations.SignTimersFall : Prop :=
  ∀ (n : Fin 16) (l : Fin 2) (s : State), s.calm → l.val = n.val / 8 →
    let g := s.sign n
    let counted := g.service = .showing ∨ g.service = .lapsed
    let holding := (s.line l).state = .holdEntry ∨ (s.line l).state = .held
    let frame (d : Due) (t : State) : Prop := { t.exceptSigns with lib := s.lib, due := s.due.erase d } =
      { s.exceptSigns with due := s.due.erase d } ∧ t.due = s.due.erase d
    let raised (d : Due) (cause : Nat) (g' : Sign) (t : State) : Prop :=
      frame d t ∧ (¬holding → t.signs = s.signs.set n g') ∧
      (holding → t.sign n = { g' with holdNeed := none } ∧ (t.line l).wakeCause = cause ∧ t.reported (.line l) Flag.lineWake)
    let step : Nat := if g.index + 1 < g.rotation.length then g.index + 1 else 0
    (Due.rotation n ∈ s.due → counted → 1 < g.rotation.length → g.cfg.dwell ≤ g.dwellCount →
      ∃ t : State, exec (.rotationStep n) s = .next t ∧
        raised (.rotation n) 2
          { g with index := step, dwellCount := 0,
                   need := .plan (g.planClass == .hazard && g.shown.cls != .hazard) s.now } t) ∧
    (Due.poll n ∈ s.due → g.pollNeed = none →
      ((g.service = .blank ∨ g.service = .shed) ∧ 480 ≤ g.pollCount) ∨ (g.service = .offline ∧ 80 ≤ g.pollCount) →
      ∃ t : State, exec (.pollDue n) s = .next t ∧ frame (.poll n) t ∧
        t.signs = s.signs.set n { g with pollNeed := some s.now }) ∧
    (Due.refresh n ∈ s.due → counted → g.slotTimer = 0 →
      ∃ t : State, exec (.refreshDue n) s = .next t ∧ frame (.refresh n) t ∧
        t.signs = s.signs.set n
          (if g.shown.page = none then { g with owed := 0, slotTimer := g.slotPeriod }
            else { g with owed := min (g.owed + 1) (match g.granularity with | .full => 1 | .half => 2 | .quarter => 4),
                          slotTimer := g.slotPeriod,
                          refreshSince := if g.owed = 0 then s.now else g.refreshSince })) ∧
    (Due.lapsed n ∈ s.due → g.service = .showing ∨ g.service = .held → g.lapsePoint ≤ g.ages.oldest →
      let mayShed := g.cfg.sheddable = true ∧ (g.planClass = .condition ∨ g.planClass = .blank)
      ∃ t : State, exec (.signLapsed n) s = .next t ∧ ((t.sign n).service = .lapsed ∨ (mayShed ∧ (t.sign n).service = .shed)) ∧
        (mayShed → s.inReserve = true → g.planClass = .condition → (t.sign n).service = .shed) ∧
        ((t.sign n).service = .shed → (t.sign n).restoreNeed = none ∧ (t.sign n).shedNeed = some s.now ∧
          t.reported (.sign n) Flag.signShed) ∧
        (t.sign n).cfg = g.cfg ∧ (t.sign n).planClass = g.planClass ∧ (t.sign n).rotation = g.rotation ∧
        (t.sign n).shown = { g.shown with confirmed := false } ∧
        t.reported (.sign n) (Flag.signLapsed ||| Flag.signService) ∧ t.due = s.due.erase (.lapsed n) ∧
        { t.exceptOutputs with due := s.due } = s.exceptOutputs) ∧
    (Due.lapsed n ∈ s.due → g.service = .showing ∨ g.service = .held → g.lapsePoint ≤ g.ages.oldest →
      g.cfg.sheddable = false ∨ g.planClass.isProtected = true →
      ∃ t : State, exec (.signLapsed n) s = .next t ∧ (t.sign n).service = .lapsed ∧
        (t.sign n).restoreNeed = some (g.restoreNeed.getD s.now) ∧
        (t.sign n).lapsePoint =
          (if g.service = .held then 8 * g.cfg.holdover / (match g.band with | .normal => 1 | .cold => 2 | .severe => 4)
            else g.lapsePoint) ∧
        (t.sign n).ages = Ages.all (t.sign n).lapsePoint ∧ (t.sign n).shown = { g.shown with confirmed := false } ∧
        (let frames : Nat := match g.granularity with | .full => 1 | .half => 2 | .quarter => 4
         let period := (t.sign n).lapsePoint / 2 / frames
         let timer := min g.slotTimer period - 1
         (g.service = .showing → (t.sign n).slotTimer = g.slotTimer ∧ (t.sign n).owed = g.owed) ∧
         (g.service = .held → (t.sign n).slotPeriod = period ∧
           (t.sign n).slotTimer = (if timer = 0 then period else timer) ∧
           (t.sign n).owed =
             (if timer = 0 then if g.shown.page = none then 0 else min (g.owed + 1) frames else g.owed))) ∧
        t.reported (.sign n) (Flag.signLapsed ||| Flag.signService) ∧ t.due = s.due.erase (.lapsed n) ∧
        { t.exceptOutputs with due := s.due } = s.exceptOutputs) ∧
    (Due.critical n ∈ s.due → counted → g.restoreNeed = none → g.critical ≤ g.ages.oldest →
      ∃ t : State, exec (.criticalPoint n) s = .next t ∧
        raised (.critical n) 3 { g with restoreNeed := some s.now } t)

/-- What the ACK of a frame does on a line whose band mode is fixed: CONTENT writes the displayed record, settles the need,
shows the picture and restarts the retention; REFRESH restarts the bands it carried; BLANK blanks, and one sent by shedding
leaves the service state; a SHED sign stays SHED; POLL brings an OFFLINE sign back; HOLD with HELD has a SHOWING sign HELD, and
one that lapsed while the frame was in flight, and with neither flag leaves the service state and wakes the line; an ABSENT sign
takes nothing, but its frame's end has it adopt the line's target. Under AUTO the temperature of an ACK moves the band by R148's
table (R124, R136, R137, R148, R151, R154, R157, R165, R166, R167). That the ACK of a shedding BLANK keeps the DPL need in every
service state and plan is the model's reading (log entry 17), and so are the HOLD ACK of a sign that lapsed in flight and the
restore need it raises on a line that is no longer entering hold (log entry 15). -/
def Obligations.SignAckEffects : Prop :=
  ∀ (l : Fin 2) (n : Fin 16) (f : Frame) (status temperature : Byte) (s : State), s.settled → (s.line l).inFlight = some f →
    n.val = 8 * l.val + f.address.val →
    let g := s.sign n
    let body : List Byte := [BitVec.ofNat 8 (f.address.val + 0x80), BitVec.ofNat 8 f.kind.wire, 0, status, temperature]
    let ack : Instr := .signReply l (ofBytesBE 64 ([0x5A] ++ body ++ bytesBE 2 (crc16 body)))
    let flags : SignStatus :=
      { blanked := status.getLsbD 0, held := status.getLsbD 1, door := status.getLsbD 2, pixelFault := status.getLsbD 3 }
    let degrees : Int := max (-60) (min 80 temperature.toInt)
    let free := g.service ≠ .absent ∧ g.service ≠ .shed ∧ f.shedding = false
    let fixed := (s.line l).cfg.bandMode ≠ .auto ∧ g.cfg.sheddable = false
    let lapse : Nat :=
      if g.service = .held then 8 * g.cfg.holdover / (match g.band with | .normal => 1 | .cold => 2 | .severe => 4)
      else g.lapsePoint
    let critical : Nat := if g.service = .held then 3 * lapse / 4 else g.critical
    let age := min lapse (s.now - f.startTick).toNat
    let taken (t : State) : Prop :=
      (t.sign n).status = flags ∧ (t.sign n).temperature = some degrees ∧ (t.sign n).pollCount = 0 ∧
        (t.sign n).pollNeed = none ∧ (t.sign n).cfg = g.cfg ∧ (t.sign n).planClass = g.planClass ∧
        (t.sign n).rotation = g.rotation ∧
        (g.status.door ≠ flags.door → t.reported (.sign n) Flag.signDoor) ∧
        (g.status.pixelFault ≠ flags.pixelFault → t.reported (.sign n) Flag.signPixelFault) ∧
        t.exceptOutputs = s.exceptOutputs
    (g.service = .absent → ∃ t : State, exec ack s = .next t ∧ t.exceptOutputs = s.exceptOutputs ∧
      (t.sign n).service = .absent ∧ (t.sign n).status = g.status ∧ (t.sign n).temperature = g.temperature ∧
      (t.sign n).shown = g.shown ∧ (g.granularity = (s.line l).target → t.signs = s.signs) ∧
      (g.granularity ≠ (s.line l).target →
        g.cursor % (match (s.line l).target with | .full => 4 | .half => 2 | .quarter => 1) = 0 →
        (t.sign n).granularity = (s.line l).target ∧ t.reported (.sign n) Flag.signGranularity)) ∧
    (free → f.kind = .content → fixed → age < lapse → age < critical →
      ∃ t : State, exec ack s = .next t ∧ taken t ∧ (t.sign n).service = .showing ∧ (t.sign n).restoreNeed = none ∧
        (t.sign n).ages = Ages.all age ∧ (t.sign n).owed = 0 ∧ (t.sign n).cursor = 0 ∧
        (t.sign n).granularity = (t.line l).target ∧
        (g.granularity = (s.line l).target →
          (t.sign n).lapsePoint = lapse ∧ (t.sign n).slotTimer = (t.sign n).slotPeriod) ∧
        (t.sign n).shown = { page := f.page, cls := f.builtClass, confirmed := true, fallback := f.fallback } ∧
        (g.shown ≠ (t.sign n).shown → t.reported (.sign n) Flag.signDisplay) ∧
        (t.sign n).need =
          (if f.fallback then
            (if f.wanted = g.wanted ∧ f.builtClass = g.planClass then .recovery s.now else g.need)
          else if f.page = g.wanted ∧ f.builtClass = g.planClass then .none else g.need)) ∧
    (f.kind = .refresh → fixed → g.service = .showing ∨ g.service = .lapsed → flags.blanked = false →
      g.granularity = (s.line l).target →
      let at' (b : Nat) (a : Nat) : Nat := if f.firstBand ≤ b ∧ b < f.firstBand + f.bands then age else a
      let ages : Ages := { a0 := at' 0 g.ages.a0, a1 := at' 1 g.ages.a1, a2 := at' 2 g.ages.a2, a3 := at' 3 g.ages.a3 }
      (ages.oldest < g.lapsePoint ∧ ages.oldest < g.critical) ∨ (g.service = .lapsed ∧ g.restoreNeed ≠ none) →
      ∃ t : State, exec ack s = .next t ∧ taken t ∧
        t.signs = s.signs.set n
          { g with ages := ages, owed := g.owed - 1, cursor := (f.firstBand + f.bands) % 4, status := flags,
                   temperature := some degrees, pollCount := 0, pollNeed := none }) ∧
    (free → f.kind = .blank → fixed →
      ∃ t : State, exec ack s = .next t ∧ taken t ∧ (t.sign n).service = .blank ∧ (t.sign n).restoreNeed = none ∧
        (g.service ≠ .blank → (t.sign n).owed = 0) ∧ (t.sign n).shown.page = none ∧ (t.sign n).shown.confirmed = true ∧
        (g.planClass = .blank → f.fallback = false → (t.sign n).need = .none)) ∧
    (f.kind = .blank → f.shedding = true → (s.line l).cfg.bandMode ≠ .auto → g.service ≠ .absent →
      g.granularity = (s.line l).target →
      ∃ t : State, exec ack s = .next t ∧ taken t ∧ (t.sign n).service = g.service ∧ (t.sign n).restoreNeed = g.restoreNeed ∧
        (t.sign n).need = g.need ∧ (t.sign n).shown.page = none ∧ (t.sign n).ages = g.ages ∧
        (g.service = .shed → (t.sign n).shedNeed = none)) ∧
    (g.service = .shed → f.shedding = false → (s.line l).cfg.bandMode ≠ .auto → g.granularity = (s.line l).target →
      ∃ t : State, exec ack s = .next t ∧ taken t ∧ (t.sign n).service = .shed ∧ (t.sign n).shedNeed = g.shedNeed ∧
        (t.sign n).ages = g.ages ∧ (t.sign n).owed = g.owed ∧ (t.sign n).cursor = g.cursor ∧
        (f.kind = .content →
          (t.sign n).shown = { page := f.page, cls := f.builtClass, confirmed := true, fallback := f.fallback })) ∧
    (free → f.kind = .poll → fixed → flags.blanked = false →
      ∃ t : State, exec ack s = .next t ∧ taken t ∧
        (g.service = .offline → (t.sign n).service = .lapsed ∧ (t.sign n).restoreNeed = some (g.restoreNeed.getD s.now) ∧
          (t.sign n).ages = Ages.all g.lapsePoint ∧ t.reported (.sign n) (Flag.signService ||| Flag.signOffline)) ∧
        (g.service ≠ .offline → (t.sign n).service = g.service ∧ (t.sign n).shown = g.shown)) ∧
    (f.kind = .hold → fixed → g.service = .showing ∨ g.service = .lapsed → flags.blanked = false →
      ∃ t : State, exec ack s = .next t ∧ taken t ∧ (t.sign n).holdNeed = none ∧
        (flags.held = true → (t.sign n).service = .held ∧ (t.sign n).ages = g.ages ∧
          ((s.line l).state ≠ .holdEntry → (s.line l).state ≠ .held →
            (t.sign n).restoreNeed = some (g.restoreNeed.getD s.now)) ∧ (t.sign n).owed = 0 ∧
          (t.sign n).lapsePoint =
            4 * (8 * g.cfg.holdover / (match g.band with | .normal => 2 | .cold => 4 | .severe => 4))) ∧
        (flags.held = false → (t.sign n).service = g.service ∧
          ((s.line l).state = .holdEntry → (t.line l).wakeCause = 7 ∧ t.reported (.line l) Flag.lineWake))) ∧
    (free → (s.line l).cfg.bandMode = .auto →
      ∃ t : State, exec ack s = .next t ∧ (t.sign n).temperature = some degrees ∧ t.exceptOutputs = s.exceptOutputs ∧
        (t.sign n).band =
          (match g.band with
          | .normal => if degrees ≤ -26 then .severe else if degrees ≤ -11 then .cold else .normal
          | .cold => if degrees ≤ -26 then .severe else if -8 ≤ degrees then .normal else .cold
          | .severe => if -8 ≤ degrees then .normal else if -23 ≤ degrees then .cold else .severe))

/-- The ends that are no ACK. A failed attempt before the third is resent at once from the transmit buffer with the next attempt
number, the present tick and the line's present baud, except a POLL sent to an OFFLINE sign, which is sent once; NAK CHECK and a
MISMATCH to another frame than REFRESH also record status and temperature; the third failure takes the sign OFFLINE, and that of a
frame sent once leaves its service state (log entry 46); a MISMATCH to a REFRESH ends the frame with a restore need (R134, R135,
R137, R138, R139). The model's choices: with no exchange on the line nothing is heard (log entry 35), and a NAK of a sign that is
ABSENT by then writes nothing (log entry 40). -/
def Obligations.SignAttemptFails : Prop :=
  ∀ (l : Fin 2) (bytes : BitVec 64) (s : State), s.settled →
    ((s.line l).inFlight = none →
      exec (.signReply l bytes) s = .next s ∧ exec (.signReplyFailure l) s = .next s) ∧
    ∀ (n : Fin 16) (f : Frame), (s.line l).inFlight = some f → n.val = 8 * l.val + f.address.val →
      let g := s.sign n
      let reply (result status temperature : Byte) : Instr :=
        let body : List Byte := [BitVec.ofNat 8 (f.address.val + 0x80), BitVec.ofNat 8 f.kind.wire, result, status, temperature]
        .signReply l (ofBytesBE 64 ([0x5A] ++ body ++ bytesBE 2 (crc16 body)))
      let invalid := ∀ r status temperature : Byte, r.toNat < 3 → Instr.signReply l bytes ≠ reply r status temperature
      let again := f.attempt < 3 ∧ f.once = false
      let resent : Frame := { f with attempt := f.attempt + 1, startTick := s.now, baud := (s.line l).cfg.baud }
      let resend (x : State) : State := x.setLine l { x.line l with inFlight := some resent }
      let lost (t : State) : Prop :=
        (t.sign n).pollCount = 0 ∧ (t.sign n).pollNeed = none ∧ (t.sign n).cfg = g.cfg ∧
          (t.sign n).shown.page = g.shown.page ∧ t.exceptOutputs = s.exceptOutputs ∧
          (g.service = .absent ∨ g.service = .offline → (t.sign n).service = g.service) ∧
          (f.once = true → g.service ≠ .shed → g.cfg.sheddable = false →
            (t.sign n).service = g.service ∧ (t.sign n).restoreNeed = g.restoreNeed) ∧
          (f.once = false → g.service ≠ .absent → g.service ≠ .offline →
            (t.sign n).service = .offline ∧ (t.sign n).restoreNeed = none ∧ (t.sign n).owed = 0 ∧
              (t.sign n).shown.confirmed = false ∧ t.reported (.sign n) (Flag.signService ||| Flag.signOffline))
      (again → exec (.signReplyFailure l) s = .next (resend s) ∧
        (invalid → exec (.signReply l bytes) s = .next (resend s))) ∧
      (¬again → (∃ t : State, exec (.signReplyFailure l) s = .next t ∧ lost t) ∧
        (invalid → ∃ t : State, exec (.signReply l bytes) s = .next t ∧ lost t)) ∧
      (∀ (result status temperature : Byte), result = 1 ∨ (result = 2 ∧ f.kind ≠ .refresh) → g.service = .absent → again →
        exec (reply result status temperature) s = .next (resend s)) ∧
      ∀ (result status temperature : Byte), result = 1 ∨ result = 2 → g.service ≠ .absent → status.getLsbD 0 = false →
        let flags : SignStatus :=
          { blanked := false, held := status.getLsbD 1, door := status.getLsbD 2, pixelFault := status.getLsbD 3 }
        let degrees : Int := max (-60) (min 80 temperature.toInt)
        (result = 1 ∨ f.kind ≠ .refresh → again → ∃ t : State, exec (reply result status temperature) s = .next t ∧
          t.signs = s.signs.set n { g with status := flags, temperature := some degrees } ∧
          (t.line l).inFlight = some resent ∧ (t.line l).txBuffer = (s.line l).txBuffer ∧ t.exceptSigns = s.exceptSigns) ∧
        (result = 1 ∨ f.kind ≠ .refresh → ¬again → ∃ t : State, exec (reply result status temperature) s = .next t ∧ lost t) ∧
        (result = 2 → f.kind = .refresh → g.cfg.sheddable = false → g.service ≠ .shed →
          ∃ t : State, exec (reply result status temperature) s = .next t ∧
            (t.sign n).restoreNeed = some (g.restoreNeed.getD s.now) ∧ (t.sign n).shown = g.shown ∧
            (t.sign n).ages = g.ages ∧ (t.sign n).status = flags ∧ (t.sign n).temperature = some degrees ∧
            t.reported (.sign n) Flag.signMismatch ∧ (t.sign n).pollCount = 0 ∧ t.exceptOutputs = s.exceptOutputs)

/-- What a line sends. A sign's candidate is the most urgent of the needs its service state lets it offer, the older of two in one
class. An arbitration sends nothing on a busy or HELD line. Otherwise it takes the candidates by class, then need tick, then
address, and sends the first that is ready, or whose fallback is due by its wait or its faulted page: the frame record, the
transmit buffer and the use of the cache way follow from it. A candidate passed over has its missing strips asked for, unless its
page is faulted, where the miss queue has room; with none to send the line stays idle. A tick has both lines arbitrate, line A
first (R121, R126, R127, R140 to R142, R157, R165, R168, R172, R193). Readiness is stated for strips that are sound. -/
def Obligations.ArbiterSendsFirstReady : Prop :=
  ∀ (l : Fin 2) (s : State),
    let age (c : Candidate) : Nat := (s.now - c.since).toNat
    let cached (p : Page) : BitVec 8 := s.validStrips p
    let offers (n : Fin 16) (c : Candidate) : Prop :=
      let g := s.sign n
      let lit := g.service = .showing ∨ g.service = .lapsed
      let bare (kind : FrameKind) (cls : ArbClass) (since : Tick) (shedding : Bool) : Candidate :=
        { sign := n, cls := cls, kind := kind, page := none, strips := 0, since := since, falls := false, shedding := shedding }
      let content (cls : ArbClass) (since : Tick) (falls : Bool) : Candidate :=
        match g.rotation[g.index]? with
        | some p => { sign := n, cls := cls, kind := .content, page := some p, strips := 0xFF, since := since, falls := falls,
                      shedding := false }
        | none => { bare .blank cls since false with falls := falls }
      ((lit ∨ g.service = .blank ∨ g.service = .held) ∧
        ((∃ (h : Bool) (t : Tick), g.need = .plan h t ∧ c = content (if h then .hazard else .content) t true) ∨
          ∃ t : Tick, g.need = .recovery t ∧ c = content .content t false)) ∨
      ((lit ∨ g.service = .held) ∧ ∃ t : Tick, g.restoreNeed = some t ∧ c = content .restore t true) ∨
      (lit ∧ ∃ t : Tick, g.holdNeed = some t ∧ c = bare .hold .content t false) ∨
      (g.service = .shed ∧ ∃ t : Tick, g.shedNeed = some t ∧ c = bare .blank .content t true) ∨
      (lit ∧ 1 ≤ g.owed ∧ ∃ p : Page, g.shown.page = some p ∧ c =
        { bare .refresh .refresh g.refreshSince false with
          page := some p,
          strips := match g.granularity with
            | .full => 0xFF <<< (2 * g.cursor)
            | .half => 0x0F <<< (2 * g.cursor)
            | .quarter => 0x03 <<< (2 * g.cursor) }) ∨
      ((lit ∨ g.service = .blank ∨ g.service = .shed ∨ g.service = .offline) ∧
        ∃ t : Tick, g.pollNeed = some t ∧ c = bare .poll .poll t false)
    let offered (c : Candidate) : Prop := ∃ n : Fin 16, n.val / 8 = l.val ∧ s.candidate n = some c
    let ahead (a b : Candidate) : Prop :=
      b.cls.code < a.cls.code ∨
        (a.cls = b.cls ∧ (age b < age a ∨ (age a = age b ∧ a.sign < b.sign)))
    let ready (c : Candidate) : Prop :=
      ∀ p : Page, c.page = some p → p.toNat < 8 ∨ (cached p &&& c.strips = c.strips ∧ p ∉ s.lib.faulted)
    let fallback (c d : Candidate) : Prop :=
      c.falls = true ∧ ¬ready c ∧ ∃ p : Page, c.page = some p ∧
        (let after (wait : Nat) : Prop := wait ≤ age c ∨ p ∈ s.lib.faulted
         match (s.sign c.sign).planClass with
         | .hazard => after 16 ∧ d = { c with page := some 1 }
         | .closure => after 40 ∧ d = { c with page := some 2 }
         | .caution => after 40 ∧ d = { c with page := some 3 }
         | .condition => after 80 ∧ d = { c with kind := .blank, page := none, strips := 0 }
         | .blank => False)
    let goes (c : Candidate) : Prop := ready c ∨ ∃ d : Candidate, fallback c d
    let asked (c : Candidate) (t : State) : Prop :=
      ∀ p : Page, c.page = some p → p ∉ s.lib.faulted →
        (∃ r ∈ t.lib.missQueue, r.page = p ∧ (c.strips &&& ~~~(cached p)) &&& r.strips = c.strips &&& ~~~(cached p)) ∨
        (4 ≤ t.lib.missQueue.length ∧ ∀ r ∈ t.lib.missQueue, r.page ≠ p)
    let frame (t : State) : Prop :=
      { t with lib := s.lib, lines := s.lines } = s ∧
      { t.lib with cache := s.lib.cache, missQueue := s.lib.missQueue } = s.lib ∧
      (∀ j : Fin 2, j ≠ l → t.line j = s.line j) ∧
      ∀ k : Fin 32, t.lib.cache[k].way0 = s.lib.cache[k].way0 ∧ t.lib.cache[k].way1 = s.lib.cache[k].way1
    (∀ n : Fin 16, (s.candidate n = none → ∀ c : Candidate, ¬offers n c) ∧
      ∀ c : Candidate, s.candidate n = some c → offers n c ∧ c.sign = n ∧
        ∀ d : Candidate, offers n d → d.cls.code < c.cls.code ∨ (d.cls = c.cls ∧ age d ≤ age c)) ∧
    ((s.line l).inFlight ≠ none ∨ (s.line l).state = .held → s.arbitrate l = s) ∧
    ((s.line l).inFlight = none → (s.line l).state ≠ .held →
      ((∀ c : Candidate, offered c → ¬goes c) →
        let t := s.arbitrate l
        t.lines = s.lines ∧ t.lib.cache = s.lib.cache ∧ frame t ∧ ∀ c : Candidate, offered c → asked c t) ∧
      ∀ c : Candidate, offered c → goes c → (∀ d : Candidate, offered d → ahead d c → ¬goes d) →
        (ready c → ∀ (p : Page) (w : Bool), c.page = some p → s.cachedWay p = some w →
          ∀ i : Fin 8, c.strips.getLsbD i.val = true → parityOf (s.strip p w i).data = (s.strip p w i).parity) →
        let t := s.arbitrate l
        let g := s.sign c.sign
        frame t ∧ (∀ d : Candidate, offered d → ahead d c → asked d t) ∧ (¬ready c → asked c t) ∧
        ∃ (d : Candidate) (fell : Bool), ((fell = false ∧ ready c ∧ d = c) ∨ (fell = true ∧ fallback c d)) ∧
          let way : Option (Fin 32 × Bool) := d.page.bind fun p => (s.cachedWay p).map fun w => (setOfPage p, w)
          t.line l = { s.line l with
            inFlight := some
              { address := addressOf c.sign, kind := d.kind, page := d.page, strips := d.strips, cls := c.cls, fallback := fell,
                attempt := 1, startTick := s.now, builtClass := g.planClass, wanted := g.rotation[g.index]?,
                firstBand := g.cursor, bands := (match g.granularity with | .full => 4 | .half => 2 | .quarter => 1),
                baud := (s.line l).cfg.baud, way := way, shedding := c.shedding,
                once := d.kind == .poll && g.service == .offline }
            txBuffer := signFrame (addressOf c.sign) d.kind d.page
              (match d.page with
                | some p => (bitsOf d.strips).map fun i => (i, s.stripData p i)
                | none => []) } ∧
          ∀ k : Fin 32, t.lib.cache[k].lru1 =
            (match way with
              | some (k', w) => if k' = k then !w else s.lib.cache[k].lru1
              | none => s.lib.cache[k].lru1)) ∧
    (s.calm → s.due = [] → s.lib.port ≠ .idle →
      let t := s.tickOnce.arbitrate 0
      exec .tick s = .next (t.arbitrate 1).clearArbitrations)

/-- A computation of a line's load with the shedding and the restoring that follow it, once the reserve shed has left none of
the line's signs to take: no counted sheddable sign has plan CONDITION while the posture is RESERVE (R159). Load, sum and
OVERLOADED follow the counted signs as they then stand. While the load is above 700 the highest-addressed counted sheddable sign
with plan CONDITION or BLANK enters SHED, with its shed need raised and the effects of that entry; once shedding has stopped,
the lowest-addressed SHED sign that RESERVE does not hold shed enters LAPSED while the load with it stays within 500. SERVICE
and SHED are reported of each, and of no other sign the service state or anything else changes (R138, R155 to R160, R166). -/
def Obligations.LoadShedsAndRestores : Prop :=
  ∀ (l : Fin 2) (s : State), (∀ n : Fin 16, n.val / 8 = l.val → s.reserveSheds n = false) →
    let t := s.settleLoad l
    let here (n : Fin 16) : Prop := n.val / 8 = l.val
    let shed (n : Fin 16) : Prop := (t.sign n).service = .shed ∧ (s.sign n).service ≠ .shed
    let restored (n : Fin 16) : Prop := (t.sign n).service ≠ .shed ∧ (s.sign n).service = .shed
    t.loadSettled l ∧ t.exceptSigns = s.exceptSigns ∧ (∀ j : Fin 2, j ≠ l → t.line j = s.line j) ∧
    (t.line l).cfg = (s.line l).cfg ∧ (t.line l).inFlight = (s.line l).inFlight ∧
    ((s.line l).overloaded ≠ (t.line l).overloaded → t.reported (.line l) Flag.lineOverloaded) ∧
    ∀ n : Fin 16,
      let g := s.sign n
      let g' := t.sign n
      (¬shed n → ¬restored n → { g' with holdNeed := g.holdNeed, restoreNeed := g.restoreNeed } = g ∧
        (¬here n ∨ g.service ≠ .held → g'.restoreNeed = g.restoreNeed)) ∧
      (shed n → here n ∧ s.mayBeShed n = true ∧
        700 < s.thousandths l (s.sharesOf l fun m => decide (m ≤ n) || !s.mayBeShed m) ∧
        (∀ m : Fin 16, here m → n < m → s.mayBeShed m = true → shed m) ∧
        g' = { g with service := .shed, holdNeed := none, restoreNeed := none, pollCount := 0, pollNeed := none,
                      shedNeed := some s.now, owed := 0, cursor := 0, slotTimer := g.slotPeriod } ∧
        t.reported (.sign n) (Flag.signService ||| Flag.signShed)) ∧
      (here n → s.mayBeShed n = true → (∀ m : Fin 16, here m → n < m → s.mayBeShed m = false) →
        700 < s.thousandths l (s.sharesOf l fun _ => true) → shed n) ∧
      (restored n → here n ∧ s.mayBeRestored n = true ∧ (t.line l).load ≤ 500 ∧
        (∀ m : Fin 16, here m → m < n → s.mayBeRestored m = true → restored m) ∧
        g' = { g with service := .lapsed, holdNeed := none, restoreNeed := some (g.restoreNeed.getD s.now), pollCount := 0,
                      pollNeed := none, shedNeed := none, ages := Ages.all g.lapsePoint,
                      shown := { g.shown with confirmed := false } } ∧
        t.reported (.sign n) (Flag.signService ||| Flag.signShed))

/-! ### The message library, the flash port and the profile (12) -/

/-- The library's requests. OPEN_PAGE opens the write cursor, CLEAR_FAULTS empties the faulted-page list, READ_DIRECTORY answers the
sets asked for and the three queues and changes nothing; PAGE_DATA, ERASE_BLOCK and SAVE_PROFILE queue a work item with the next
sequence number, which starts at once on an idle port where no fill can start; each refuses as its rule says, and a full work
queue refuses with QUEUE_FULL (R174, R177 to R181, R187). That the reply counts its free places after an item has started on an
idle port is the model's reading (log entry 30). -/
def Obligations.LibraryRequestsApply : Prop :=
  ∀ (tag : Byte) (s : State), s.listening →
    let full := 6 ≤ s.lib.workQueue.length
    let seq := s.lib.nextSeq
    let waits (k : WorkKind) (c : Option (Page × Fin 8)) : State :=
      { s with lib := { s.lib with workQueue := s.lib.workQueue ++ [{ seq := seq, kind := k }], nextSeq := seq + 1, cursor := c } }
    let starts (op : PortOp) (c : Option (Page × Fin 8)) : State :=
      { s with lib := { s.lib with port := op, opTicks := 0, nextSeq := seq + 1, cursor := c } }
    let busy := s.lib.port ≠ .idle
    let open' := s.lib.port = .idle ∧ s.nextFill = none ∧ s.lib.workQueue = []
    let left := 6 - (s.lib.workQueue.length + 1)
    let next (i : Fin 8) : Nat := if i.val < 7 then i.val + 1 else 0xFF
    let moved (p : Page) (i : Fin 8) : Option (Page × Fin 8) := if i.val < 7 then some (p, i + 1) else none
    let inUse (k : Fin 32) (w : Bool) : Bool :=
      (List.finRange 2).any fun l => (s.line l).inFlight.any fun f => f.way == some (k, w)
    let way (k : Fin 32) (w : Bool) (x : CacheLine) : List Byte :=
      u8 ((if x.valid then 1 else 0) + (if inUse k w then 2 else 0)) ++ u16 (if x.valid then 32 * x.tag + k.val else 0xFFFF)
        ++ u8 x.validMask.toNat
    let set (k : Fin 32) : List Byte :=
      u8 (if s.lib.cache[k].lru1 then 1 else 0) ++ way k false s.lib.cache[k].way0 ++ way k true s.lib.cache[k].way1
    let sets (first count : Nat) : List (Fin 32) :=
      (List.finRange 32).filter fun k => decide (first ≤ k.val ∧ k.val < first + max 1 (min 8 count))
    let fill (r : FillRequest) : List Byte := u16 r.page.toNat ++ [r.strips] ++ u8 (if r.inService then 1 else 0)
    let item (x : WorkItem) : List Byte := [x.seq] ++ (match x.kind with
      | .program p i _ => u8 1 ++ u16 p.toNat ++ u8 i.val
      | .erase b => u8 2 ++ u16 b.val ++ u8 0xFF
      | .saveProfile => u8 3 ++ u16 0 ++ u8 0xFF)
    (∀ (page : Half) (strip : Byte),
      (page.toNat < 8 ∨ 4096 ≤ page.toNat ∨ 8 ≤ strip.toNat →
        exec (.openPage tag page strip) s = .next (s.answered 0x38 tag .outOfRange [])) ∧
      ∀ i : Fin 8, 8 ≤ page.toNat → page.toNat < 4096 → strip.toNat = i.val →
        exec (.openPage tag page strip) s = .next
          ({ s with lib := { s.lib with cursor := some (page.setWidth 12, i) } }.answered 0x38 tag .ok
            (u16 page.toNat ++ [strip]))) ∧
    exec (.clearFaults tag) s = .next
      ({ s with lib := { s.lib with faulted := [] } }.answered 0x3B tag .ok (u8 s.lib.faulted.length)) ∧
    (∀ first count : Byte,
      (32 ≤ first.toNat → exec (.readDirectory tag first count) s = .next (s.answered 0x3C tag .outOfRange [])) ∧
      (first.toNat < 32 → exec (.readDirectory tag first count) s = .next
        (s.answered 0x3C tag .ok
          (u8 (sets first.toNat count.toNat).length ++ (sets first.toNat count.toNat).flatMap set
            ++ u8 s.lib.faulted.length ++ s.lib.faulted.flatMap (fun p => u16 p.toNat)
            ++ u8 s.lib.missQueue.length ++ s.lib.missQueue.flatMap fill
            ++ u8 s.lib.workQueue.length ++ s.lib.workQueue.flatMap item)))) ∧
    (∀ d : StripData,
      (s.lib.cursor = none → exec (.pageData tag d) s = .next (s.answered 0x39 tag .wrongState [])) ∧
      ∀ (p : Page) (i : Fin 8), s.lib.cursor = some (p, i) →
        let data (n : Nat) : List Byte := [seq] ++ u16 p.toNat ++ u8 i.val ++ u8 (next i) ++ u8 n
        (full → exec (.pageData tag d) s = .next (s.answered 0x39 tag .queueFull [])) ∧
        (¬full → busy → exec (.pageData tag d) s = .next
          ((waits (.program p i d) (moved p i)).answered 0x39 tag .ok (data left))) ∧
        (open' → exec (.pageData tag d) s = .next
          ((starts (.program seq p i d) (moved p i)).answered 0x39 tag .ok (data 6)))) ∧
    (∀ block : Half,
      (block = 0 ∨ 512 ≤ block.toNat → exec (.eraseBlock tag block) s = .next (s.answered 0x3A tag .outOfRange [])) ∧
      ∀ b : Fin 512, block ≠ 0 → block.toNat = b.val →
        (full → exec (.eraseBlock tag block) s = .next (s.answered 0x3A tag .queueFull [])) ∧
        (¬full → busy → exec (.eraseBlock tag block) s = .next
          ((waits (.erase b) s.lib.cursor).answered 0x3A tag .ok ([seq] ++ u8 left))) ∧
        (open' → exec (.eraseBlock tag block) s = .next
          ((starts (.erase seq b) s.lib.cursor).answered 0x3A tag .ok ([seq] ++ u8 6)))) ∧
    (full → exec (.saveProfile tag) s = .next (s.answered 0x05 tag .queueFull [])) ∧
    (¬full → busy → exec (.saveProfile tag) s = .next
      ((waits .saveProfile s.lib.cursor).answered 0x05 tag .ok ([seq] ++ u8 left))) ∧
    (open' → exec (.saveProfile tag) s = .next
      ((starts (.save seq s.configImage) s.lib.cursor).answered 0x05 tag .ok ([seq] ++ u8 6)))

/-- The page cache and the flash port. A fill takes the way that holds its page, else a way that is not valid before the least
recently used one, none that a frame in flight uses, and cannot start with both ways of the set in use. An idle port starts the
oldest entry that can start: the way is used, a victim loses its page with every strip INVALID, the entry is in service and its
lowest strip that is not VALID is read; where no entry can start, the head of the work queue starts. A frame build that meets a
strip whose parity does not check sends nothing, makes the strip INVALID, counts the error, reports CACHE_PARITY and asks for the
strip again (R141, R142, R172 to R175). That the check stops at the first such strip, and that its candidate has no fallback in the
same arbitration, is the model's choice (log entry 29). -/
def Obligations.CacheFillsAndParity : Prop :=
  ∀ s : State,
    let used (k : Fin 32) (w : Bool) : Bool :=
      (List.finRange 2).any fun l => (s.line l).inFlight.any fun f => f.way == some (k, w)
    let holds (c : CacheLine) (p : Page) : Bool := c.valid && c.tag == p.toNat / 32
    (∀ p : Page, 8 ≤ p.toNat →
      let k : Fin 32 := Fin.ofNat 32 p.toNat
      let c := s.lib.cache[k]
      let lru : Bool := c.lru1
      s.fillWay p =
        (if used k false && used k true then none
          else if holds c.way0 p then some false
          else if holds c.way1 p then some true
          else if !c.way0.valid && !used k false then some false
          else if !c.way1.valid && !used k true then some true
          else if !used k lru then some lru
          else some (!lru))) ∧
    (s.lib.port ≠ .idle → s.portChoice = s) ∧
    (s.lib.port = .idle → (∀ r ∈ s.lib.missQueue, s.fillWay r.page = none) →
      (s.lib.workQueue = [] → s.portChoice = s) ∧
      ∀ (it : WorkItem) (rest : List WorkItem), s.lib.workQueue = it :: rest →
        s.portChoice = { s with lib := { s.lib with workQueue := rest, port := s.opOf it, opTicks := 0 } }) ∧
    (∀ (before after : List FillRequest) (r : FillRequest) (w : Bool) (j : Fin 8), s.lib.port = .idle →
      s.lib.missQueue = before ++ r :: after → (∀ x ∈ before ++ after, x.page ≠ r.page) → 8 ≤ r.page.toNat →
      (∀ x ∈ before, s.fillWay x.page = none) → s.fillWay r.page = some w →
      let k : Fin 32 := Fin.ofNat 32 r.page.toNat
      let c := s.lib.cache[k]
      let old : CacheLine := if w then c.way1 else c.way0
      let missing (i : Fin 8) : Prop := r.strips.getLsbD i.val = true ∧ (holds old r.page = true → old.strips[i].valid = false)
      missing j → (∀ i : Fin 8, i < j → ¬missing i) →
      (∀ it ∈ s.lib.workQueue, ∀ (q : Page) (i : Fin 8) (d : StripData), it.kind = .program q i d → q ≠ r.page) →
      let t := s.portChoice
      let new : CacheLine := if w then t.lib.cache[k].way1 else t.lib.cache[k].way0
      let other (x : CacheSet) : CacheLine := if w then x.way0 else x.way1
      t.lib.port = .fill r.page w j false ∧ t.lib.opTicks = 0 ∧
        t.lib.missQueue = before ++ { r with inService := true } :: after ∧ holds new r.page = true ∧
        (holds old r.page = true → new = old) ∧ (holds old r.page = false → ∀ i : Fin 8, new.strips[i].valid = false) ∧
        t.lib.cache[k].lru1 = !w ∧ other t.lib.cache[k] = other c ∧
        (∀ k' : Fin 32, k' ≠ k → t.lib.cache[k'] = s.lib.cache[k']) ∧
        { t.lib with cache := s.lib.cache, missQueue := s.lib.missQueue, port := .idle, opTicks := s.lib.opTicks } = s.lib ∧
        { t with lib := s.lib } = s) ∧
    ∀ (l : Fin 2) (n : Fin 16) (c : Candidate) (p : Page) (w : Bool) (i : Fin 8),
      (s.line l).inFlight = none → (s.line l).state ≠ .held → n.val / 8 = l.val → s.candidate n = some c →
      (∀ m : Fin 16, m.val / 8 = l.val → m ≠ n → s.candidate m = none) →
      c.page = some p → s.cachedWay p = some w → p ∉ s.lib.faulted → s.validStrips p &&& c.strips = c.strips →
      c.strips.getLsbD i.val = true → parityOf (s.strip p w i).data ≠ (s.strip p w i).parity →
      (∀ j : Fin 8, j < i → c.strips.getLsbD j.val = true → parityOf (s.strip p w j).data = (s.strip p w j).parity) →
      let t := s.arbitrate l
      t.lines = s.lines ∧ t.strip p w i = { s.strip p w i with valid := false } ∧
        (∀ j : Fin 8, j ≠ i → t.strip p w j = s.strip p w j) ∧ t.lib.parityErrors = min 255 (s.lib.parityErrors + 1) ∧
        t.reported .library Flag.libCacheParity ∧
        ((∀ r ∈ s.lib.missQueue, r.page ≠ p) → t.lib.missQueue =
          if s.lib.missQueue.length < 4 then
            s.lib.missQueue ++ [{ page := p, strips := BitVec.ofNat 8 (2 ^ i.val), inService := false }]
          else s.lib.missQueue) ∧
        { t.exceptReports with lib := s.lib } = s.exceptReports

/-- A fill's read: a bad one is repeated once, a second ends the fill with FAULT, the page listed as faulted and its request gone; a
good one makes the strip VALID with its data and parity, and the fill goes on to the next strip it must read, taking a strip of a
waiting PROGRAM from its data with no read. With every strip VALID the fill ends: its entry leaves the miss queue, the port is idle
and takes its next operation (R171, R174, R175, R176). That the operation ticks of an idle port are 0 is the model's choice (log
entry 22). -/
def Obligations.FillReadEnds : Prop :=
  ∀ (err : BitVec 272) (p : Page) (w : Bool) (i : Fin 8) (retried : Bool) (s : State), s.settled →
    s.lib.port = .fill p w i retried →
    let x := readSlotHead s.flash p i ^^^ err
    let d : StripData := (x >>> 16).setWidth 256
    let good := crc16 (bytesBE 32 d) = x.setWidth 16
    let install (u : State) (j : Fin 8) (v : StripData) : State :=
      u.updWay p w fun c => { c with strips := c.strips.set j { valid := true, data := v, parity := parityOf v } }
    let filled := install s i d
    let ended (u : State) : State :=
      { u with lib := { u.lib with port := .idle, opTicks := 0, missQueue := u.lib.missQueue.filter fun r => r.page != p } }
    let endedTo (u : State) (it : WorkItem) (rest : List WorkItem) : State :=
      { ended u with lib := { (ended u).lib with workQueue := rest, port := s.opOf it } }
    let bothBusy := ∀ l : Fin 2, (s.line l).inFlight ≠ none
    (¬good → retried = false →
      exec (.flashReadDone err) s = .next { s with lib := { s.lib with port := .fill p w i true } }) ∧
    (¬good → retried = true →
      ∃ t : State, exec (.flashReadDone err) s = .next t ∧ t.reported .library Flag.libFillFault ∧ p ∈ t.lib.faulted ∧
        t.lib.lastFillFault = some p ∧ (∀ r ∈ t.lib.missQueue, r.page ≠ p) ∧ t.signs = s.signs ∧
        { t.exceptSigns with lib := s.lib } = s.exceptSigns) ∧
    (good → ∀ j : Fin 8, filled.nextStrip p w = some j →
      (s.snoop p j = none →
        exec (.flashReadDone err) s = .next { filled with lib := { filled.lib with port := .fill p w j false } }) ∧
      ∀ v : StripData, s.snoop p j = some v →
        (∀ k : Fin 8, (install filled j v).nextStrip p w = some k → s.snoop p k = none →
          exec (.flashReadDone err) s = .next
            { install filled j v with lib := { (install filled j v).lib with port := .fill p w k false } }) ∧
        ∀ (it : WorkItem) (rest : List WorkItem), (install filled j v).nextStrip p w = none → bothBusy →
          (∀ r ∈ s.lib.missQueue, r.page = p) → s.lib.workQueue = it :: rest →
          exec (.flashReadDone err) s = .next (endedTo (install filled j v) it rest)) ∧
    (good → filled.nextStrip p w = none → bothBusy → (∀ r ∈ s.lib.missQueue, r.page = p) →
      (s.lib.workQueue = [] → exec (.flashReadDone err) s = .next (ended filled)) ∧
      ∀ (it : WorkItem) (rest : List WorkItem), s.lib.workQueue = it :: rest →
        exec (.flashReadDone err) s = .next (endedTo filled it rest)) ∧
    (good →
      ∃ t : State, exec (.flashReadDone err) s = .next t ∧ t.signs = s.signs ∧
        (filled.nextStrip p w = none → bothBusy → ∀ r ∈ t.lib.missQueue, r.page ≠ p) ∧
        { t.exceptSigns with lib := s.lib } = s.exceptSigns)

/-- How a work item ends. A PROGRAM whose read-back is equal has its slot written, its page out of the faulted list and the last
completed sequence its own, with WRITE_DONE, and its strip, if cached, replaced and VALID; one that differs is the last failure
with VERIFY. An ERASE leaves its block reading 0xFF and its pages unfaulted, with ERASE_DONE, and its pages' cached strips
INVALID. A sign that shows a page so changed, as wanted and with no need of its own, has a PLAN need, which wakes a holding line
with cause 2. A profile save leaves block 0 with 0xA640, the image length, the image and the CRC-16 over them; one that fails
leaves a bad profile. A FLASH_TIMEOUT at the limit is the last failure, the strip or the block's cached strips are INVALID, and
no byte outside the slot or block changes (R128, R167, R171, R174, R176 to R178, R181; the cache where no line and no fill takes
a way in the same step). The model's choices: what the slot or block then holds is free values counted by the state's own
counter (log entry 20), and the layout of the image within the profile (log entry 21). -/
def Obligations.WorkItemEnds : Prop :=
  ∀ (seq : Byte) (s : State), s.calm →
    let quiet := (∀ l : Fin 2, (s.line l).inFlight ≠ none) ∧ s.lib.missQueue = []
    let changed (here : Page → Prop) (t : State) : Prop := ∀ n : Fin 16,
      let g := s.sign n
      let shows : Prop := g.cfg.role ≠ .none ∧ g.shown.fallback = false ∧ g.need = .none ∧
        ∃ q : Page, g.shown.page = some q ∧ here q
      { t.sign n with need := g.need, holdNeed := g.holdNeed, restoreNeed := g.restoreNeed } = g ∧
        (shows → (t.sign n).need = .plan (g.planClass == .hazard) s.now ∧
          ((s.line (lineOf n)).state = .holdEntry ∨ (s.line (lineOf n)).state = .held →
            (t.line (lineOf n)).wakeCause = 2 ∧ t.reported (.line (lineOf n)) Flag.lineWake)) ∧
        (¬shows → (t.sign n).need = g.need)
    let dropped (b : Fin 512) (t : State) : Prop := quiet →
      (∀ (q : Page) (w : Bool) (i : Fin 8), q.toNat / 8 = b.val → s.cachedWay q = some w → (t.strip q w i).valid = false) ∧
      (∀ (k : Fin 32) (w : Bool), ((s.lib.cache[k].way w).tag * 32 + k.val) / 8 ≠ b.val →
        t.lib.cache[k].way w = s.lib.cache[k].way w) ∧
      ∀ (k : Fin 32) (w : Bool), (t.lib.cache[k].way w).tag = (s.lib.cache[k].way w).tag ∧
        (t.lib.cache[k].way w).valid = (s.lib.cache[k].way w).valid
    let rest (t : State) : Prop := { t.exceptOutputs with flash := s.flash } = s.exceptOutputs
    let failed (k : WorkKind) (r : FailReason) (t : State) : Prop :=
      t.lib.lastFailure = some ({ seq := seq, kind := k }, r) ∧ t.reported .library Flag.libWriteFailed
    let timedOut (n : Nat) : Prop := Due.flashTimeout ∈ s.due ∧ n ≤ s.lib.opTicks
    let unknown (a n : Nat) (t : State) : Prop :=
      t.freeCount = s.freeCount + n ∧ t.due = s.due.erase .flashTimeout ∧
        (∀ b : Nat, b < a ∨ a + n ≤ b → flashRead t.flash b = flashRead s.flash b) ∧
        (∀ k < n, flashRead t.flash (a + k) = Config.freeByte (s.freeCount + k)) ∧
        { t.exceptOutputs with flash := s.flash, freeCount := s.freeCount, due := s.due } = s.exceptOutputs
    let spoiled (t : State) : Prop :=
      profileResult t.flash = .bad ∧ t.freeCount = s.freeCount + 4096 ∧
        ∀ b : Nat, 4096 ≤ b → flashRead t.flash b = flashRead s.flash b
    (∀ (p : Page) (i : Fin 8) (d : StripData) (err : BitVec 272), s.lib.port = .program seq p i d →
      let m := flashProgram s.flash (512 * p.toNat + 64 * i.val)
        (bytesBE 32 d ++ bytesBE 2 (crc16 (bytesBE 32 d)) ++ List.replicate 30 0xFF)
      let equal := readSlotHead m p i ^^^ err = d ++ crc16 (bytesBE 32 d)
      (s.due = [] → ∃ t : State, exec (.programDone err) s = .next t ∧ t.flash = m ∧ rest t ∧
        (equal → t.lib.lastDone = seq ∧ p ∉ t.lib.faulted ∧ t.reported .library Flag.libWriteDone ∧ changed (· = p) t ∧
          (quiet → t.lib.cache = (match s.cachedWay p with
            | some w => (s.updWay p w fun c =>
                { c with strips := c.strips.set i { valid := true, data := d, parity := parityOf d } }).lib.cache
            | none => s.lib.cache))) ∧
        (¬equal → failed (.program p i d) .verify t ∧ t.signs = s.signs ∧ (quiet → t.lib.cache = s.lib.cache))) ∧
      (timedOut 8 → s.flash.wf = true → ∃ t : State, exec .flashTimeout s = .next t ∧
        unknown (512 * p.toNat + 64 * i.val) 64 t ∧ failed (.program p i d) .flashTimeout t ∧ t.signs = s.signs ∧
        (quiet → t.lib.cache = (match s.cachedWay p with
          | some w => (s.updWay p w fun c => { c with strips := c.strips.set i { c.strips[i] with valid := false } }).lib.cache
          | none => s.lib.cache)))) ∧
    (∀ b : Fin 512, s.lib.port = .erase seq b →
      (s.due = [] → ∃ t : State, exec .eraseDone s = .next t ∧ rest t ∧ t.lib.lastDone = seq ∧
        t.reported .library Flag.libEraseDone ∧
        (∀ a : Nat, flashRead t.flash a = if 4096 * b.val ≤ a ∧ a < 4096 * b.val + 4096 then 0xFF else flashRead s.flash a) ∧
        (∀ p : Page, p.toNat / 8 = b.val → p ∉ t.lib.faulted) ∧ changed (fun q => q.toNat / 8 = b.val) t ∧ dropped b t) ∧
      (timedOut 40 → s.flash.wf = true → ∃ t : State, exec .flashTimeout s = .next t ∧
        unknown (4096 * b.val) 4096 t ∧ failed (.erase b) .flashTimeout t ∧ t.signs = s.signs ∧ dropped b t)) ∧
    (∀ image : Profile, s.lib.port = .save seq image → s.flash.wf = true →
      let body : List Byte := u16 0xA640 ++ u16 image.image.length ++ image.image
      let block : List Byte := body ++ bytesBE 2 (crc16 body)
      (s.due = [] → ∃ t : State, exec (.profileSaved true) s = .next t ∧ rest t ∧
        (∀ a : Nat, flashRead t.flash a =
          if a < 4096 then (block[a]?).getD 0xFF else flashRead s.flash a) ∧ profileResult t.flash = .loaded ∧
        t.lib.lastDone = seq ∧ t.reported .library Flag.libProfileSaved) ∧
      (s.due = [] → ∃ t : State, exec (.profileSaved false) s = .next t ∧ spoiled t ∧
        { t.exceptOutputs with flash := s.flash, freeCount := s.freeCount } = s.exceptOutputs ∧
        failed .saveProfile .verify t) ∧
      (timedOut 80 → ∃ t : State, exec .flashTimeout s = .next t ∧ spoiled t ∧ failed .saveProfile .flashTimeout t ∧
        { t.exceptOutputs with flash := s.flash, freeCount := s.freeCount, due := s.due } = s.exceptOutputs))

/-! ### The timebase and the resets (13 and the reset rule of every chapter) -/

/-- A tick with nothing left over: the timebase, every phase timer, gate counter, loop counter, sign timer, line count and the
operation ticks advance, and each event of the table is due where its condition then holds; the lines arbitrate, and nothing else
changes. That the events are steps of their own, each owed with its counter standing at its limit until its step, is the model's
choice (log entry 1); HOLD_ENTRY is due on three of R164's conditions, the others being checked at its step (log entry 44) (R1, R26,
R66 to R70, R88, R123, R139, R141, R150, R164, R167, R174, R186). -/
def Obligations.TickAdvances : Prop :=
  ∀ s : State, s.calm → s.due = [] →
    let sampling := s.inReserve = false ∨ 3 ≤ s.economy ∨ ∃ n : Fin 12, (s.path n).state = .watch ∨ (s.path n).state = .alert ∨
      (s.path n).state = .hold
    ∃ t : State, exec .tick s = .next t ∧
      t.tmb = { s.tmb with tickCounter := s.tmb.tickCounter + 1,
                           tickInSecond := if s.tmb.tickInSecond < 7 then s.tmb.tickInSecond + 1 else 0 } ∧
      (sampling → t.economy = 0 ∧ Due.sampling ∈ t.due) ∧ (¬sampling → t.economy = s.economy + 1 ∧ Due.sampling ∉ t.due) ∧
      (Due.second ∈ t.due ↔ 7 ≤ s.tmb.tickInSecond ∧ ∃ n : Nat, s.tmb.passClock = some n ∧ n < 0xFFFFFFFE) ∧
      (∀ i : Fin 4,
        let r := t.segment i
        r = (if (s.segment i).phase = .noPhase then s.segment i
          else { s.segment i with phaseTimer := min 65535 ((s.segment i).phaseTimer + 1) }) ∧
        (Due.confirmTimeout i ∈ t.due ↔
          r.phase = .confirm ∧ (if r.pathLimit then 32 else r.cfg.confirm) ≤ r.phaseTimer) ∧
        (Due.leadEnd i ∈ t.due ↔ r.phase = .lead ∧ r.cfg.lead ≤ r.phaseTimer)) ∧
      (∀ i : Fin 6,
        let g := s.gate i
        let g' := t.gate i
        let driven := g.state = .lowering ∨ g.state = .raising
        let late := g.cfg.motionLimit ≤ g'.motionTicks
        (driven → g' = { g with
          motionTicks := min 2400 (g.motionTicks + 1),
          stallCount := if 4 ≤ g.motionTicks then min 8 (g.stallCount + 1) else g.stallCount }) ∧
        (g.state = .pause → g' = { g with pauseCount := min 4 (g.pauseCount + 1) }) ∧
        (g.state = .opened → g.relowerArmed = true →
          g' = { g with clearCount := if g.presence then 0 else min 24 (g.clearCount + 1) }) ∧
        (¬driven → g.state ≠ .pause → ¬(g.state = .opened ∧ g.relowerArmed = true) → g' = g) ∧
        (Due.motion i ∈ t.due ↔ driven ∧ late) ∧ (Due.stall i ∈ t.due ↔ driven ∧ ¬late ∧ g'.stallCount = 8) ∧
        (Due.pause i ∈ t.due ↔ g.state = .pause ∧ g'.pauseCount = 4 ∧ g.pauseCount ≠ 4) ∧
        (Due.relower i ∈ t.due ↔ g.state = .opened ∧ g.relowerArmed = true ∧ g'.clearCount = 24)) ∧
      (∀ u : Fin 12,
        let c := s.counter u
        let c' := t.counter u
        (c.cfg.mode ≠ .loopPair → c' = c) ∧
        (c.cfg.mode = .loopPair → c.stuck = true →
          c' = { c with clearTicks := if c.codeA || c.codeB then 0 else min 8 (c.clearTicks + 1) }) ∧
        (c.cfg.mode = .loopPair → c.stuck = false →
          c' = { c with aOnTicks := if c.codeA then min 480 (c.aOnTicks + 1) else 0,
                        bOnTicks := if c.codeB then min 480 (c.bOnTicks + 1) else 0 }) ∧
        (Due.stuck u ∈ t.due ↔ c.cfg.mode = .loopPair ∧ c.stuck = false ∧
          ((c.codeA = true ∧ c'.aOnTicks = 480) ∨ (c.codeB = true ∧ c'.bOnTicks = 480))) ∧
        (Due.stuckLeft u ∈ t.due ↔ c.cfg.mode = .loopPair ∧ c.stuck = true ∧ c'.clearTicks = 8)) ∧
      (∀ n : Fin 16,
        let g := s.sign n
        let g' := t.sign n
        let older (a : Nat) : Nat := min g.lapsePoint (a + 1)
        let aged : Ages := { a0 := older g.ages.a0, a1 := older g.ages.a1, a2 := older g.ages.a2, a3 := older g.ages.a3 }
        let counted := g.service = .showing ∨ g.service = .lapsed
        let interval : Nat := if g.service = .offline then 80 else 480
        let polled := g.service = .blank ∨ g.service = .shed ∨ g.service = .offline
        (counted → g' = { g with
          ages := aged, slotTimer := g.slotTimer - 1,
          dwellCount := if 1 < g.rotation.length then g.dwellCount + 1 else g.dwellCount }) ∧
        (g.service = .held → g' = { g with ages := aged }) ∧
        (polled → g' = { g with pollCount := min interval (g.pollCount + 1) }) ∧ (g.service = .absent → g' = g) ∧
        (Due.lapsed n ∈ t.due ↔ (g.service = .showing ∨ g.service = .held) ∧ g.lapsePoint ≤ aged.oldest) ∧
        (Due.refresh n ∈ t.due ↔ counted ∧ g.slotTimer ≤ 1) ∧
        (Due.critical n ∈ t.due ↔ counted ∧ g.critical ≤ aged.oldest ∧ g.restoreNeed = none) ∧
        (Due.poll n ∈ t.due ↔ polled ∧ interval ≤ g'.pollCount ∧ g.pollNeed = none) ∧
        (Due.rotation n ∈ t.due ↔ counted ∧ 1 < g.rotation.length ∧ g.cfg.dwell ≤ g'.dwellCount)) ∧
      (∀ l : Fin 2,
        let r := s.line l
        (t.line l).cfg = r.cfg ∧ (t.line l).state = r.state ∧
        (t.line l).activeCount = (if r.state = .active then min 80 (r.activeCount + 1) else r.activeCount) ∧
        (r.inFlight ≠ none → (t.line l).inFlight = r.inFlight ∧ (t.line l).txBuffer = r.txBuffer) ∧
        (Due.holdEntry l ∈ t.due ↔ r.state = .active ∧ 79 ≤ r.activeCount ∧ s.inReserve = true ∧ r.inFlight = none) ∧
        (Due.heldWake l ∈ t.due ↔ (r.state = .holdEntry ∨ r.state = .held) ∧ ∃ n : Fin 16, n.val / 8 = l.val ∧
          (s.sign n).service = .held ∧ 2 * (s.sign n).heldSpan ≤ (t.sign n).ages.oldest)) ∧
      (s.lib.port ≠ .idle → t.lib.port = s.lib.port ∧ t.lib.opTicks = min 255 (s.lib.opTicks + 1)) ∧
      (Due.flashTimeout ∈ t.due ↔
        match s.lib.port with
        | .idle => False
        | .fill .. => False
        | .program .. => 7 ≤ s.lib.opTicks
        | .erase .. => 39 ≤ s.lib.opTicks
        | .save .. => 79 ≤ s.lib.opTicks) ∧
      t.flashers = s.flashers ∧
      { t.exceptOutputs with tmb := s.tmb, economy := s.economy, counters := s.counters, due := s.due } = s.exceptOutputs

/-- RESTART abandons the runs, votes, trace, crossings, needs, holds, fills and queued writes, restarts every flasher, and keeps
the configuration, the latched states, the gates, the segment of a closing, closed or reopening segment whole, the causes, the
counts, the notices, the clock and a write, erase or save on the flash port; where neither line is free to ask for a page at
once, the miss queue is empty, every cache line not valid and a port that was filling idle; every configured object and SYSTEM
have a report, and the reply gives how many reports wait and how many work items were discarded (R23, R38, R61, R80, R94, R103,
R115, R131, R146, R163, R170, R183, R189). That the operation ticks of the port so made idle are 0 is the model's choice (log
entry 22). -/
def Obligations.RestartKeepsAndClears : Prop :=
  ∀ (tag : Byte) (s : State), s.listening →
    ∃ t : State, exec (.restart tag) s = .next t ∧
      t.link = { s.link with
        reports := t.link.reports, resetCause := .restart,
        reply := some { kind := 0x02, tag := tag, outcome := .ok,
                        data := u8 t.link.reports.length ++ u8 s.lib.workQueue.length } } ∧
      t.reported .system Flag.started ∧ (∀ i : Fin 4, t.reported (.segment i) 0) ∧ (∀ l : Fin 2, t.reported (.line l) 0) ∧
      t.reported .library 0 ∧ t.reported .trace 0 ∧
      (∀ i : Fin 16,
        ((s.channel i).cfg.mode ≠ .off → t.reported (.channel i) 0) ∧ ((s.sign i).cfg.role ≠ .none → t.reported (.sign i) 0) ∧
        t.channel i =
          { s.channel i with
            riseRun := 0, fallRun := 0, recoveryRun := 0, compared := none,
            state := (match (s.channel i).cfg.mode with | .off => .off | .fixed => .quiet | .reference => .quiet | .serve => .serve) }) ∧
      (∀ n : Fin 12,
        ((s.path n).cfg.members ≠ 0 → t.reported (.path n) 0) ∧ ((s.counter n).cfg.mode ≠ .off → t.reported (.counter n) 0) ∧
        (t.path n).cfg = (s.path n).cfg ∧ (∀ c : Fin 16, (t.path n).lastAct[c] = none) ∧ (t.path n).lastVote = 0 ∧
        (t.path n).state = (if (s.path n).state = .watch then .quiet else (s.path n).state) ∧
        t.counter n =
          (if (s.counter n).cfg.mode = .loopPair then
            { s.counter n with crossing := .idle, aOnTicks := 0, bOnTicks := 0, clearTicks := 0 } else s.counter n)) ∧
      (∀ i : Fin 6, (s.gate i).cfg.segment ≠ none → t.reported (.gate i) 0) ∧
      (∀ i : Fin 24, s.notices.slots[i] ≠ none → t.reported (.notice i) 0) ∧
      (∀ i : Fin 4, (t.segment i).causes = (s.segment i).causes ∧ (t.segment i).occupancy = (s.segment i).occupancy ∧
        (t.segment i).cfg = (s.segment i).cfg) ∧
      t.trace = { s.trace with entries := [], mark := none, truncated := false, nearFullPosted := false } ∧ t.economy = 0 ∧
      t.due = [] ∧ t.configImage = s.configImage ∧
      (∀ i : Fin 4, (s.segment i).posture = .closing ∨ (s.segment i).posture = .closed ∨ (s.segment i).posture = .reopening →
        s.confirmSettled i → t.segment i = s.segment i) ∧
      ((∀ i : Fin 4, s.confirmSettled i) → t.gates = s.gates) ∧
      (∀ i : Fin 8, (∀ j : Fin 4, s.confirmSettled j) →
        (t.flasher i).gateReq = (s.flasher i).gateReq ∧ (t.flasher i).pathReq = (s.flasher i).pathReq ∧
        (t.flasher i).running = (s.flasher i).effective s.inReserve ∧
        ((t.flasher i).running ≠ .none → (t.flasher i).phaseOn = true ∧
          (t.flasher i).countdown = (s.patterns.of (t.flasher i).running).on) ∧
        ((t.flasher i).running = .none → (t.flasher i).phaseOn = false ∧ (t.flasher i).countdown = 0)) ∧
      ((∀ l : Fin 2, (s.line l).inFlight ≠ none) → t.lib.missQueue = [] ∧
        (∀ (k : Fin 32) (w : Bool), (t.lib.cache[k].way w).valid = false ∧ t.lib.cache[k].lru1 = false) ∧
        ∀ (p : Page) (w : Bool) (i : Fin 8) (r : Bool), s.lib.port = .fill p w i r → t.lib.port = .idle ∧ t.lib.opTicks = 0) ∧
      (∀ n : Fin 16,
        (t.sign n).cfg = (s.sign n).cfg ∧ (t.sign n).need = .none ∧ (t.sign n).index = 0 ∧ (t.sign n).dwellCount = 0 ∧
        (t.sign n).band = (s.sign n).band ∧ (t.sign n).shown.page = (s.sign n).shown.page ∧ (t.sign n).holdNeed = none ∧
        ((s.sign n).cfg.sheddable = false →
          ((s.sign n).service = .showing ∨ (s.sign n).service = .lapsed ∨ (s.sign n).service = .held →
            ((t.sign n).service = .showing ∨ (t.sign n).service = .lapsed) ∧ (t.sign n).restoreNeed = some s.now) ∧
          ((s.sign n).service = .blank ∨ (s.sign n).service = .offline →
            (t.sign n).service = (s.sign n).service ∧ (t.sign n).pollCount = 0 ∧ (t.sign n).pollNeed = none))) ∧
      (∀ l : Fin 2, (t.line l).cfg = (s.line l).cfg ∧ (t.line l).state = .active ∧ (t.line l).activeCount = 0 ∧
        (t.line l).wakeCause = (s.line l).wakeCause ∧
        ((s.line l).inFlight ≠ none → (t.line l).inFlight = (s.line l).inFlight)) ∧
      t.lib.workQueue = [] ∧ t.lib.faulted = [] ∧ t.lib.cursor = none ∧ t.lib.nextSeq = s.lib.nextSeq ∧
      (∀ it : WorkItem, s.lib.workQueue.getLast? = some it →
        t.lib.lastFailure = some (it, .discarded) ∧ t.reported .library Flag.libWriteFailed) ∧
      (∀ (seq : Byte) (p : Page) (i : Fin 8) (d : StripData) (b : Fin 512) (image : Profile),
        s.lib.port = .program seq p i d ∨ s.lib.port = .erase seq b ∨ s.lib.port = .save seq image →
          t.lib.port = s.lib.port ∧ t.lib.opTicks = s.lib.opTicks) ∧
      { t.exceptOutputs with
        link := s.link, channels := s.channels, economy := s.economy, paths := s.paths, trace := s.trace,
        counters := s.counters, due := s.due } = { s.exceptOutputs with link := s.link }

/-- A full reset, with no write, erase or save on the flash port, from any state: the link with the one report STARTED, the
timebase at 0 with the clock UNSET, the flash kept, the configuration of the profile that block 0 holds by its header, length
and CRC-16, or the defaults and the preset, empty notices, trace, queues and library, counters at their inputs' code, MAINS
request clear; a segment is CAUTION where all its gates are found OPEN and holds RESTART otherwise, CLOSED where all are found
CLOSED; a gate takes its start-up state from its limits, and goes down from it only where its segment is past CONFIRM and LEAD
at once; a sign with a role that cannot be shed is LAPSED at its lapse point (R22, R36, R37, R60, R79, R93, R102, R114, R130,
R145, R162, R181, R183, R190, R192). The model's choices: the waiting commands stay (log entry 19), what was last sent is
emptied (log entry 6), a reply that waits is dropped (log entry 50), the strips of invalid cache lines are zeros and the operation
ticks of the idle port 0 (log entry 22), an unconfigured gate stands at position 0, unreferenced (log entry 12), and how a good
image is read (log entry 21). -/
def Obligations.FullResetStartsOver : Prop :=
  ∀ (cause : FullResetCause) (pins : Pins) (s : State),
    (s.lib.port = .idle ∨ ∃ (p : Page) (w : Bool) (i : Fin 8) (r : Bool), s.lib.port = .fill p w i r) →
    let byte (a : Nat) : Byte := flashRead s.flash a
    let length := 256 * (byte 2).toNat + (byte 3).toNat
    let erased := byte 0 = 0xFF ∧ byte 1 = 0xFF ∧ byte 2 = 0xFF ∧ byte 3 = 0xFF
    let good := byte 0 = 0xA6 ∧ byte 1 = 0x40 ∧ length + 6 ≤ 4096 ∧
      crc16 ((List.range (4 + length)).map byte) = byte (4 + length) ++ byte (5 + length)
    ∃ t : State, exec (.fullReset cause pins) s = .next t ∧
      t.link =
        { rxFrames := [], rxPartial := [], reply := none, reports := [{ obj := .system, flags := Flag.started }], lastSent := [],
          resetCause := (match cause with | .powerOn => .powerOn | .resetPin => .resetPin),
          profileResult := if erased then .absent else if good then .loaded else .bad,
          preset := pins.preset } ∧
      t.tmb = { tickCounter := 0, tickInSecond := 0, passClock := none } ∧ t.due = [] ∧ t.pending = s.pending ∧
      t.flash = s.flash ∧ t.reserveRequest = false ∧ t.supplyLow = pins.supplyLow ∧ t.economy = 0 ∧
      (good → t.configImage = readImage ((List.range length).map fun k => byte (4 + k))) ∧
      (∀ (p : Profile) (m : Flash), p.fits → m.wf = true → s.flash = writeProfile m p → good ∧ t.configImage = p) ∧
      (¬good → t.configImage = Profile.defaults pins.preset) ∧
      t.notices.slots = Vector.replicate 24 none ∧ t.notices.order = [] ∧ t.notices.lastNumber = 0 ∧ t.notices.spent = false ∧
      t.trace.entries = [] ∧ t.trace.mark = none ∧ t.trace.truncated = false ∧ t.trace.nearFullPosted = false ∧
      t.lib = State.reset.lib ∧
      (∀ i : Fin 16, t.channel i =
        { cfg := (t.channel i).cfg, lastSample := 0, compared := none, riseRun := 0, fallRun := 0, recoveryRun := 0,
          state := (match (t.channel i).cfg.mode with | .off => .off | .fixed => .quiet | .reference => .quiet | .serve => .serve) }) ∧
      (∀ n : Fin 12,
        (t.path n).state = (if (t.path n).cfg.members ≠ 0 ∧ (t.path n).cfg.masked = true then .masked else .quiet) ∧
        (∀ c : Fin 16, (t.path n).lastAct[c] = none) ∧
        t.counter n =
          { cfg := (t.counter n).cfg, codeA := pins.inputA.getLsbD n.val, codeB := pins.inputB.getLsbD n.val, count := 0,
            illegal := 0, crossing := .idle, stuck := false, aOnTicks := 0, bOnTicks := 0, clearTicks := 0 }) ∧
      (∀ g : Fin 6, (t.gate g).openLimit = pins.openLimits.getLsbD g.val ∧
        (t.gate g).closedLimit = pins.closedLimits.getLsbD g.val ∧ (t.gate g).presence = pins.presence.getLsbD g.val ∧
        ((t.gate g).cfg.segment = none → (t.gate g).state = .unknown ∧ (t.gate g).position = 0 ∧ (t.gate g).referenced = false) ∧
        (∀ k : Fin 4, (t.gate g).cfg.segment = some k → (t.segment k).phase ≠ .lower →
          let up := pins.openLimits.getLsbD g.val
          let down := pins.closedLimits.getLsbD g.val
          (t.gate g).state = (if up then (if down then .fault else .opened) else if down then .closed else .unknown) ∧
            (t.gate g).faultCause = (if up && down then .limitConflict else .none) ∧
            (t.gate g).position = (if down && !up then ((t.gate g).cfg.travel : Int) else 0) ∧
            (t.gate g).referenced = (up != down) ∧ (t.gate g).driveUp = false ∧ (t.gate g).driveDown = false ∧
            (t.gate g).attempts = 0 ∧ (t.gate g).relowerArmed = false ∧ (t.gate g).manualLowering = false)) ∧
      (∀ i : Fin 8, (t.flasher i).running = (t.flasher i).effective pins.supplyLow) ∧
      (∀ i : Fin 4,
        let found (up down : Bool) : Prop := ∀ g : Fin 6, (t.gate g).cfg.segment = some i →
          pins.openLimits.getLsbD g.val = up ∧ pins.closedLimits.getLsbD g.val = down
        (t.segment i).occupancy = 0 ∧ (t.segment i).uncertain = true ∧ (t.segment i).drift = false ∧
        (found true false → (t.segment i).causes = [] ∧ (t.segment i).posture = .caution) ∧
        (¬found true false → (t.segment i).causes = [.restart] ∧
          (t.segment i).posture = if found false true then .closed else .closing)) ∧
      (∀ n : Fin 16,
        ((t.sign n).cfg.role = .none → (t.sign n).service = .absent) ∧
        ((t.sign n).cfg.role ≠ .none → (t.sign n).cfg.sheddable = false →
          (t.sign n).service = .lapsed ∧ (t.sign n).restoreNeed = none ∧ (t.sign n).ages = Ages.all (t.sign n).lapsePoint) ∧
        (t.sign n).shown = { page := none, cls := .blank, confirmed := false, fallback := false } ∧
        (t.sign n).need = .none) ∧
      ∀ l : Fin 2, (t.line l).state = .active ∧ (t.line l).activeCount = 0 ∧ (t.line l).wakeCause = 0 ∧
        (t.line l).inFlight = none

/-! ### Invariants -/

/-- Every step goes on, and keeps the invariants: no arbitration owed between steps, one report entry for each object, every queue
within its bound, and the flash in its canonical form (R53, R141, R173, R176, R177, R190). -/
def Obligations.InvKeptByStep : Prop := ∀ s : State, s.Inv → ∃ t : State, step s = .next t ∧ t.Inv

/-- The invariants hold in the reset state, and a power-on with every input inactive leaves exactly it: that this is the reset
state, with erased flash and no profile, is the model's choice (log entry 22). -/
def Obligations.InvAtReset : Prop :=
  State.reset.Inv ∧ State.reset.listening ∧
    exec (.fullReset .powerOn
      { preset := 0, supplyLow := false, openLimits := 0, closedLimits := 0, presence := 0, inputA := 0, inputB := 0 })
      State.reset = .next State.reset

end
end

