-- ==== Sys2Proof/Laws/State.lean ====
section
/-! SUPPORT. The small lemmas of the state: for every named update what each field and each object reads as after it, and what an
object reads as after its own update. All are simp lemmas, so that a proof unfolds no record update. -/

namespace Sys2Proof.Machine

/-! ### setSegment -/

@[simp] theorem State.setSegment_pending (s : State) (i : Fin 4) (r : Segment) : (s.setSegment i r).pending = s.pending := rfl
@[simp] theorem State.setSegment_due (s : State) (i : Fin 4) (r : Segment) : (s.setSegment i r).due = s.due := rfl
@[simp] theorem State.setSegment_freeCount (s : State) (i : Fin 4) (r : Segment) : (s.setSegment i r).freeCount = s.freeCount := rfl
@[simp] theorem State.setSegment_tmb (s : State) (i : Fin 4) (r : Segment) : (s.setSegment i r).tmb = s.tmb := rfl
@[simp] theorem State.setSegment_link (s : State) (i : Fin 4) (r : Segment) : (s.setSegment i r).link = s.link := rfl
@[simp] theorem State.setSegment_reserveRequest (s : State) (i : Fin 4) (r : Segment) : (s.setSegment i r).reserveRequest = s.reserveRequest := rfl
@[simp] theorem State.setSegment_supplyLow (s : State) (i : Fin 4) (r : Segment) : (s.setSegment i r).supplyLow = s.supplyLow := rfl
@[simp] theorem State.setSegment_analog (s : State) (i : Fin 4) (r : Segment) : (s.setSegment i r).analog = s.analog := rfl
@[simp] theorem State.setSegment_channels (s : State) (i : Fin 4) (r : Segment) : (s.setSegment i r).channels = s.channels := rfl
@[simp] theorem State.setSegment_economy (s : State) (i : Fin 4) (r : Segment) : (s.setSegment i r).economy = s.economy := rfl
@[simp] theorem State.setSegment_paths (s : State) (i : Fin 4) (r : Segment) : (s.setSegment i r).paths = s.paths := rfl
@[simp] theorem State.setSegment_trace (s : State) (i : Fin 4) (r : Segment) : (s.setSegment i r).trace = s.trace := rfl
@[simp] theorem State.setSegment_gates (s : State) (i : Fin 4) (r : Segment) : (s.setSegment i r).gates = s.gates := rfl
@[simp] theorem State.setSegment_counters (s : State) (i : Fin 4) (r : Segment) : (s.setSegment i r).counters = s.counters := rfl
@[simp] theorem State.setSegment_patterns (s : State) (i : Fin 4) (r : Segment) : (s.setSegment i r).patterns = s.patterns := rfl
@[simp] theorem State.setSegment_flashers (s : State) (i : Fin 4) (r : Segment) : (s.setSegment i r).flashers = s.flashers := rfl
@[simp] theorem State.setSegment_notices (s : State) (i : Fin 4) (r : Segment) : (s.setSegment i r).notices = s.notices := rfl
@[simp] theorem State.setSegment_signs (s : State) (i : Fin 4) (r : Segment) : (s.setSegment i r).signs = s.signs := rfl
@[simp] theorem State.setSegment_lines (s : State) (i : Fin 4) (r : Segment) : (s.setSegment i r).lines = s.lines := rfl
@[simp] theorem State.setSegment_lib (s : State) (i : Fin 4) (r : Segment) : (s.setSegment i r).lib = s.lib := rfl
@[simp] theorem State.setSegment_flash (s : State) (i : Fin 4) (r : Segment) : (s.setSegment i r).flash = s.flash := rfl
@[simp] theorem State.setSegment_channel (s : State) (i : Fin 4) (r : Segment) (j : Fin 16) : (s.setSegment i r).channel j = s.channel j := rfl
@[simp] theorem State.setSegment_path (s : State) (i : Fin 4) (r : Segment) (j : Fin 12) : (s.setSegment i r).path j = s.path j := rfl
@[simp] theorem State.setSegment_gate (s : State) (i : Fin 4) (r : Segment) (j : Fin 6) : (s.setSegment i r).gate j = s.gate j := rfl
@[simp] theorem State.setSegment_counter (s : State) (i : Fin 4) (r : Segment) (j : Fin 12) : (s.setSegment i r).counter j = s.counter j := rfl
@[simp] theorem State.setSegment_flasher (s : State) (i : Fin 4) (r : Segment) (j : Fin 8) : (s.setSegment i r).flasher j = s.flasher j := rfl
@[simp] theorem State.setSegment_sign (s : State) (i : Fin 4) (r : Segment) (j : Fin 16) : (s.setSegment i r).sign j = s.sign j := rfl
@[simp] theorem State.setSegment_line (s : State) (i : Fin 4) (r : Segment) (j : Fin 2) : (s.setSegment i r).line j = s.line j := rfl
@[simp] theorem State.setSegment_segment_same (s : State) (i : Fin 4) (r : Segment) : (s.setSegment i r).segment i = r := by
  simp [State.setSegment, State.segment]
theorem State.setSegment_segment (s : State) (i : Fin 4) (r : Segment) (j : Fin 4) :
    (s.setSegment i r).segment j = if i = j then r else s.segment j := by
  simp [State.setSegment, State.segment, Vector.getElem_set, Fin.ext_iff]
theorem State.setSegment_segment_other (s : State) (i : Fin 4) (r : Segment) (j : Fin 4) (h : j ≠ i) :
    (s.setSegment i r).segment j = s.segment j := by
  rw [State.setSegment_segment, if_neg (Ne.symm h)]
@[simp] theorem State.setSegment_self (s : State) (i : Fin 4) : s.setSegment i (s.segment i) = s := by
  simp [State.setSegment, State.segment]
@[simp] theorem State.updSegment_eq (s : State) (i : Fin 4) (g : Segment → Segment) :
    s.updSegment i g = s.setSegment i (g (s.segment i)) := rfl

@[simp] theorem State.setSegment_now (s : State) (i : Fin 4) (r : Segment) : (s.setSegment i r).now = s.now := rfl
@[simp] theorem State.setSegment_inReserve (s : State) (i : Fin 4) (r : Segment) : (s.setSegment i r).inReserve = s.inReserve := rfl

/-! ### setChannel -/

@[simp] theorem State.setChannel_pending (s : State) (i : Fin 16) (r : Channel) : (s.setChannel i r).pending = s.pending := rfl
@[simp] theorem State.setChannel_due (s : State) (i : Fin 16) (r : Channel) : (s.setChannel i r).due = s.due := rfl
@[simp] theorem State.setChannel_freeCount (s : State) (i : Fin 16) (r : Channel) : (s.setChannel i r).freeCount = s.freeCount := rfl
@[simp] theorem State.setChannel_tmb (s : State) (i : Fin 16) (r : Channel) : (s.setChannel i r).tmb = s.tmb := rfl
@[simp] theorem State.setChannel_link (s : State) (i : Fin 16) (r : Channel) : (s.setChannel i r).link = s.link := rfl
@[simp] theorem State.setChannel_segments (s : State) (i : Fin 16) (r : Channel) : (s.setChannel i r).segments = s.segments := rfl
@[simp] theorem State.setChannel_reserveRequest (s : State) (i : Fin 16) (r : Channel) : (s.setChannel i r).reserveRequest = s.reserveRequest := rfl
@[simp] theorem State.setChannel_supplyLow (s : State) (i : Fin 16) (r : Channel) : (s.setChannel i r).supplyLow = s.supplyLow := rfl
@[simp] theorem State.setChannel_analog (s : State) (i : Fin 16) (r : Channel) : (s.setChannel i r).analog = s.analog := rfl
@[simp] theorem State.setChannel_economy (s : State) (i : Fin 16) (r : Channel) : (s.setChannel i r).economy = s.economy := rfl
@[simp] theorem State.setChannel_paths (s : State) (i : Fin 16) (r : Channel) : (s.setChannel i r).paths = s.paths := rfl
@[simp] theorem State.setChannel_trace (s : State) (i : Fin 16) (r : Channel) : (s.setChannel i r).trace = s.trace := rfl
@[simp] theorem State.setChannel_gates (s : State) (i : Fin 16) (r : Channel) : (s.setChannel i r).gates = s.gates := rfl
@[simp] theorem State.setChannel_counters (s : State) (i : Fin 16) (r : Channel) : (s.setChannel i r).counters = s.counters := rfl
@[simp] theorem State.setChannel_patterns (s : State) (i : Fin 16) (r : Channel) : (s.setChannel i r).patterns = s.patterns := rfl
@[simp] theorem State.setChannel_flashers (s : State) (i : Fin 16) (r : Channel) : (s.setChannel i r).flashers = s.flashers := rfl
@[simp] theorem State.setChannel_notices (s : State) (i : Fin 16) (r : Channel) : (s.setChannel i r).notices = s.notices := rfl
@[simp] theorem State.setChannel_signs (s : State) (i : Fin 16) (r : Channel) : (s.setChannel i r).signs = s.signs := rfl
@[simp] theorem State.setChannel_lines (s : State) (i : Fin 16) (r : Channel) : (s.setChannel i r).lines = s.lines := rfl
@[simp] theorem State.setChannel_lib (s : State) (i : Fin 16) (r : Channel) : (s.setChannel i r).lib = s.lib := rfl
@[simp] theorem State.setChannel_flash (s : State) (i : Fin 16) (r : Channel) : (s.setChannel i r).flash = s.flash := rfl
@[simp] theorem State.setChannel_segment (s : State) (i : Fin 16) (r : Channel) (j : Fin 4) : (s.setChannel i r).segment j = s.segment j := rfl
@[simp] theorem State.setChannel_path (s : State) (i : Fin 16) (r : Channel) (j : Fin 12) : (s.setChannel i r).path j = s.path j := rfl
@[simp] theorem State.setChannel_gate (s : State) (i : Fin 16) (r : Channel) (j : Fin 6) : (s.setChannel i r).gate j = s.gate j := rfl
@[simp] theorem State.setChannel_counter (s : State) (i : Fin 16) (r : Channel) (j : Fin 12) : (s.setChannel i r).counter j = s.counter j := rfl
@[simp] theorem State.setChannel_flasher (s : State) (i : Fin 16) (r : Channel) (j : Fin 8) : (s.setChannel i r).flasher j = s.flasher j := rfl
@[simp] theorem State.setChannel_sign (s : State) (i : Fin 16) (r : Channel) (j : Fin 16) : (s.setChannel i r).sign j = s.sign j := rfl
@[simp] theorem State.setChannel_line (s : State) (i : Fin 16) (r : Channel) (j : Fin 2) : (s.setChannel i r).line j = s.line j := rfl
@[simp] theorem State.setChannel_channel_same (s : State) (i : Fin 16) (r : Channel) : (s.setChannel i r).channel i = r := by
  simp [State.setChannel, State.channel]
theorem State.setChannel_channel (s : State) (i : Fin 16) (r : Channel) (j : Fin 16) :
    (s.setChannel i r).channel j = if i = j then r else s.channel j := by
  simp [State.setChannel, State.channel, Vector.getElem_set, Fin.ext_iff]
theorem State.setChannel_channel_other (s : State) (i : Fin 16) (r : Channel) (j : Fin 16) (h : j ≠ i) :
    (s.setChannel i r).channel j = s.channel j := by
  rw [State.setChannel_channel, if_neg (Ne.symm h)]
@[simp] theorem State.setChannel_self (s : State) (i : Fin 16) : s.setChannel i (s.channel i) = s := by
  simp [State.setChannel, State.channel]
@[simp] theorem State.updChannel_eq (s : State) (i : Fin 16) (g : Channel → Channel) :
    s.updChannel i g = s.setChannel i (g (s.channel i)) := rfl

@[simp] theorem State.setChannel_now (s : State) (i : Fin 16) (r : Channel) : (s.setChannel i r).now = s.now := rfl
@[simp] theorem State.setChannel_inReserve (s : State) (i : Fin 16) (r : Channel) : (s.setChannel i r).inReserve = s.inReserve := rfl

/-! ### setPath -/

@[simp] theorem State.setPath_pending (s : State) (i : Fin 12) (r : PathRec) : (s.setPath i r).pending = s.pending := rfl
@[simp] theorem State.setPath_due (s : State) (i : Fin 12) (r : PathRec) : (s.setPath i r).due = s.due := rfl
@[simp] theorem State.setPath_freeCount (s : State) (i : Fin 12) (r : PathRec) : (s.setPath i r).freeCount = s.freeCount := rfl
@[simp] theorem State.setPath_tmb (s : State) (i : Fin 12) (r : PathRec) : (s.setPath i r).tmb = s.tmb := rfl
@[simp] theorem State.setPath_link (s : State) (i : Fin 12) (r : PathRec) : (s.setPath i r).link = s.link := rfl
@[simp] theorem State.setPath_segments (s : State) (i : Fin 12) (r : PathRec) : (s.setPath i r).segments = s.segments := rfl
@[simp] theorem State.setPath_reserveRequest (s : State) (i : Fin 12) (r : PathRec) : (s.setPath i r).reserveRequest = s.reserveRequest := rfl
@[simp] theorem State.setPath_supplyLow (s : State) (i : Fin 12) (r : PathRec) : (s.setPath i r).supplyLow = s.supplyLow := rfl
@[simp] theorem State.setPath_analog (s : State) (i : Fin 12) (r : PathRec) : (s.setPath i r).analog = s.analog := rfl
@[simp] theorem State.setPath_channels (s : State) (i : Fin 12) (r : PathRec) : (s.setPath i r).channels = s.channels := rfl
@[simp] theorem State.setPath_economy (s : State) (i : Fin 12) (r : PathRec) : (s.setPath i r).economy = s.economy := rfl
@[simp] theorem State.setPath_trace (s : State) (i : Fin 12) (r : PathRec) : (s.setPath i r).trace = s.trace := rfl
@[simp] theorem State.setPath_gates (s : State) (i : Fin 12) (r : PathRec) : (s.setPath i r).gates = s.gates := rfl
@[simp] theorem State.setPath_counters (s : State) (i : Fin 12) (r : PathRec) : (s.setPath i r).counters = s.counters := rfl
@[simp] theorem State.setPath_patterns (s : State) (i : Fin 12) (r : PathRec) : (s.setPath i r).patterns = s.patterns := rfl
@[simp] theorem State.setPath_flashers (s : State) (i : Fin 12) (r : PathRec) : (s.setPath i r).flashers = s.flashers := rfl
@[simp] theorem State.setPath_notices (s : State) (i : Fin 12) (r : PathRec) : (s.setPath i r).notices = s.notices := rfl
@[simp] theorem State.setPath_signs (s : State) (i : Fin 12) (r : PathRec) : (s.setPath i r).signs = s.signs := rfl
@[simp] theorem State.setPath_lines (s : State) (i : Fin 12) (r : PathRec) : (s.setPath i r).lines = s.lines := rfl
@[simp] theorem State.setPath_lib (s : State) (i : Fin 12) (r : PathRec) : (s.setPath i r).lib = s.lib := rfl
@[simp] theorem State.setPath_flash (s : State) (i : Fin 12) (r : PathRec) : (s.setPath i r).flash = s.flash := rfl
@[simp] theorem State.setPath_segment (s : State) (i : Fin 12) (r : PathRec) (j : Fin 4) : (s.setPath i r).segment j = s.segment j := rfl
@[simp] theorem State.setPath_channel (s : State) (i : Fin 12) (r : PathRec) (j : Fin 16) : (s.setPath i r).channel j = s.channel j := rfl
@[simp] theorem State.setPath_gate (s : State) (i : Fin 12) (r : PathRec) (j : Fin 6) : (s.setPath i r).gate j = s.gate j := rfl
@[simp] theorem State.setPath_counter (s : State) (i : Fin 12) (r : PathRec) (j : Fin 12) : (s.setPath i r).counter j = s.counter j := rfl
@[simp] theorem State.setPath_flasher (s : State) (i : Fin 12) (r : PathRec) (j : Fin 8) : (s.setPath i r).flasher j = s.flasher j := rfl
@[simp] theorem State.setPath_sign (s : State) (i : Fin 12) (r : PathRec) (j : Fin 16) : (s.setPath i r).sign j = s.sign j := rfl
@[simp] theorem State.setPath_line (s : State) (i : Fin 12) (r : PathRec) (j : Fin 2) : (s.setPath i r).line j = s.line j := rfl
@[simp] theorem State.setPath_path_same (s : State) (i : Fin 12) (r : PathRec) : (s.setPath i r).path i = r := by
  simp [State.setPath, State.path]
theorem State.setPath_path (s : State) (i : Fin 12) (r : PathRec) (j : Fin 12) :
    (s.setPath i r).path j = if i = j then r else s.path j := by
  simp [State.setPath, State.path, Vector.getElem_set, Fin.ext_iff]
theorem State.setPath_path_other (s : State) (i : Fin 12) (r : PathRec) (j : Fin 12) (h : j ≠ i) :
    (s.setPath i r).path j = s.path j := by
  rw [State.setPath_path, if_neg (Ne.symm h)]
@[simp] theorem State.setPath_self (s : State) (i : Fin 12) : s.setPath i (s.path i) = s := by
  simp [State.setPath, State.path]
@[simp] theorem State.updPath_eq (s : State) (i : Fin 12) (g : PathRec → PathRec) :
    s.updPath i g = s.setPath i (g (s.path i)) := rfl

@[simp] theorem State.setPath_now (s : State) (i : Fin 12) (r : PathRec) : (s.setPath i r).now = s.now := rfl
@[simp] theorem State.setPath_inReserve (s : State) (i : Fin 12) (r : PathRec) : (s.setPath i r).inReserve = s.inReserve := rfl

/-! ### setGate -/

@[simp] theorem State.setGate_pending (s : State) (i : Fin 6) (r : Gate) : (s.setGate i r).pending = s.pending := rfl
@[simp] theorem State.setGate_due (s : State) (i : Fin 6) (r : Gate) : (s.setGate i r).due = s.due := rfl
@[simp] theorem State.setGate_freeCount (s : State) (i : Fin 6) (r : Gate) : (s.setGate i r).freeCount = s.freeCount := rfl
@[simp] theorem State.setGate_tmb (s : State) (i : Fin 6) (r : Gate) : (s.setGate i r).tmb = s.tmb := rfl
@[simp] theorem State.setGate_link (s : State) (i : Fin 6) (r : Gate) : (s.setGate i r).link = s.link := rfl
@[simp] theorem State.setGate_segments (s : State) (i : Fin 6) (r : Gate) : (s.setGate i r).segments = s.segments := rfl
@[simp] theorem State.setGate_reserveRequest (s : State) (i : Fin 6) (r : Gate) : (s.setGate i r).reserveRequest = s.reserveRequest := rfl
@[simp] theorem State.setGate_supplyLow (s : State) (i : Fin 6) (r : Gate) : (s.setGate i r).supplyLow = s.supplyLow := rfl
@[simp] theorem State.setGate_analog (s : State) (i : Fin 6) (r : Gate) : (s.setGate i r).analog = s.analog := rfl
@[simp] theorem State.setGate_channels (s : State) (i : Fin 6) (r : Gate) : (s.setGate i r).channels = s.channels := rfl
@[simp] theorem State.setGate_economy (s : State) (i : Fin 6) (r : Gate) : (s.setGate i r).economy = s.economy := rfl
@[simp] theorem State.setGate_paths (s : State) (i : Fin 6) (r : Gate) : (s.setGate i r).paths = s.paths := rfl
@[simp] theorem State.setGate_trace (s : State) (i : Fin 6) (r : Gate) : (s.setGate i r).trace = s.trace := rfl
@[simp] theorem State.setGate_counters (s : State) (i : Fin 6) (r : Gate) : (s.setGate i r).counters = s.counters := rfl
@[simp] theorem State.setGate_patterns (s : State) (i : Fin 6) (r : Gate) : (s.setGate i r).patterns = s.patterns := rfl
@[simp] theorem State.setGate_flashers (s : State) (i : Fin 6) (r : Gate) : (s.setGate i r).flashers = s.flashers := rfl
@[simp] theorem State.setGate_notices (s : State) (i : Fin 6) (r : Gate) : (s.setGate i r).notices = s.notices := rfl
@[simp] theorem State.setGate_signs (s : State) (i : Fin 6) (r : Gate) : (s.setGate i r).signs = s.signs := rfl
@[simp] theorem State.setGate_lines (s : State) (i : Fin 6) (r : Gate) : (s.setGate i r).lines = s.lines := rfl
@[simp] theorem State.setGate_lib (s : State) (i : Fin 6) (r : Gate) : (s.setGate i r).lib = s.lib := rfl
@[simp] theorem State.setGate_flash (s : State) (i : Fin 6) (r : Gate) : (s.setGate i r).flash = s.flash := rfl
@[simp] theorem State.setGate_segment (s : State) (i : Fin 6) (r : Gate) (j : Fin 4) : (s.setGate i r).segment j = s.segment j := rfl
@[simp] theorem State.setGate_channel (s : State) (i : Fin 6) (r : Gate) (j : Fin 16) : (s.setGate i r).channel j = s.channel j := rfl
@[simp] theorem State.setGate_path (s : State) (i : Fin 6) (r : Gate) (j : Fin 12) : (s.setGate i r).path j = s.path j := rfl
@[simp] theorem State.setGate_counter (s : State) (i : Fin 6) (r : Gate) (j : Fin 12) : (s.setGate i r).counter j = s.counter j := rfl
@[simp] theorem State.setGate_flasher (s : State) (i : Fin 6) (r : Gate) (j : Fin 8) : (s.setGate i r).flasher j = s.flasher j := rfl
@[simp] theorem State.setGate_sign (s : State) (i : Fin 6) (r : Gate) (j : Fin 16) : (s.setGate i r).sign j = s.sign j := rfl
@[simp] theorem State.setGate_line (s : State) (i : Fin 6) (r : Gate) (j : Fin 2) : (s.setGate i r).line j = s.line j := rfl
@[simp] theorem State.setGate_gate_same (s : State) (i : Fin 6) (r : Gate) : (s.setGate i r).gate i = r := by
  simp [State.setGate, State.gate]
theorem State.setGate_gate (s : State) (i : Fin 6) (r : Gate) (j : Fin 6) :
    (s.setGate i r).gate j = if i = j then r else s.gate j := by
  simp [State.setGate, State.gate, Vector.getElem_set, Fin.ext_iff]
theorem State.setGate_gate_other (s : State) (i : Fin 6) (r : Gate) (j : Fin 6) (h : j ≠ i) :
    (s.setGate i r).gate j = s.gate j := by
  rw [State.setGate_gate, if_neg (Ne.symm h)]
@[simp] theorem State.setGate_self (s : State) (i : Fin 6) : s.setGate i (s.gate i) = s := by
  simp [State.setGate, State.gate]
@[simp] theorem State.updGate_eq (s : State) (i : Fin 6) (g : Gate → Gate) :
    s.updGate i g = s.setGate i (g (s.gate i)) := rfl

@[simp] theorem State.setGate_now (s : State) (i : Fin 6) (r : Gate) : (s.setGate i r).now = s.now := rfl
@[simp] theorem State.setGate_inReserve (s : State) (i : Fin 6) (r : Gate) : (s.setGate i r).inReserve = s.inReserve := rfl

/-! ### setCounter -/

@[simp] theorem State.setCounter_pending (s : State) (i : Fin 12) (r : Counter) : (s.setCounter i r).pending = s.pending := rfl
@[simp] theorem State.setCounter_due (s : State) (i : Fin 12) (r : Counter) : (s.setCounter i r).due = s.due := rfl
@[simp] theorem State.setCounter_freeCount (s : State) (i : Fin 12) (r : Counter) : (s.setCounter i r).freeCount = s.freeCount := rfl
@[simp] theorem State.setCounter_tmb (s : State) (i : Fin 12) (r : Counter) : (s.setCounter i r).tmb = s.tmb := rfl
@[simp] theorem State.setCounter_link (s : State) (i : Fin 12) (r : Counter) : (s.setCounter i r).link = s.link := rfl
@[simp] theorem State.setCounter_segments (s : State) (i : Fin 12) (r : Counter) : (s.setCounter i r).segments = s.segments := rfl
@[simp] theorem State.setCounter_reserveRequest (s : State) (i : Fin 12) (r : Counter) : (s.setCounter i r).reserveRequest = s.reserveRequest := rfl
@[simp] theorem State.setCounter_supplyLow (s : State) (i : Fin 12) (r : Counter) : (s.setCounter i r).supplyLow = s.supplyLow := rfl
@[simp] theorem State.setCounter_analog (s : State) (i : Fin 12) (r : Counter) : (s.setCounter i r).analog = s.analog := rfl
@[simp] theorem State.setCounter_channels (s : State) (i : Fin 12) (r : Counter) : (s.setCounter i r).channels = s.channels := rfl
@[simp] theorem State.setCounter_economy (s : State) (i : Fin 12) (r : Counter) : (s.setCounter i r).economy = s.economy := rfl
@[simp] theorem State.setCounter_paths (s : State) (i : Fin 12) (r : Counter) : (s.setCounter i r).paths = s.paths := rfl
@[simp] theorem State.setCounter_trace (s : State) (i : Fin 12) (r : Counter) : (s.setCounter i r).trace = s.trace := rfl
@[simp] theorem State.setCounter_gates (s : State) (i : Fin 12) (r : Counter) : (s.setCounter i r).gates = s.gates := rfl
@[simp] theorem State.setCounter_patterns (s : State) (i : Fin 12) (r : Counter) : (s.setCounter i r).patterns = s.patterns := rfl
@[simp] theorem State.setCounter_flashers (s : State) (i : Fin 12) (r : Counter) : (s.setCounter i r).flashers = s.flashers := rfl
@[simp] theorem State.setCounter_notices (s : State) (i : Fin 12) (r : Counter) : (s.setCounter i r).notices = s.notices := rfl
@[simp] theorem State.setCounter_signs (s : State) (i : Fin 12) (r : Counter) : (s.setCounter i r).signs = s.signs := rfl
@[simp] theorem State.setCounter_lines (s : State) (i : Fin 12) (r : Counter) : (s.setCounter i r).lines = s.lines := rfl
@[simp] theorem State.setCounter_lib (s : State) (i : Fin 12) (r : Counter) : (s.setCounter i r).lib = s.lib := rfl
@[simp] theorem State.setCounter_flash (s : State) (i : Fin 12) (r : Counter) : (s.setCounter i r).flash = s.flash := rfl
@[simp] theorem State.setCounter_segment (s : State) (i : Fin 12) (r : Counter) (j : Fin 4) : (s.setCounter i r).segment j = s.segment j := rfl
@[simp] theorem State.setCounter_channel (s : State) (i : Fin 12) (r : Counter) (j : Fin 16) : (s.setCounter i r).channel j = s.channel j := rfl
@[simp] theorem State.setCounter_path (s : State) (i : Fin 12) (r : Counter) (j : Fin 12) : (s.setCounter i r).path j = s.path j := rfl
@[simp] theorem State.setCounter_gate (s : State) (i : Fin 12) (r : Counter) (j : Fin 6) : (s.setCounter i r).gate j = s.gate j := rfl
@[simp] theorem State.setCounter_flasher (s : State) (i : Fin 12) (r : Counter) (j : Fin 8) : (s.setCounter i r).flasher j = s.flasher j := rfl
@[simp] theorem State.setCounter_sign (s : State) (i : Fin 12) (r : Counter) (j : Fin 16) : (s.setCounter i r).sign j = s.sign j := rfl
@[simp] theorem State.setCounter_line (s : State) (i : Fin 12) (r : Counter) (j : Fin 2) : (s.setCounter i r).line j = s.line j := rfl
@[simp] theorem State.setCounter_counter_same (s : State) (i : Fin 12) (r : Counter) : (s.setCounter i r).counter i = r := by
  simp [State.setCounter, State.counter]
theorem State.setCounter_counter (s : State) (i : Fin 12) (r : Counter) (j : Fin 12) :
    (s.setCounter i r).counter j = if i = j then r else s.counter j := by
  simp [State.setCounter, State.counter, Vector.getElem_set, Fin.ext_iff]
theorem State.setCounter_counter_other (s : State) (i : Fin 12) (r : Counter) (j : Fin 12) (h : j ≠ i) :
    (s.setCounter i r).counter j = s.counter j := by
  rw [State.setCounter_counter, if_neg (Ne.symm h)]
@[simp] theorem State.setCounter_self (s : State) (i : Fin 12) : s.setCounter i (s.counter i) = s := by
  simp [State.setCounter, State.counter]
@[simp] theorem State.updCounter_eq (s : State) (i : Fin 12) (g : Counter → Counter) :
    s.updCounter i g = s.setCounter i (g (s.counter i)) := rfl

@[simp] theorem State.setCounter_now (s : State) (i : Fin 12) (r : Counter) : (s.setCounter i r).now = s.now := rfl
@[simp] theorem State.setCounter_inReserve (s : State) (i : Fin 12) (r : Counter) : (s.setCounter i r).inReserve = s.inReserve := rfl

/-! ### setFlasher -/

@[simp] theorem State.setFlasher_pending (s : State) (i : Fin 8) (r : Flasher) : (s.setFlasher i r).pending = s.pending := rfl
@[simp] theorem State.setFlasher_due (s : State) (i : Fin 8) (r : Flasher) : (s.setFlasher i r).due = s.due := rfl
@[simp] theorem State.setFlasher_freeCount (s : State) (i : Fin 8) (r : Flasher) : (s.setFlasher i r).freeCount = s.freeCount := rfl
@[simp] theorem State.setFlasher_tmb (s : State) (i : Fin 8) (r : Flasher) : (s.setFlasher i r).tmb = s.tmb := rfl
@[simp] theorem State.setFlasher_link (s : State) (i : Fin 8) (r : Flasher) : (s.setFlasher i r).link = s.link := rfl
@[simp] theorem State.setFlasher_segments (s : State) (i : Fin 8) (r : Flasher) : (s.setFlasher i r).segments = s.segments := rfl
@[simp] theorem State.setFlasher_reserveRequest (s : State) (i : Fin 8) (r : Flasher) : (s.setFlasher i r).reserveRequest = s.reserveRequest := rfl
@[simp] theorem State.setFlasher_supplyLow (s : State) (i : Fin 8) (r : Flasher) : (s.setFlasher i r).supplyLow = s.supplyLow := rfl
@[simp] theorem State.setFlasher_analog (s : State) (i : Fin 8) (r : Flasher) : (s.setFlasher i r).analog = s.analog := rfl
@[simp] theorem State.setFlasher_channels (s : State) (i : Fin 8) (r : Flasher) : (s.setFlasher i r).channels = s.channels := rfl
@[simp] theorem State.setFlasher_economy (s : State) (i : Fin 8) (r : Flasher) : (s.setFlasher i r).economy = s.economy := rfl
@[simp] theorem State.setFlasher_paths (s : State) (i : Fin 8) (r : Flasher) : (s.setFlasher i r).paths = s.paths := rfl
@[simp] theorem State.setFlasher_trace (s : State) (i : Fin 8) (r : Flasher) : (s.setFlasher i r).trace = s.trace := rfl
@[simp] theorem State.setFlasher_gates (s : State) (i : Fin 8) (r : Flasher) : (s.setFlasher i r).gates = s.gates := rfl
@[simp] theorem State.setFlasher_counters (s : State) (i : Fin 8) (r : Flasher) : (s.setFlasher i r).counters = s.counters := rfl
@[simp] theorem State.setFlasher_patterns (s : State) (i : Fin 8) (r : Flasher) : (s.setFlasher i r).patterns = s.patterns := rfl
@[simp] theorem State.setFlasher_notices (s : State) (i : Fin 8) (r : Flasher) : (s.setFlasher i r).notices = s.notices := rfl
@[simp] theorem State.setFlasher_signs (s : State) (i : Fin 8) (r : Flasher) : (s.setFlasher i r).signs = s.signs := rfl
@[simp] theorem State.setFlasher_lines (s : State) (i : Fin 8) (r : Flasher) : (s.setFlasher i r).lines = s.lines := rfl
@[simp] theorem State.setFlasher_lib (s : State) (i : Fin 8) (r : Flasher) : (s.setFlasher i r).lib = s.lib := rfl
@[simp] theorem State.setFlasher_flash (s : State) (i : Fin 8) (r : Flasher) : (s.setFlasher i r).flash = s.flash := rfl
@[simp] theorem State.setFlasher_segment (s : State) (i : Fin 8) (r : Flasher) (j : Fin 4) : (s.setFlasher i r).segment j = s.segment j := rfl
@[simp] theorem State.setFlasher_channel (s : State) (i : Fin 8) (r : Flasher) (j : Fin 16) : (s.setFlasher i r).channel j = s.channel j := rfl
@[simp] theorem State.setFlasher_path (s : State) (i : Fin 8) (r : Flasher) (j : Fin 12) : (s.setFlasher i r).path j = s.path j := rfl
@[simp] theorem State.setFlasher_gate (s : State) (i : Fin 8) (r : Flasher) (j : Fin 6) : (s.setFlasher i r).gate j = s.gate j := rfl
@[simp] theorem State.setFlasher_counter (s : State) (i : Fin 8) (r : Flasher) (j : Fin 12) : (s.setFlasher i r).counter j = s.counter j := rfl
@[simp] theorem State.setFlasher_sign (s : State) (i : Fin 8) (r : Flasher) (j : Fin 16) : (s.setFlasher i r).sign j = s.sign j := rfl
@[simp] theorem State.setFlasher_line (s : State) (i : Fin 8) (r : Flasher) (j : Fin 2) : (s.setFlasher i r).line j = s.line j := rfl
@[simp] theorem State.setFlasher_flasher_same (s : State) (i : Fin 8) (r : Flasher) : (s.setFlasher i r).flasher i = r := by
  simp [State.setFlasher, State.flasher]
theorem State.setFlasher_flasher (s : State) (i : Fin 8) (r : Flasher) (j : Fin 8) :
    (s.setFlasher i r).flasher j = if i = j then r else s.flasher j := by
  simp [State.setFlasher, State.flasher, Vector.getElem_set, Fin.ext_iff]
theorem State.setFlasher_flasher_other (s : State) (i : Fin 8) (r : Flasher) (j : Fin 8) (h : j ≠ i) :
    (s.setFlasher i r).flasher j = s.flasher j := by
  rw [State.setFlasher_flasher, if_neg (Ne.symm h)]
@[simp] theorem State.setFlasher_self (s : State) (i : Fin 8) : s.setFlasher i (s.flasher i) = s := by
  simp [State.setFlasher, State.flasher]
@[simp] theorem State.updFlasher_eq (s : State) (i : Fin 8) (g : Flasher → Flasher) :
    s.updFlasher i g = s.setFlasher i (g (s.flasher i)) := rfl

@[simp] theorem State.setFlasher_now (s : State) (i : Fin 8) (r : Flasher) : (s.setFlasher i r).now = s.now := rfl
@[simp] theorem State.setFlasher_inReserve (s : State) (i : Fin 8) (r : Flasher) : (s.setFlasher i r).inReserve = s.inReserve := rfl

/-! ### setSign -/

@[simp] theorem State.setSign_pending (s : State) (i : Fin 16) (r : Sign) : (s.setSign i r).pending = s.pending := rfl
@[simp] theorem State.setSign_due (s : State) (i : Fin 16) (r : Sign) : (s.setSign i r).due = s.due := rfl
@[simp] theorem State.setSign_freeCount (s : State) (i : Fin 16) (r : Sign) : (s.setSign i r).freeCount = s.freeCount := rfl
@[simp] theorem State.setSign_tmb (s : State) (i : Fin 16) (r : Sign) : (s.setSign i r).tmb = s.tmb := rfl
@[simp] theorem State.setSign_link (s : State) (i : Fin 16) (r : Sign) : (s.setSign i r).link = s.link := rfl
@[simp] theorem State.setSign_segments (s : State) (i : Fin 16) (r : Sign) : (s.setSign i r).segments = s.segments := rfl
@[simp] theorem State.setSign_reserveRequest (s : State) (i : Fin 16) (r : Sign) : (s.setSign i r).reserveRequest = s.reserveRequest := rfl
@[simp] theorem State.setSign_supplyLow (s : State) (i : Fin 16) (r : Sign) : (s.setSign i r).supplyLow = s.supplyLow := rfl
@[simp] theorem State.setSign_analog (s : State) (i : Fin 16) (r : Sign) : (s.setSign i r).analog = s.analog := rfl
@[simp] theorem State.setSign_channels (s : State) (i : Fin 16) (r : Sign) : (s.setSign i r).channels = s.channels := rfl
@[simp] theorem State.setSign_economy (s : State) (i : Fin 16) (r : Sign) : (s.setSign i r).economy = s.economy := rfl
@[simp] theorem State.setSign_paths (s : State) (i : Fin 16) (r : Sign) : (s.setSign i r).paths = s.paths := rfl
@[simp] theorem State.setSign_trace (s : State) (i : Fin 16) (r : Sign) : (s.setSign i r).trace = s.trace := rfl
@[simp] theorem State.setSign_gates (s : State) (i : Fin 16) (r : Sign) : (s.setSign i r).gates = s.gates := rfl
@[simp] theorem State.setSign_counters (s : State) (i : Fin 16) (r : Sign) : (s.setSign i r).counters = s.counters := rfl
@[simp] theorem State.setSign_patterns (s : State) (i : Fin 16) (r : Sign) : (s.setSign i r).patterns = s.patterns := rfl
@[simp] theorem State.setSign_flashers (s : State) (i : Fin 16) (r : Sign) : (s.setSign i r).flashers = s.flashers := rfl
@[simp] theorem State.setSign_notices (s : State) (i : Fin 16) (r : Sign) : (s.setSign i r).notices = s.notices := rfl
@[simp] theorem State.setSign_lines (s : State) (i : Fin 16) (r : Sign) : (s.setSign i r).lines = s.lines := rfl
@[simp] theorem State.setSign_lib (s : State) (i : Fin 16) (r : Sign) : (s.setSign i r).lib = s.lib := rfl
@[simp] theorem State.setSign_flash (s : State) (i : Fin 16) (r : Sign) : (s.setSign i r).flash = s.flash := rfl
@[simp] theorem State.setSign_segment (s : State) (i : Fin 16) (r : Sign) (j : Fin 4) : (s.setSign i r).segment j = s.segment j := rfl
@[simp] theorem State.setSign_channel (s : State) (i : Fin 16) (r : Sign) (j : Fin 16) : (s.setSign i r).channel j = s.channel j := rfl
@[simp] theorem State.setSign_path (s : State) (i : Fin 16) (r : Sign) (j : Fin 12) : (s.setSign i r).path j = s.path j := rfl
@[simp] theorem State.setSign_gate (s : State) (i : Fin 16) (r : Sign) (j : Fin 6) : (s.setSign i r).gate j = s.gate j := rfl
@[simp] theorem State.setSign_counter (s : State) (i : Fin 16) (r : Sign) (j : Fin 12) : (s.setSign i r).counter j = s.counter j := rfl
@[simp] theorem State.setSign_flasher (s : State) (i : Fin 16) (r : Sign) (j : Fin 8) : (s.setSign i r).flasher j = s.flasher j := rfl
@[simp] theorem State.setSign_line (s : State) (i : Fin 16) (r : Sign) (j : Fin 2) : (s.setSign i r).line j = s.line j := rfl
@[simp] theorem State.setSign_sign_same (s : State) (i : Fin 16) (r : Sign) : (s.setSign i r).sign i = r := by
  simp [State.setSign, State.sign]
theorem State.setSign_sign (s : State) (i : Fin 16) (r : Sign) (j : Fin 16) :
    (s.setSign i r).sign j = if i = j then r else s.sign j := by
  simp [State.setSign, State.sign, Vector.getElem_set, Fin.ext_iff]
theorem State.setSign_sign_other (s : State) (i : Fin 16) (r : Sign) (j : Fin 16) (h : j ≠ i) :
    (s.setSign i r).sign j = s.sign j := by
  rw [State.setSign_sign, if_neg (Ne.symm h)]
@[simp] theorem State.setSign_self (s : State) (i : Fin 16) : s.setSign i (s.sign i) = s := by
  simp [State.setSign, State.sign]
@[simp] theorem State.updSign_eq (s : State) (i : Fin 16) (g : Sign → Sign) :
    s.updSign i g = s.setSign i (g (s.sign i)) := rfl

@[simp] theorem State.setSign_now (s : State) (i : Fin 16) (r : Sign) : (s.setSign i r).now = s.now := rfl
@[simp] theorem State.setSign_inReserve (s : State) (i : Fin 16) (r : Sign) : (s.setSign i r).inReserve = s.inReserve := rfl

/-! ### setLine -/

@[simp] theorem State.setLine_pending (s : State) (i : Fin 2) (r : Line) : (s.setLine i r).pending = s.pending := rfl
@[simp] theorem State.setLine_due (s : State) (i : Fin 2) (r : Line) : (s.setLine i r).due = s.due := rfl
@[simp] theorem State.setLine_freeCount (s : State) (i : Fin 2) (r : Line) : (s.setLine i r).freeCount = s.freeCount := rfl
@[simp] theorem State.setLine_tmb (s : State) (i : Fin 2) (r : Line) : (s.setLine i r).tmb = s.tmb := rfl
@[simp] theorem State.setLine_link (s : State) (i : Fin 2) (r : Line) : (s.setLine i r).link = s.link := rfl
@[simp] theorem State.setLine_segments (s : State) (i : Fin 2) (r : Line) : (s.setLine i r).segments = s.segments := rfl
@[simp] theorem State.setLine_reserveRequest (s : State) (i : Fin 2) (r : Line) : (s.setLine i r).reserveRequest = s.reserveRequest := rfl
@[simp] theorem State.setLine_supplyLow (s : State) (i : Fin 2) (r : Line) : (s.setLine i r).supplyLow = s.supplyLow := rfl
@[simp] theorem State.setLine_analog (s : State) (i : Fin 2) (r : Line) : (s.setLine i r).analog = s.analog := rfl
@[simp] theorem State.setLine_channels (s : State) (i : Fin 2) (r : Line) : (s.setLine i r).channels = s.channels := rfl
@[simp] theorem State.setLine_economy (s : State) (i : Fin 2) (r : Line) : (s.setLine i r).economy = s.economy := rfl
@[simp] theorem State.setLine_paths (s : State) (i : Fin 2) (r : Line) : (s.setLine i r).paths = s.paths := rfl
@[simp] theorem State.setLine_trace (s : State) (i : Fin 2) (r : Line) : (s.setLine i r).trace = s.trace := rfl
@[simp] theorem State.setLine_gates (s : State) (i : Fin 2) (r : Line) : (s.setLine i r).gates = s.gates := rfl
@[simp] theorem State.setLine_counters (s : State) (i : Fin 2) (r : Line) : (s.setLine i r).counters = s.counters := rfl
@[simp] theorem State.setLine_patterns (s : State) (i : Fin 2) (r : Line) : (s.setLine i r).patterns = s.patterns := rfl
@[simp] theorem State.setLine_flashers (s : State) (i : Fin 2) (r : Line) : (s.setLine i r).flashers = s.flashers := rfl
@[simp] theorem State.setLine_notices (s : State) (i : Fin 2) (r : Line) : (s.setLine i r).notices = s.notices := rfl
@[simp] theorem State.setLine_signs (s : State) (i : Fin 2) (r : Line) : (s.setLine i r).signs = s.signs := rfl
@[simp] theorem State.setLine_lib (s : State) (i : Fin 2) (r : Line) : (s.setLine i r).lib = s.lib := rfl
@[simp] theorem State.setLine_flash (s : State) (i : Fin 2) (r : Line) : (s.setLine i r).flash = s.flash := rfl
@[simp] theorem State.setLine_segment (s : State) (i : Fin 2) (r : Line) (j : Fin 4) : (s.setLine i r).segment j = s.segment j := rfl
@[simp] theorem State.setLine_channel (s : State) (i : Fin 2) (r : Line) (j : Fin 16) : (s.setLine i r).channel j = s.channel j := rfl
@[simp] theorem State.setLine_path (s : State) (i : Fin 2) (r : Line) (j : Fin 12) : (s.setLine i r).path j = s.path j := rfl
@[simp] theorem State.setLine_gate (s : State) (i : Fin 2) (r : Line) (j : Fin 6) : (s.setLine i r).gate j = s.gate j := rfl
@[simp] theorem State.setLine_counter (s : State) (i : Fin 2) (r : Line) (j : Fin 12) : (s.setLine i r).counter j = s.counter j := rfl
@[simp] theorem State.setLine_flasher (s : State) (i : Fin 2) (r : Line) (j : Fin 8) : (s.setLine i r).flasher j = s.flasher j := rfl
@[simp] theorem State.setLine_sign (s : State) (i : Fin 2) (r : Line) (j : Fin 16) : (s.setLine i r).sign j = s.sign j := rfl
@[simp] theorem State.setLine_line_same (s : State) (i : Fin 2) (r : Line) : (s.setLine i r).line i = r := by
  simp [State.setLine, State.line]
theorem State.setLine_line (s : State) (i : Fin 2) (r : Line) (j : Fin 2) :
    (s.setLine i r).line j = if i = j then r else s.line j := by
  simp [State.setLine, State.line, Vector.getElem_set, Fin.ext_iff]
theorem State.setLine_line_other (s : State) (i : Fin 2) (r : Line) (j : Fin 2) (h : j ≠ i) :
    (s.setLine i r).line j = s.line j := by
  rw [State.setLine_line, if_neg (Ne.symm h)]
@[simp] theorem State.setLine_self (s : State) (i : Fin 2) : s.setLine i (s.line i) = s := by
  simp [State.setLine, State.line]
@[simp] theorem State.updLine_eq (s : State) (i : Fin 2) (g : Line → Line) :
    s.updLine i g = s.setLine i (g (s.line i)) := rfl

@[simp] theorem State.setLine_now (s : State) (i : Fin 2) (r : Line) : (s.setLine i r).now = s.now := rfl
@[simp] theorem State.setLine_inReserve (s : State) (i : Fin 2) (r : Line) : (s.setLine i r).inReserve = s.inReserve := rfl

/-! ### post -/

@[simp] theorem State.post_pending (s : State) (o : Obj) (f : BitVec 16) : (s.post o f).pending = s.pending := rfl
@[simp] theorem State.post_due (s : State) (o : Obj) (f : BitVec 16) : (s.post o f).due = s.due := rfl
@[simp] theorem State.post_freeCount (s : State) (o : Obj) (f : BitVec 16) : (s.post o f).freeCount = s.freeCount := rfl
@[simp] theorem State.post_tmb (s : State) (o : Obj) (f : BitVec 16) : (s.post o f).tmb = s.tmb := rfl
@[simp] theorem State.post_segments (s : State) (o : Obj) (f : BitVec 16) : (s.post o f).segments = s.segments := rfl
@[simp] theorem State.post_reserveRequest (s : State) (o : Obj) (f : BitVec 16) : (s.post o f).reserveRequest = s.reserveRequest := rfl
@[simp] theorem State.post_supplyLow (s : State) (o : Obj) (f : BitVec 16) : (s.post o f).supplyLow = s.supplyLow := rfl
@[simp] theorem State.post_analog (s : State) (o : Obj) (f : BitVec 16) : (s.post o f).analog = s.analog := rfl
@[simp] theorem State.post_channels (s : State) (o : Obj) (f : BitVec 16) : (s.post o f).channels = s.channels := rfl
@[simp] theorem State.post_economy (s : State) (o : Obj) (f : BitVec 16) : (s.post o f).economy = s.economy := rfl
@[simp] theorem State.post_paths (s : State) (o : Obj) (f : BitVec 16) : (s.post o f).paths = s.paths := rfl
@[simp] theorem State.post_trace (s : State) (o : Obj) (f : BitVec 16) : (s.post o f).trace = s.trace := rfl
@[simp] theorem State.post_gates (s : State) (o : Obj) (f : BitVec 16) : (s.post o f).gates = s.gates := rfl
@[simp] theorem State.post_counters (s : State) (o : Obj) (f : BitVec 16) : (s.post o f).counters = s.counters := rfl
@[simp] theorem State.post_patterns (s : State) (o : Obj) (f : BitVec 16) : (s.post o f).patterns = s.patterns := rfl
@[simp] theorem State.post_flashers (s : State) (o : Obj) (f : BitVec 16) : (s.post o f).flashers = s.flashers := rfl
@[simp] theorem State.post_notices (s : State) (o : Obj) (f : BitVec 16) : (s.post o f).notices = s.notices := rfl
@[simp] theorem State.post_signs (s : State) (o : Obj) (f : BitVec 16) : (s.post o f).signs = s.signs := rfl
@[simp] theorem State.post_lines (s : State) (o : Obj) (f : BitVec 16) : (s.post o f).lines = s.lines := rfl
@[simp] theorem State.post_lib (s : State) (o : Obj) (f : BitVec 16) : (s.post o f).lib = s.lib := rfl
@[simp] theorem State.post_flash (s : State) (o : Obj) (f : BitVec 16) : (s.post o f).flash = s.flash := rfl
@[simp] theorem State.post_segment (s : State) (o : Obj) (f : BitVec 16) (j : Fin 4) : (s.post o f).segment j = s.segment j := rfl
@[simp] theorem State.post_channel (s : State) (o : Obj) (f : BitVec 16) (j : Fin 16) : (s.post o f).channel j = s.channel j := rfl
@[simp] theorem State.post_path (s : State) (o : Obj) (f : BitVec 16) (j : Fin 12) : (s.post o f).path j = s.path j := rfl
@[simp] theorem State.post_gate (s : State) (o : Obj) (f : BitVec 16) (j : Fin 6) : (s.post o f).gate j = s.gate j := rfl
@[simp] theorem State.post_counter (s : State) (o : Obj) (f : BitVec 16) (j : Fin 12) : (s.post o f).counter j = s.counter j := rfl
@[simp] theorem State.post_flasher (s : State) (o : Obj) (f : BitVec 16) (j : Fin 8) : (s.post o f).flasher j = s.flasher j := rfl
@[simp] theorem State.post_sign (s : State) (o : Obj) (f : BitVec 16) (j : Fin 16) : (s.post o f).sign j = s.sign j := rfl
@[simp] theorem State.post_line (s : State) (o : Obj) (f : BitVec 16) (j : Fin 2) : (s.post o f).line j = s.line j := rfl

@[simp] theorem State.post_now (s : State) (o : Obj) (f : BitVec 16) : (s.post o f).now = s.now := rfl
@[simp] theorem State.post_inReserve (s : State) (o : Obj) (f : BitVec 16) : (s.post o f).inReserve = s.inReserve := rfl

/-! ### postIf -/

@[simp] theorem State.postIf_pending (s : State) (c : Bool) (o : Obj) (f : BitVec 16) : (s.postIf c o f).pending = s.pending := by cases c <;> rfl
@[simp] theorem State.postIf_due (s : State) (c : Bool) (o : Obj) (f : BitVec 16) : (s.postIf c o f).due = s.due := by cases c <;> rfl
@[simp] theorem State.postIf_freeCount (s : State) (c : Bool) (o : Obj) (f : BitVec 16) : (s.postIf c o f).freeCount = s.freeCount := by cases c <;> rfl
@[simp] theorem State.postIf_tmb (s : State) (c : Bool) (o : Obj) (f : BitVec 16) : (s.postIf c o f).tmb = s.tmb := by cases c <;> rfl
@[simp] theorem State.postIf_segments (s : State) (c : Bool) (o : Obj) (f : BitVec 16) : (s.postIf c o f).segments = s.segments := by cases c <;> rfl
@[simp] theorem State.postIf_reserveRequest (s : State) (c : Bool) (o : Obj) (f : BitVec 16) : (s.postIf c o f).reserveRequest = s.reserveRequest := by cases c <;> rfl
@[simp] theorem State.postIf_supplyLow (s : State) (c : Bool) (o : Obj) (f : BitVec 16) : (s.postIf c o f).supplyLow = s.supplyLow := by cases c <;> rfl
@[simp] theorem State.postIf_analog (s : State) (c : Bool) (o : Obj) (f : BitVec 16) : (s.postIf c o f).analog = s.analog := by cases c <;> rfl
@[simp] theorem State.postIf_channels (s : State) (c : Bool) (o : Obj) (f : BitVec 16) : (s.postIf c o f).channels = s.channels := by cases c <;> rfl
@[simp] theorem State.postIf_economy (s : State) (c : Bool) (o : Obj) (f : BitVec 16) : (s.postIf c o f).economy = s.economy := by cases c <;> rfl
@[simp] theorem State.postIf_paths (s : State) (c : Bool) (o : Obj) (f : BitVec 16) : (s.postIf c o f).paths = s.paths := by cases c <;> rfl
@[simp] theorem State.postIf_trace (s : State) (c : Bool) (o : Obj) (f : BitVec 16) : (s.postIf c o f).trace = s.trace := by cases c <;> rfl
@[simp] theorem State.postIf_gates (s : State) (c : Bool) (o : Obj) (f : BitVec 16) : (s.postIf c o f).gates = s.gates := by cases c <;> rfl
@[simp] theorem State.postIf_counters (s : State) (c : Bool) (o : Obj) (f : BitVec 16) : (s.postIf c o f).counters = s.counters := by cases c <;> rfl
@[simp] theorem State.postIf_patterns (s : State) (c : Bool) (o : Obj) (f : BitVec 16) : (s.postIf c o f).patterns = s.patterns := by cases c <;> rfl
@[simp] theorem State.postIf_flashers (s : State) (c : Bool) (o : Obj) (f : BitVec 16) : (s.postIf c o f).flashers = s.flashers := by cases c <;> rfl
@[simp] theorem State.postIf_notices (s : State) (c : Bool) (o : Obj) (f : BitVec 16) : (s.postIf c o f).notices = s.notices := by cases c <;> rfl
@[simp] theorem State.postIf_signs (s : State) (c : Bool) (o : Obj) (f : BitVec 16) : (s.postIf c o f).signs = s.signs := by cases c <;> rfl
@[simp] theorem State.postIf_lines (s : State) (c : Bool) (o : Obj) (f : BitVec 16) : (s.postIf c o f).lines = s.lines := by cases c <;> rfl
@[simp] theorem State.postIf_lib (s : State) (c : Bool) (o : Obj) (f : BitVec 16) : (s.postIf c o f).lib = s.lib := by cases c <;> rfl
@[simp] theorem State.postIf_flash (s : State) (c : Bool) (o : Obj) (f : BitVec 16) : (s.postIf c o f).flash = s.flash := by cases c <;> rfl
@[simp] theorem State.postIf_segment (s : State) (c : Bool) (o : Obj) (f : BitVec 16) (j : Fin 4) : (s.postIf c o f).segment j = s.segment j := by cases c <;> rfl
@[simp] theorem State.postIf_channel (s : State) (c : Bool) (o : Obj) (f : BitVec 16) (j : Fin 16) : (s.postIf c o f).channel j = s.channel j := by cases c <;> rfl
@[simp] theorem State.postIf_path (s : State) (c : Bool) (o : Obj) (f : BitVec 16) (j : Fin 12) : (s.postIf c o f).path j = s.path j := by cases c <;> rfl
@[simp] theorem State.postIf_gate (s : State) (c : Bool) (o : Obj) (f : BitVec 16) (j : Fin 6) : (s.postIf c o f).gate j = s.gate j := by cases c <;> rfl
@[simp] theorem State.postIf_counter (s : State) (c : Bool) (o : Obj) (f : BitVec 16) (j : Fin 12) : (s.postIf c o f).counter j = s.counter j := by cases c <;> rfl
@[simp] theorem State.postIf_flasher (s : State) (c : Bool) (o : Obj) (f : BitVec 16) (j : Fin 8) : (s.postIf c o f).flasher j = s.flasher j := by cases c <;> rfl
@[simp] theorem State.postIf_sign (s : State) (c : Bool) (o : Obj) (f : BitVec 16) (j : Fin 16) : (s.postIf c o f).sign j = s.sign j := by cases c <;> rfl
@[simp] theorem State.postIf_line (s : State) (c : Bool) (o : Obj) (f : BitVec 16) (j : Fin 2) : (s.postIf c o f).line j = s.line j := by cases c <;> rfl
@[simp] theorem State.postIf_true (s : State) (o : Obj) (f : BitVec 16) : s.postIf true o f = s.post o f := rfl
@[simp] theorem State.postIf_false (s : State) (o : Obj) (f : BitVec 16) : s.postIf false o f = s := rfl

@[simp] theorem State.postIf_now (s : State) (c : Bool) (o : Obj) (f : BitVec 16) : (s.postIf c o f).now = s.now := by cases c <;> rfl
@[simp] theorem State.postIf_inReserve (s : State) (c : Bool) (o : Obj) (f : BitVec 16) : (s.postIf c o f).inReserve = s.inReserve := by cases c <;> rfl

/-! ### updLib -/

@[simp] theorem State.updLib_pending (s : State) (f : Library → Library) : (s.updLib f).pending = s.pending := rfl
@[simp] theorem State.updLib_due (s : State) (f : Library → Library) : (s.updLib f).due = s.due := rfl
@[simp] theorem State.updLib_freeCount (s : State) (f : Library → Library) : (s.updLib f).freeCount = s.freeCount := rfl
@[simp] theorem State.updLib_tmb (s : State) (f : Library → Library) : (s.updLib f).tmb = s.tmb := rfl
@[simp] theorem State.updLib_link (s : State) (f : Library → Library) : (s.updLib f).link = s.link := rfl
@[simp] theorem State.updLib_segments (s : State) (f : Library → Library) : (s.updLib f).segments = s.segments := rfl
@[simp] theorem State.updLib_reserveRequest (s : State) (f : Library → Library) : (s.updLib f).reserveRequest = s.reserveRequest := rfl
@[simp] theorem State.updLib_supplyLow (s : State) (f : Library → Library) : (s.updLib f).supplyLow = s.supplyLow := rfl
@[simp] theorem State.updLib_analog (s : State) (f : Library → Library) : (s.updLib f).analog = s.analog := rfl
@[simp] theorem State.updLib_channels (s : State) (f : Library → Library) : (s.updLib f).channels = s.channels := rfl
@[simp] theorem State.updLib_economy (s : State) (f : Library → Library) : (s.updLib f).economy = s.economy := rfl
@[simp] theorem State.updLib_paths (s : State) (f : Library → Library) : (s.updLib f).paths = s.paths := rfl
@[simp] theorem State.updLib_trace (s : State) (f : Library → Library) : (s.updLib f).trace = s.trace := rfl
@[simp] theorem State.updLib_gates (s : State) (f : Library → Library) : (s.updLib f).gates = s.gates := rfl
@[simp] theorem State.updLib_counters (s : State) (f : Library → Library) : (s.updLib f).counters = s.counters := rfl
@[simp] theorem State.updLib_patterns (s : State) (f : Library → Library) : (s.updLib f).patterns = s.patterns := rfl
@[simp] theorem State.updLib_flashers (s : State) (f : Library → Library) : (s.updLib f).flashers = s.flashers := rfl
@[simp] theorem State.updLib_notices (s : State) (f : Library → Library) : (s.updLib f).notices = s.notices := rfl
@[simp] theorem State.updLib_signs (s : State) (f : Library → Library) : (s.updLib f).signs = s.signs := rfl
@[simp] theorem State.updLib_lines (s : State) (f : Library → Library) : (s.updLib f).lines = s.lines := rfl
@[simp] theorem State.updLib_flash (s : State) (f : Library → Library) : (s.updLib f).flash = s.flash := rfl
@[simp] theorem State.updLib_segment (s : State) (f : Library → Library) (j : Fin 4) : (s.updLib f).segment j = s.segment j := rfl
@[simp] theorem State.updLib_channel (s : State) (f : Library → Library) (j : Fin 16) : (s.updLib f).channel j = s.channel j := rfl
@[simp] theorem State.updLib_path (s : State) (f : Library → Library) (j : Fin 12) : (s.updLib f).path j = s.path j := rfl
@[simp] theorem State.updLib_gate (s : State) (f : Library → Library) (j : Fin 6) : (s.updLib f).gate j = s.gate j := rfl
@[simp] theorem State.updLib_counter (s : State) (f : Library → Library) (j : Fin 12) : (s.updLib f).counter j = s.counter j := rfl
@[simp] theorem State.updLib_flasher (s : State) (f : Library → Library) (j : Fin 8) : (s.updLib f).flasher j = s.flasher j := rfl
@[simp] theorem State.updLib_sign (s : State) (f : Library → Library) (j : Fin 16) : (s.updLib f).sign j = s.sign j := rfl
@[simp] theorem State.updLib_line (s : State) (f : Library → Library) (j : Fin 2) : (s.updLib f).line j = s.line j := rfl

@[simp] theorem State.updLib_now (s : State) (f : Library → Library) : (s.updLib f).now = s.now := rfl
@[simp] theorem State.updLib_inReserve (s : State) (f : Library → Library) : (s.updLib f).inReserve = s.inReserve := rfl

/-! ### updLink -/

@[simp] theorem State.updLink_pending (s : State) (f : Link → Link) : (s.updLink f).pending = s.pending := rfl
@[simp] theorem State.updLink_due (s : State) (f : Link → Link) : (s.updLink f).due = s.due := rfl
@[simp] theorem State.updLink_freeCount (s : State) (f : Link → Link) : (s.updLink f).freeCount = s.freeCount := rfl
@[simp] theorem State.updLink_tmb (s : State) (f : Link → Link) : (s.updLink f).tmb = s.tmb := rfl
@[simp] theorem State.updLink_segments (s : State) (f : Link → Link) : (s.updLink f).segments = s.segments := rfl
@[simp] theorem State.updLink_reserveRequest (s : State) (f : Link → Link) : (s.updLink f).reserveRequest = s.reserveRequest := rfl
@[simp] theorem State.updLink_supplyLow (s : State) (f : Link → Link) : (s.updLink f).supplyLow = s.supplyLow := rfl
@[simp] theorem State.updLink_analog (s : State) (f : Link → Link) : (s.updLink f).analog = s.analog := rfl
@[simp] theorem State.updLink_channels (s : State) (f : Link → Link) : (s.updLink f).channels = s.channels := rfl
@[simp] theorem State.updLink_economy (s : State) (f : Link → Link) : (s.updLink f).economy = s.economy := rfl
@[simp] theorem State.updLink_paths (s : State) (f : Link → Link) : (s.updLink f).paths = s.paths := rfl
@[simp] theorem State.updLink_trace (s : State) (f : Link → Link) : (s.updLink f).trace = s.trace := rfl
@[simp] theorem State.updLink_gates (s : State) (f : Link → Link) : (s.updLink f).gates = s.gates := rfl
@[simp] theorem State.updLink_counters (s : State) (f : Link → Link) : (s.updLink f).counters = s.counters := rfl
@[simp] theorem State.updLink_patterns (s : State) (f : Link → Link) : (s.updLink f).patterns = s.patterns := rfl
@[simp] theorem State.updLink_flashers (s : State) (f : Link → Link) : (s.updLink f).flashers = s.flashers := rfl
@[simp] theorem State.updLink_notices (s : State) (f : Link → Link) : (s.updLink f).notices = s.notices := rfl
@[simp] theorem State.updLink_signs (s : State) (f : Link → Link) : (s.updLink f).signs = s.signs := rfl
@[simp] theorem State.updLink_lines (s : State) (f : Link → Link) : (s.updLink f).lines = s.lines := rfl
@[simp] theorem State.updLink_lib (s : State) (f : Link → Link) : (s.updLink f).lib = s.lib := rfl
@[simp] theorem State.updLink_flash (s : State) (f : Link → Link) : (s.updLink f).flash = s.flash := rfl
@[simp] theorem State.updLink_segment (s : State) (f : Link → Link) (j : Fin 4) : (s.updLink f).segment j = s.segment j := rfl
@[simp] theorem State.updLink_channel (s : State) (f : Link → Link) (j : Fin 16) : (s.updLink f).channel j = s.channel j := rfl
@[simp] theorem State.updLink_path (s : State) (f : Link → Link) (j : Fin 12) : (s.updLink f).path j = s.path j := rfl
@[simp] theorem State.updLink_gate (s : State) (f : Link → Link) (j : Fin 6) : (s.updLink f).gate j = s.gate j := rfl
@[simp] theorem State.updLink_counter (s : State) (f : Link → Link) (j : Fin 12) : (s.updLink f).counter j = s.counter j := rfl
@[simp] theorem State.updLink_flasher (s : State) (f : Link → Link) (j : Fin 8) : (s.updLink f).flasher j = s.flasher j := rfl
@[simp] theorem State.updLink_sign (s : State) (f : Link → Link) (j : Fin 16) : (s.updLink f).sign j = s.sign j := rfl
@[simp] theorem State.updLink_line (s : State) (f : Link → Link) (j : Fin 2) : (s.updLink f).line j = s.line j := rfl

@[simp] theorem State.updLink_now (s : State) (f : Link → Link) : (s.updLink f).now = s.now := rfl
@[simp] theorem State.updLink_inReserve (s : State) (f : Link → Link) : (s.updLink f).inReserve = s.inReserve := rfl

/-! ### setSlot -/

@[simp] theorem State.setSlot_pending (s : State) (i : Fin 24) (x : Option Notice) : (s.setSlot i x).pending = s.pending := rfl
@[simp] theorem State.setSlot_due (s : State) (i : Fin 24) (x : Option Notice) : (s.setSlot i x).due = s.due := rfl
@[simp] theorem State.setSlot_freeCount (s : State) (i : Fin 24) (x : Option Notice) : (s.setSlot i x).freeCount = s.freeCount := rfl
@[simp] theorem State.setSlot_tmb (s : State) (i : Fin 24) (x : Option Notice) : (s.setSlot i x).tmb = s.tmb := rfl
@[simp] theorem State.setSlot_link (s : State) (i : Fin 24) (x : Option Notice) : (s.setSlot i x).link = s.link := rfl
@[simp] theorem State.setSlot_segments (s : State) (i : Fin 24) (x : Option Notice) : (s.setSlot i x).segments = s.segments := rfl
@[simp] theorem State.setSlot_reserveRequest (s : State) (i : Fin 24) (x : Option Notice) : (s.setSlot i x).reserveRequest = s.reserveRequest := rfl
@[simp] theorem State.setSlot_supplyLow (s : State) (i : Fin 24) (x : Option Notice) : (s.setSlot i x).supplyLow = s.supplyLow := rfl
@[simp] theorem State.setSlot_analog (s : State) (i : Fin 24) (x : Option Notice) : (s.setSlot i x).analog = s.analog := rfl
@[simp] theorem State.setSlot_channels (s : State) (i : Fin 24) (x : Option Notice) : (s.setSlot i x).channels = s.channels := rfl
@[simp] theorem State.setSlot_economy (s : State) (i : Fin 24) (x : Option Notice) : (s.setSlot i x).economy = s.economy := rfl
@[simp] theorem State.setSlot_paths (s : State) (i : Fin 24) (x : Option Notice) : (s.setSlot i x).paths = s.paths := rfl
@[simp] theorem State.setSlot_trace (s : State) (i : Fin 24) (x : Option Notice) : (s.setSlot i x).trace = s.trace := rfl
@[simp] theorem State.setSlot_gates (s : State) (i : Fin 24) (x : Option Notice) : (s.setSlot i x).gates = s.gates := rfl
@[simp] theorem State.setSlot_counters (s : State) (i : Fin 24) (x : Option Notice) : (s.setSlot i x).counters = s.counters := rfl
@[simp] theorem State.setSlot_patterns (s : State) (i : Fin 24) (x : Option Notice) : (s.setSlot i x).patterns = s.patterns := rfl
@[simp] theorem State.setSlot_flashers (s : State) (i : Fin 24) (x : Option Notice) : (s.setSlot i x).flashers = s.flashers := rfl
@[simp] theorem State.setSlot_signs (s : State) (i : Fin 24) (x : Option Notice) : (s.setSlot i x).signs = s.signs := rfl
@[simp] theorem State.setSlot_lines (s : State) (i : Fin 24) (x : Option Notice) : (s.setSlot i x).lines = s.lines := rfl
@[simp] theorem State.setSlot_lib (s : State) (i : Fin 24) (x : Option Notice) : (s.setSlot i x).lib = s.lib := rfl
@[simp] theorem State.setSlot_flash (s : State) (i : Fin 24) (x : Option Notice) : (s.setSlot i x).flash = s.flash := rfl
@[simp] theorem State.setSlot_segment (s : State) (i : Fin 24) (x : Option Notice) (j : Fin 4) : (s.setSlot i x).segment j = s.segment j := rfl
@[simp] theorem State.setSlot_channel (s : State) (i : Fin 24) (x : Option Notice) (j : Fin 16) : (s.setSlot i x).channel j = s.channel j := rfl
@[simp] theorem State.setSlot_path (s : State) (i : Fin 24) (x : Option Notice) (j : Fin 12) : (s.setSlot i x).path j = s.path j := rfl
@[simp] theorem State.setSlot_gate (s : State) (i : Fin 24) (x : Option Notice) (j : Fin 6) : (s.setSlot i x).gate j = s.gate j := rfl
@[simp] theorem State.setSlot_counter (s : State) (i : Fin 24) (x : Option Notice) (j : Fin 12) : (s.setSlot i x).counter j = s.counter j := rfl
@[simp] theorem State.setSlot_flasher (s : State) (i : Fin 24) (x : Option Notice) (j : Fin 8) : (s.setSlot i x).flasher j = s.flasher j := rfl
@[simp] theorem State.setSlot_sign (s : State) (i : Fin 24) (x : Option Notice) (j : Fin 16) : (s.setSlot i x).sign j = s.sign j := rfl
@[simp] theorem State.setSlot_line (s : State) (i : Fin 24) (x : Option Notice) (j : Fin 2) : (s.setSlot i x).line j = s.line j := rfl

@[simp] theorem State.setSlot_now (s : State) (i : Fin 24) (x : Option Notice) : (s.setSlot i x).now = s.now := rfl
@[simp] theorem State.setSlot_inReserve (s : State) (i : Fin 24) (x : Option Notice) : (s.setSlot i x).inReserve = s.inReserve := rfl

/-! ### setFlash -/

@[simp] theorem State.setFlash_pending (s : State) (m : Flash) : (s.setFlash m).pending = s.pending := rfl
@[simp] theorem State.setFlash_due (s : State) (m : Flash) : (s.setFlash m).due = s.due := rfl
@[simp] theorem State.setFlash_freeCount (s : State) (m : Flash) : (s.setFlash m).freeCount = s.freeCount := rfl
@[simp] theorem State.setFlash_tmb (s : State) (m : Flash) : (s.setFlash m).tmb = s.tmb := rfl
@[simp] theorem State.setFlash_link (s : State) (m : Flash) : (s.setFlash m).link = s.link := rfl
@[simp] theorem State.setFlash_segments (s : State) (m : Flash) : (s.setFlash m).segments = s.segments := rfl
@[simp] theorem State.setFlash_reserveRequest (s : State) (m : Flash) : (s.setFlash m).reserveRequest = s.reserveRequest := rfl
@[simp] theorem State.setFlash_supplyLow (s : State) (m : Flash) : (s.setFlash m).supplyLow = s.supplyLow := rfl
@[simp] theorem State.setFlash_analog (s : State) (m : Flash) : (s.setFlash m).analog = s.analog := rfl
@[simp] theorem State.setFlash_channels (s : State) (m : Flash) : (s.setFlash m).channels = s.channels := rfl
@[simp] theorem State.setFlash_economy (s : State) (m : Flash) : (s.setFlash m).economy = s.economy := rfl
@[simp] theorem State.setFlash_paths (s : State) (m : Flash) : (s.setFlash m).paths = s.paths := rfl
@[simp] theorem State.setFlash_trace (s : State) (m : Flash) : (s.setFlash m).trace = s.trace := rfl
@[simp] theorem State.setFlash_gates (s : State) (m : Flash) : (s.setFlash m).gates = s.gates := rfl
@[simp] theorem State.setFlash_counters (s : State) (m : Flash) : (s.setFlash m).counters = s.counters := rfl
@[simp] theorem State.setFlash_patterns (s : State) (m : Flash) : (s.setFlash m).patterns = s.patterns := rfl
@[simp] theorem State.setFlash_flashers (s : State) (m : Flash) : (s.setFlash m).flashers = s.flashers := rfl
@[simp] theorem State.setFlash_notices (s : State) (m : Flash) : (s.setFlash m).notices = s.notices := rfl
@[simp] theorem State.setFlash_signs (s : State) (m : Flash) : (s.setFlash m).signs = s.signs := rfl
@[simp] theorem State.setFlash_lines (s : State) (m : Flash) : (s.setFlash m).lines = s.lines := rfl
@[simp] theorem State.setFlash_lib (s : State) (m : Flash) : (s.setFlash m).lib = s.lib := rfl
@[simp] theorem State.setFlash_segment (s : State) (m : Flash) (j : Fin 4) : (s.setFlash m).segment j = s.segment j := rfl
@[simp] theorem State.setFlash_channel (s : State) (m : Flash) (j : Fin 16) : (s.setFlash m).channel j = s.channel j := rfl
@[simp] theorem State.setFlash_path (s : State) (m : Flash) (j : Fin 12) : (s.setFlash m).path j = s.path j := rfl
@[simp] theorem State.setFlash_gate (s : State) (m : Flash) (j : Fin 6) : (s.setFlash m).gate j = s.gate j := rfl
@[simp] theorem State.setFlash_counter (s : State) (m : Flash) (j : Fin 12) : (s.setFlash m).counter j = s.counter j := rfl
@[simp] theorem State.setFlash_flasher (s : State) (m : Flash) (j : Fin 8) : (s.setFlash m).flasher j = s.flasher j := rfl
@[simp] theorem State.setFlash_sign (s : State) (m : Flash) (j : Fin 16) : (s.setFlash m).sign j = s.sign j := rfl
@[simp] theorem State.setFlash_line (s : State) (m : Flash) (j : Fin 2) : (s.setFlash m).line j = s.line j := rfl

@[simp] theorem State.setFlash_now (s : State) (m : Flash) : (s.setFlash m).now = s.now := rfl
@[simp] theorem State.setFlash_inReserve (s : State) (m : Flash) : (s.setFlash m).inReserve = s.inReserve := rfl

/-! ### freeFlash -/

@[simp] theorem State.freeFlash_pending (s : State) (a n : Nat) : (s.freeFlash a n).pending = s.pending := rfl
@[simp] theorem State.freeFlash_due (s : State) (a n : Nat) : (s.freeFlash a n).due = s.due := rfl
@[simp] theorem State.freeFlash_tmb (s : State) (a n : Nat) : (s.freeFlash a n).tmb = s.tmb := rfl
@[simp] theorem State.freeFlash_link (s : State) (a n : Nat) : (s.freeFlash a n).link = s.link := rfl
@[simp] theorem State.freeFlash_segments (s : State) (a n : Nat) : (s.freeFlash a n).segments = s.segments := rfl
@[simp] theorem State.freeFlash_reserveRequest (s : State) (a n : Nat) : (s.freeFlash a n).reserveRequest = s.reserveRequest := rfl
@[simp] theorem State.freeFlash_supplyLow (s : State) (a n : Nat) : (s.freeFlash a n).supplyLow = s.supplyLow := rfl
@[simp] theorem State.freeFlash_analog (s : State) (a n : Nat) : (s.freeFlash a n).analog = s.analog := rfl
@[simp] theorem State.freeFlash_channels (s : State) (a n : Nat) : (s.freeFlash a n).channels = s.channels := rfl
@[simp] theorem State.freeFlash_economy (s : State) (a n : Nat) : (s.freeFlash a n).economy = s.economy := rfl
@[simp] theorem State.freeFlash_paths (s : State) (a n : Nat) : (s.freeFlash a n).paths = s.paths := rfl
@[simp] theorem State.freeFlash_trace (s : State) (a n : Nat) : (s.freeFlash a n).trace = s.trace := rfl
@[simp] theorem State.freeFlash_gates (s : State) (a n : Nat) : (s.freeFlash a n).gates = s.gates := rfl
@[simp] theorem State.freeFlash_counters (s : State) (a n : Nat) : (s.freeFlash a n).counters = s.counters := rfl
@[simp] theorem State.freeFlash_patterns (s : State) (a n : Nat) : (s.freeFlash a n).patterns = s.patterns := rfl
@[simp] theorem State.freeFlash_flashers (s : State) (a n : Nat) : (s.freeFlash a n).flashers = s.flashers := rfl
@[simp] theorem State.freeFlash_notices (s : State) (a n : Nat) : (s.freeFlash a n).notices = s.notices := rfl
@[simp] theorem State.freeFlash_signs (s : State) (a n : Nat) : (s.freeFlash a n).signs = s.signs := rfl
@[simp] theorem State.freeFlash_lines (s : State) (a n : Nat) : (s.freeFlash a n).lines = s.lines := rfl
@[simp] theorem State.freeFlash_lib (s : State) (a n : Nat) : (s.freeFlash a n).lib = s.lib := rfl
@[simp] theorem State.freeFlash_segment (s : State) (a n : Nat) (j : Fin 4) : (s.freeFlash a n).segment j = s.segment j := rfl
@[simp] theorem State.freeFlash_channel (s : State) (a n : Nat) (j : Fin 16) : (s.freeFlash a n).channel j = s.channel j := rfl
@[simp] theorem State.freeFlash_path (s : State) (a n : Nat) (j : Fin 12) : (s.freeFlash a n).path j = s.path j := rfl
@[simp] theorem State.freeFlash_gate (s : State) (a n : Nat) (j : Fin 6) : (s.freeFlash a n).gate j = s.gate j := rfl
@[simp] theorem State.freeFlash_counter (s : State) (a n : Nat) (j : Fin 12) : (s.freeFlash a n).counter j = s.counter j := rfl
@[simp] theorem State.freeFlash_flasher (s : State) (a n : Nat) (j : Fin 8) : (s.freeFlash a n).flasher j = s.flasher j := rfl
@[simp] theorem State.freeFlash_sign (s : State) (a n : Nat) (j : Fin 16) : (s.freeFlash a n).sign j = s.sign j := rfl
@[simp] theorem State.freeFlash_line (s : State) (a n : Nat) (j : Fin 2) : (s.freeFlash a n).line j = s.line j := rfl

@[simp] theorem State.freeFlash_now (s : State) (a n : Nat) : (s.freeFlash a n).now = s.now := rfl
@[simp] theorem State.freeFlash_inReserve (s : State) (a n : Nat) : (s.freeFlash a n).inReserve = s.inReserve := rfl

/-! ### setPassClock -/

@[simp] theorem State.setPassClock_pending (s : State) (n : Nat) : (s.setPassClock n).pending = s.pending := rfl
@[simp] theorem State.setPassClock_due (s : State) (n : Nat) : (s.setPassClock n).due = s.due := rfl
@[simp] theorem State.setPassClock_freeCount (s : State) (n : Nat) : (s.setPassClock n).freeCount = s.freeCount := rfl
@[simp] theorem State.setPassClock_link (s : State) (n : Nat) : (s.setPassClock n).link = s.link := rfl
@[simp] theorem State.setPassClock_segments (s : State) (n : Nat) : (s.setPassClock n).segments = s.segments := rfl
@[simp] theorem State.setPassClock_reserveRequest (s : State) (n : Nat) : (s.setPassClock n).reserveRequest = s.reserveRequest := rfl
@[simp] theorem State.setPassClock_supplyLow (s : State) (n : Nat) : (s.setPassClock n).supplyLow = s.supplyLow := rfl
@[simp] theorem State.setPassClock_analog (s : State) (n : Nat) : (s.setPassClock n).analog = s.analog := rfl
@[simp] theorem State.setPassClock_channels (s : State) (n : Nat) : (s.setPassClock n).channels = s.channels := rfl
@[simp] theorem State.setPassClock_economy (s : State) (n : Nat) : (s.setPassClock n).economy = s.economy := rfl
@[simp] theorem State.setPassClock_paths (s : State) (n : Nat) : (s.setPassClock n).paths = s.paths := rfl
@[simp] theorem State.setPassClock_trace (s : State) (n : Nat) : (s.setPassClock n).trace = s.trace := rfl
@[simp] theorem State.setPassClock_gates (s : State) (n : Nat) : (s.setPassClock n).gates = s.gates := rfl
@[simp] theorem State.setPassClock_counters (s : State) (n : Nat) : (s.setPassClock n).counters = s.counters := rfl
@[simp] theorem State.setPassClock_patterns (s : State) (n : Nat) : (s.setPassClock n).patterns = s.patterns := rfl
@[simp] theorem State.setPassClock_flashers (s : State) (n : Nat) : (s.setPassClock n).flashers = s.flashers := rfl
@[simp] theorem State.setPassClock_notices (s : State) (n : Nat) : (s.setPassClock n).notices = s.notices := rfl
@[simp] theorem State.setPassClock_signs (s : State) (n : Nat) : (s.setPassClock n).signs = s.signs := rfl
@[simp] theorem State.setPassClock_lines (s : State) (n : Nat) : (s.setPassClock n).lines = s.lines := rfl
@[simp] theorem State.setPassClock_lib (s : State) (n : Nat) : (s.setPassClock n).lib = s.lib := rfl
@[simp] theorem State.setPassClock_flash (s : State) (n : Nat) : (s.setPassClock n).flash = s.flash := rfl
@[simp] theorem State.setPassClock_segment (s : State) (n : Nat) (j : Fin 4) : (s.setPassClock n).segment j = s.segment j := rfl
@[simp] theorem State.setPassClock_channel (s : State) (n : Nat) (j : Fin 16) : (s.setPassClock n).channel j = s.channel j := rfl
@[simp] theorem State.setPassClock_path (s : State) (n : Nat) (j : Fin 12) : (s.setPassClock n).path j = s.path j := rfl
@[simp] theorem State.setPassClock_gate (s : State) (n : Nat) (j : Fin 6) : (s.setPassClock n).gate j = s.gate j := rfl
@[simp] theorem State.setPassClock_counter (s : State) (n : Nat) (j : Fin 12) : (s.setPassClock n).counter j = s.counter j := rfl
@[simp] theorem State.setPassClock_flasher (s : State) (n : Nat) (j : Fin 8) : (s.setPassClock n).flasher j = s.flasher j := rfl
@[simp] theorem State.setPassClock_sign (s : State) (n : Nat) (j : Fin 16) : (s.setPassClock n).sign j = s.sign j := rfl
@[simp] theorem State.setPassClock_line (s : State) (n : Nat) (j : Fin 2) : (s.setPassClock n).line j = s.line j := rfl

@[simp] theorem State.setPassClock_inReserve (s : State) (n : Nat) : (s.setPassClock n).inReserve = s.inReserve := rfl

/-! ### withPending -/

@[simp] theorem State.withPending_due (s : State) (q : List Instr) : (s.withPending q).due = s.due := rfl
@[simp] theorem State.withPending_freeCount (s : State) (q : List Instr) : (s.withPending q).freeCount = s.freeCount := rfl
@[simp] theorem State.withPending_tmb (s : State) (q : List Instr) : (s.withPending q).tmb = s.tmb := rfl
@[simp] theorem State.withPending_link (s : State) (q : List Instr) : (s.withPending q).link = s.link := rfl
@[simp] theorem State.withPending_segments (s : State) (q : List Instr) : (s.withPending q).segments = s.segments := rfl
@[simp] theorem State.withPending_reserveRequest (s : State) (q : List Instr) : (s.withPending q).reserveRequest = s.reserveRequest := rfl
@[simp] theorem State.withPending_supplyLow (s : State) (q : List Instr) : (s.withPending q).supplyLow = s.supplyLow := rfl
@[simp] theorem State.withPending_analog (s : State) (q : List Instr) : (s.withPending q).analog = s.analog := rfl
@[simp] theorem State.withPending_channels (s : State) (q : List Instr) : (s.withPending q).channels = s.channels := rfl
@[simp] theorem State.withPending_economy (s : State) (q : List Instr) : (s.withPending q).economy = s.economy := rfl
@[simp] theorem State.withPending_paths (s : State) (q : List Instr) : (s.withPending q).paths = s.paths := rfl
@[simp] theorem State.withPending_trace (s : State) (q : List Instr) : (s.withPending q).trace = s.trace := rfl
@[simp] theorem State.withPending_gates (s : State) (q : List Instr) : (s.withPending q).gates = s.gates := rfl
@[simp] theorem State.withPending_counters (s : State) (q : List Instr) : (s.withPending q).counters = s.counters := rfl
@[simp] theorem State.withPending_patterns (s : State) (q : List Instr) : (s.withPending q).patterns = s.patterns := rfl
@[simp] theorem State.withPending_flashers (s : State) (q : List Instr) : (s.withPending q).flashers = s.flashers := rfl
@[simp] theorem State.withPending_notices (s : State) (q : List Instr) : (s.withPending q).notices = s.notices := rfl
@[simp] theorem State.withPending_signs (s : State) (q : List Instr) : (s.withPending q).signs = s.signs := rfl
@[simp] theorem State.withPending_lines (s : State) (q : List Instr) : (s.withPending q).lines = s.lines := rfl
@[simp] theorem State.withPending_lib (s : State) (q : List Instr) : (s.withPending q).lib = s.lib := rfl
@[simp] theorem State.withPending_flash (s : State) (q : List Instr) : (s.withPending q).flash = s.flash := rfl
@[simp] theorem State.withPending_segment (s : State) (q : List Instr) (j : Fin 4) : (s.withPending q).segment j = s.segment j := rfl
@[simp] theorem State.withPending_channel (s : State) (q : List Instr) (j : Fin 16) : (s.withPending q).channel j = s.channel j := rfl
@[simp] theorem State.withPending_path (s : State) (q : List Instr) (j : Fin 12) : (s.withPending q).path j = s.path j := rfl
@[simp] theorem State.withPending_gate (s : State) (q : List Instr) (j : Fin 6) : (s.withPending q).gate j = s.gate j := rfl
@[simp] theorem State.withPending_counter (s : State) (q : List Instr) (j : Fin 12) : (s.withPending q).counter j = s.counter j := rfl
@[simp] theorem State.withPending_flasher (s : State) (q : List Instr) (j : Fin 8) : (s.withPending q).flasher j = s.flasher j := rfl
@[simp] theorem State.withPending_sign (s : State) (q : List Instr) (j : Fin 16) : (s.withPending q).sign j = s.sign j := rfl
@[simp] theorem State.withPending_line (s : State) (q : List Instr) (j : Fin 2) : (s.withPending q).line j = s.line j := rfl

@[simp] theorem State.withPending_now (s : State) (q : List Instr) : (s.withPending q).now = s.now := rfl
@[simp] theorem State.withPending_inReserve (s : State) (q : List Instr) : (s.withPending q).inReserve = s.inReserve := rfl

/-! ### askArbitration -/

@[simp] theorem State.askArbitration_pending (s : State) (l : Fin 2) : (s.askArbitration l).pending = s.pending := rfl
@[simp] theorem State.askArbitration_due (s : State) (l : Fin 2) : (s.askArbitration l).due = s.due := rfl
@[simp] theorem State.askArbitration_freeCount (s : State) (l : Fin 2) : (s.askArbitration l).freeCount = s.freeCount := rfl
@[simp] theorem State.askArbitration_tmb (s : State) (l : Fin 2) : (s.askArbitration l).tmb = s.tmb := rfl
@[simp] theorem State.askArbitration_link (s : State) (l : Fin 2) : (s.askArbitration l).link = s.link := rfl
@[simp] theorem State.askArbitration_segments (s : State) (l : Fin 2) : (s.askArbitration l).segments = s.segments := rfl
@[simp] theorem State.askArbitration_reserveRequest (s : State) (l : Fin 2) : (s.askArbitration l).reserveRequest = s.reserveRequest := rfl
@[simp] theorem State.askArbitration_supplyLow (s : State) (l : Fin 2) : (s.askArbitration l).supplyLow = s.supplyLow := rfl
@[simp] theorem State.askArbitration_analog (s : State) (l : Fin 2) : (s.askArbitration l).analog = s.analog := rfl
@[simp] theorem State.askArbitration_channels (s : State) (l : Fin 2) : (s.askArbitration l).channels = s.channels := rfl
@[simp] theorem State.askArbitration_economy (s : State) (l : Fin 2) : (s.askArbitration l).economy = s.economy := rfl
@[simp] theorem State.askArbitration_paths (s : State) (l : Fin 2) : (s.askArbitration l).paths = s.paths := rfl
@[simp] theorem State.askArbitration_trace (s : State) (l : Fin 2) : (s.askArbitration l).trace = s.trace := rfl
@[simp] theorem State.askArbitration_gates (s : State) (l : Fin 2) : (s.askArbitration l).gates = s.gates := rfl
@[simp] theorem State.askArbitration_counters (s : State) (l : Fin 2) : (s.askArbitration l).counters = s.counters := rfl
@[simp] theorem State.askArbitration_patterns (s : State) (l : Fin 2) : (s.askArbitration l).patterns = s.patterns := rfl
@[simp] theorem State.askArbitration_flashers (s : State) (l : Fin 2) : (s.askArbitration l).flashers = s.flashers := rfl
@[simp] theorem State.askArbitration_notices (s : State) (l : Fin 2) : (s.askArbitration l).notices = s.notices := rfl
@[simp] theorem State.askArbitration_signs (s : State) (l : Fin 2) : (s.askArbitration l).signs = s.signs := rfl
@[simp] theorem State.askArbitration_lib (s : State) (l : Fin 2) : (s.askArbitration l).lib = s.lib := rfl
@[simp] theorem State.askArbitration_flash (s : State) (l : Fin 2) : (s.askArbitration l).flash = s.flash := rfl
@[simp] theorem State.askArbitration_segment (s : State) (l : Fin 2) (j : Fin 4) : (s.askArbitration l).segment j = s.segment j := rfl
@[simp] theorem State.askArbitration_channel (s : State) (l : Fin 2) (j : Fin 16) : (s.askArbitration l).channel j = s.channel j := rfl
@[simp] theorem State.askArbitration_path (s : State) (l : Fin 2) (j : Fin 12) : (s.askArbitration l).path j = s.path j := rfl
@[simp] theorem State.askArbitration_gate (s : State) (l : Fin 2) (j : Fin 6) : (s.askArbitration l).gate j = s.gate j := rfl
@[simp] theorem State.askArbitration_counter (s : State) (l : Fin 2) (j : Fin 12) : (s.askArbitration l).counter j = s.counter j := rfl
@[simp] theorem State.askArbitration_flasher (s : State) (l : Fin 2) (j : Fin 8) : (s.askArbitration l).flasher j = s.flasher j := rfl
@[simp] theorem State.askArbitration_sign (s : State) (l : Fin 2) (j : Fin 16) : (s.askArbitration l).sign j = s.sign j := rfl

@[simp] theorem State.askArbitration_now (s : State) (l : Fin 2) : (s.askArbitration l).now = s.now := rfl
@[simp] theorem State.askArbitration_inReserve (s : State) (l : Fin 2) : (s.askArbitration l).inReserve = s.inReserve := rfl

/-! ### The owned fields of the named updates -/

@[simp] theorem State.post_link (s : State) (o : Obj) (f : BitVec 16) :
    (s.post o f).link = { s.link with reports := addReport o f s.link.reports } := rfl
@[simp] theorem State.updLib_lib (s : State) (f : Library → Library) : (s.updLib f).lib = f s.lib := rfl
@[simp] theorem State.updLink_link (s : State) (f : Link → Link) : (s.updLink f).link = f s.link := rfl
@[simp] theorem State.setFlash_flash (s : State) (m : Flash) : (s.setFlash m).flash = m := rfl
@[simp] theorem State.withPending_pending (s : State) (q : List Instr) : (s.withPending q).pending = q := rfl
@[simp] theorem State.setPassClock_tmb (s : State) (n : Nat) :
    (s.setPassClock n).tmb = { s.tmb with passClock := some n } := rfl
@[simp] theorem State.setSlot_notices (s : State) (i : Fin 24) (x : Option Notice) :
    (s.setSlot i x).notices = { s.notices with slots := s.notices.slots.set i x } := rfl

end Sys2Proof.Machine
end

