-- ==== Sys2Proof/Laws/SignFrames.lean ====
section
/-! SUPPORT. What the sign, line and plan operations leave alone: everything but signs, lines and the report set
(`State.exceptSigns`). A claim about a command that reaches them cites these in place of unfolding them. -/

namespace Sys2Proof.Machine

/-- What every step of a fold leaves alone, the fold leaves alone. -/
theorem foldl_leaves {α β : Type} (E : State → β) (f : State → α → State) (h : ∀ s a, E (f s a) = E s) (l : List α)
    (s : State) : E (l.foldl f s) = E s := by
  induction l generalizing s with
  | nil => rfl
  | cons a rest ih => rw [List.foldl_cons, ih, h]

/-! ### The named updates -/

@[simp] theorem State.setSign_exceptSigns (s : State) (n : Fin 16) (g : Sign) :
    (s.setSign n g).exceptSigns = s.exceptSigns := rfl

@[simp] theorem State.updSign_exceptSigns (s : State) (n : Fin 16) (f : Sign → Sign) :
    (s.updSign n f).exceptSigns = s.exceptSigns := rfl

@[simp] theorem State.setLine_exceptSigns (s : State) (l : Fin 2) (r : Line) :
    (s.setLine l r).exceptSigns = s.exceptSigns := rfl

@[simp] theorem State.updLine_exceptSigns (s : State) (l : Fin 2) (f : Line → Line) :
    (s.updLine l f).exceptSigns = s.exceptSigns := rfl

@[simp] theorem State.post_exceptSigns (s : State) (o : Obj) (f : BitVec 16) :
    (s.post o f).exceptSigns = s.exceptSigns := rfl

@[simp] theorem State.postIf_exceptSigns (s : State) (c : Bool) (o : Obj) (f : BitVec 16) :
    (s.postIf c o f).exceptSigns = s.exceptSigns := by cases c <;> rfl

@[simp] theorem State.askArbitration_exceptSigns (s : State) (l : Fin 2) :
    (s.askArbitration l).exceptSigns = s.exceptSigns := rfl

/-! ### Hold and wake (R164, R165, R167, R168) -/

@[simp] theorem State.clearHoldNeed_exceptSigns (s : State) (n : Fin 16) :
    (s.clearHoldNeed n).exceptSigns = s.exceptSigns := rfl

@[simp] theorem State.raiseHeldRestore_exceptSigns (s : State) (n : Fin 16) :
    (s.raiseHeldRestore n).exceptSigns = s.exceptSigns := rfl

@[simp] theorem State.checkResume_exceptSigns (s : State) (l : Fin 2) :
    (s.checkResume l).exceptSigns = s.exceptSigns := by
  unfold State.checkResume; split <;> rfl

@[simp] theorem State.checkHeld_exceptSigns (s : State) (l : Fin 2) :
    (s.checkHeld l).exceptSigns = s.exceptSigns := by
  unfold State.checkHeld; split <;> rfl

@[simp] theorem State.wake_exceptSigns (s : State) (l : Fin 2) (c : Nat) : (s.wake l c).exceptSigns = s.exceptSigns := by
  unfold State.wake
  split
  · simp [foldl_leaves State.exceptSigns State.raiseHeldRestore State.raiseHeldRestore_exceptSigns,
      foldl_leaves State.exceptSigns State.clearHoldNeed State.clearHoldNeed_exceptSigns]
  · rfl

@[simp] theorem State.restoreRaised_exceptSigns (s : State) (n : Fin 16) :
    (s.restoreRaised n).exceptSigns = s.exceptSigns := by simp [State.restoreRaised]

@[simp] theorem State.raiseRestore_exceptSigns (s : State) (n : Fin 16) :
    (s.raiseRestore n).exceptSigns = s.exceptSigns := by
  unfold State.raiseRestore; split <;> simp

/-! ### Service states and the load (R138, R155 to R160) -/

@[simp] theorem State.changeService_exceptSigns (s : State) (n : Fin 16) (v : Service) :
    (s.changeService n v).exceptSigns = s.exceptSigns := by
  unfold State.changeService
  dsimp only
  split
  · rfl
  · split <;> simp

@[simp] theorem State.setOverloaded_exceptSigns (s : State) (l : Fin 2) (v : Bool) :
    (s.setOverloaded l v).exceptSigns = s.exceptSigns := by
  unfold State.setOverloaded; split <;> rfl

@[simp] theorem State.recompute_exceptSigns (s : State) (l : Fin 2) : (s.recompute l).exceptSigns = s.exceptSigns := by
  unfold State.recompute; dsimp only; split <;> simp

@[simp] theorem State.shedSign_exceptSigns (s : State) (n : Fin 16) : (s.shedSign n).exceptSigns = s.exceptSigns := by
  simp [State.shedSign]

@[simp] theorem State.restoreSign_exceptSigns (s : State) (n : Fin 16) :
    (s.restoreSign n).exceptSigns = s.exceptSigns := by simp [State.restoreSign]

@[simp] theorem State.shedWhile_exceptSigns (k : Nat) (l : Fin 2) (s : State) :
    (State.shedWhile k l s).exceptSigns = s.exceptSigns := by
  induction k generalizing s with
  | zero => rfl
  | succ k ih =>
    unfold State.shedWhile
    split
    · rfl
    · split
      · rfl
      · simp [ih]

@[simp] theorem State.recomputeShed_exceptSigns (s : State) (l : Fin 2) :
    (s.recomputeShed l).exceptSigns = s.exceptSigns := by
  unfold State.recomputeShed; dsimp only; split <;> simp

@[simp] theorem State.restoreWhile_exceptSigns (k : Nat) (l : Fin 2) (s : State) :
    (State.restoreWhile k l s).exceptSigns = s.exceptSigns := by
  induction k generalizing s with
  | zero => rfl
  | succ k ih =>
    unfold State.restoreWhile
    split
    · rfl
    · split
      · simp [ih]
      · rfl

@[simp] theorem State.settleLoad_exceptSigns (s : State) (l : Fin 2) : (s.settleLoad l).exceptSigns = s.exceptSigns := by
  simp [State.settleLoad]

@[simp] theorem State.reserveShedOne_exceptSigns (s : State) (n : Fin 16) :
    (s.reserveShedOne n).exceptSigns = s.exceptSigns := by
  unfold State.reserveShedOne; split <;> simp

@[simp] theorem State.reserveShed_exceptSigns (s : State) (l : Fin 2) :
    (s.reserveShed l).exceptSigns = s.exceptSigns :=
  foldl_leaves State.exceptSigns _ State.reserveShedOne_exceptSigns _ s

@[simp] theorem State.reserveSettle_exceptSigns (s : State) (l : Fin 2) :
    (s.reserveSettle l).exceptSigns = s.exceptSigns := by
  unfold State.reserveSettle; split <;> simp

@[simp] theorem State.settleCounted_exceptSigns (s : State) (n : Fin 16) (g : Sign) :
    (s.settleCounted n g).exceptSigns = s.exceptSigns := by
  unfold State.settleCounted; split
  · rfl
  · split <;> simp

@[simp] theorem State.enterService_exceptSigns (s : State) (n : Fin 16) (v : Service) :
    (s.enterService n v).exceptSigns = s.exceptSigns := by simp [State.enterService]

/-! ### Granularity, lapse points and bands (R148 to R154) -/

@[simp] theorem State.adoptOne_exceptSigns (s : State) (n : Fin 16) : (s.adoptOne n).exceptSigns = s.exceptSigns := by
  unfold State.adoptOne; split <;> simp

@[simp] theorem State.adoptSigns_exceptSigns (s : State) (l : Fin 2) (ns : List (Fin 16)) :
    (s.adoptSigns l ns).exceptSigns = s.exceptSigns := by
  unfold State.adoptSigns; split
  · simp [foldl_leaves State.exceptSigns State.adoptOne State.adoptOne_exceptSigns]
  · rfl

@[simp] theorem State.retarget_exceptSigns (s : State) (l : Fin 2) : (s.retarget l).exceptSigns = s.exceptSigns := by
  unfold State.retarget; split <;> simp

@[simp] theorem State.checkLapse_exceptSigns (s : State) (n : Fin 16) : (s.checkLapse n).exceptSigns = s.exceptSigns := by
  unfold State.checkLapse; dsimp only; split <;> simp

@[simp] theorem State.checkCritical_exceptSigns (s : State) (n : Fin 16) :
    (s.checkCritical n).exceptSigns = s.exceptSigns := by
  unfold State.checkCritical; dsimp only; split <;> simp

@[simp] theorem State.lapsePointChanged_exceptSigns (s : State) (n : Fin 16) :
    (s.lapsePointChanged n).exceptSigns = s.exceptSigns := by
  unfold State.lapsePointChanged; dsimp only; split <;> split <;> simp

@[simp] theorem State.setBand_exceptSigns (s : State) (n : Fin 16) (b : Band) :
    (s.setBand n b).exceptSigns = s.exceptSigns := by
  unfold State.setBand; split <;> simp

/-! ### Plans (R119 to R123, R128) -/

@[simp] theorem State.needRaised_exceptSigns (s : State) (n : Fin 16) (c : Nat) :
    (s.needRaised n c).exceptSigns = s.exceptSigns := by
  simp [State.needRaised]

@[simp] theorem State.planRaised_exceptSigns (s : State) (n : Fin 16) : (s.planRaised n).exceptSigns = s.exceptSigns := by
  simp [State.planRaised]

@[simp] theorem State.replanSign_exceptSigns (s : State) (n : Fin 16) : (s.replanSign n).exceptSigns = s.exceptSigns := by
  unfold State.replanSign; dsimp only; split <;> rfl

@[simp] theorem State.restoreProtected_exceptSigns (s : State) (n : Fin 16) :
    (s.restoreProtected n).exceptSigns = s.exceptSigns := by
  unfold State.restoreProtected; split <;> simp

@[simp] theorem State.settleLinePlans_exceptSigns (s : State) (l : Fin 2) :
    (s.settleLinePlans l).exceptSigns = s.exceptSigns := by simp [State.settleLinePlans]

@[simp] theorem State.plansReplaced_exceptSigns (s : State) (ns : List (Fin 16)) :
    (s.plansReplaced ns).exceptSigns = s.exceptSigns := by
  unfold State.plansReplaced; dsimp only
  split <;> split <;>
    simp [foldl_leaves State.exceptSigns State.restoreProtected State.restoreProtected_exceptSigns,
      foldl_leaves State.exceptSigns State.planRaised State.planRaised_exceptSigns]

@[simp] theorem State.replanSigns_exceptSigns (s : State) (ns : List (Fin 16)) :
    (s.replanSigns ns).exceptSigns = s.exceptSigns := by
  unfold State.replanSigns; dsimp only
  split <;> simp [foldl_leaves State.exceptSigns State.replanSign State.replanSign_exceptSigns]

@[simp] theorem State.replan_exceptSigns (s : State) : s.replan.exceptSigns = s.exceptSigns := by simp [State.replan]

@[simp] theorem State.pageChangedFor_exceptSigns (p : Page) (s : State) (n : Fin 16) :
    (State.pageChangedFor p s n).exceptSigns = s.exceptSigns := by
  unfold State.pageChangedFor; split <;> simp

@[simp] theorem State.pageChanged_exceptSigns (s : State) (p : Page) : (s.pageChanged p).exceptSigns = s.exceptSigns :=
  foldl_leaves State.exceptSigns _ (State.pageChangedFor_exceptSigns p) _ s

end Sys2Proof.Machine
end

