-- ==== Sys2Proof/Laws/SegmentFrames.lean ====
section
/-! SUPPORT. What the segment, gate and flasher operations leave alone: everything but segments, gates, flashers and the report set
(`State.exceptBarriers`). -/

namespace Sys2Proof.Machine

/-! ### The named updates -/

@[simp] theorem State.setSegment_exceptBarriers (s : State) (i : Fin 4) (r : Segment) :
    (s.setSegment i r).exceptBarriers = s.exceptBarriers := rfl

@[simp] theorem State.updSegment_exceptBarriers (s : State) (i : Fin 4) (f : Segment → Segment) :
    (s.updSegment i f).exceptBarriers = s.exceptBarriers := rfl

@[simp] theorem State.setGate_exceptBarriers (s : State) (i : Fin 6) (r : Gate) :
    (s.setGate i r).exceptBarriers = s.exceptBarriers := rfl

@[simp] theorem State.updGate_exceptBarriers (s : State) (i : Fin 6) (f : Gate → Gate) :
    (s.updGate i f).exceptBarriers = s.exceptBarriers := rfl

@[simp] theorem State.setFlasher_exceptBarriers (s : State) (i : Fin 8) (r : Flasher) :
    (s.setFlasher i r).exceptBarriers = s.exceptBarriers := rfl

@[simp] theorem State.updFlasher_exceptBarriers (s : State) (i : Fin 8) (f : Flasher → Flasher) :
    (s.updFlasher i f).exceptBarriers = s.exceptBarriers := rfl

@[simp] theorem State.post_exceptBarriers (s : State) (o : Obj) (f : BitVec 16) :
    (s.post o f).exceptBarriers = s.exceptBarriers := rfl

@[simp] theorem State.postSeg_exceptBarriers (s : State) (i : Fin 4) (f : BitVec 16) :
    (s.postSeg i f).exceptBarriers = s.exceptBarriers := rfl

@[simp] theorem State.postGate_exceptBarriers (s : State) (i : Fin 6) (f : BitVec 16) :
    (s.postGate i f).exceptBarriers = s.exceptBarriers := rfl

@[simp] theorem State.postIf_exceptBarriers (s : State) (c : Bool) (o : Obj) (f : BitVec 16) :
    (s.postIf c o f).exceptBarriers = s.exceptBarriers := by cases c <;> rfl

/-! ### Flashers (R96, R99) -/

@[simp] theorem State.settleFlasher_exceptBarriers (s : State) (i : Fin 8) :
    (s.settleFlasher i).exceptBarriers = s.exceptBarriers := by
  unfold State.settleFlasher; dsimp only; split <;> simp

@[simp] theorem State.gateRequest_exceptBarriers (s : State) (i : Fin 8) (g : Fin 6) (c : FlashClass) :
    (s.gateRequest i g c).exceptBarriers = s.exceptBarriers := by simp [State.gateRequest]

@[simp] theorem State.pathRequest_exceptBarriers (s : State) (i : Fin 8) (p : Fin 12) (on : Bool) :
    (s.pathRequest i p on).exceptBarriers = s.exceptBarriers := by simp [State.pathRequest]

@[simp] theorem State.settleFlashers_exceptBarriers (s : State) :
    (s.settleFlashers).exceptBarriers = s.exceptBarriers := foldl_leaves State.exceptBarriers _ State.settleFlasher_exceptBarriers _ s

/-! ### Segments (R6, R10, R12, R14, R73) -/

@[simp] theorem State.setPosture_exceptBarriers (s : State) (i : Fin 4) (p : Posture) (ph : Phase) :
    (s.setPosture i p ph).exceptBarriers = s.exceptBarriers := by
  unfold State.setPosture; dsimp only; split <;> simp

@[simp] theorem State.evalOpen_exceptBarriers (s : State) (i : Fin 4) :
    (s.evalOpen i).exceptBarriers = s.exceptBarriers := by
  unfold State.evalOpen; split <;> simp

@[simp] theorem State.evalOccupied_exceptBarriers (s : State) (i : Fin 4) :
    (s.evalOccupied i).exceptBarriers = s.exceptBarriers := by
  unfold State.evalOccupied; dsimp only; split <;> simp

@[simp] theorem State.completeLower_exceptBarriers (s : State) (i : Fin 4) :
    (s.completeLower i).exceptBarriers = s.exceptBarriers := by
  unfold State.completeLower; split <;> simp

@[simp] theorem State.completeReopen_exceptBarriers (s : State) (i : Fin 4) :
    (s.completeReopen i).exceptBarriers = s.exceptBarriers := by
  unfold State.completeReopen; split <;> simp

@[simp] theorem State.gateChanged_exceptBarriers (s : State) (i : Fin 4) (a b : GateState) :
    (s.gateChanged i a b).exceptBarriers = s.exceptBarriers := by simp [State.gateChanged]

@[simp] theorem State.setCount_exceptBarriers (s : State) (i : Fin 4) (r : Segment) :
    (s.setCount i r).exceptBarriers = s.exceptBarriers := by
  unfold State.setCount; dsimp only; split <;> split <;> simp

@[simp] theorem State.moveVehicle_exceptBarriers (s : State) (side : Fin 5) (b : Bool) :
    (s.moveVehicle side b).exceptBarriers = s.exceptBarriers := by
  unfold State.moveVehicle; dsimp only; split <;> simp

@[simp] theorem State.setUncertain_exceptBarriers (s : State) (side : Fin 5) :
    (s.setUncertain side).exceptBarriers = s.exceptBarriers := by
  unfold State.setUncertain; dsimp only; split <;> simp

/-! ### Gates (R62 to R75) -/

@[simp] theorem State.putGate_exceptBarriers (s : State) (i : Fin 6) (a : GateState) (g : Gate) :
    (s.putGate i a g).exceptBarriers = s.exceptBarriers := by
  unfold State.putGate; dsimp only; split <;> split <;> simp

@[simp] theorem State.gateTo_exceptBarriers (s : State) (i : Fin 6) (v : GateState) :
    (s.gateTo i v).exceptBarriers = s.exceptBarriers := by
  unfold State.gateTo; dsimp only; split <;> simp

@[simp] theorem State.gatePause_exceptBarriers (s : State) (i : Fin 6) (d : Direction) :
    (s.gatePause i d).exceptBarriers = s.exceptBarriers := by simp [State.gatePause]

@[simp] theorem State.gateFault_exceptBarriers (s : State) (i : Fin 6) (c : FaultCause) :
    (s.gateFault i c).exceptBarriers = s.exceptBarriers := by
  unfold State.gateFault; split <;> simp

@[simp] theorem State.gateOpen_exceptBarriers (s : State) (i : Fin 6) :
    (s.gateOpen i).exceptBarriers = s.exceptBarriers := by simp [State.gateOpen]

@[simp] theorem State.reverse_exceptBarriers (s : State) (i : Fin 6) :
    (s.reverse i).exceptBarriers = s.exceptBarriers := by
  unfold State.reverse; dsimp only; split
  · simp
  · split <;> simp

@[simp] theorem State.lower_exceptBarriers (s : State) (i : Fin 6) :
    (s.lower i).exceptBarriers = s.exceptBarriers := by
  unfold State.lower; split <;> simp

@[simp] theorem State.pauseUp_exceptBarriers (s : State) (i : Fin 6) :
    (s.pauseUp i).exceptBarriers = s.exceptBarriers := by
  unfold State.pauseUp; split <;> simp

@[simp] theorem State.endPause_exceptBarriers (s : State) (i : Fin 6) :
    (s.endPause i).exceptBarriers = s.exceptBarriers := by
  unfold State.endPause; dsimp only; split
  · simp
  · split
    · simp
    · split <;> simp
  · rfl

@[simp] theorem State.gateDown_exceptBarriers (s : State) (i : Fin 6) :
    (s.gateDown i).exceptBarriers = s.exceptBarriers := by
  unfold State.gateDown; dsimp only; split <;> try simp
  split <;> simp

@[simp] theorem State.gateUp_exceptBarriers (s : State) (i : Fin 6) :
    (s.gateUp i).exceptBarriers = s.exceptBarriers := by
  unfold State.gateUp; dsimp only; split <;> try simp
  split <;> simp

@[simp] theorem State.gateBack_exceptBarriers (s : State) (i : Fin 6) :
    (s.gateBack i).exceptBarriers = s.exceptBarriers := by
  unfold State.gateBack; split <;> simp

@[simp] theorem State.gatesDown_exceptBarriers (s : State) (i : Fin 4) :
    (s.gatesDown i).exceptBarriers = s.exceptBarriers := foldl_leaves State.exceptBarriers _ State.gateDown_exceptBarriers _ s

@[simp] theorem State.gatesUp_exceptBarriers (s : State) (i : Fin 4) :
    (s.gatesUp i).exceptBarriers = s.exceptBarriers := foldl_leaves State.exceptBarriers _ State.gateUp_exceptBarriers _ s

@[simp] theorem State.arrive_exceptBarriers (s : State) (i : Fin 6) (d : LimitSide) :
    (s.arrive i d).exceptBarriers = s.exceptBarriers := by
  unfold State.arrive; split <;> try simp
  split <;> simp

@[simp] theorem State.limitArrives_exceptBarriers (s : State) (i : Fin 6) (d : LimitSide) :
    (s.limitArrives i d).exceptBarriers = s.exceptBarriers := by
  unfold State.limitArrives; dsimp only; split
  · rfl
  · split
    · rfl
    · split <;> simp

@[simp] theorem State.limitDeparts_exceptBarriers (s : State) (i : Fin 6) (d : LimitSide) :
    (s.limitDeparts i d).exceptBarriers = s.exceptBarriers := by
  unfold State.limitDeparts; dsimp only; split
  · rfl
  · split <;> split <;> simp

@[simp] theorem State.presenceTo_exceptBarriers (s : State) (i : Fin 6) (v : Bool) :
    (s.presenceTo i v).exceptBarriers = s.exceptBarriers := by
  unfold State.presenceTo; dsimp only; split
  · rfl
  · split <;> simp

@[simp] theorem State.relowerGate_exceptBarriers (s : State) (i : Fin 6) :
    (s.relowerGate i).exceptBarriers = s.exceptBarriers := by
  unfold State.relowerGate; split <;> simp

/-! ### Closing and reopening (R3 to R13) -/

@[simp] theorem State.enterLower_exceptBarriers (s : State) (i : Fin 4) :
    (s.enterLower i).exceptBarriers = s.exceptBarriers := by simp [State.enterLower]

@[simp] theorem State.endConfirm_exceptBarriers (s : State) (i : Fin 4) :
    (s.endConfirm i).exceptBarriers = s.exceptBarriers := by
  unfold State.endConfirm; split <;> simp

@[simp] theorem State.timeoutConfirm_exceptBarriers (s : State) (i : Fin 4) :
    (s.timeoutConfirm i).exceptBarriers = s.exceptBarriers := by
  unfold State.timeoutConfirm; split <;> simp

@[simp] theorem State.endLead_exceptBarriers (s : State) (i : Fin 4) :
    (s.endLead i).exceptBarriers = s.exceptBarriers := by
  unfold State.endLead; split <;> simp

@[simp] theorem State.evalConfirmPhase_exceptBarriers (s : State) (i : Fin 4) :
    (s.evalConfirmPhase i).exceptBarriers = s.exceptBarriers := by
  unfold State.evalConfirmPhase; split <;> simp

@[simp] theorem State.evalConfirm_exceptBarriers (s : State) (i : Fin 4) :
    (s.evalConfirm i).exceptBarriers = s.exceptBarriers := by
  unfold State.evalConfirm; dsimp only; split <;> simp

@[simp] theorem State.beginConfirm_exceptBarriers (s : State) (i : Fin 4) :
    (s.beginConfirm i).exceptBarriers = s.exceptBarriers := by simp [State.beginConfirm]

@[simp] theorem State.enterReopening_exceptBarriers (s : State) (i : Fin 4) :
    (s.enterReopening i).exceptBarriers = s.exceptBarriers := by simp [State.enterReopening]

@[simp] theorem State.causeEffect_exceptBarriers (s : State) (i : Fin 4) (c : Cause) (b : Bool) :
    (s.causeEffect i c b).exceptBarriers = s.exceptBarriers := by
  unfold State.causeEffect; split <;>
    (try simp [foldl_leaves State.exceptBarriers State.gateBack State.gateBack_exceptBarriers]) <;> split <;> simp

@[simp] theorem State.addCause_exceptBarriers (s : State) (i : Fin 4) (c : Cause) :
    (s.addCause i c).exceptBarriers = s.exceptBarriers := by
  unfold State.addCause; dsimp only; split <;> simp

@[simp] theorem State.removeCause_exceptBarriers (s : State) (i : Fin 4) (c : Cause) :
    (s.removeCause i c).exceptBarriers = s.exceptBarriers := by
  unfold State.removeCause; dsimp only; split
  · rfl
  · split <;> simp

@[simp] theorem State.gateJoins_exceptBarriers (s : State) (i : Fin 4) (g : Fin 6) :
    (s.gateJoins i g).exceptBarriers = s.exceptBarriers := by
  unfold State.gateJoins; dsimp only; split
  · simp
  · split <;> simp

@[simp] theorem State.gatesChanged_exceptBarriers (s : State) (i : Fin 4) :
    (s.gatesChanged i).exceptBarriers = s.exceptBarriers := by simp [State.gatesChanged]

@[simp] theorem State.evalConfirmFor_exceptBarriers (a s : State) (i : Fin 4) :
    (State.evalConfirmFor a s i).exceptBarriers = s.exceptBarriers := by
  unfold State.evalConfirmFor; split <;> simp

/-- The hand-overs of changed signs reach segments, gates, flashers and the report set alone (R125). -/
@[simp] theorem State.handSigns_exceptBarriers (a s : State) : (State.handSigns a s).exceptBarriers = s.exceptBarriers :=
  foldl_leaves State.exceptBarriers _ (State.evalConfirmFor_exceptBarriers a) _ s

/-- Where no sign differs from before, nothing is handed over. -/
theorem State.handSigns_same (a s : State) (h : s.signs = a.signs) : State.handSigns a s = s := by
  have hs : ∀ n, s.sign n = a.sign n := fun n => by simp [State.sign, h]
  have hn : ∀ i, a.advanceOf i = s.advanceOf i := fun i => by simp [State.advanceOf, hs]
  have step : ∀ i, State.evalConfirmFor a s i = s := fun i => by
    unfold State.evalConfirmFor
    rw [if_neg]
    simp [hn, hs]
  have key : ∀ l : List (Fin 4), l.foldl (State.evalConfirmFor a) s = s := fun l => by
    induction l with
    | nil => rfl
    | cons i rest ih => rw [List.foldl_cons, step, ih]
  exact key _

end Sys2Proof.Machine
end

