-- ==== Sys2Proof/Laws/Arbitration.lean ====
section
/-! SUPPORT. The end of a step: what the flash port, an arbitration and the hand-overs can reach, and that no arbitration is owed
between steps (R125, R141, R174). -/

namespace Sys2Proof.Machine

/-! ### The named updates leave everything but lines, the library and the report set -/

@[simp] theorem State.updLib_exceptTraffic (s : State) (f : Library → Library) :
    (s.updLib f).exceptTraffic = s.exceptTraffic := rfl

@[simp] theorem State.setLine_exceptTraffic (s : State) (l : Fin 2) (r : Line) :
    (s.setLine l r).exceptTraffic = s.exceptTraffic := rfl

@[simp] theorem State.updLine_exceptTraffic (s : State) (l : Fin 2) (f : Line → Line) :
    (s.updLine l f).exceptTraffic = s.exceptTraffic := rfl

@[simp] theorem State.post_exceptTraffic (s : State) (o : Obj) (f : BitVec 16) :
    (s.post o f).exceptTraffic = s.exceptTraffic := rfl

@[simp] theorem State.updWay_exceptTraffic (s : State) (p : Page) (w : Bool) (f : CacheLine → CacheLine) :
    (s.updWay p w f).exceptTraffic = s.exceptTraffic := rfl

@[simp] theorem State.useWay_exceptTraffic (s : State) (p : Page) (w : Bool) :
    (s.useWay p w).exceptTraffic = s.exceptTraffic := rfl

@[simp] theorem State.installStrip_exceptTraffic (s : State) (p : Page) (w : Bool) (i : Fin 8) (d : StripData) :
    (s.installStrip p w i d).exceptTraffic = s.exceptTraffic := rfl

@[simp] theorem State.dropStrip_exceptTraffic (s : State) (p : Page) (w : Bool) (i : Fin 8) :
    (s.dropStrip p w i).exceptTraffic = s.exceptTraffic := rfl

@[simp] theorem State.parityError_exceptTraffic (s : State) (p : Page) (w : Bool) (i : Fin 8) :
    (s.parityError p w i).exceptTraffic = s.exceptTraffic := rfl

@[simp] theorem State.askArbitration_exceptTraffic (s : State) (l : Fin 2) :
    (s.askArbitration l).exceptTraffic = s.exceptTraffic := rfl

@[simp] theorem State.askBoth_exceptTraffic (s : State) : s.askBoth.exceptTraffic = s.exceptTraffic := rfl

/-! ### Fills and the port arbiter (R173 to R175) -/

@[simp] theorem State.requestFill_exceptTraffic (s : State) (p : Page) (m : BitVec 8) :
    (s.requestFill p m).exceptTraffic = s.exceptTraffic := by
  unfold State.requestFill
  split
  · rfl
  · split
    · rfl
    · split <;> rfl

@[simp] theorem State.startFill_exceptTraffic (s : State) (p : Page) (w : Bool) :
    (s.startFill p w).exceptTraffic = s.exceptTraffic := by
  unfold State.startFill; dsimp only; split <;> rfl

@[simp] theorem State.endFill_exceptTraffic (s : State) (p : Page) : (s.endFill p).exceptTraffic = s.exceptTraffic := rfl

@[simp] theorem State.runFill_exceptTraffic (n : Nat) (s : State) :
    (State.runFill n s).exceptTraffic = s.exceptTraffic := by
  induction n generalizing s with
  | zero => rfl
  | succ n ih =>
    unfold State.runFill
    split
    · split
      · simp
      · split <;> simp [ih]
    · rfl

@[simp] theorem State.arbitratePort_exceptTraffic (n : Nat) (s : State) :
    (State.arbitratePort n s).exceptTraffic = s.exceptTraffic := by
  induction n generalizing s with
  | zero => rfl
  | succ n ih =>
    unfold State.arbitratePort
    split
    · rfl
    · split
      · simp [ih]
      · split <;> rfl

@[simp] theorem State.portChoice_exceptTraffic (s : State) : s.portChoice.exceptTraffic = s.exceptTraffic :=
  s.arbitratePort_exceptTraffic 6

/-- A busy port is left as it is (R174). -/
theorem State.portChoice_busy (s : State) (h : s.lib.port ≠ .idle) : s.portChoice = s := by
  unfold State.portChoice State.arbitratePort
  rw [if_pos h]

/-! ### Line arbitrations (R141, R142) -/

@[simp] theorem State.sendFrame_exceptTraffic (s : State) (c : Candidate) (b : Bool) :
    (s.sendFrame c b).exceptTraffic = s.exceptTraffic := by
  unfold State.sendFrame; dsimp only; split <;> rfl

@[simp] theorem State.passOver_exceptTraffic (s : State) (c : Candidate) :
    (s.passOver c).exceptTraffic = s.exceptTraffic := by
  unfold State.passOver
  split
  · split <;> simp
  · rfl

@[simp] theorem State.takeCandidates_exceptTraffic (cs : List Candidate) (s : State) :
    (State.takeCandidates cs s).exceptTraffic = s.exceptTraffic := by
  induction cs generalizing s with
  | nil => rfl
  | cons c rest ih =>
    unfold State.takeCandidates
    split
    · split <;> simp [ih]
    · split <;> simp [ih]

@[simp] theorem State.arbitrate_exceptTraffic (s : State) (l : Fin 2) :
    (s.arbitrate l).exceptTraffic = s.exceptTraffic := by
  unfold State.arbitrate; split <;> simp

@[simp] theorem State.serveLine_exceptTraffic (s : State) (l : Fin 2) :
    (s.serveLine l).exceptTraffic = s.exceptTraffic := by
  unfold State.serveLine; split <;> simp

@[simp] theorem State.clearArbitrations_exceptTraffic (s : State) :
    s.clearArbitrations.exceptTraffic = s.exceptTraffic := rfl

@[simp] theorem State.serveLines_exceptTraffic (n : Nat) (s : State) :
    (State.serveLines n s).exceptTraffic = s.exceptTraffic := by
  induction n generalizing s with
  | zero => rfl
  | succ n ih =>
    unfold State.serveLines
    split
    · simp [ih]
    · rfl

/-- The arbitrations that end a step reach lines, the library and the report set alone. -/
@[simp] theorem State.finish_exceptTraffic (s : State) : s.finish.exceptTraffic = s.exceptTraffic :=
  s.serveLines_exceptTraffic 8

/-! ### Between steps no arbitration is owed -/

theorem State.clearArbitrations_calm (s : State) : s.clearArbitrations.calm := by
  simp [State.calm, State.owesArbitration, State.clearArbitrations, State.setLine_line]

theorem State.serveLines_calm (n : Nat) (s : State) : (State.serveLines n s).calm := by
  induction n generalizing s with
  | zero => exact s.clearArbitrations_calm
  | succ n ih =>
    unfold State.serveLines
    split
    · exact ih _
    · rename_i h
      simpa [State.calm] using h

/-- The end of a step leaves no arbitration owed. -/
theorem State.finish_calm (s : State) : s.finish.calm := s.serveLines_calm 8

theorem State.conclude_calm (a s : State) : (State.conclude a s).calm := State.finish_calm _

/-- Where none is owed, the end of a step takes none. -/
theorem State.finish_of_calm (s : State) (h : s.calm) : s.finish = s := by
  have h' : s.owesArbitration = false := h
  unfold State.finish State.serveLines
  rw [h']
  rfl

/-- A command that changes no sign and owes no arbitration ends as it stands. -/
theorem State.conclude_of_calm (a s : State) (hs : s.signs = a.signs) (hc : s.calm) : State.conclude a s = s := by
  rw [State.conclude, State.handSigns_same a s hs, State.finish_of_calm s hc]

/-- Being calm depends on the lines alone. -/
theorem State.calm_of_lines (s t : State) (h : t.lines = s.lines) : t.calm ↔ s.calm := by
  simp [State.calm, State.owesArbitration, State.line, h]

/-! ### From a finer frame to a coarser one -/

theorem exceptOutputs_of_exceptSigns {s t : State} (h : t.exceptSigns = s.exceptSigns) : t.exceptOutputs = s.exceptOutputs := by
  have f (x : State) : x.exceptOutputs = x.exceptSigns.exceptOutputs := rfl
  rw [f t, f s, h]

theorem exceptOutputs_of_exceptBarriers {s t : State} (h : t.exceptBarriers = s.exceptBarriers) :
    t.exceptOutputs = s.exceptOutputs := by
  have f (x : State) : x.exceptOutputs = x.exceptBarriers.exceptOutputs := rfl
  rw [f t, f s, h]

theorem exceptOutputs_of_exceptTraffic {s t : State} (h : t.exceptTraffic = s.exceptTraffic) :
    t.exceptOutputs = s.exceptOutputs := by
  have f (x : State) : x.exceptOutputs = x.exceptTraffic.exceptOutputs := rfl
  rw [f t, f s, h]

theorem exceptConclusion_of_exceptBarriers {s t : State} (h : t.exceptBarriers = s.exceptBarriers) :
    t.exceptConclusion = s.exceptConclusion := by
  have f (x : State) : x.exceptConclusion = x.exceptBarriers.exceptConclusion := rfl
  rw [f t, f s, h]

theorem exceptConclusion_of_exceptTraffic {s t : State} (h : t.exceptTraffic = s.exceptTraffic) :
    t.exceptConclusion = s.exceptConclusion := by
  have f (x : State) : x.exceptConclusion = x.exceptTraffic.exceptConclusion := rfl
  rw [f t, f s, h]

/-- All that the end of a command can reach: segments, gates and flashers by the hand-overs, lines, the library and the report set
by the arbitrations. No sign, path, channel, counter or notice changes, nor the rest of the link. -/
@[simp] theorem State.conclude_exceptConclusion (a s : State) :
    (State.conclude a s).exceptConclusion = s.exceptConclusion := by
  rw [State.conclude, exceptConclusion_of_exceptTraffic (State.finish_exceptTraffic _),
    exceptConclusion_of_exceptBarriers (State.handSigns_exceptBarriers a s)]

@[simp] theorem State.conclude_exceptOutputs (a s : State) : (State.conclude a s).exceptOutputs = s.exceptOutputs := by
  have f (x : State) : x.exceptOutputs = x.exceptConclusion.exceptOutputs := rfl
  rw [f, f s, State.conclude_exceptConclusion]

/-- The end of a command changes no sign. -/
@[simp] theorem State.conclude_signs (a s : State) : (State.conclude a s).signs = s.signs := by
  have f (x : State) : x.signs = x.exceptConclusion.signs := rfl
  rw [f, f s, State.conclude_exceptConclusion]

/-- The end of an event leaves the reply slot and the receive buffer: of the link the report set alone may change. -/
theorem State.conclude_link (a s : State) :
    (State.conclude a s).link = { s.link with reports := (State.conclude a s).link.reports } := by
  have f (x : State) : x.link = { x.exceptConclusion.link with reports := x.link.reports } := rfl
  have g : { s.link with reports := (State.conclude a s).link.reports } =
      { s.exceptConclusion.link with reports := (State.conclude a s).link.reports } := rfl
  rw [g, ← State.conclude_exceptConclusion a s]
  exact f _

/-! ### Commands that find nothing owed -/

/-- With nothing due there is nothing to take. -/
theorem State.settleDue_of_nil (s : State) (h : s.due = []) : s.settleDue = s := by simp [State.settleDue, h]

/-- A command on a state that owes no event is its effect and the end of the step. -/
theorem State.command_of_nil (s : State) (f : State → State) (h : s.due = []) : s.command f = State.conclude s (f s) := by
  rw [State.command, State.settleDue_of_nil s h]

/-! ### Request frames on a link that listens (R185) -/

/-- A request on a device that listens is applied at once, and its reply enters the slot. -/
theorem State.request_listening (s : State) (c : Instr) (h : s.listening) :
    s.request c = State.conclude s (State.putReply (s.applyRequest c) (bodyHead (encodeBody c))) := by
  rw [State.request, State.command_of_nil _ _ h.1.2, if_pos h.2]

/-- The reply of a refused request is all that changes (R185). -/
theorem State.request_refused (s : State) (c : Instr) (o : OutcomeCode) (h : s.listening)
    (hr : s.applyRequest c = refuse o s) :
    s.request c = s.answered (bodyHead (encodeBody c)).1 (bodyHead (encodeBody c)).2 o [] := by
  rw [State.request_listening s c h, hr]
  exact State.conclude_of_calm _ _ rfl h.1.1

end Sys2Proof.Machine
end

