-- ==== Sys2Proof/Laws/Bytes.lean ====
section
/-! SUPPORT. Big-endian fields: as many bytes as asked for, and each direction undoes the other. -/

namespace Sys2Proof

@[simp] theorem bytesBE_length (n : Nat) (x : BitVec w) : (bytesBE n x).length = n := by
  simp [bytesBE]

/-- A byte of a field is its eight bits. -/
theorem bytesBE_getElem (n : Nat) (x : BitVec w) (i : Nat) (h : i < (bytesBE n x).length) :
    (bytesBE n x)[i] = (x >>> (8 * (n - 1 - i))).setWidth 8 := by
  simp [bytesBE]

theorem ofBytesBE_append (w : Nat) (bytes : List Byte) (b : Byte) :
    ofBytesBE w (bytes ++ [b]) = (ofBytesBE w bytes <<< 8) ||| b.setWidth w := by
  simp [ofBytesBE]

/-- A bit of the field that bytes spell is a bit of one of the bytes, the last byte holding the lowest eight. -/
theorem ofBytesBE_getLsbD (w : Nat) (bytes : List Byte) (k : Nat) :
    (ofBytesBE w bytes).getLsbD k = (decide (k < w) && (bytes.reverse[k / 8]?.getD 0).getLsbD (k % 8)) := by
  induction bytes using List.reverseRecOn generalizing k with
  | nil => simp [ofBytesBE]
  | append_singleton rest b ih =>
    rw [ofBytesBE_append, BitVec.getLsbD_or, BitVec.getLsbD_shiftLeft, BitVec.getLsbD_setWidth, ih, List.reverse_append,
      List.reverse_singleton, List.singleton_append]
    by_cases hk : k < 8
    · have h0 : k / 8 = 0 := by omega
      have h1 : k % 8 = k := by omega
      simp [hk, h0, h1]
    · have h0 : k / 8 = (k - 8) / 8 + 1 := by omega
      have h1 : k % 8 = (k - 8) % 8 := by omega
      have h2 : b.getLsbD k = false := BitVec.getLsbD_of_ge b k (by omega)
      by_cases hw : k < w
      · have hw' : k - 8 < w := by omega
        simp [hk, hw, hw', h0, h1, h2]
      · simp [hw]

/-- The bytes of a field spell it. -/
theorem ofBytesBE_bytesBE (n : Nat) (x : BitVec (8 * n)) : ofBytesBE (8 * n) (bytesBE n x) = x := by
  apply BitVec.eq_of_getLsbD_eq
  intro k hk
  rw [ofBytesBE_getLsbD]
  have hj : k / 8 < n := by omega
  have hl : k / 8 < (bytesBE n x).reverse.length := by simpa using hj
  rw [List.getElem?_eq_getElem hl, Option.getD_some, List.getElem_reverse, bytesBE_getElem, BitVec.getLsbD_setWidth,
    BitVec.getLsbD_ushiftRight]
  have e : 8 * (n - 1 - ((bytesBE n x).length - 1 - k / 8)) + k % 8 = k := by
    rw [bytesBE_length]; omega
  rw [e]
  simp [hk, Nat.mod_lt]

/-- A field spelled by n bytes has those bytes. -/
theorem bytesBE_ofBytesBE (n : Nat) (bytes : List Byte) (h : bytes.length = n) :
    bytesBE n (ofBytesBE (8 * n) bytes) = bytes := by
  subst h
  apply List.ext_getElem (by simp)
  intro i h1 h2
  rw [bytesBE_getElem]
  apply BitVec.eq_of_getLsbD_eq
  intro k hk
  rw [BitVec.getLsbD_setWidth, BitVec.getLsbD_ushiftRight, ofBytesBE_getLsbD]
  have e1 : (8 * (bytes.length - 1 - i) + k) / 8 = bytes.length - 1 - i := by omega
  have e2 : (8 * (bytes.length - 1 - i) + k) % 8 = k := by omega
  have e3 : 8 * (bytes.length - 1 - i) + k < 8 * bytes.length := by omega
  have hl : bytes.length - 1 - i < bytes.reverse.length := by simp; omega
  rw [e1, e2, List.getElem?_eq_getElem hl, Option.getD_some, List.getElem_reverse]
  have e4 : bytes.length - 1 - (bytes.length - 1 - i) = i := by omega
  simp only [e4, e3, hk, decide_true, Bool.true_and]

end Sys2Proof
end

