-- ==== Sys2Proof/Laws/Flash.lean ====
section
/-! SUPPORT. The flash behind the port: a byte written reads as written, every other byte as before, and every operation keeps
the canonical form (R171). -/

namespace Sys2Proof.Machine

/-! ### The canonical form, one list cell at a time -/

/-- The canonical form from an address on. -/
def flashGood (lo : Nat) (m : Flash) : Prop := flashRising lo m = true ∧ ∀ c ∈ m, c.2 ≠ 0xFF

theorem Flash.wf_iff (m : Flash) : m.wf = true ↔ flashGood 0 m := by
  simp [Flash.wf, flashGood]

theorem flashGood_nil (lo : Nat) : flashGood lo [] := by simp [flashGood, flashRising]

theorem flashGood_cons (lo a : Nat) (v : Byte) (rest : Flash) :
    flashGood lo ((a, v) :: rest) ↔ lo ≤ a ∧ v ≠ 0xFF ∧ flashGood (a + 1) rest := by
  simp only [flashGood, flashRising, Bool.and_eq_true, decide_eq_true_eq, List.mem_cons, forall_eq_or_imp]
  tauto

theorem flashGood_mono (lo lo' : Nat) (m : Flash) (h : lo' ≤ lo) (g : flashGood lo m) : flashGood lo' m := by
  cases m with
  | nil => exact flashGood_nil lo'
  | cons c rest =>
    obtain ⟨a, v⟩ := c
    rw [flashGood_cons] at g ⊢
    exact ⟨h.trans g.1, g.2⟩

/-! ### One byte -/

/-- Below its addresses a good list reads as erased. -/
theorem flashRead_below (lo a : Nat) (m : Flash) (g : flashGood lo m) (h : a < lo) : flashRead m a = 0xFF := by
  induction m generalizing lo with
  | nil => rfl
  | cons c rest ih =>
    obtain ⟨b, v⟩ := c
    rw [flashGood_cons] at g
    have hb : b ≠ a := by omega
    simp only [flashRead, hb, if_false]
    exact ih (b + 1) g.2.2 (by omega)

/-- A write keeps the canonical form. -/
theorem flashWrite_good (lo a : Nat) (v : Byte) (m : Flash) (g : flashGood lo m) (h : lo ≤ a) :
    flashGood lo (flashWrite m a v) := by
  induction m generalizing lo with
  | nil =>
    simp only [flashWrite]
    split
    · exact flashGood_nil lo
    · exact (flashGood_cons lo a v []).mpr ⟨h, by assumption, flashGood_nil _⟩
  | cons c rest ih =>
    obtain ⟨b, w⟩ := c
    have g0 := g
    rw [flashGood_cons] at g
    simp only [flashWrite]
    split
    · split
      · exact g0
      · exact (flashGood_cons lo a v _).mpr
          ⟨h, by assumption, (flashGood_cons _ b w rest).mpr ⟨by omega, g.2.1, g.2.2⟩⟩
    · split
      · split
        · exact flashGood_mono _ _ _ (by omega) g.2.2
        · rename_i h1 h2 h3
          subst h2
          exact (flashGood_cons lo a v rest).mpr ⟨h, h3, g.2.2⟩
      · exact (flashGood_cons lo b w _).mpr ⟨g.1, g.2.1, ih (b + 1) g.2.2 (by omega)⟩

/-- A byte written reads as written. -/
theorem flashRead_flashWrite_same (lo a : Nat) (v : Byte) (m : Flash) (g : flashGood lo m) :
    flashRead (flashWrite m a v) a = v := by
  induction m generalizing lo with
  | nil =>
    simp only [flashWrite]
    split
    · simp_all [flashRead]
    · simp [flashRead]
  | cons c rest ih =>
    obtain ⟨b, w⟩ := c
    rw [flashGood_cons] at g
    simp only [flashWrite]
    split
    · rename_i hlt
      split
      · rename_i hv
        have hb : b ≠ a := by omega
        simp only [flashRead, hb, if_false, hv]
        exact flashRead_below (b + 1) a rest g.2.2 (by omega)
      · simp [flashRead]
    · split
      · rename_i h1 h2
        split
        · rename_i hv
          rw [hv]
          exact flashRead_below (b + 1) a rest g.2.2 (by omega)
        · simp [flashRead]
      · rename_i h1 h2
        have hb : b ≠ a := fun x => h2 x.symm
        simp only [flashRead, hb, if_false]
        exact ih (b + 1) g.2.2

/-- A write leaves every other byte. -/
theorem flashRead_flashWrite_other (a b : Nat) (v : Byte) (m : Flash) (h : b ≠ a) :
    flashRead (flashWrite m a v) b = flashRead m b := by
  have h' : ¬a = b := fun x => h x.symm
  induction m with
  | nil =>
    simp only [flashWrite]
    split <;> simp [flashRead, h']
  | cons c rest ih =>
    obtain ⟨k, w⟩ := c
    simp only [flashWrite]
    split
    · split
      · rfl
      · simp [flashRead, h']
    · split
      · rename_i hk
        split <;> simp [flashRead, h', ← hk]
      · simp only [flashRead]
        rw [ih]

/-! ### Every operation keeps the canonical form -/

theorem flashWrite_wf (m : Flash) (a : Nat) (v : Byte) (h : m.wf = true) : (flashWrite m a v).wf = true := by
  rw [Flash.wf_iff] at h ⊢
  exact flashWrite_good 0 a v m h (Nat.zero_le a)

theorem flashWriteAll_wf (m : Flash) (a : Nat) (bytes : List Byte) (h : m.wf = true) :
    (flashWriteAll m a bytes).wf = true := by
  induction bytes generalizing m a with
  | nil => exact h
  | cons v rest ih => exact ih _ _ (flashWrite_wf m a v h)

theorem flashProgram_wf (m : Flash) (a : Nat) (bytes : List Byte) (h : m.wf = true) :
    (flashProgram m a bytes).wf = true := by
  induction bytes generalizing m a with
  | nil => exact h
  | cons v rest ih => exact ih _ _ (flashWrite_wf m a _ h)

theorem flashGood_filter (lo : Nat) (p : Host.Cell → Bool) (m : Flash) (g : flashGood lo m) :
    flashGood lo (m.filter p) := by
  induction m generalizing lo with
  | nil => exact flashGood_nil lo
  | cons c rest ih =>
    obtain ⟨a, v⟩ := c
    rw [flashGood_cons] at g
    rw [List.filter_cons]
    split
    · exact (flashGood_cons lo a v _).mpr ⟨g.1, g.2.1, ih (a + 1) g.2.2⟩
    · exact flashGood_mono _ _ _ (by omega) (ih (a + 1) g.2.2)

theorem flashErase_wf (m : Flash) (lo hi : Nat) (h : m.wf = true) : (flashErase m lo hi).wf = true := by
  rw [Flash.wf_iff] at h ⊢
  exact flashGood_filter 0 _ m h

/-- The reset state's flash is in the canonical form. -/
theorem State.reset_flash_wf : State.reset.flash.wf = true := by decide

/-! ### Many bytes -/

/-- Writing bytes leaves every byte outside them. -/
theorem flashRead_flashWriteAll_outside (m : Flash) (a b : Nat) (bytes : List Byte)
    (h : b < a ∨ a + bytes.length ≤ b) : flashRead (flashWriteAll m a bytes) b = flashRead m b := by
  induction bytes generalizing m a with
  | nil => rfl
  | cons v rest ih =>
    simp only [List.length_cons] at h
    rw [flashWriteAll, ih _ _ (by omega), flashRead_flashWrite_other _ _ _ _ (by omega)]

/-- Programming bytes leaves every byte outside them. -/
theorem flashRead_flashProgram_outside (m : Flash) (a b : Nat) (bytes : List Byte)
    (h : b < a ∨ a + bytes.length ≤ b) : flashRead (flashProgram m a bytes) b = flashRead m b := by
  induction bytes generalizing m a with
  | nil => rfl
  | cons v rest ih =>
    simp only [List.length_cons] at h
    rw [flashProgram, ih _ _ (by omega), flashRead_flashWrite_other _ _ _ _ (by omega)]

/-- Bytes written read as written. -/
theorem flashRead_flashWriteAll_inside (m : Flash) (a k : Nat) (bytes : List Byte) (g : m.wf = true)
    (h : k < bytes.length) : flashRead (flashWriteAll m a bytes) (a + k) = bytes[k] := by
  induction bytes generalizing m a k with
  | nil => simp at h
  | cons v rest ih =>
    rw [flashWriteAll]
    cases k with
    | zero =>
      rw [Nat.add_zero, flashRead_flashWriteAll_outside _ _ _ _ (by omega)]
      exact flashRead_flashWrite_same 0 a v m ((Flash.wf_iff m).mp g)
    | succ k =>
      have := ih (flashWrite m a v) (a + 1) k (flashWrite_wf m a v g) (by simpa using h)
      rw [show a + (k + 1) = a + 1 + k by omega, this]
      simp

/-- A programmed byte is the AND of the old and the new (R171). -/
theorem flashRead_flashProgram_inside (m : Flash) (a k : Nat) (bytes : List Byte) (g : m.wf = true)
    (h : k < bytes.length) : flashRead (flashProgram m a bytes) (a + k) = flashRead m (a + k) &&& bytes[k] := by
  induction bytes generalizing m a k with
  | nil => simp at h
  | cons v rest ih =>
    rw [flashProgram]
    cases k with
    | zero =>
      rw [Nat.add_zero, flashRead_flashProgram_outside _ _ _ _ (by omega)]
      exact flashRead_flashWrite_same 0 a _ m ((Flash.wf_iff m).mp g)
    | succ k =>
      have := ih (flashWrite m a (flashRead m a &&& v)) (a + 1) k (flashWrite_wf m a _ g) (by simpa using h)
      rw [show a + (k + 1) = a + 1 + k by omega, this, flashRead_flashWrite_other _ _ _ _ (by omega)]
      simp

/-- An erased byte reads 0xFF, every other as before (R171). -/
theorem flashRead_flashErase (m : Flash) (lo hi a : Nat) :
    flashRead (flashErase m lo hi) a = if lo ≤ a ∧ a < hi then 0xFF else flashRead m a := by
  induction m with
  | nil => simp [flashErase, flashRead]
  | cons c rest ih =>
    obtain ⟨b, v⟩ := c
    unfold flashErase at ih ⊢
    rw [List.filter_cons]
    by_cases hb : lo ≤ b ∧ b < hi
    · simp only [hb, decide_true, Bool.and_self, Bool.not_true, Bool.false_eq_true, if_false, ih, flashRead]
      by_cases hab : b = a
      · subst hab; simp [hb]
      · simp [hab]
    · have hb' : (!(decide (lo ≤ b) && decide (b < hi))) = true := by
        simp only [Bool.not_eq_true', Bool.and_eq_false_iff, decide_eq_false_iff_not]
        omega
      simp only [hb', if_true, flashRead, ih]
      by_cases hab : b = a
      · subst hab; simp [hb]
      · simp [hab]

end Sys2Proof.Machine
end

