-- ==== Sys2Proof/Laws/Reports.lean ====
section
/-! SUPPORT. The report set: what posting does to its objects and flags (R190). -/

namespace Sys2Proof.Machine

/-- Posting keeps the objects of the set and adds its own at the end where it had no entry. -/
theorem addReport_objs (o : Obj) (f : BitVec 16) (l : List ReportEntry) :
    (addReport o f l).map ReportEntry.obj =
      if o ∈ l.map ReportEntry.obj then l.map ReportEntry.obj else l.map ReportEntry.obj ++ [o] := by
  induction l with
  | nil => simp [addReport]
  | cons e rest ih =>
    by_cases h : e.obj = o
    · simp [addReport, h]
    · have h' : ¬o = e.obj := fun x => h x.symm
      simp only [addReport, h, if_false, List.map_cons, ih, List.mem_cons, h', false_or]
      split <;> simp

/-- One entry for each object stays so (R190). -/
theorem addReport_nodup (o : Obj) (f : BitVec 16) (l : List ReportEntry) (h : (l.map ReportEntry.obj).Nodup) :
    ((addReport o f l).map ReportEntry.obj).Nodup := by
  rw [addReport_objs]
  split
  · exact h
  · rename_i hn
    rw [List.nodup_append]
    exact ⟨h, List.nodup_singleton o, by
      intro a ha b hb hab
      rw [List.mem_singleton.mp hb] at hab
      exact hn (hab ▸ ha)⟩

/-- The posted flags stand in the object's entry. -/
theorem addReport_has (o : Obj) (f : BitVec 16) (l : List ReportEntry) :
    ∃ e ∈ addReport o f l, e.obj = o ∧ e.flags &&& f = f := by
  induction l with
  | nil => exact ⟨_, List.mem_singleton.mpr rfl, rfl, by simp⟩
  | cons e rest ih =>
    by_cases h : e.obj = o
    · refine ⟨{ e with flags := e.flags ||| f }, by simp [addReport, h], h, ?_⟩
      ext i; simp; intro x; exact Or.inr x
    · obtain ⟨x, hx, hp⟩ := ih
      exact ⟨x, by simp [addReport, h, hx], hp⟩

/-- Flags that stand in an entry stay there whatever is posted. -/
theorem addReport_keeps (o p : Obj) (f g : BitVec 16) (l : List ReportEntry)
    (h : ∃ e ∈ l, e.obj = p ∧ e.flags &&& g = g) : ∃ e ∈ addReport o f l, e.obj = p ∧ e.flags &&& g = g := by
  induction l with
  | nil => obtain ⟨e, he, _⟩ := h; simp at he
  | cons e rest ih =>
    obtain ⟨x, hx, hp, hg⟩ := h
    by_cases he : e.obj = o
    · rcases List.mem_cons.mp hx with rfl | hx
      · refine ⟨{ x with flags := x.flags ||| f }, by simp [addReport, he], hp, ?_⟩
        ext i hi
        have := congrArg (fun v => v.getLsbD i) hg
        simp at this ⊢
        intro q
        exact Or.inl (this q)
      · exact ⟨x, by simp [addReport, he, hx], hp, hg⟩
    · rcases List.mem_cons.mp hx with rfl | hx
      · exact ⟨x, by simp [addReport, he], hp, hg⟩
      · obtain ⟨y, hy, hq⟩ := ih ⟨x, hx, hp, hg⟩
        exact ⟨y, by simp [addReport, he, hy], hq⟩

/-- What is posted is reported. -/
theorem State.post_reported (s : State) (o : Obj) (f : BitVec 16) : (s.post o f).reported o f :=
  addReport_has o f s.link.reports

/-- What is reported stays reported at another posting. -/
theorem State.post_keeps (s : State) (o p : Obj) (f g : BitVec 16) (h : s.reported p g) : (s.post o f).reported p g :=
  addReport_keeps o p f g s.link.reports h

/-- Being reported depends on the report set alone. -/
theorem State.reported_of_reports (s t : State) (o : Obj) (f : BitVec 16) (h : t.link.reports = s.link.reports) :
    t.reported o f ↔ s.reported o f := by
  simp [State.reported, h]

/-- Posting keeps the set distinct. -/
theorem State.post_distinct (s : State) (o : Obj) (f : BitVec 16) (h : s.reportsDistinct) : (s.post o f).reportsDistinct :=
  addReport_nodup o f s.link.reports h

/-- Conditional posting keeps the set distinct. -/
theorem State.postIf_distinct (s : State) (c : Bool) (o : Obj) (f : BitVec 16) (h : s.reportsDistinct) :
    (s.postIf c o f).reportsDistinct := by
  cases c
  · exact h
  · exact s.post_distinct o f h

end Sys2Proof.Machine
end

