-- ==== Sys2Proof/Laws/Plans.lean ====
section
/-! SUPPORT. Plans, open postures and the trace: what a sign watches, what a merged rotation is, what a replaced plan sets, when a
segment is cautioned, and entries recorded one after another (R6, R53, R116, R120 to R122). -/

namespace Sys2Proof.Machine

/-! ### What a sign watches (R116) -/

theorem mem_bitsOf (w : Nat) (m : BitVec w) (i : Fin w) : i ∈ bitsOf m ↔ m.getLsbD i.val = true := by
  simp [bitsOf]

theorem State.mem_watchedSegments (s : State) (g : Sign) (i : Fin 4) : i ∈ s.watchedSegments g ↔ s.watches g i := by
  unfold State.watchedSegments State.watches
  cases g.cfg.role with
  | none => simp
  | advance => exact mem_bitsOf 4 _ i
  | info => exact mem_bitsOf 4 _ i
  | path =>
    cases g.cfg.path with
    | none => simp
    | some p => exact ⟨fun h => ⟨p, rfl, (List.mem_singleton.1 h).symm⟩, fun ⟨q, e, h⟩ => by cases e; simp [h]⟩

theorem State.mem_relevantPaths (s : State) (g : Sign) (p : Fin 12) (h : g.cfg.role ≠ .none) :
    p ∈ s.relevantPaths g ↔ s.relevantTo g p := by
  have others : p ∈ ((List.finRange 12).filter fun p =>
      (s.path p).configured && (s.watchedSegments g).contains (s.path p).cfg.segment) ↔
      (s.path p).cfg.members ≠ 0 ∧ s.watches g (s.path p).cfg.segment := by
    simp [PathRec.configured, State.mem_watchedSegments]
  unfold State.relevantPaths State.relevantTo
  cases hr : g.cfg.role with
  | none => exact absurd hr h
  | advance => exact others
  | info => exact others
  | path =>
    cases g.cfg.path with
    | none => simp
    | some q =>
      constructor
      · intro m
        by_cases hq : (s.path q).configured = true
        · obtain rfl : p = q := by simpa [hq] using m
          exact ⟨by simpa [PathRec.configured] using hq, rfl⟩
        · simp [hq] at m
      · rintro ⟨m, e⟩
        cases e
        have hp : (s.path p).configured = true := by simpa [PathRec.configured] using m
        simp [hp]

/-! ### Merged rotations (R120) -/

theorem mergeStep_nodup (ps acc : List Page) (h : acc.Nodup) :
    (ps.foldl (fun acc p => if acc.contains p then acc else acc ++ [p]) acc).Nodup := by
  induction ps generalizing acc with
  | nil => exact h
  | cons p ps ih =>
    simp only [List.foldl_cons]
    apply ih
    split
    · exact h
    · rename_i hp
      simp only [List.nodup_append, h, List.nodup_singleton, true_and, List.mem_singleton]
      rintro a ha b rfl rfl
      exact hp (by simpa using ha)

theorem mergePages_nodup (ps : List Page) : (mergePages ps).Nodup :=
  (mergeStep_nodup ps [] List.nodup_nil).sublist (List.take_sublist ..)

theorem mergePages_length (ps : List Page) : (mergePages ps).length ≤ 6 := by simp [mergePages]

theorem mergeStep_mem (ps acc : List Page) (q : Page)
    (h : q ∈ ps.foldl (fun acc p => if acc.contains p then acc else acc ++ [p]) acc) : q ∈ acc ∨ q ∈ ps := by
  induction ps generalizing acc with
  | nil => exact .inl h
  | cons p ps ih =>
    rcases ih _ h with h | h
    · dsimp only at h
      split at h
      · exact .inl h
      · rcases List.mem_append.1 h with h | h
        · exact .inl h
        · exact .inr (by simp_all)
    · exact .inr (List.mem_cons_of_mem _ h)

theorem mem_of_mem_mergePages (ps : List Page) (q : Page) (h : q ∈ mergePages ps) : q ∈ ps := by
  rcases mergeStep_mem ps [] q (List.mem_of_mem_take h) with h | h
  · cases h
  · exact h

/-! ### Replaced plans (R122) -/

/-- A sign that is configured and computes another plan takes it from its first page with a PLAN need and the report PLAN. -/
theorem State.replanSign_new (s : State) (n : Fin 16) (h : (s.sign n).configured = true)
    (hn : ((s.sign n).planClass == (s.planOf (s.sign n)).1 && (s.sign n).rotation == (s.planOf (s.sign n)).2) = false) :
    s.replanSign n =
      (s.setSign n (Sign.raisePlan s.now false { s.sign n with
        planClass := (s.planOf (s.sign n)).1, rotation := (s.planOf (s.sign n)).2, index := 0, dwellCount := 0 })).post
        (.sign n) Flag.signPlan := by
  simp only [State.replanSign, h, hn]; rfl

/-- An identical plan has no effect. -/
theorem State.replanSign_same (s : State) (n : Fin 16)
    (hn : ((s.sign n).planClass == (s.planOf (s.sign n)).1 && (s.sign n).rotation == (s.planOf (s.sign n)).2) = true) :
    s.replanSign n = s := by
  simp only [State.replanSign, hn, Bool.or_true, if_true]

/-! ### Open postures (R6) -/

theorem State.cautioned_iff (s : State) (i : Fin 4) : s.cautioned i = true ↔ s.mustCaution i := by
  simp [State.cautioned, State.mustCaution, Notice.names, or_assoc]

/-! ### Entries recorded one after another (R53) -/

@[simp] theorem Trace.recordAll_nil (t : Trace) : t.recordAll [] = t := rfl

@[simp] theorem Trace.recordAll_cons (t : Trace) (e : TraceEntry) (es : List TraceEntry) :
    t.recordAll (e :: es) = (t.record e).1.recordAll es := rfl

theorem Trace.recordAll_append (t : Trace) (es fs : List TraceEntry) :
    t.recordAll (es ++ fs) = (t.recordAll es).recordAll fs := by
  simp [Trace.recordAll, List.foldl_append]

theorem State.traceAdd_trace (s : State) (k : TraceKind) (object value : Nat) :
    (s.traceAdd k object value).trace = s.trace.recordAll [s.entry k object value] := by
  simp [State.traceAdd, State.postIf, State.entry]; split <;> rfl

end Sys2Proof.Machine
end

