-- ==== Sys2Proof/Laws/Profile.lean ====
section
/-! SUPPORT. The profile: an image is read back whole, block 0 reads as loaded after a completed save, as bad after one that failed,
and its load depends on the bytes of block 0 alone. -/

namespace Sys2Proof.Machine

/-! ### The primitive fields -/

theorem readU8_u8 (x : Nat) (rest : List Byte) : readU8 (u8 x ++ rest) = (BitVec.ofNat 8 x, rest) := rfl

theorem readU16_u16 (x : Nat) (rest : List Byte) : readU16 (u16 x ++ rest) = (BitVec.ofNat 16 x, rest) := by
  have h : (BitVec.ofNat 16 x >>> 8).setWidth 8 ++ (BitVec.ofNat 16 x).setWidth 8 = BitVec.ofNat 16 x := by
    generalize BitVec.ofNat 16 x = y
    apply BitVec.eq_of_getLsbD_eq
    intro i hi
    simp only [BitVec.getLsbD_append, BitVec.getLsbD_setWidth, BitVec.getLsbD_ushiftRight]
    by_cases h8 : i < 8
    · simp [h8]
    · simp [h8, show i - 8 < 8 by omega, show 8 + (i - 8) = i by omega]
  have e : u16 x = [(BitVec.ofNat 16 x >>> 8).setWidth 8, (BitVec.ofNat 16 x).setWidth 8] := by
    simp [u16, bytesBE, List.range_succ]
  rw [e]
  simp only [List.cons_append, List.nil_append, readU16, readU8, h]

theorem readU16_i16 (x : Int) (rest : List Byte) : readU16 (i16 x ++ rest) = (BitVec.ofInt 16 x, rest) := by
  have e : i16 x = u16 (BitVec.ofInt 16 x).toNat := by simp only [i16, u16, BitVec.ofNat_toNat, BitVec.setWidth_eq]
  rw [e, readU16_u16, BitVec.ofNat_toNat, BitVec.setWidth_eq]

theorem indexOf_u8opt {n : Nat} (h : n ≤ 255) (x : Option (Fin n)) :
    indexOf n (BitVec.ofNat 8 ((x.map Fin.val).getD 0xFF)) = x := by
  cases x with
  | none =>
    simp only [Option.map_none, Option.getD_none, indexOf]
    rw [dif_neg]
    simp
    omega
  | some i =>
    have hi := i.isLt
    have : i.val % 256 = i.val := by omega
    simp only [Option.map_some, Option.getD_some, indexOf, BitVec.toNat_ofNat]
    simp [this]

theorem indexOf_u8 {n : Nat} (h : n ≤ 256) (i : Fin n) : indexOf n (BitVec.ofNat 8 i.val) = some i := by
  have hi := i.isLt
  have : i.val % 256 = i.val := by omega
  simp [indexOf, this]

theorem flagBit_byte (b : Bool) : (BitVec.ofNat 8 (flagBit 0 b) == 1) = b := by cases b <;> rfl

theorem ofNat16_toNat {x : Nat} (h : x < 65536) : (BitVec.ofNat 16 x).toNat = x := by
  simp [Nat.mod_eq_of_lt h]

theorem ofInt16_toInt {x : Int} (h : -32768 ≤ x) (h' : x < 32768) : (BitVec.ofInt 16 x).toInt = x := by
  rw [BitVec.toInt_ofInt]
  exact Int.bmod_eq_of_le_mul_two (by omega) (by omega)

/-! ### The objects -/

theorem readChannel_image (c : ChannelConfig) (h : c.fits) (rest : List Byte) : readChannel (c.image ++ rest) = (c, rest) := by
  obtain ⟨h1, h2, h3, h4, h5⟩ := h
  have hm : readMode (BitVec.ofNat 8 c.mode.code) = c.mode := by cases c.mode <;> rfl
  simp only [readChannel, ChannelConfig.image, List.append_assoc, readU8_u8, u8opt, readU16_i16, readU16_u16, hm, flagBit_byte,
    indexOf_u8opt (n := 16) (by decide), ofInt16_toInt h1 h2, ofInt16_toInt h3 h4, ofNat16_toNat h5]

theorem readPath_image (c : PathConfig) (h : c.k < 65536 ∧ c.window < 65536) (rest : List Byte) :
    readPath (c.image ++ rest) = (c, rest) := by
  obtain ⟨h1, h2⟩ := h
  have hp : (c.hazardPage.setWidth 16).setWidth 12 = c.hazardPage := by
    apply BitVec.eq_of_toNat_eq
    simp
  simp only [readPath, PathConfig.image, List.append_assoc, readU8_u8, u8opt, readU16_u16, flagBit_byte,
    indexOf_u8opt (n := 8) (by decide), indexOf_u8 (n := 4) (by decide), ofNat16_toNat h1, ofNat16_toNat h2, hp,
    BitVec.ofNat_toNat, BitVec.setWidth_eq, Option.getD_some]

theorem readGate_image (c : GateConfig) (h : c.travel < 65536 ∧ c.motionLimit < 65536) (rest : List Byte) :
    readGate (c.image ++ rest) = (c, rest) := by
  obtain ⟨h1, h2⟩ := h
  simp only [readGate, GateConfig.image, List.append_assoc, readU8_u8, u8opt, readU16_u16,
    indexOf_u8opt (n := 8) (by decide), indexOf_u8opt (n := 4) (by decide), indexOf_u8 (n := 12) (by decide), ofNat16_toNat h1,
    ofNat16_toNat h2, Option.getD_some]

theorem readCounter_image (c : CounterConfig) (rest : List Byte) : readCounter (c.image ++ rest) = (c, rest) := by
  obtain ⟨m, b⟩ := c
  have hm : (counterModeOf (BitVec.ofNat 8 m.code)).getD .off = m := by cases m <;> rfl
  cases b with
  | none =>
    simp only [readCounter, CounterConfig.image, List.append_assoc, readU8_u8, hm, boundaryBytes]
    rfl
  | some xy =>
    obtain ⟨x, y⟩ := xy
    simp only [readCounter, CounterConfig.image, List.append_assoc, readU8_u8, hm, boundaryBytes, readBoundary,
      indexOf_u8 (n := 5) (by decide)]

theorem readSegment_image (c : SegmentConfig) (h : c.lead < 65536 ∧ c.confirm < 65536) (rest : List Byte) :
    readSegment (c.image ++ rest) = (c, rest) := by
  obtain ⟨h1, h2⟩ := h
  simp only [readSegment, SegmentConfig.image, List.append_assoc, readU16_u16, ofNat16_toNat h1, ofNat16_toNat h2]

theorem pageOf_u16opt (x : Option Page) : pageOf (BitVec.ofNat 16 ((x.map BitVec.toNat).getD 0xFFFF)) = x := by
  cases x with
  | none => rfl
  | some p =>
    have := p.isLt
    have h : p.toNat % 65536 = p.toNat := by omega
    have e : (BitVec.ofNat 16 p.toNat).setWidth 12 = p := by
      apply BitVec.eq_of_toNat_eq
      simp
    simp only [Option.map_some, Option.getD_some, pageOf, e]
    rw [if_pos]
    simp only [BitVec.toNat_ofNat]
    omega

theorem readSign_image (c : SignConfig) (h : c.holdover < 65536 ∧ c.dwell < 65536) (rest : List Byte) :
    readSign (c.image ++ rest) = (c, rest) := by
  obtain ⟨h1, h2⟩ := h
  have hr : (roleOf (BitVec.ofNat 8 c.role.code)).getD .none = c.role := by cases c.role <;> rfl
  have hs : (BitVec.ofNat 8 c.segments.toNat).setWidth 4 = c.segments := by
    apply BitVec.eq_of_toNat_eq
    have := c.segments.isLt
    simp
  simp only [readSign, SignConfig.image, List.append_assoc, readU8_u8, u8opt, u16opt, readU16_u16, flagBit_byte,
    indexOf_u8opt (n := 12) (by decide), ofNat16_toNat h1, ofNat16_toNat h2, hr, hs, pageOf_u16opt]

theorem readLine_image (c : LineConfig) (rest : List Byte) : readLine (c.image ++ rest) = (c, rest) := by
  obtain ⟨b, p, m⟩ := c
  simp only [readLine, LineConfig.image, List.append_assoc, readU8_u8, readU16_u16]
  cases b <;> cases p <;> cases m <;> rfl

theorem readPattern_image (c : Pattern) (h : c.fits) (rest : List Byte) : readPattern (c.image ++ rest) = (c, rest) := by
  obtain ⟨h1, h2⟩ := h
  simp only [readPattern, Pattern.image, List.append_assoc, readU16_u16, ofNat16_toNat h1, ofNat16_toNat h2]

/-! ### Many objects -/

theorem readList_flatMap {α : Type} (rd : List Byte → α × List Byte) (wr : α → List Byte) (xs : List α)
    (h : ∀ x ∈ xs, ∀ rest, rd (wr x ++ rest) = (x, rest)) (rest : List Byte) :
    readList rd xs.length (xs.flatMap wr ++ rest) = (xs, rest) := by
  induction xs with
  | nil => rfl
  | cons x xs ih =>
    simp only [List.length_cons, List.flatMap_cons, List.append_assoc, readList, h x (List.mem_cons_self ..)]
    rw [ih fun y hy => h y (List.mem_cons_of_mem _ hy)]

/-- A vector is read back from the bytes of its objects. -/
theorem readVec_flatMap {α : Type} {n : Nat} (rd : List Byte → α × List Byte) (wr : α → List Byte) (v : Vector α n)
    (h : ∀ x ∈ v.toList, ∀ rest, rd (wr x ++ rest) = (x, rest)) (rest : List Byte) :
    readVec rd n (v.toList.flatMap wr ++ rest) = (v, rest) := by
  have hl := readList_flatMap rd wr v.toList h rest
  rw [Vector.length_toList] at hl
  simp only [readVec, hl]
  congr 1
  ext i hi
  simp

/-- A configuration is read back whole from its image. -/
theorem readImage_image (p : Profile) (h : p.fits) : readImage p.image = p := by
  obtain ⟨hc, hp, hg, hs, hn, h1, h2, h3, h4, h5, h6⟩ := h
  have e := List.append_nil p.image
  rw [← e]
  simp only [readImage, Profile.image, List.append_assoc, readVec_flatMap _ _ _ fun c hx => readChannel_image c (hc c hx),
    readVec_flatMap _ _ _ fun c hx => readPath_image c (hp c hx), readVec_flatMap _ _ _ fun c hx => readGate_image c (hg c hx),
    readVec_flatMap _ _ _ fun c _ => readCounter_image c, readVec_flatMap _ _ _ fun c hx => readSegment_image c (hs c hx),
    readVec_flatMap _ _ _ fun c hx => readSign_image c (hn c hx), readVec_flatMap _ _ _ fun c _ => readLine_image c,
    readPattern_image _ h1, readPattern_image _ h2, readPattern_image _ h3, readU16_u16, ofNat16_toNat h4, ofNat16_toNat h5,
    ofNat16_toNat h6]

/-! ### Block 0 -/

theorem length_flatMap_const {α : Type} (f : α → List Byte) (k : Nat) (xs : List α) (h : ∀ x, (f x).length = k) :
    (xs.flatMap f).length = xs.length * k := by
  induction xs with
  | nil => simp
  | cons x xs ih => simp [h, ih]; ring

/-- Every image has the same length. -/
theorem Profile.image_length (p : Profile) : p.image.length = 568 := by
  have u1 : ∀ x, (u8 x).length = 1 := fun _ => rfl
  have u2 : ∀ x, (u16 x).length = 2 := fun _ => by simp [u16]
  have i2 : ∀ x, (i16 x).length = 2 := fun _ => by simp [i16]
  have hb : ∀ x, (boundaryBytes x).length = 2 := fun x => by cases x <;> rfl
  simp only [Profile.image, List.length_append,
    length_flatMap_const ChannelConfig.image 9 _ fun c => by simp [ChannelConfig.image, u1, u2, i2, u8opt],
    length_flatMap_const PathConfig.image 12 _ fun c => by simp [PathConfig.image, u1, u2, u8opt],
    length_flatMap_const GateConfig.image 7 _ fun c => by simp [GateConfig.image, u1, u2, u8opt],
    length_flatMap_const CounterConfig.image 3 _ fun c => by simp [CounterConfig.image, u1, hb],
    length_flatMap_const SegmentConfig.image 4 _ fun c => by simp [SegmentConfig.image, u2],
    length_flatMap_const SignConfig.image 10 _ fun c => by simp [SignConfig.image, u1, u2, u8opt, u16opt],
    length_flatMap_const LineConfig.image 4 _ fun c => by simp [LineConfig.image, u1, u2], Vector.length_toList,
    Pattern.image, u2]

theorem flashBytes_length (m : Flash) (a n : Nat) : (flashBytes m a n).length = n := by simp [flashBytes]

/-- The bytes read are those that every address holds. -/
theorem flashBytes_eq (m : Flash) (a : Nat) (bytes : List Byte) (h : ∀ k (hk : k < bytes.length), flashRead m (a + k) = bytes[k]) :
    flashBytes m a bytes.length = bytes := by
  apply List.ext_getElem
  · simp [flashBytes_length]
  · intro i h1 h2
    simp [flashBytes, h i h2]

theorem profileBytes_length (p : Profile) : (profileBytes p).length = 574 := by
  simp [profileBytes, p.image_length, u16]

/-- What block 0 reads as after a completed save. -/
theorem flashRead_writeProfile (m : Flash) (p : Profile) (g : m.wf = true) (k : Nat) (h : k < (profileBytes p).length) :
    flashRead (writeProfile m p) k = (profileBytes p)[k] := by
  have e := flashRead_flashProgram_inside (flashErase m 0 4096) 0 k (profileBytes p) (flashErase_wf m 0 4096 g) h
  rw [Nat.zero_add] at e
  rw [writeProfile, e, flashRead_flashErase, if_pos]
  · exact BitVec.allOnes_and
  · rw [profileBytes_length] at h
    omega

/-- A part of block 0 after a completed save. -/
theorem flashBytes_writeProfile (m : Flash) (p : Profile) (g : m.wf = true) (a : Nat) (x y z : List Byte)
    (e : profileBytes p = x ++ y ++ z) (ha : a = x.length) : flashBytes (writeProfile m p) a y.length = y := by
  apply flashBytes_eq
  intro k hk
  have hl : a + k < (profileBytes p).length := by
    rw [e]
    simp
    omega
  rw [flashRead_writeProfile m p g (a + k) hl]
  simp only [e, ha]
  rw [List.getElem_append_left (by simp; omega), List.getElem_append_right (by omega)]
  simp

theorem ofBytesBE_u16 (x : Nat) : ofBytesBE 16 (u16 x) = BitVec.ofNat 16 x := ofBytesBE_bytesBE 2 (BitVec.ofNat 16 x)

/-- The header of block 0 after a completed save. -/
theorem imageLength_writeProfile (m : Flash) (p : Profile) (g : m.wf = true) :
    imageLength (writeProfile m p) = p.image.length := by
  have hl : (u16 p.image.length).length = 2 := by simp [u16]
  have h := flashBytes_writeProfile m p g 2 (u16 0xA640) (u16 p.image.length) (p.image ++
    bytesBE 2 (crc16 (u16 0xA640 ++ u16 p.image.length ++ p.image))) (by simp [profileBytes]) (by simp [u16])
  rw [hl] at h
  rw [imageLength, h, ofBytesBE_u16, ofNat16_toNat]
  rw [p.image_length]
  decide

/-- A completed save leaves a profile that loads, and its configuration is the one saved (R181). -/
theorem loadProfile_writeProfile (m : Flash) (p : Profile) (preset : BitVec 3) (g : m.wf = true) (h : p.fits) :
    loadProfile (writeProfile m p) preset = (.loaded, p) := by
  have hi := imageLength_writeProfile m p g
  have e0 : profileBytes p = [] ++ u16 0xA640 ++ (u16 p.image.length ++ p.image ++
    bytesBE 2 (crc16 (u16 0xA640 ++ u16 p.image.length ++ p.image))) := by simp [profileBytes]
  have e1 : profileBytes p = [] ++ (u16 0xA640 ++ u16 p.image.length ++ p.image) ++
    bytesBE 2 (crc16 (u16 0xA640 ++ u16 p.image.length ++ p.image)) := by simp [profileBytes]
  have e2 : profileBytes p = (u16 0xA640 ++ u16 p.image.length ++ p.image) ++
    bytesBE 2 (crc16 (u16 0xA640 ++ u16 p.image.length ++ p.image)) ++ [] := by simp [profileBytes]
  have e3 : profileBytes p = (u16 0xA640 ++ u16 p.image.length) ++ p.image ++
    bytesBE 2 (crc16 (u16 0xA640 ++ u16 p.image.length ++ p.image)) := by simp [profileBytes]
  have e4 : profileBytes p = [] ++ (u16 0xA640 ++ u16 p.image.length) ++ (p.image ++
    bytesBE 2 (crc16 (u16 0xA640 ++ u16 p.image.length ++ p.image))) := by simp [profileBytes]
  have l2 : ∀ x, (u16 x).length = 2 := fun _ => by simp [u16]
  have h0 := flashBytes_writeProfile m p g 0 _ _ _ e0 rfl
  have h1 := flashBytes_writeProfile m p g 0 _ _ _ e1 rfl
  have h2 := flashBytes_writeProfile m p g (4 + p.image.length) _ _ _ e2 (by simp [l2]; omega)
  have h3 := flashBytes_writeProfile m p g 4 _ _ _ e3 (by simp [l2])
  have h4 := flashBytes_writeProfile m p g 0 _ _ _ e4 rfl
  have hr : profileResult (writeProfile m p) = .loaded := by
    rw [l2] at h0
    simp only [List.length_append, l2, bytesBE_length] at h1 h2 h3 h4
    have n4 : ¬((u16 0xA640 ++ u16 p.image.length).all (· == 0xFF) = true) := by
      rw [List.all_append, show (u16 0xA640).all (· == 0xFF) = false from rfl]
      simp
    rw [profileResult, h4, if_neg n4, hi, h0, h1, h2, if_pos]
    refine ⟨by rw [ofBytesBE_u16]; rfl, by rw [p.image_length]; decide, ?_⟩
    exact (ofBytesBE_bytesBE 2 _).symm
  rw [loadProfile, if_pos hr, hi, h3, readImage_image p h]

theorem flashBytes_congr (m m' : Flash) (a n : Nat) (h : ∀ k < n, flashRead m (a + k) = flashRead m' (a + k)) :
    flashBytes m a n = flashBytes m' a n :=
  List.map_congr_left fun k hk => h k (List.mem_range.mp hk)

/-- The result of the load depends on the bytes of block 0 alone. -/
theorem profileResult_congr (m m' : Flash) (h : ∀ k < 4096, flashRead m k = flashRead m' k) :
    profileResult m = profileResult m' := by
  have c (a n : Nat) (hn : a + n ≤ 4096) : flashBytes m a n = flashBytes m' a n :=
    flashBytes_congr m m' a n fun k hk => h (a + k) (by omega)
  have hl : imageLength m = imageLength m' := by rw [imageLength, imageLength, c 2 2 (by decide)]
  unfold profileResult
  rw [c 0 4 (by decide), c 0 2 (by decide), hl]
  by_cases hb : 4 + imageLength m' + 2 ≤ 4096
  · rw [c 0 (4 + imageLength m') (by omega), c (4 + imageLength m') 2 (by omega)]
  · simp [hb]

theorem freeBytes_length (k n : Nat) : (freeBytes k n).length = n := by simp [freeBytes]

theorem asBadBlock_length (free : List Byte) : (asBadBlock free).length = free.length := by
  unfold asBadBlock
  split
  · rfl
  · rw [List.length_map]

/-- A block filled with such bytes reads as a bad profile (R181). -/
theorem profileResult_asBadBlock (m : Flash) (free : List Byte) (g : m.wf = true) (hl : free.length = 4096) :
    profileResult (flashWriteAll m 0 (asBadBlock free)) = .bad := by
  have key (bytes : List Byte) (hb : bytes.length = 4096) :
      profileResult (flashWriteAll m 0 bytes) = profileResult (flashWriteAll [] 0 bytes) := by
    apply profileResult_congr
    intro i hi
    have a := flashRead_flashWriteAll_inside m 0 i bytes g (by omega)
    have b := flashRead_flashWriteAll_inside [] 0 i bytes rfl (by omega)
    rw [Nat.zero_add] at a b
    rw [a, b]
  rw [key _ ((asBadBlock_length free).trans hl)]
  unfold asBadBlock
  split
  · assumption
  · generalize hz : free.map (fun _ => (0 : Byte)) = zeros
    have z (i : Nat) (hi : i < 4096) : flashRead (flashWriteAll [] 0 zeros) i = 0 := by
      have b := flashRead_flashWriteAll_inside [] 0 i zeros rfl (by rw [← hz, List.length_map, hl]; exact hi)
      rw [Nat.zero_add] at b
      rw [b]
      simp [← hz]
    have f4 : flashBytes (flashWriteAll [] 0 zeros) 0 4 = [0, 0, 0, 0] := by
      simp only [flashBytes, List.range_succ, List.range_zero, List.nil_append, List.map_cons, List.map_nil,
        Nat.zero_add, z 0 (by decide), z 1 (by decide), z 2 (by decide), z 3 (by decide), List.cons_append]
    have f2 : flashBytes (flashWriteAll [] 0 zeros) 0 2 = [0, 0] := by
      simp only [flashBytes, List.range_succ, List.range_zero, List.nil_append, List.map_cons, List.map_nil,
        Nat.zero_add, z 0 (by decide), z 1 (by decide), List.cons_append]
    unfold profileResult
    rw [f4, f2, if_neg (by decide), if_neg]
    intro h
    exact absurd h.1 (by decide)

theorem badBlock_length (k : Nat) : (badBlock k).length = 4096 :=
  (asBadBlock_length _).trans (freeBytes_length k 4096)

/-- Block 0 after a failed save reads as a bad profile (R181). -/
theorem profileResult_badBlock (m : Flash) (k : Nat) (g : m.wf = true) :
    profileResult (flashWriteAll m 0 (badBlock k)) = .bad :=
  profileResult_asBadBlock m _ g (freeBytes_length k 4096)

/-- A completed save keeps the flash in its canonical form. -/
theorem writeProfile_wf (m : Flash) (p : Profile) (h : m.wf = true) : (writeProfile m p).wf = true :=
  flashProgram_wf _ _ _ (flashErase_wf m 0 4096 h)

end Sys2Proof.Machine
end

