-- ==== Sys2Proof/Tests/Slice0.lean ====
section
/-! SUPPORT. Small tests: what the well-formedness check refuses, one step of each command with the spec's own values, and a witness
for the hypotheses of every statement. -/

namespace Sys2Proof.Tests

open Sys2Proof Sys2Proof.Machine

set_option Elab.async false
set_option maxRecDepth 20000

/-! ### Small states -/

/-- The state after a command; the state itself where there is none. -/
def after (c : Instr) (s : State) : State :=
  match exec c s with
  | .next t => t
  | .fault _ => s
  | .refused _ => s

/-- The outcome and data of the waiting reply. -/
def answer (s : State) : Option (OutcomeCode × List Byte) := s.link.reply.map fun r => (r.outcome, r.data)

/-- The outcome code of a command's reply. -/
def outcome (c : Instr) (s : State) : Option OutcomeCode := (answer (after c s)).map Prod.fst

/-- The reset state with these events due. -/
def owing (d : List Due) : State := { State.reset with due := d }

/-- Gate 0 of segment 1 in a state, on unit 0. -/
def gateIn (st : GateState) : State :=
  State.reset.setGate 0
    { State.reset.gate 0 with cfg := { (State.reset.gate 0).cfg with segment := some 0 }, state := st, referenced := true }

/-- Path 0 with channels 0 to 2 as members, in a state. -/
def pathIn (st : PathState) : State :=
  State.reset.setPath 0
    { State.reset.path 0 with
      cfg := { (State.reset.path 0).cfg with members := 7, k := 2, window := 80, autoclose := true, masked := st == .masked }
      state := st, healthy := 3, kEff := 2 }

/-- Unit 0 between segments 1 and 2, with a crossing in progress. -/
def pairIn (x : Crossing) (a b : Bool) : State :=
  State.reset.setCounter 0
    { State.reset.counter 0 with cfg := { mode := .loopPair, boundary := some (1, 2) }, crossing := x, codeA := a, codeB := b }

/-- Unit 0 as an encoder with a code. -/
def encoderAt (a b : Bool) : State :=
  (gateIn .lowering).setCounter 0
    { State.reset.counter 0 with cfg := { mode := .encoder, boundary := none }, codeA := a, codeB := b }

/-- Segment 1 in a posture and phase, with its causes. -/
def segmentIn (p : Posture) (ph : Phase) (cs : List Cause) (s : State) : State :=
  s.setSegment 0 { s.segment 0 with posture := p, phase := ph, causes := cs }

/-- A notice of segment 1 in slot 0, number 1. -/
def noticeIn (st : NoticeState) (start stop : Option Nat) : State :=
  { State.reset with
    notices := { State.reset.notices with
      slots := State.reset.notices.slots.set 0
        (some { number := 1, reference := 7, segments := 1, firstPage := 820, secondPage := none, start := start, stop := stop,
                lead := 40, state := st })
      order := [0], lastNumber := 1 } }

/-- Sign 0, an ADVANCE sign of segment 1, in a service state on a line with a fixed band. -/
def signIn (v : Service) : State :=
  let g := State.reset.sign 0
  (State.reset.setSign 0 { g with cfg := { g.cfg with role := .advance, segments := 1 }, service := v }).updLine 0 fun r =>
    { r with cfg := { r.cfg with bandMode := .normal } }

/-- A frame to sign 0 in flight. -/
def flying (k : FrameKind) (attempt : Nat) (s : State) : State :=
  s.updLine 0 fun r => { r with
    inFlight := some
      { address := 0, kind := k, page := (if k = .content ∨ k = .refresh then some 4 else none), strips := 0xFF, cls := .content,
        fallback := false, attempt := attempt, startTick := 0, builtClass := .closure, wanted := some 4, firstBand := 0, bands := 4,
        baud := .b19200, way := none, shedding := false, once := k == .poll && (s.sign 0).service == .offline } }

/-- The bytes of a valid reply of address 0. -/
def replyBytes (kind result status temperature : Byte) : BitVec 64 :=
  let body : List Byte := [0x80, kind, result, status, temperature]
  ofBytesBE 64 ([0x5A] ++ body ++ bytesBE 2 (crc16 body))

/-- An operation on the flash port. -/
def portAt (op : PortOp) (n : Nat) : State := { State.reset with lib := { State.reset.lib with port := op, opTicks := n } }

/-! ### Well-formedness refuses ill-formed commands -/

theorem test_unknownKind_of_a_known_kind_refused : (Instr.unknownKind 0x01 5 []).wellFormed = false := by decide
theorem test_unknownKind_too_long_refused : (Instr.unknownKind 0x00 5 (List.replicate 239 0)).wellFormed = false := by
  decide +kernel
theorem test_badLength_of_an_unknown_kind_refused : (Instr.badLength 0x00 5 [1]).wellFormed = false := by decide
theorem test_badLength_of_the_right_length_refused : (Instr.badLength 0x11 5 [1]).wellFormed = false := by decide
theorem test_frameDiscarded_of_a_good_frame_refused : (Instr.frameDiscarded (hostFrame [0x01, 5])).wellFormed = false := by decide
theorem test_interByteGap_of_a_whole_frame_refused :
    (Instr.interByteGapTimeout (hostFrame [0x01, 5])).wellFormed = false := by decide
theorem test_wellFormed_accepts :
    (Instr.unknownKind 0x00 5 []).wellFormed = true ∧ (Instr.badLength 0x11 5 []).wellFormed = true ∧
      (Instr.frameDiscarded [0xC3, 1]).wellFormed = true ∧ (Instr.interByteGapTimeout [0xC3, 3, 0x11]).wellFormed = true := by
  decide

/-! ### The link (13) -/

/-- The CRC-8 of R184 over the length 2 and the body 01 05. -/
theorem test_frame_of_identify : hostFrame [0x01, 0x05] = [0xC3, 0x02, 0x01, 0x05, crc8 [0x02, 0x01, 0x05]] := by decide
/-- One byte 01 leaves the polynomial itself, and a zero byte nothing (R184). -/
theorem test_crc8_of_one : crc8 [0x01] = 0x07 ∧ crc8 [0x00] = 0x00 ∧ crc8 [0x80] = 0x89 := by decide
theorem test_identify : answer (after (.identify 9) State.reset) =
    some (.ok, [0x06, 0x40, Config.deviceRevision, 0, 1, 1, 0]) := by rfl
theorem test_inspect_kind_above_ten : outcome (.inspect 9 11 0) State.reset = some .outOfRange := by decide +kernel
theorem test_unknown_kind : answer (after (.unknownKind 0 9 []) State.reset) = some (.unknownKind, []) := by decide +kernel
theorem test_bad_length : answer (after (.badLength 0x11 9 []) State.reset) = some (.badLength, []) := by decide +kernel
theorem test_frame_discarded : after (.frameDiscarded [0xC3, 1]) State.reset = State.reset := by decide +kernel
theorem test_gap : after (.interByteGapTimeout [0xC3, 3]) State.reset = State.reset := by decide +kernel
theorem test_overflow :
    (after (.receiveBufferOverflow 1)
      { State.reset with link := { State.reset.link with
          reply := some { kind := 1, tag := 1, outcome := .ok, data := [] }
          rxFrames := [List.replicate 251 0], rxPartial := [0xC3, 4] } }).link.rxPartial = [] := by decide +kernel
theorem test_reply_sent :
    (after .replySend (after (.closeSegment 9 5) State.reset)).link.lastSent = hostFrame [0x91, 9, 3] := by decide +kernel
theorem test_report_sent_is_started :
    ((after .reportSend State.reset).link.lastSent.take 8, (after .reportSend State.reset).link.reports) =
      ([0xC3] ++ u8 ((after .reportSend State.reset).link.lastSent.length - 3) ++ [0xC0, 0, 0, 0, 0, 1], []) := by
  decide +kernel
theorem test_restart_cause :
    (after (.restart 9) State.reset).link.resetCause = .restart ∧ outcome (.restart 9) State.reset = some .ok := by
  decide +kernel
theorem test_set_clock : answer (after (.setClock 9 0x01020304) State.reset) = some (.ok, [1, 2, 3, 4]) := by decide +kernel
theorem test_set_clock_unset_value : outcome (.setClock 9 0xFFFFFFFF) State.reset = some .outOfRange := by decide +kernel
theorem test_full_reset_reads_straps :
    (after (.fullReset .resetPin { preset := 5, supplyLow := true, openLimits := 0, closedLimits := 0, presence := 0,
                                    inputA := 0, inputB := 0 }) State.reset).channel 3 =
      { cfg := { mode := .fixed, baseFixed := false, reference := none, rise := 2304, fall := 2112, persist := 4 },
        lastSample := 0, compared := none, riseRun := 0, fallRun := 0, recoveryRun := 0, state := .quiet } := by
  decide +kernel

/-! ### Segments (01) -/

theorem test_set_segment_clamps : answer (after (.setSegment 9 2 5000 10) State.reset) =
    some (.ok, [2, 0x12, 0xC0, 0, 40]) := by decide +kernel
/-- With no ADVANCE sign confirmation is met on entry, and LEAD begins (R7). -/
theorem test_close_segment_without_signs :
    ((after (.closeSegment 9 1) State.reset).segment 0).phase = .lead ∧
      answer (after (.closeSegment 9 1) State.reset) = some (.ok, [2, 1]) := by decide +kernel
theorem test_open_segment_without_gates :
    ((after (.openSegment 9 1) (segmentIn .closed .noPhase [.manual, .restart] State.reset)).segment 0).posture = .caution := by
  decide +kernel
theorem test_adjust_count_clamps : answer (after (.adjustCount 9 1 2000) State.reset) = some (.ok, [3, 0xE7]) := by decide +kernel
theorem test_confirm_timeout :
    ((after (.confirmTimeout 0) { (segmentIn .closing .confirm [.manual] (signIn .showing)).updSegment 0 (fun r =>
      { r with phaseTimer := 240 }) with due := [.confirmTimeout 0] }).segment 0).confirmMissing = true := by decide +kernel
theorem test_lead_end_lowers :
    ((after (.leadEnd 0) { (segmentIn .closing .lead [.manual] (gateIn .opened)).updSegment 0 (fun r =>
      { r with phaseTimer := 480 }) with due := [.leadEnd 0] }).gate 0).state = .lowering := by decide +kernel
theorem test_set_reserve : answer (after (.setReserve 9 1) State.reset) = some (.ok, [1]) := by decide +kernel
theorem test_supply_low : (after (.supplyLowChange true) State.reset).inReserve = true := by decide +kernel

/-! ### Channels (02), the rows of R33's table -/

/-- FIXED 5000, 4500, 3 and FIXED 1200, 1400, 0. -/
theorem test_set_channel_clamps :
    answer (after (.setChannel 9 0 1 0 5000 4500 3) State.reset) = some (.ok, [0, 1, 0xFF, 0x0F, 0xFF, 0x0F, 0xFE, 3]) ∧
      answer (after (.setChannel 9 0 1 0 1200 1400 0) State.reset) = some (.ok, [0, 1, 0xFF, 0x04, 0xB0, 0x04, 0xAF, 1]) := by
  decide +kernel
/-- FIXED -20, -40, 2 and REFERENCE 300, 120, 12. -/
theorem test_set_channel_bottom :
    answer (after (.setChannel 9 0 1 0 (-20) (-40) 2) State.reset) = some (.ok, [0, 1, 0xFF, 0, 1, 0, 0, 2]) ∧
      answer (after (.setChannel 9 0 2 1 300 120 12) State.reset) = some (.ok, [0, 2, 1, 0x01, 0x2C, 0, 120, 8]) := by
  decide +kernel
theorem test_sampling_out_of_range :
    ((after (.samplingTick (Vector.replicate 16 15)) (owing [.sampling])).channel 2).state = .fault ∧
      ((after (.samplingTick (Vector.replicate 16 16)) (owing [.sampling])).channel 2).state = .quiet := by decide +kernel
theorem test_ch_active :
    ((after (.chActive 4) { State.reset.updChannel 4 (fun c => { c with riseRun := 2 }) with
      due := [.chActive 4] }).channel 4).state = .active := by decide +kernel
theorem test_ch_quiet :
    ((after (.chQuiet 4) { State.reset.updChannel 4 (fun c => { c with state := .active, fallRun := 2 }) with
      due := [.chQuiet 4] }).channel 4).state = .quiet := by decide +kernel
theorem test_ch_recover :
    ((after (.chRecover 4) { State.reset.updChannel 4 (fun c => { c with state := .fault, recoveryRun := 8 }) with
      due := [.chRecover 4] }).channel 4).state = .quiet := by decide +kernel

/-! ### Paths and the trace (03) -/

/-- k 3 with two healthy members of five: k_eff 2, DEGRADED (R41). -/
theorem test_set_path_health :
    let s := (State.reset.updChannel 0 fun c => { c with state := .fault }).updChannel 1 fun c => { c with state := .refFault }
    let s := s.updChannel 2 fun c => { c with state := .fault }
    let p := (after (.setPath 9 0 1 0x1F 3 80 0 1 0xFF) s).path 0
    (p.healthy, p.kEff, p.degraded) = (2, 2, true) := by decide +kernel
theorem test_set_path_nine_members : outcome (.setPath 9 0 1 0x1FF 3 80 0 1 0xFF) State.reset = some .outOfRange := by
  decide +kernel
/-- R42's table: age 79 counts in a window of 80, age 80 does not. -/
theorem test_vote_window :
    let p := (pathIn .quiet).path 0
    let q (a : Tick) : PathRec := { p with lastAct := p.lastAct.set 1 (some a) }
    (q 21).inWindow 100 1 = true ∧ (q 20).inWindow 100 1 = false := by decide
theorem test_ack_path : ((after (.ackPath 9 0) (pathIn .alert)).path 0).state = .hold := by decide +kernel
theorem test_dismiss_path : ((after (.dismissPath 9 0) (pathIn .alert)).path 0).state = .quiet := by decide +kernel
theorem test_clear_path_not_in_hold : outcome (.clearPath 9 0) (pathIn .alert) = some .wrongState := by decide +kernel
theorem test_mask_path : ((after (.maskPath 9 0 1) (pathIn .watch)).path 0).state = .masked := by decide +kernel
theorem test_read_trace_mark_unmarked : outcome (.readTrace 9 1 0 8) State.reset = some .wrongState := by decide +kernel
theorem test_release_trace : answer (after (.releaseTrace 9) State.reset) = some (.ok, [0]) := by decide +kernel
theorem test_set_trace_clamps : answer (after (.setTrace 9 65 33) State.reset) = some (.ok, [64, 32]) := by decide +kernel

/-! ### Gates (04) -/

theorem test_set_gate_needs_encoder : outcome (.setGate 9 0 1 0 1200 480 0xFF) State.reset = some .conflict := by decide +kernel
/-- R63's table. -/
theorem test_percent_closed :
    let g (t : Nat) (p : Int) : Nat :=
      ({ (State.reset.gate 0) with cfg := { (State.reset.gate 0).cfg with travel := t }, position := p }).percent
    (g 1200 (-15), g 1200 599, g 1200 600, g 1200 1199, g 1200 1260, g 100 33) = (0, 49, 50, 99, 100, 33) := by decide
theorem test_move_gate_stop_when_open : outcome (.moveGate 9 0 0 1) (gateIn .opened) = some .wrongState := by decide +kernel
theorem test_move_gate_up_while_lowering :
    ((after (.moveGate 9 0 1 1) (gateIn .lowering)).gate 0).state = .pause ∧
      ((after (.moveGate 9 0 1 1) (gateIn .lowering)).gate 0).pending = .up := by decide +kernel
theorem test_reset_gate : ((after (.resetGate 9 0) (gateIn .fault)).gate 0).state = .unknown := by decide +kernel
/-- R64's table, T 1200: from 1124 the closed limit slips, from 1130 it does not. -/
theorem test_limit_arrival_slip :
    let s (p : Int) := after (.limitArrival 0 .closedLimit) ((gateIn .lowering).updGate 0 fun g => { g with position := p })
    ((s 1124).gate 0).state = .closed ∧ ((s 1124).gate 0).position = 1200 ∧
      (s 1124).link.reports.any (fun e => e.obj == .gate 0 && e.flags &&& Flag.gateSlip != 0) = true ∧
      (s 1130).link.reports.any (fun e => e.obj == .gate 0 && e.flags &&& Flag.gateSlip != 0) = false := by decide +kernel
theorem test_limit_lost :
    ((after (.limitLost 0 .openLimit) ((gateIn .opened).updGate 0 fun g => { g with openLimit := true })).gate 0).state =
      .halted := by decide +kernel
theorem test_presence_reverses :
    ((after (.presenceChange 0 true) (gateIn .lowering)).gate 0).state = .raising ∧
      ((after (.presenceChange 0 true) (gateIn .lowering)).gate 0).attempts = 1 := by decide +kernel
theorem test_stall_fault :
    ((after (.stallFault 0) { (gateIn .raising).updGate 0 (fun g => { g with stallCount := 8 }) with
      due := [.stall 0] }).gate 0).faultCause = .stall := by decide +kernel
theorem test_motion_timeout :
    ((after (.motionTimeout 0) { (gateIn .raising).updGate 0 (fun g => { g with motionTicks := 480 }) with
      due := [.motion 0] }).gate 0).faultCause = .timeout := by decide +kernel
theorem test_pause_end :
    ((after (.pauseEnd 0) { (gateIn .pause).updGate 0 (fun g => { g with pauseCount := 4, pending := .up }) with
      due := [.pause 0] }).gate 0).state = .raising := by decide +kernel
theorem test_relower_disarmed_outside_lower :
    ((after (.relower 0) { (gateIn .opened).updGate 0 (fun g => { g with relowerArmed := true, clearCount := 24 }) with
      due := [.relower 0] }).gate 0).relowerArmed = false := by decide +kernel

/-- R74: a manual lowering ends at a limit that a gate reaches while it coasts in PAUSE. -/
theorem test_limit_ends_manual_lowering :
    let t := after (.limitArrival 0 .openLimit) ((gateIn .pause).updGate 0 fun g => { g with manualLowering := true })
    (t.gate 0).state = .pause ∧ (t.gate 0).manualLowering = false := by decide +kernel

/-! ### Counters (05) -/

/-- R83's table, from 00: 01 is +1, 10 is -1, 11 is illegal. -/
theorem test_encoder_steps :
    let c (a b : Bool) := (after (.encoderStep 0 a b) (encoderAt false false)).counter 0
    ((c false true).count, (c true false).count, (c true true).count, (c true true).illegal) = (1, -1, 0, 1) := by
  decide +kernel
theorem test_encoder_moves_gate :
    ((after (.encoderStep 0 false true) (encoderAt false false)).gate 0).position = 1 := by decide +kernel
/-- R85's table: B_AFTER_A and B off completes +1, A_AFTER_B and A off completes -1. -/
theorem test_crossings :
    ((after (.loopInputChange 0 false false) (pairIn .bAfterA false true)).counter 0).count = 1 ∧
      ((after (.loopInputChange 0 false false) (pairIn .aAfterB true false)).counter 0).count = -1 := by decide +kernel
/-- R87: a vehicle that leaves an empty segment sets DRIFT there. -/
theorem test_crossing_drifts :
    ((after (.loopInputChange 0 false false) (pairIn .bAfterA false true)).segment 0).drift = true ∧
      ((after (.loopInputChange 0 false false) (pairIn .bAfterA false true)).segment 1).occupancy = 1 := by decide +kernel
theorem test_stuck :
    ((after (.stuck 0) { (pairIn .a true false).updCounter 0 (fun c => { c with aOnTicks := 480 }) with
      due := [.stuck 0] }).counter 0).stuck = true := by decide +kernel
theorem test_stuck_left :
    ((after (.stuckLeft 0) { (pairIn .idle false false).updCounter 0 (fun c => { c with stuck := true, clearTicks := 8 }) with
      due := [.stuckLeft 0] }).counter 0).stuck = false := by decide +kernel
/-- R88: a unit that the last tick made STUCK is STUCK before the change that follows acts. -/
theorem test_stuck_before_a_change :
    let t := after (.loopInputChange 0 false false) { (pairIn .bAfterA false true).updCounter 0 (fun c =>
      { c with bOnTicks := 480 }) with due := [.stuck 0] }
    (t.counter 0).stuck = true ∧ (t.counter 0).count = 0 := by decide +kernel
theorem test_set_counter_equal_sides : outcome (.setCounter 9 0 2 1 1) State.reset = some .conflict := by decide +kernel

/-! ### Flashers (06), the rows of R100's table -/

theorem test_set_flash :
    answer (after (.setFlash 9 1 0 200) State.reset) = some (.ok, [1, 1, 200]) ∧
      answer (after (.setFlash 9 2 255 0) State.reset) = some (.ok, [2, 255, 1]) := by decide +kernel
theorem test_flash_step :
    ((after .flashStep (State.reset.updFlasher 0 fun f => { f with running := .alert, phaseOn := true, countdown := 8 })).flasher
      0).countdown = 7 := by decide +kernel
theorem test_flash_phase_end :
    let t := after (.flashPhaseEnd 0) { State.reset.updFlasher 0 (fun f => { f with running := .closed, phaseOn := true }) with
      due := [.phaseEnd 0] }
    ((t.flasher 0).phaseOn, (t.flasher 0).countdown) = (false, 122) := by decide +kernel

/-- Generator 0 after the last step of an ON phase of ALERT, with a CLOSED request beside the ALERT one. -/
def lastStep : State :=
  after .flashStep (((pathIn .alert).updPath 0 fun p => { p with cfg := { p.cfg with flasher := some 0 } }).updFlasher 0 fun f =>
    { f with gateReq := f.gateReq.set 0 .closed, pathReq := f.pathReq.set 0 true, running := .alert, phaseOn := true, countdown := 1 })

/-- R98: the phase that ends at a flash step takes the pattern as it stands then, not one that is set afterwards. -/
theorem test_phase_end_takes_the_pattern_of_its_step :
    let t := after (.setFlash 9 3 200 100) lastStep
    (lastStep.due, (t.flasher 0).phaseOn, (t.flasher 0).countdown, t.patterns.alert.off) = ([.phaseEnd 0], false, 8, 100) := by
  decide +kernel
/-- R99: a phase that has ended is stepped on by ALERT's pattern before the effective class falls to CLOSED. -/
theorem test_phase_end_before_a_fall :
    let t := after (.dismissPath 9 0) lastStep
    ((t.flasher 0).running, (t.flasher 0).phaseOn, (t.flasher 0).countdown, t.due) = (.closed, false, 8, []) := by decide +kernel

/-! ### Notices (07) -/

/-- R106's table. -/
theorem test_notice_numbers :
    let l (last : Nat) (held : List Nat) : Nat :=
      ({ slots := Vector.ofFn fun i => held[i.val]?.map fun k =>
           { number := k, reference := 0, segments := 1, firstPage := 0, secondPage := none, start := none, stop := none, lead := 0,
             state := .lifted },
         order := [], lastNumber := last, margin := 3, spent := false : NoticeList }).nextNumber
    (l 0 [], l 41 [12, 40], l 254 [1], l 255 [1, 2, 3], l 255 [255, 1]) = (1, 42, 255, 4, 2) := by decide +kernel
theorem test_post_notice_in_force :
    answer (after (.postNotice 9 7 1 1 820 0 0xFFFFFFFF 0xFFFFFFFF 40) State.reset) = some (.ok, [0, 1, 3, 0, 40, 23]) := by
  decide +kernel
theorem test_post_notice_clock_unset :
    outcome (.postNotice 9 7 1 1 820 0 500 0xFFFFFFFF 40) State.reset = some .clockUnset := by decide +kernel
theorem test_end_notice :
    answer (after (.endNotice 9 1) (noticeIn .posted (some 12000) none)) = some (.ok, [0, 5]) := by decide +kernel
theorem test_set_list_margin : answer (after (.setListMargin 9 20) State.reset) = some (.ok, [8, 24, 0]) := by decide +kernel
/-- R109's first row: POSTED at 9,600, IN_FORCE at 12,000, removed with LIFTED at 15,000. -/
theorem test_pass_clock_second :
    let t (n : Nat) := after .passClockSecond
      { noticeIn .pending (some 12000) (some 15000) with
        tmb := { State.reset.tmb with passClock := some (n - 1) }, due := [.second] }
    let st (n : Nat) := (t n).notices.slots[0].map Notice.state
    (st 9599, st 9600, st 12000, st 15000) = (some .pending, some .posted, some .inForce, some .lifted) := by decide +kernel

/-! ### Signs and lines (08 to 11) -/

theorem test_set_sign_reply : answer (after (.setSign 9 3 3 5 0 1021 1 10) State.reset) =
    some (.ok, [3, 3, 0x03, 0xFC, 16, 1]) := by decide +kernel
theorem test_set_condition_needs_a_sign : outcome (.setCondition 9 0 8) State.reset = some .outOfRange := by decide +kernel
theorem test_set_line_baud : outcome (.setLine 9 0 19201 0 0) State.reset = some .outOfRange := by decide +kernel
theorem test_wake_line_active : answer (after (.wakeLine 9 1) State.reset) = some (.ok, [1, 0]) := by decide +kernel
/-- R148's table. -/
theorem test_bands :
    [Band.moved .normal (-26), Band.moved .normal (-11), Band.moved .normal (-10), Band.moved .cold (-26), Band.moved .cold (-8),
      Band.moved .cold (-10), Band.moved .severe (-8), Band.moved .severe (-23), Band.moved .severe (-24)] =
      [.severe, .cold, .normal, .severe, .normal, .cold, .normal, .cold, .severe] := by decide
/-- R149's and R155's tables: H 120 NORMAL FULL and H 16 SEVERE QUARTER. -/
theorem test_derived_values :
    let g (h : Nat) (b : Band) (k : Granularity) : Sign :=
      Sign.derive { State.reset.sign 0 with
        cfg := { (State.reset.sign 0).cfg with holdover := h }, band := b, granularity := k, service := .showing }
    let v (x : Sign) := (x.lapsePoint, x.dueSpan, x.critical, x.slotPeriod, x.share)
    v (g 120 .normal .full) = (960, 480, 720, 480, 47334) ∧ v (g 16 .severe .quarter) = (32, 16, 24, 4, 1720000) := by
  decide +kernel
theorem test_content_ack :
    let t := after (.signReply 0 (replyBytes 0x01 0 0 20)) (flying .content 1 (signIn .lapsed))
    (t.sign 0).service = .showing ∧ (t.sign 0).shown.page = some 4 ∧ (t.sign 0).temperature = some 20 := by decide +kernel
theorem test_third_failure :
    ((after (.signReplyFailure 0) (flying .content 3 (signIn .showing))).sign 0).service = .offline ∧
      (after (.signReplyFailure 0) (flying .content 2 (signIn .showing))).line 0 =
        (flying .content 3 (signIn .showing)).line 0 := by decide +kernel
/-- R135: the POLL of an OFFLINE sign is sent once. -/
theorem test_lone_poll_is_sent_once :
    (after (.signReplyFailure 0) (flying .poll 1 (signIn .offline))).line 0 = (signIn .offline).line 0 := by decide +kernel
/-- R154: the ACK of a frame to a sign that is ABSENT by then has it adopt the target of its line. -/
theorem test_absent_sign_adopts :
    let s := (flying .poll 1 (signIn .absent)).updLine 0 fun r => { r with target := .half }
    ((after (.signReply 0 (replyBytes 0x05 0 0 20)) s).sign 0).granularity = .half := by decide +kernel
/-- R150: a HELD sign that lapses has its slot timer lowered at that tick. -/
theorem test_held_lapse_lowers_slot_timer :
    ((after (.signLapsed 0) { (signIn .held).updSign 0 (fun g => { g with ages := Ages.all 960, slotTimer := 5 }) with
      due := [.lapsed 0] }).sign 0).slotTimer = 4 := by decide +kernel
/-- R150: the slot timer of a sign whose refresh fell due at a tick is loaded with P before a HOLD ACK that follows takes it HELD. -/
theorem test_refresh_due_before_a_hold_ack :
    let t := after (.signReply 0 (replyBytes 4 0 0x02 0)) { (flying .hold 1 (signIn .showing)).updSign 0 (fun g =>
      { g with slotTimer := 0, shown := { g.shown with page := some 40 } }) with due := [.refresh 0] }
    (t.sign 0).service = .held ∧ (t.sign 0).slotTimer = (signIn .showing |>.sign 0).slotPeriod := by decide +kernel
theorem test_rotation_step :
    ((after (.rotationStep 0) { (signIn .showing).updSign 0 (fun g =>
      { g with rotation := [4, 820], index := 1, dwellCount := 40, planClass := .closure }) with
      due := [.rotation 0] }).sign 0).index = 0 := by decide +kernel
theorem test_refresh_due :
    ((after (.refreshDue 0) { (signIn .showing).updSign 0 (fun g =>
      { g with slotTimer := 0, shown := { g.shown with page := some 40 } }) with due := [.refresh 0] }).sign 0).slotTimer =
      480 := by decide +kernel
theorem test_sign_lapsed :
    ((after (.signLapsed 0) { (signIn .showing).updSign 0 (fun g => { g with ages := Ages.all 960 }) with
      due := [.lapsed 0] }).sign 0).service = .lapsed := by decide +kernel
theorem test_critical_point :
    (after (.criticalPoint 0) { (signIn .showing).updSign 0 (fun g => { g with ages := Ages.all 720 }) with
      due := [.critical 0] }).sign 0 =
      { (signIn .showing).sign 0 with ages := Ages.all 720, restoreNeed := some 0 } := by decide +kernel
theorem test_poll_due :
    ((after (.pollDue 0) { (signIn .offline).updSign 0 (fun g => { g with pollCount := 80 }) with
      due := [.poll 0] }).line 0).inFlight.map Frame.kind = some .poll := by decide +kernel
theorem test_hold_entry_without_signs :
    ((after (.holdEntry 1) { State.reset.updLine 1 (fun r => { r with activeCount := 80 }) with
      due := [.holdEntry 1], reserveRequest := true }).line 1).state = .held := by decide +kernel
theorem test_hold_ack_takes_lapsed_sign_held :
    ((after (.signReply 0 (replyBytes 4 0 0x02 0)) (flying .hold 1 (signIn .lapsed))).sign 0).service = .held := by
  decide +kernel
theorem test_held_wake_age :
    ((after (.heldWakeAge 0) { (signIn .held).updLine 0 (fun r => { r with state := .held }) with
      due := [.heldWake 0],
      signs := (signIn .held).signs.set 0 { (signIn .held).sign 0 with ages := Ages.all 960, lapsePoint := 1920 } }).line
      0).wakeCause = 6 := by decide +kernel

/-! ### The library (12) -/

theorem test_open_page_fixed : outcome (.openPage 9 7 0) State.reset = some .outOfRange := by decide +kernel
theorem test_page_data_closed : outcome (.pageData 9 0) State.reset = some .wrongState := by decide +kernel
theorem test_erase_block_zero : outcome (.eraseBlock 9 0) State.reset = some .outOfRange := by decide +kernel
theorem test_save_profile_starts : answer (after (.saveProfile 9) State.reset) = some (.ok, [0, 6]) := by decide +kernel
theorem test_clear_faults :
    answer (after (.clearFaults 9) { State.reset with lib := { State.reset.lib with faulted := [40, 41] } }) =
      some (.ok, [2]) := by decide +kernel
theorem test_read_directory_set : outcome (.readDirectory 9 32 1) State.reset = some .outOfRange := by decide +kernel
theorem test_bad_read_is_repeated :
    (after (.flashReadDone 1) (portAt (.fill 8 false 0 false) 0)).lib.port = .fill 8 false 0 true := by decide +kernel
theorem test_program_done :
    let t := after (.programDone 0) (portAt (.program 5 8 1 0) 1)
    t.lib.lastDone = 5 ∧ flashRead t.flash 4160 = 0 ∧ flashRead t.flash 4159 = 0xFF := by decide +kernel
theorem test_erase_done :
    let t := after .eraseDone { portAt (.erase 5 1) 1 with flash := [(4096, 0), (8191, 0), (8192, 0)] }
    t.flash = [(8192, 0)] := by decide +kernel
/-- A saved profile begins with 0xA640 and the length of its image (R181), 568 bytes in this layout (log entry 21). -/
theorem test_profile_saved :
    let t := after (.profileSaved true) (portAt (.save 5 (Profile.defaults 2)) 1)
    t.lib.lastDone = 5 ∧ (List.range 4).map (flashRead t.flash) = [0xA6, 0x40, 0x02, 0x38] := by decide +kernel
theorem test_flash_timeout :
    let t := after .flashTimeout { portAt (.save 5 (Profile.defaults 2)) 80 with due := [.flashTimeout] }
    t.lib.lastFailure.map Prod.snd = some .flashTimeout ∧ t.freeCount = 4096 := by decide +kernel
/-- R174: an operation that the last tick has taken to its limit has timed out before the end of it that follows. -/
theorem test_flash_timeout_before_its_end :
    let t := after .eraseDone { portAt (.erase 5 1) 40 with due := [.flashTimeout] }
    t.lib.lastFailure.map Prod.snd = some .flashTimeout ∧ t.lib.lastDone = State.reset.lib.lastDone := by decide +kernel
theorem test_tick :
    (after .tick State.reset).tmb = { tickCounter := 1, tickInSecond := 1, passClock := none } ∧
      (after .tick State.reset).due = [.sampling] := by decide +kernel

/-! ### Witnesses: states and operands that meet the hypotheses of each statement, clause by clause -/

/-- A request waits in front of a tick. -/
theorem witness_StepTakesFront :
    ({ State.reset with pending := [.identify 1, .tick] } : State).pending = .identify 1 :: [.tick] := by decide +kernel

theorem witness_EmptyQueueTakesDue :
    State.reset.pending = [] ∧ State.reset.due = [] ∧ (owing [.second]).pending = [] ∧ (owing [.second]).due = .second :: [] ∧
      Due.second.isChannel = false ∧ Due.second ≠ .sampling ∧ leavesDue .tick = false ∧ leavesDue (.identify 0) = false ∧
      leavesDue .flashStep = false ∧ leavesDue .eraseDone = false := by decide +kernel

theorem witness_FramesSpellCommands :
    (Instr.closeSegment 0 5).requestKind = some .closeSegment ∧ RequestKind.ofCode 0x00 = none ∧
      RequestKind.ofCode 0x01 = some .identify ∧ RequestKind.ofCode 0x3C = some .readDirectory ∧
      ([] : List Byte).length + 2 = RequestKind.identify.bodyLength ∧
      ([0] : List Byte).length + 2 ≠ RequestKind.identify.bodyLength := by decide +kernel

theorem witness_RequestIsItsFrame : (Instr.readDirectory 255 255 255).requestKind = some .readDirectory := by decide +kernel

theorem witness_RefusalsChangeNothing :
    State.reset.listening ∧ (Instr.unknownKind 0 0 []).wellFormed = true ∧ (Instr.badLength 0x11 0 []).wellFormed = true ∧
      (Instr.closeSegment 0 5).requestKind = some .closeSegment ∧ outcome (.closeSegment 0 5) State.reset = some .outOfRange := by
  unfold State.listening State.settled State.calm; decide +kernel

/-- A link with a reply in the slot and a frame waiting. -/
def busyLink (frames : List (List Byte)) (part : List Byte) : State :=
  { State.reset with link := { State.reset.link with
      reply := some { kind := 1, tag := 1, outcome := .ok, data := [] }, rxFrames := frames, rxPartial := part } }

theorem witness_NoFrameLeavesNothing :
    (State.reset.settled ∧ State.reset.link.rxPartial = [] ∧ State.reset.link.rxFrames = [] ∧
      State.reset.link.occupancy + [(0xC3 : Byte), 1].length ≤ 256 ∧ (Instr.frameDiscarded [0xC3, 1]).wellFormed = true ∧
      (Instr.frameDiscarded [0xC3, 241]).wellFormed = true ∧ (Instr.interByteGapTimeout [0xC3]).wellFormed = true) ∧
    ((busyLink [List.replicate 251 0] [0xC3, 4]).settled ∧ 256 ≤ (busyLink [List.replicate 251 0] [0xC3, 4]).link.occupancy ∧
      (busyLink [List.replicate 251 0] [0xC3, 4]).link.reply ≠ none) := by
  unfold State.settled State.calm; decide +kernel

theorem witness_ReplySentBeforeNextRequest :
    ((busyLink [] []).settled ∧ (busyLink [] []).link.reply = some { kind := 1, tag := 1, outcome := .ok, data := [] } ∧
      (busyLink [] []).link.rxPartial = [] ∧
      (busyLink [] []).link.occupancy + RequestKind.identify.bodyLength + 3 ≤ 256) ∧
    (busyLink [encodeBody (.identify 2)] []).link.rxFrames = [encodeBody (.identify 2)] ∧
    (State.reset.settled ∧ State.reset.link.rxFrames = [] ∧ State.reset.link.reply = none) := by
  unfold State.settled State.calm; decide +kernel

/-- A report of the removed notice 1 is the oldest. -/
def removedNotice : State :=
  { noticeIn .lifted none none with link := { State.reset.link with reports := [{ obj := .notice 0, flags := 2 }] } }

theorem witness_OldestReportSent :
    (State.reset.settled ∧ State.reset.link.reply = none ∧ State.reset.link.reports = { obj := .system, flags := 1 } :: [] ∧
      ∀ i : Fin 24, Obj.system = .notice i → ∀ x : Notice, State.reset.notices.slots[i] = some x → x.state.live = true) ∧
    (busyLink [] []).link.reply ≠ none ∧
    (removedNotice.settled ∧ removedNotice.link.reply = none ∧
      removedNotice.link.reports = { obj := .notice 0, flags := 2 } :: [] ∧
      (removedNotice.notices.slots[0].map fun x => x.state.live) = some false ∧ removedNotice.notices.spent = false) ∧
    (let full : State := { removedNotice with notices := { removedNotice.notices with margin := 24 } }
     full.settled ∧ full.notices.spent = false ∧ full.notices.freeCount + 1 ≤ full.notices.margin) := by
  refine ⟨⟨?_, by decide +kernel, by decide +kernel, fun i h => by cases h⟩, by decide +kernel, ?_, ?_⟩ <;>
    (unfold State.settled State.calm; decide +kernel)

theorem witness_ReadingRequestsAnswer :
    State.reset.listening ∧ ((11 : Byte).toNat ≠ Obj.trace.kindCode ∧ ∀ o ∈ Obj.all, (11 : Byte).toNat ≠ o.kindCode) ∧
      127 < (128 : Byte).toNat ∧ (127 : Byte).toNat ≤ 127 ∧ 1 < (2 : Byte).toNat ∧ State.reset.trace.mark = none ∧
      ({ State.reset with trace := { State.reset.trace with mark := some 0 } } : State).trace.mark = some 0 := by
  unfold State.listening State.settled State.calm; decide +kernel

/-- Segment 1 waits in CONFIRM or LEAD at a timer, on an unconfirmed ADVANCE sign. -/
def waiting (ph : Phase) (n : Nat) (d : List Due) : State :=
  { (segmentIn .closing ph [.manual] (signIn .showing)).updSegment 0 (fun r => { r with phaseTimer := n }) with due := d }

theorem witness_SegmentSettingsApply :
    (State.reset.listening ∧ (1 : Byte).toNat = (0 : Fin 4).val + 1 ∧ (State.reset.segment 0).phase = .noPhase) ∧
    ((waiting .confirm 40 []).listening ∧ ((waiting .confirm 40 []).segment 0).phase = .confirm ∧
      max 40 (min 960 (0 : Half).toNat) ≤ ((waiting .confirm 40 []).segment 0).phaseTimer) ∧
    ((waiting .lead 0 []).listening ∧ ((waiting .lead 0 []).segment 0).phase = .lead ∧
      min 4800 (0 : Half).toNat ≤ ((waiting .lead 0 []).segment 0).phaseTimer) ∧
    ((4 : Byte).toNat = (3 : Fin 4).val + 1 ∧ (State.reset.segment 3).uncertain = true ∧
      min 999 (1000 : Half).toNat ≠ (State.reset.segment 3).occupancy ∧
      (segmentIn .closed .noPhase [.manual] State.reset).listening) := by
  unfold State.listening State.settled State.calm; decide +kernel

/-- Segment 1 is REOPENING with gate 0 in a state, and an unconfirmed ADVANCE sign. -/
def reopening (st : GateState) (pause : Nat) : State :=
  (segmentIn .reopening .noPhase [] (signIn .showing)).setGate 0 { (gateIn st).gate 0 with pauseCount := pause }

theorem witness_CloseSegmentAddsManual :
    (State.reset.listening ∧ (4 : Byte).toNat = (3 : Fin 4).val + 1 ∧ Cause.manual ∉ (State.reset.segment 3).causes ∧
      (State.reset.segment 3).posture = .caution) ∧
    ((waiting .lead 0 []).listening ∧ Cause.manual ∈ ((waiting .lead 0 []).segment 0).causes) ∧
    ((segmentIn .closed .noPhase [.restart] State.reset).listening ∧
      Cause.manual ∉ ((segmentIn .closed .noPhase [.restart] State.reset).segment 0).causes ∧
      (segmentIn .closed .noPhase [.restart] State.reset).confirmSettled 0) ∧
    ((reopening .raising 0).listening ∧ Cause.manual ∉ ((reopening .raising 0).segment 0).causes ∧
      (0 : Fin 6) ∈ (reopening .raising 0).gatesOf 0 ∧ ((reopening .raising 0).gate 0).state = .raising ∧
      ((reopening .pause 3).gate 0).pauseCount ≠ 4 ∧ (reopening .pause 4).confirmed 0 = false ∧
      ((reopening .pause 4).gate 0).pauseCount = 4 ∧ ((reopening .opened 0).gate 0).state = .opened) := by
  unfold State.listening State.settled State.calm State.confirmSettled; decide +kernel

theorem witness_OpenSegmentRemovesCauses :
    (State.reset.listening ∧
      (State.reset.segment 0).causes.filter (fun c => c != .manual && c != .restart) = (State.reset.segment 0).causes) ∧
    ((segmentIn .closed .noPhase [.manual] (gateIn .closed)).listening ∧
      ((segmentIn .closed .noPhase [.manual] (gateIn .closed)).segment 0).causes.filter
        (fun c => c != .manual && c != .restart) = [] ∧
      ((segmentIn .closed .noPhase [.manual] (gateIn .closed)).segment 0).posture = .closed ∧
      (0 : Fin 6) ∈ (segmentIn .closed .noPhase [.manual] (gateIn .closed)).gatesOf 0) ∧
    ((segmentIn .closed .noPhase [.manual, .notice 1] State.reset).listening ∧
      ((segmentIn .closed .noPhase [.manual, .notice 1] State.reset).segment 0).causes.filter
        (fun c => c != .manual && c != .restart) = [.notice 1] ∧
      (segmentIn .closed .noPhase [.manual, .notice 1] State.reset).confirmSettled 0) ∧
    (((gateIn .pause).updGate 0 fun g => { g with pauseCount := 4 }).gate 0).pauseCount = 4 ∧
    ((gateIn .pause).gate 0).pauseCount ≠ 4 ∧ ((gateIn .blocked).gate 0).state = .blocked := by
  unfold State.listening State.settled State.calm State.confirmSettled; decide +kernel

/-- Segment 1 at the end of its LEAD, with gate 0 in a state. -/
def leadOver (st : GateState) : State :=
  { (segmentIn .closing .lead [.manual] (gateIn st)).updSegment 0 (fun r => { r with phaseTimer := 480 }) with
    due := [.leadEnd 0] }

theorem witness_ClosingTimersEndPhases :
    ((waiting .confirm 240 [.confirmTimeout 0]).calm ∧ Due.confirmTimeout 0 ∈ (waiting .confirm 240 [.confirmTimeout 0]).due ∧
      ((waiting .confirm 240 [.confirmTimeout 0]).segment 0).phase = .confirm ∧
      ((waiting .confirm 240 [.confirmTimeout 0]).segment 0).cfg.confirm ≤
        ((waiting .confirm 240 [.confirmTimeout 0]).segment 0).phaseTimer) ∧
    ((leadOver .opened).calm ∧ Due.leadEnd 0 ∈ (leadOver .opened).due ∧ ((leadOver .opened).segment 0).phase = .lead ∧
      ((leadOver .opened).segment 0).cfg.lead ≤ ((leadOver .opened).segment 0).phaseTimer ∧
      (0 : Fin 6) ∈ (leadOver .opened).gatesOf 0 ∧ ((leadOver .opened).gate 0).state = .opened) ∧
    ((leadOver .raising).gate 0).state = .raising ∧
    (let s (st : GateState) (n : Nat) (limit : Bool) : State :=
       (leadOver st).updGate 0 fun g => { g with presence := true, pauseCount := n, closedLimit := limit }
     (s .opened 0 false).calm ∧ ((s .opened 0 false).gate 0).presence = true ∧ ((s .pause 4 true).gate 0).closedLimit = true ∧
       ((s .pause 4 false).gate 0).pauseCount = 4 ∧ ((s .pause 3 false).gate 0).pauseCount ≠ 4 ∧
       ((s .closed 0 true).gate 0).state = .closed ∧ ((s .fault 0 true).gate 0).state = .fault) := by
  unfold State.calm; decide +kernel

/-- The hypothesis at reset, where a segment waits in CONFIRM, where one lowers and where one is CLOSED. -/
theorem witness_ClosingRecordsSound :
    State.reset.closingSound ∧ (waiting .confirm 3 []).closingSound ∧ ((waiting .confirm 3 []).segment 0).phase = .confirm ∧
      (waiting .lower 0 []).closingSound ∧ (segmentIn .closed .noPhase [.restart] State.reset).closingSound ∧
      ¬(segmentIn .closing .confirm [.manual] State.reset).confirmWaits := by
  refine ⟨⟨?_, ?_⟩, ⟨?_, ?_⟩, ?_, ⟨?_, ?_⟩, ⟨?_, ?_⟩, ?_⟩
  all_goals (try unfold State.confirmWaits); (try unfold Segment.closingSound); decide +kernel

theorem witness_ReservePostureFollows :
    State.reset.settled ∧ State.reset.link.idle = true ∧ 2 ≤ (2 : Byte).toNat ∧ (1 : Byte).toNat < 2 ∧
      (((0 : Byte) == 1) || State.reset.supplyLow) = State.reset.inReserve ∧
      (((1 : Byte) == 1) || State.reset.supplyLow) ≠ State.reset.inReserve ∧
      (State.reset.reserveRequest || false) = State.reset.inReserve ∧
      (State.reset.reserveRequest || true) ≠ State.reset.inReserve ∧
      (let s : State := { (signIn .held).updLine 0 (fun r => { r with state := .held }) with supplyLow := true }
       s.settled ∧ (s.reserveRequest || false) ≠ s.inReserve ∧ (s.line 0).state = .held) := by
  unfold State.settled State.calm; decide +kernel

/-- Channel 1 in SERVE for channel 0. -/
def serving : State :=
  (State.reset.updChannel 0 fun c => { c with cfg := { c.cfg with mode := .reference, reference := some 1 } }).updChannel 1
    fun c => { c with cfg := { c.cfg with mode := .serve, baseFixed := true }, state := .serve }

theorem witness_SetChannelFixedOrOff :
    (State.reset.listening ∧ (15 : Byte).toNat = (15 : Fin 16).val ∧ (State.reset.channel 15).cfg.mode = .fixed ∧
      (State.reset.channel 15).cfg.reference = none) ∧
    (serving.listening ∧ (serving.channel 1).cfg.mode = .serve ∧ (serving.channel 1).cfg.reference = none) ∧
    (∀ j : Fin 16, (State.reset.channel 15).cfg.reference ≠ some j) ∧
    ((serving.channel 0).cfg.reference = some 1 ∧ (serving.channel 1).state ≠ .fault ∧ (serving.channel 1).state ≠ .active ∧
      ∀ n : Fin 12, (serving.path n).hasMember 1 = false) ∧
    ((serving.channel 0).cfg.mode ≠ .fixed ∧ (serving.channel 0).cfg.mode ≠ .off ∧ (serving.channel 0).cfg.mode ≠ .serve ∧
      (serving.channel 0).cfg.reference ≠ some 0) := by
  unfold State.listening State.settled State.calm; decide +kernel

theorem witness_SetChannelReference :
    (State.reset.listening ∧ (0 : Byte).toNat = (0 : Fin 16).val ∧ (15 : Byte).toNat = (15 : Fin 16).val ∧
      (15 : Fin 16) ≠ 0 ∧ (State.reset.channel 15).cfg.mode ≠ .reference ∧
      (∀ n : Fin 12, (State.reset.path n).hasMember 15 = false) ∧ (State.reset.channel 0).cfg.mode ≠ .serve ∧
      (State.reset.channel 0).cfg.reference ≠ some 15 ∧ (State.reset.channel 0).cfg.reference ≠ some 0) ∧
    (serving.listening ∧ (serving.channel 0).cfg.mode = .reference ∧ (serving.channel 0).cfg.reference = some 1 ∧
      (serving.channel 1).cfg.mode = .serve ∧ ∀ n : Fin 12, (serving.path n).hasMember 1 = false) ∧
    ((pathIn .quiet).path 0).hasMember 2 = true := by
  unfold State.listening State.settled State.calm; decide +kernel

theorem witness_SamplingTickConverts :
    let x : Vector (BitVec 12) 16 := Vector.replicate 16 1024
    let s := owing [.sampling]
    (s.calm ∧ Due.sampling ∈ s.due ∧ (∀ d ∈ s.due, d.isChannel = false) ∧ (s.channel 0).cfg.mode = .fixed ∧
      (s.channel 0).state = .quiet ∧ ¬(x[0].toNat ≤ 15 ∨ 4080 ≤ x[0].toNat)) ∧
    ((15 : BitVec 12).toNat ≤ 15 ∧ ∀ j : Fin 16, (s.channel j).state = .fault → (s.channel j).recoveryRun < 7) ∧
    ((serving.channel 0).cfg.mode = .reference ∧ (serving.channel 0).cfg.reference = some 1 ∧
      (serving.channel 1).cfg.mode ≠ .off ∧ (serving.channel 1).state ≠ .fault ∧ (serving.channel 0).state = .quiet) ∧
    (let s : State := { (pathIn .watch).updChannel 0 (fun c => { c with state := .active }) with due := [.sampling] }
     let t := after (.samplingTick ((Vector.replicate 16 1024).set 0 15)) s
     s.calm ∧ (s.path 0).hasMember 0 = true ∧ (s.path 0).state = .watch ∧ (s.channel 0).state = .active ∧
       (t.channel 0).state = .fault ∧ (t.path 0).state = .quiet ∧ (t.path 0).healthy = 2) ∧
    (let u : State := { serving.updChannel 0 (fun c => { c with state := .refFault }) with due := [.sampling] }
     u.calm ∧ (u.channel 0).state = .refFault ∧
       ∀ k : Fin 16, (u.channel k).state = .fault → (u.channel k).recoveryRun < 7) := by
  unfold State.calm; decide +kernel

/-- Channel 0 is about to become ACTIVE, as a member of path 0. -/
def tripping (st : PathState) : State :=
  { (pathIn st).updChannel 0 (fun c => { c with riseRun := 2 }) with due := [.chActive 0] }

/-- Channel 0 is about to leave ACTIVE, or FAULT. -/
def leaving (d : Due) (st : ChannelState) (mode : ChannelMode) : State :=
  { serving.updChannel 0 (fun c =>
      { c with state := st, fallRun := 8, recoveryRun := 8, cfg := { c.cfg with mode := mode } }) with due := [d] }

/-- One channel event is owed, and one of several. -/
theorem witness_channelFirst :
    (tripping .quiet).channelFirst (.chActive 0) ∧
      (owing [.second, .chRecover 3, .chActive 0, .chRefFault 1]).channelFirst (.chRecover 3) ∧
      (leaving (.chQuiet 0) .active .fixed).channelFirst (.chQuiet 0) ∧
      (leaving (.chRecover 0) .fault .reference).channelFirst (.chRecover 0) :=
  ⟨⟨[], by decide +kernel, fun _ h => by cases h⟩,
    ⟨[.chActive 0, .chRefFault 1], by decide +kernel, fun e h => by cases h; rfl⟩,
    ⟨[], by decide +kernel, fun _ h => by cases h⟩, ⟨[], by decide +kernel, fun _ h => by cases h⟩⟩

theorem witness_ChannelActivationVotes :
    ((tripping .quiet).calm ∧ ((tripping .quiet).channel 0).state = .quiet ∧
      ((tripping .quiet).channel 0).cfg.persist ≤ ((tripping .quiet).channel 0).riseRun ∧
      ((tripping .quiet).path 0).hasMember 0 = true ∧ ((tripping .quiet).path 0).state = .quiet ∧
      1 ≤ ((tripping .quiet).path 0).cfg.window ∧ ((tripping .quiet).path 1).hasMember 0 = false) ∧
    ((tripping .masked).path 0).state = .masked ∧ ((tripping .alert).path 0).state = .alert ∧
    (∀ n : Fin 12, ((tripping .watch).path n).hasMember 0 = true → 1 ≤ ((tripping .watch).path n).cfg.window) := by
  unfold State.calm; decide +kernel

theorem witness_ChannelQuietAndRecovery :
    ((leaving (.chQuiet 0) .active .fixed).calm ∧ ((leaving (.chQuiet 0) .active .fixed).channel 0).state = .active ∧
      ((leaving (.chQuiet 0) .active .fixed).channel 0).cfg.persist ≤
        ((leaving (.chQuiet 0) .active .fixed).channel 0).fallRun) ∧
    (((leaving (.chRecover 0) .fault .reference).channel 0).state = .fault ∧
      ((leaving (.chRecover 0) .fault .reference).channel 0).recoveryRun = 8 ∧
      ((leaving (.chRecover 0) .fault .reference).channel 0).cfg.mode = .reference ∧
      ((leaving (.chRecover 0) .fault .reference).channel 0).cfg.reference = some 1) := by
  unfold State.calm; decide +kernel

theorem witness_SetPathApplies :
    (State.reset.listening ∧ (11 : Byte).toNat = (11 : Fin 12).val ∧ (4 : Byte).toNat = (3 : Fin 4).val + 1 ∧
      (4095 : Half).toNat < 4096 ∧ (0xFF : Byte).toNat = ((none : Option (Fin 8)).map Fin.val).getD 0xFF ∧
      (7 : Byte).toNat = ((some 7 : Option (Fin 8)).map Fin.val).getD 0xFF) ∧
    (8 < (bitsOf (0x1FF : Half)).length ∧ (bitsOf (0xFF : Half)).length ≤ 8) ∧
    ((pathIn .alert).listening ∧ ((pathIn .alert).path 0).state = .alert ∧ ((pathIn .alert).path 0).cfg.members ≠ 3 ∧
      ((pathIn .alert).path 0).cfg.members = 7 ∧ ((pathIn .alert).path 0).cfg.segment = 0) ∧
    ((1 : Fin 16) ∈ bitsOf (2 : Half) ∧ (serving.channel 1).cfg.mode = .serve) := by
  unfold State.listening State.settled State.calm; decide +kernel

theorem witness_PathRequestsByState :
    (State.reset.listening ∧ (State.reset.path 11).cfg.members = 0) ∧
    ((pathIn .alert).listening ∧ ((pathIn .alert).path 0).cfg.members ≠ 0 ∧ ((pathIn .alert).path 0).state = .alert) ∧
    ((pathIn .hold).listening ∧ ((pathIn .hold).path 0).state = .hold) ∧
    ((pathIn .quiet).listening ∧ ((pathIn .quiet).path 0).cfg.members ≠ 0 ∧ ((pathIn .quiet).path 0).state = .quiet) ∧
    ((pathIn .masked).listening ∧ ((pathIn .masked).path 0).state = .masked) := by
  unfold State.listening State.settled State.calm; decide +kernel

/-- A trace of n entries with a mark. -/
def traceOf (n : Nat) (m : Option Nat) : Trace :=
  { State.reset.trace with
    entries := List.replicate n { second := none, tick := 0, kind := .chActive, object := 0, value := 0 }, mark := m }

theorem witness_TraceRecords :
    ((traceOf 128 none).mark = none ∧ (traceOf 128 none).entries.length ≤ 128) ∧
    ((traceOf 128 (some 0)).mark = some 0 ∧ 0 ≤ (traceOf 128 (some 0)).entries.length ∧
      (traceOf 128 (some 0)).entries.length = 128) ∧
    ((traceOf 128 (some 127)).mark = some 127 ∧ 127 ≤ (traceOf 128 (some 127)).entries.length) ∧
    ((traceOf 1 (some 0)).mark = some 0 ∧ (traceOf 1 (some 0)).entries.length < 128) := by decide +kernel

theorem witness_ReleaseTraceUnmarks :
    (State.reset.listening ∧ State.reset.trace.mark = none) ∧
    (({ State.reset with trace := traceOf 128 (some 3) } : State).listening ∧ (traceOf 128 (some 3)).mark ≠ none ∧
      (traceOf 128 (some 3)).entries.length = 128) := by
  unfold State.listening State.settled State.calm; decide +kernel

theorem witness_SetTraceApplies :
    (State.reset.listening ∧ State.reset.trace.entries.length ≤ 128 ∧ State.reset.trace.mark = none) ∧
    (({ State.reset with trace := traceOf 127 (some 0) } : State).listening ∧ (traceOf 127 (some 0)).mark = some 0 ∧
      (traceOf 127 (some 0)).entries.length < 128 ∧ (traceOf 127 (some 0)).nearFullPosted = false) ∧
    ((traceOf 128 (some 1)).mark = some 1 ∧ 1 ≤ (traceOf 128 (some 1)).entries.length) := by
  unfold State.listening State.settled State.calm; decide +kernel

/-- Unit 0 is an ENCODER, and gate 0 has no segment. -/
def freshGate : State := State.reset.updCounter 0 fun c => { c with cfg := { mode := .encoder, boundary := none } }

theorem witness_SetGateApplies :
    (freshGate.listening ∧ (0 : Byte).toNat = (0 : Fin 6).val ∧
      (1 : Byte).toNat = (match (some 0 : Option (Fin 4)) with | some k => k.val + 1 | none => 0) ∧
      (freshGate.gate 0).cfg.segment = none ∧ (freshGate.gate 0).state = .unknown ∧
      (freshGate.counter 0).cfg.mode = .encoder ∧
      (∀ j : Fin 6, j ≠ 0 → (freshGate.gate j).cfg.segment = none) ∧ (freshGate.segment 0).posture = .caution ∧
      (freshGate.segment 0).phase = .noPhase) ∧
    ((encoderAt false false).listening ∧ ((encoderAt false false).gate 0).state = .lowering ∧
      ((encoderAt false false).gate 0).cfg.segment ≠ none) ∧
    ((segmentIn .closing .lower [.manual] freshGate).segment 0).phase = .lower ∧
    ((gateIn .closed).listening ∧ ((gateIn .closed).gate 0).cfg.segment = some 0 ∧
      (segmentIn .closing .lower [.manual] (gateIn .opened)).gatesOf 0 = [0]) ∧
    (let s (st : GateState) : State := (gateIn st).updCounter 0 fun c => { c with cfg := { mode := .encoder, boundary := none } }
     let joined (p : Posture) (st : GateState) : State := (s st).updSegment 1 fun r => { r with posture := p }
     (s .opened).listening ∧ ((s .opened).gate 0).cfg.segment = some 0 ∧ (1 : Fin 4) ≠ 0 ∧ ((s .opened).gate 0).state = .opened ∧
       (2 : Byte).toNat = (1 : Fin 4).val + 1 ∧ (s .opened).confirmWaits ∧ (joined .closed .opened).confirmWaits ∧
       ((joined .closed .opened).segment 1).posture = .closed ∧
       ((joined .reopening .closed).segment 1).phase = .noPhase ∧
       (segmentIn .reopening .noPhase [] (s .halted)).gatesOf 0 = [0]) := by
  unfold State.listening State.settled State.calm State.confirmWaits; decide +kernel

theorem witness_MoveGateByState :
    (State.reset.listening ∧ (5 : Byte).toNat = (5 : Fin 6).val ∧ (State.reset.gate 5).cfg.segment = none) ∧
    ((gateIn .fault).listening ∧ ((gateIn .fault).gate 0).state = .fault) ∧
    ((gateIn .lowering).listening ∧ ((gateIn .lowering).gate 0).cfg.segment ≠ none ∧
      ((gateIn .lowering).gate 0).state = .lowering) ∧
    ((gateIn .blocked).listening ∧ ((gateIn .blocked).gate 0).state = .blocked ∧
      ((gateIn .blocked).segment 0).posture = .caution) := by
  unfold State.listening State.settled State.calm; decide +kernel

theorem witness_ResetGateRebuilds :
    (State.reset.listening ∧ (State.reset.gate 5).cfg.segment = none) ∧
    ((gateIn .opened).listening ∧ ((gateIn .opened).gate 0).state ≠ .fault) ∧
    ((gateIn .fault).listening ∧ ((gateIn .fault).gate 0).cfg.segment ≠ none ∧ ((gateIn .fault).gate 0).state = .fault ∧
      ((gateIn .fault).gate 0).openLimit = false ∧ ((gateIn .fault).gate 0).closedLimit = false) ∧
    (((gateIn .fault).updGate 0 fun g => { g with openLimit := true, closedLimit := true }).listening) := by
  unfold State.listening State.settled State.calm; decide +kernel

/-- Gate 0 stands at a limit. -/
def standing (st : GateState) : State := (gateIn st).updGate 0 fun g => { g with openLimit := true, closedLimit := true }

theorem witness_LimitInputsAct :
    (let s := segmentIn .closing .lower [.manual] (gateIn .lowering)
     s.settled ∧ (s.gate 0).cfg.segment = some 0 ∧ (s.gate 0).limit .closedLimit = false ∧
      (s.gate 0).limit (otherLimit .closedLimit) = false ∧ (s.segment 0).phase = .lower ∧
      (∀ j ∈ s.gatesOf 0, j ≠ 0 → (s.gate j).state = .closed)) ∧
    ((gateIn .fault).gate 0).state = .fault ∧ ((gateIn .raising).gate 0).attempts = 0 ∧
    (((gateIn .pause).updGate 0 fun g => { g with openLimit := true }).gate 0).limit (otherLimit .closedLimit) = true ∧
    ((standing .opened).settled ∧ ((standing .opened).gate 0).cfg.segment = some 0 ∧
      ((standing .opened).gate 0).limit .openLimit = true ∧ ((standing .opened).gate 0).state = .opened) ∧
    ((segmentIn .closed .noPhase [.manual] (standing .closed)).segment 0).posture = .closed ∧
    ((standing .raising).gate 0).state = .raising ∧
    (let s := segmentIn .reopening .noPhase [] (gateIn .raising)
     s.settled ∧ (s.gate 0).limit .openLimit = false ∧ (s.gate 0).limit (otherLimit .openLimit) = false ∧
      (s.segment 0).posture = .reopening ∧ (∀ j ∈ s.gatesOf 0, j ≠ 0 → (s.gate j).state = .opened) ∧
      (s.segment 0).uncertain = true) := by
  unfold State.settled State.calm; decide +kernel

theorem witness_PresenceReversesLowering :
    ((gateIn .lowering).settled ∧ ((gateIn .lowering).gate 0).presence ≠ true ∧ ((gateIn .lowering).gate 0).cfg.segment ≠ none ∧
      ((gateIn .lowering).gate 0).state = .lowering) ∧
    (((gateIn .lowering).updGate 0 fun g => { g with openLimit := true, attempts := 4 }).gate 0).attempts = 4 ∧
    ((gateIn .opened).gate 0).state ≠ .lowering := by
  unfold State.settled State.calm; decide +kernel

/-- Gate 0 with all of its counts at their limits and every event of a gate due. -/
def gateDue (st : GateState) (p : Direction) : State :=
  { (gateIn st).updGate 0 (fun g =>
      { g with stallCount := 8, motionTicks := 480, pauseCount := 4, clearCount := 24, relowerArmed := true, pending := p }) with
    due := [.stall 0, .motion 0, .pause 0, .relower 0] }

theorem witness_GateTimersAct :
    ((gateDue .lowering .none).calm ∧ ((gateDue .lowering .none).gate 0).cfg.segment = some 0 ∧
      ((gateDue .lowering .none).gate 0).state = .lowering ∧ ((gateDue .raising .none).gate 0).state = .raising ∧
      Due.stall 0 ∈ (gateDue .lowering .none).due ∧ ((gateDue .lowering .none).gate 0).stallCount = 8 ∧
      Due.motion 0 ∈ (gateDue .lowering .none).due ∧
      ((gateDue .lowering .none).gate 0).cfg.motionLimit ≤ ((gateDue .lowering .none).gate 0).motionTicks) ∧
    ((gateDue .pause .up).calm ∧ ((gateDue .pause .up).gate 0).cfg.segment = some 0 ∧ Due.pause 0 ∈ (gateDue .pause .up).due ∧
      ((gateDue .pause .up).gate 0).state = .pause ∧ ((gateDue .pause .up).gate 0).pauseCount = 4) ∧
    (((gateDue .pause .down).gate 0).pending = .down ∧ ((gateDue .pause .down).gate 0).closedLimit = false ∧
      ((gateDue .pause .down).gate 0).presence = false ∧
      ((segmentIn .closed .noPhase [.manual] (gateDue .pause .down)).segment 0).posture = .closed) ∧
    (Due.relower 0 ∈ (gateDue .opened .none).due ∧ ((gateDue .opened .none).gate 0).state = .opened ∧
      ((gateDue .opened .none).gate 0).relowerArmed = true ∧ ((gateDue .opened .none).gate 0).clearCount = 24) := by
  unfold State.calm; decide +kernel

theorem witness_EncoderStepMovesGate :
    ((encoderAt false false).settled ∧ ((encoderAt false false).counter 0).cfg.mode = .encoder ∧
      (encoderAt false false).gateOfUnit 0 = some 0 ∧ -32768 ≤ ((encoderAt false false).gate 0).position ∧
      ((encoderAt false false).gate 0).position ≤ 32767 ∧ ((encoderAt false false).counter 0).codeA = false) ∧
    (freshGate.counter 0).cfg.mode = .encoder ∧ (∀ g : Fin 6, (freshGate.gate g).cfg.segment = none) ∧
    (State.reset.counter 0).cfg.mode = .off := by
  unfold State.settled State.calm; decide +kernel

/-- Unit 0 at its limits of ticks, with its events due. -/
def loopDue (stuck : Bool) : State :=
  { (pairIn .a true false).updCounter 0 (fun c => { c with stuck := stuck, aOnTicks := 480, clearTicks := 8 }) with
    due := [.stuck 0, .stuckLeft 0] }

theorem witness_LoopChangeCountsCrossing :
    (pairIn .bAfterA false true).settled ∧ ((pairIn .bAfterA false true).counter 0).cfg.mode = .loopPair ∧
      ((pairIn .bAfterA false true).counter 0).cfg.boundary = some (1, 2) ∧
      ((pairIn .bAfterA false true).counter 0).stuck = false ∧ ((pairIn .bAfterA false true).counter 0).crossing = .bAfterA ∧
      ((pairIn .bAfterA false true).counter 0).codeB = true ∧ ((pairIn .idle false false).counter 0).crossing = .idle ∧
      ((pairIn .a true false).counter 0).crossing = .a ∧ ((pairIn .ab true true).counter 0).crossing = .ab ∧
      ((pairIn .b false true).counter 0).crossing = .b ∧ ((pairIn .ba true true).counter 0).crossing = .ba ∧
      ((pairIn .aAfterB true false).counter 0).crossing = .aAfterB ∧
      ((pairIn .idle true false).counter 0).codeA = true ∧
      (State.reset.settled ∧ (State.reset.counter 0).cfg.mode = .off) := by
  unfold State.settled State.calm; decide +kernel

theorem witness_StuckLoopSetsUncertain :
    ((loopDue false).calm ∧ ((loopDue false).counter 0).cfg = { mode := .loopPair, boundary := some (1, 2) } ∧
      Due.stuck 0 ∈ (loopDue false).due ∧ ((loopDue false).counter 0).stuck = false ∧
      ((loopDue false).counter 0).codeA = true ∧ ((loopDue false).counter 0).aOnTicks = 480) ∧
    (Due.stuckLeft 0 ∈ (loopDue true).due ∧ ((loopDue true).counter 0).stuck = true ∧
      ((loopDue true).counter 0).clearTicks = 8) := by
  unfold State.calm; decide +kernel

theorem witness_SetCounterApplies :
    (State.reset.listening ∧ (11 : Byte).toNat = (11 : Fin 12).val ∧ (0 : Byte).toNat = (0 : Fin 5).val ∧
      (4 : Byte).toNat = (4 : Fin 5).val ∧ ∀ g : Fin 6, (State.reset.gate g).cfg.segment = none) ∧
    ((encoderAt false false).listening ∧ ((encoderAt false false).gate 0).cfg.segment ≠ none ∧
      ((encoderAt false false).gate 0).cfg.encoder = 0) := by
  unfold State.listening State.settled State.calm; decide +kernel

theorem witness_SetFlashApplies :
    State.reset.listening ∧ (0 : Byte) ≠ 1 ∧ (4 : Byte) ≠ 3 ∧ State.reset.patterns.of .closed = { on := 6, off := 122 } ∧
      (State.reset.flasher 0).running.code < FlashClass.closed.code := by
  unfold State.listening State.settled State.calm; decide +kernel

theorem witness_FlasherFollowsRequests :
    (State.reset.flasher 7).running = (State.reset.flasher 7).effective State.reset.inReserve := by decide +kernel

theorem witness_FlashStepsAndPhases :
    State.reset.calm ∧ State.reset.due = [] ∧
      ((State.reset.updFlasher 0 fun f => { f with running := .alert }).flasher 0).running ≠ .none ∧
      ((State.reset.updFlasher 0 fun f => { f with running := .alert }).flasher 0).countdown = 0 := by
  unfold State.calm; decide +kernel

theorem witness_PostNoticeApplies :
    (State.reset.listening ∧ 1 ≤ (15 : Byte).toNat ∧ (15 : Byte).toNat < 16 ∧ (4095 : Half).toNat < 4096 ∧
      State.reset.notices.slots[(0 : Fin 24)] = none ∧ (∀ j : Fin 24, j < 0 → State.reset.notices.slots[j] ≠ none)) ∧
    (¬(1 ≤ (0 : Byte).toNat) ∧ ¬((16 : Byte).toNat < 16)) ∧ ((500 : Word) ≠ 0xFFFFFFFF ∧ State.reset.tmb.passClock = none) ∧
    (({ noticeIn .posted none none with tmb := { State.reset.tmb with passClock := some 500 } } : State).listening ∧
      (500 : Word).toNat ≤ 500 ∧ 500 < (501 : Word).toNat) ∧
    (∀ j : Fin 24, (Vector.replicate 24 ((noticeIn .posted none none).notices.slots[0]))[j] ≠ none) := by
  unfold State.listening State.settled State.calm; decide +kernel

theorem witness_NoticeEndsAndMargin :
    (State.reset.listening ∧ ∀ i : Fin 24, State.reset.notices.slots[i] = none) ∧
    ((noticeIn .inForce none none).listening ∧
      (noticeIn .inForce none none).notices.slots[(0 : Fin 24)].map Notice.number = some (1 : Byte).toNat ∧
      (∀ j : Fin 24, j ≠ 0 → (noticeIn .inForce none none).notices.slots[j] = none)) ∧
    (noticeIn .lifted none none).notices.slots[(0 : Fin 24)].map Notice.state = some .lifted := by
  unfold State.listening State.settled State.calm; decide +kernel

theorem witness_ClockMovesNotices :
    let s : State := { noticeIn .pending (some 12000) (some 15000) with
      tmb := { State.reset.tmb with passClock := some 14999 }, due := [.second] }
    s.calm ∧ s.notices.order.Nodup ∧
      (∀ i j : Fin 24, s.notices.slots[i] ≠ none → s.notices.slots[j] ≠ none → i = j) ∧ s.link.idle = true ∧
      Due.second ∈ s.due ∧ s.tmb.passClock = some 14999 ∧ 14999 < 0xFFFFFFFE ∧ State.reset.notices.order = [] := by
  unfold State.calm; decide +kernel

/-- A state with sign 0 configured as an ADVANCE sign of segment 1. -/
def underSign (s : State) : State := s.setSign 0 ((signIn .showing).sign 0)

theorem witness_PlansFollowChanges :
    ((underSign (pathIn .alert)).closingSound ∧ (underSign State.reset).closingSound ∧ (underSign (tripping .quiet)).closingSound) ∧
    (let s := underSign (pathIn .alert)
     changesOne (.dismissPath 9 0) = true ∧ s.listening ∧ (s.sign 0).cfg.role ≠ .none ∧
       ((after (.dismissPath 9 0) s).path 0).state ≠ (s.path 0).state) ∧
    (let s := underSign State.reset
     let t := after (.closeSegment 9 1) s
     changesOne (.closeSegment 9 1) = true ∧ s.listening ∧ (t.segment 0).causes ≠ (s.segment 0).causes ∧
       (t.sign 0).planClass = .closure ∧ (t.sign 0).rotation = [4]) ∧
    (let s := underSign (tripping .quiet)
     let t := after (.chActive 0) s
     changesMany (.chActive 0) = true ∧ (Instr.chActive 0).requestKind = none ∧ s.calm ∧ (t.path 0).state = .watch ∧
       (t.sign 0).planClass = .caution ∧ (t.sign 0).rotation = [3]) := by
  refine ⟨⟨⟨?_, ?_⟩, ⟨?_, ?_⟩, ⟨?_, ?_⟩⟩, ?_, ?_, ?_⟩
  all_goals (try unfold State.confirmWaits); (try unfold Segment.closingSound)
  all_goals (try unfold State.listening State.settled); (try unfold State.calm); decide +kernel

theorem witness_SetLineApplies :
    State.reset.listening ∧ 2 ≤ (2 : Byte).toNat ∧ (1 : Byte).toNat = (1 : Fin 2).val ∧
      (57600 : Half).toNat = Baud.b57600.rate ∧ (3 : Byte).toNat = Policy.adaptive.code ∧
      (3 : Byte).toNat = BandMode.severe.code ∧ (State.reset.line 1).cfg.baud ≠ .b57600 := by
  unfold State.listening State.settled State.calm; decide +kernel

/-- Line A in hold, with sign 0 HELD at its wake age. -/
def holding : State :=
  { (signIn .held).updLine 0 (fun r => { r with state := .held }) with
    due := [.heldWake 0], signs := (signIn .held).signs.set 0 { (signIn .held).sign 0 with ages := Ages.all 960 } }

/-- Line A at the end of its 80 ACTIVE ticks in RESERVE, with sign 0 SHOWING. -/
def resting : State :=
  { (signIn .showing).updLine 0 (fun r => { r with activeCount := 80 }) with due := [.holdEntry 0], reserveRequest := true }

theorem witness_HoldEntersAndWakes :
    (State.reset.calm ∧ State.reset.link.idle = true ∧ (State.reset.line 0).state = .active) ∧
    (holding.calm ∧ (holding.line 0).state = .held ∧ Due.heldWake 0 ∈ holding.due ∧ (holding.sign 0).service = .held ∧
      (holding.sign 0).band = .normal ∧ 2 * (8 * (holding.sign 0).cfg.holdover / 2) ≤ (holding.sign 0).ages.oldest) ∧
    (resting.calm ∧ Due.holdEntry 0 ∈ resting.due ∧ (resting.line 0).state = .active ∧ resting.inReserve = true ∧
      (resting.line 0).activeCount = 80 ∧ (resting.sign 0).service = .showing ∧
      (∀ n : Fin 16, n.val / 8 = 0 → (resting.sign n).planClass ≠ .hazard ∧ (resting.sign n).service ≠ .lapsed ∧
        (resting.candidate n).all (fun c => c.cls == .refresh || c.cls == .poll) = true)) ∧
    (owing [.holdEntry 0]).inReserve = false := by
  unfold State.calm; decide +kernel

theorem witness_SetSignApplies :
    State.reset.listening ∧ 16 ≤ (16 : Byte).toNat ∧ (15 : Byte).toNat = (15 : Fin 16).val ∧
      (State.reset.sign 15).cfg.role = .none ∧ (State.reset.sign 15).service = .absent ∧
      (signIn .showing).listening ∧ ((signIn .showing).sign 0).cfg.role ≠ .none := by
  unfold State.listening State.settled State.calm; decide +kernel

theorem witness_SetConditionApplies :
    State.reset.listening ∧ (0 : Half) = 0 ∧ (4096 ≤ (4096 : Half).toNat ∧ (4096 : Half) ≠ 0xFFFF) ∧
      (4095 : Half).toNat < 4096 ∧ (0x8001 : Half).getLsbD 15 = true ∧ (0x8001 : Half).getLsbD 1 = false := by
  unfold State.listening State.settled State.calm; decide +kernel

/-- Sign 0 with its timers at their limits and all of their events due. -/
def signDue (v : Service) (n : Nat) : State :=
  { signIn v with
    due := [.rotation 0, .poll 0, .refresh 0, .lapsed 0, .critical 0],
    signs := (signIn v).signs.set 0 { (signIn v).sign 0 with
      rotation := [4, 820], dwellCount := 40, pollCount := n, slotTimer := 0, ages := Ages.all 960 } }

theorem witness_SignTimersFall :
    ((signDue .showing 0).calm ∧ (0 : Fin 2).val = (0 : Fin 16).val / 8 ∧ Due.rotation 0 ∈ (signDue .showing 0).due ∧
      ((signDue .showing 0).sign 0).service = .showing ∧ 1 < ((signDue .showing 0).sign 0).rotation.length ∧
      ((signDue .showing 0).sign 0).cfg.dwell ≤ ((signDue .showing 0).sign 0).dwellCount ∧
      ((signDue .showing 0).sign 0).slotTimer = 0 ∧ ((signDue .showing 0).sign 0).cfg.sheddable = false ∧
      ((signDue .showing 0).sign 0).lapsePoint ≤ ((signDue .showing 0).sign 0).ages.oldest ∧
      ((signDue .showing 0).sign 0).critical ≤ ((signDue .showing 0).sign 0).ages.oldest ∧
      ((signDue .showing 0).sign 0).restoreNeed = none ∧ ((signDue .showing 0).line 0).state = .active) ∧
    (((signDue .offline 80).sign 0).pollNeed = none ∧ ((signDue .offline 80).sign 0).service = .offline ∧
      80 ≤ ((signDue .offline 80).sign 0).pollCount) ∧
    (((signDue .blank 480).sign 0).service = .blank ∧ 480 ≤ ((signDue .blank 480).sign 0).pollCount) ∧
    (((signDue .held 0).sign 0).service = .held ∧
      ((signDue .held 0).sign 0).lapsePoint ≤ ((signDue .held 0).sign 0).ages.oldest) ∧
    (let s : State := { (signDue .showing 0).updSign 0 (fun g =>
       { g with cfg := { g.cfg with sheddable := true }, planClass := .condition }) with reserveRequest := true }
     s.calm ∧ (s.sign 0).cfg.sheddable = true ∧ (s.sign 0).planClass = .condition ∧ s.inReserve = true ∧
       Due.lapsed 0 ∈ s.due) ∧
    PlanClass.closure.isProtected = true := by
  unfold State.calm; decide +kernel

theorem witness_SignAckEffects :
    (∀ k ∈ [FrameKind.content, .refresh, .blank, .hold, .poll],
      ((flying k 1 (signIn .showing)).line 0).inFlight.map Frame.kind = some k ∧
      (flying k 1 (signIn .showing)).owesArbitration = false) ∧
    ((flying .content 1 (signIn .showing)).settled ∧ (0 : Fin 16).val = 8 * (0 : Fin 2).val + (0 : Fin 8).val ∧
      ((flying .content 1 (signIn .showing)).sign 0).service = .showing ∧
      ((flying .content 1 (signIn .showing)).line 0).cfg.bandMode ≠ .auto ∧
      ((flying .content 1 (signIn .showing)).sign 0).cfg.sheddable = false ∧
      ((flying .content 1 (signIn .showing)).sign 0).granularity = ((flying .content 1 (signIn .showing)).line 0).target ∧
      (flying .content 1 (signIn .showing)).now - 0 = 0 ∧ 0 < ((flying .content 1 (signIn .showing)).sign 0).critical) ∧
    ((flying .poll 1 (signIn .offline)).sign 0).service = .offline ∧
    ((flying .blank 1 (signIn .shed)).sign 0).service = .shed ∧
    (let s := flying .hold 1 (signIn .lapsed)
     s.settled ∧ (s.sign 0).service = .lapsed ∧ (s.sign 0).cfg.sheddable = false ∧ (s.line 0).state ≠ .holdEntry ∧
      (s.line 0).state ≠ .held ∧ (0x02 : Byte).getLsbD 0 = false ∧ (0x02 : Byte).getLsbD 1 = true) ∧
    (let s := (flying .hold 1 (signIn .lapsed)).updLine 0 fun r => { r with state := .holdEntry }
     s.settled ∧ (s.line 0).state = .holdEntry ∧ (0x00 : Byte).getLsbD 1 = false) ∧
    ((flying .content 1 (signIn .absent)).sign 0).service = .absent ∧
    (let s := (flying .content 1 (signIn .absent)).updLine 0 fun r => { r with target := .half }
     s.settled ∧ (s.sign 0).granularity ≠ (s.line 0).target ∧ (s.sign 0).cursor % 2 = 0) ∧
    (let s := (flying .blank 1 (signIn .showing)).updLine 0 fun r =>
       { r with inFlight := r.inFlight.map fun f => { f with shedding := true } }
     s.settled ∧ (s.line 0).inFlight.map Frame.shedding = some true ∧ (s.sign 0).granularity = (s.line 0).target) ∧
    (((flying .content 1 (signIn .showing)).updLine 0 fun r => { r with cfg := { r.cfg with bandMode := .auto } }).line
      0).cfg.bandMode = .auto := by
  unfold State.settled State.calm; decide +kernel

theorem witness_SignAttemptFails :
    (State.reset.settled ∧ (State.reset.line 0).inFlight = none) ∧
    ((flying .content 2 (signIn .showing)).settled ∧
      ((flying .content 2 (signIn .showing)).line 0).inFlight.map Frame.attempt = some 2 ∧
      ((flying .content 2 (signIn .showing)).sign 0).service ≠ .absent ∧ (0x0C : Byte).getLsbD 0 = false) ∧
    ((flying .content 3 (signIn .showing)).line 0).inFlight.map Frame.attempt = some 3 ∧
    (((flying .refresh 1 (signIn .showing)).line 0).inFlight.map Frame.kind = some .refresh ∧
      ((flying .refresh 1 (signIn .showing)).sign 0).cfg.sheddable = false) ∧
    ((flying .poll 1 (signIn .offline)).line 0).inFlight.map Frame.once = some true ∧
    ((flying .content 2 (signIn .absent)).sign 0).service = .absent := by
  unfold State.settled State.calm; decide +kernel

/-- Sign 0 wants a page with a PLAN need of tick 0, at a tick. -/
def wanting (p : Page) (now : Tick) : State :=
  { (signIn .showing).updSign 0 (fun g =>
      { g with planClass := .condition, rotation := [p], need := .plan false 0 }) with
    tmb := { State.reset.tmb with tickCounter := now } }

/-- What it offers. -/
def wanted (p : Page) : Candidate :=
  { sign := 0, cls := .content, kind := .content, page := some p, strips := 0xFF, since := 0, falls := true, shedding := false }

theorem witness_ArbiterSendsFirstReady :
    ((signIn .showing).candidate 0 = none ∧ (wanting 4 0).candidate 0 = some (wanted 4)) ∧
    ((flying .poll 1 (wanting 4 0)).line 0).inFlight ≠ none ∧
    (((wanting 4 0).line 0).inFlight = none ∧ ((wanting 4 0).line 0).state ≠ .held ∧ (4 : Page).toNat < 8 ∧
      ∀ n : Fin 16, n ≠ 0 → (wanting 4 0).candidate n = none) ∧
    ((wanting 40 79).candidate 0 = some (wanted 40) ∧ ¬(40 : Page).toNat < 8 ∧ (wanting 40 79).validStrips 40 = 0 ∧
      (40 : Page) ∉ (wanting 40 79).lib.faulted ∧ ¬80 ≤ ((wanting 40 79).now - (wanted 40).since).toNat) ∧
    ((wanting 40 80).candidate 0 = some (wanted 40) ∧ 80 ≤ ((wanting 40 80).now - (wanted 40).since).toNat ∧
      ((wanting 40 80).sign 0).planClass = .condition) ∧
    ((portAt (.erase 0 1) 0).calm ∧ (portAt (.erase 0 1) 0).due = [] ∧ (portAt (.erase 0 1) 0).lib.port ≠ .idle) := by
  unfold State.calm; decide +kernel

/-- Eight sheddable signs with BLANK plans on line A at 9600 baud, in a service state, SEVERE with a holdover of 16. -/
def crowded (v : Service) : State :=
  { State.reset with
    lines := State.reset.lines.map fun r => { r with cfg := { r.cfg with baud := .b9600 } }
    signs := Vector.ofFn fun n : Fin 16 =>
      if n.val < 8 then
        ({ State.reset.sign n with
           cfg := { (State.reset.sign n).cfg with role := .info, sheddable := true, holdover := 16 }
           planClass := .blank, band := .severe, service := v } : Sign).derive
      else State.reset.sign n }

theorem witness_LoadShedsAndRestores :
    (∀ n : Fin 16, (crowded .showing).reserveSheds n = false ∧ (crowded .shed).reserveSheds n = false) ∧
    ((crowded .showing).mayBeShed 7 = true ∧ (∀ m : Fin 16, m.val / 8 = 0 → 7 < m → (crowded .showing).mayBeShed m = false) ∧
      700 < (crowded .showing).thousandths 0 ((crowded .showing).sharesOf 0 fun _ => true) ∧
      (((crowded .showing).settleLoad 0).sign 7).service = .shed ∧
      (((crowded .showing).settleLoad 0).sign 0).service = .showing) ∧
    (((crowded .shed).sign 0).service = .shed ∧ (((crowded .shed).settleLoad 0).sign 0).service = .lapsed) := by
  decide +kernel

/-- A library with work items waiting. -/
def queued (n : Nat) (op : PortOp) : State :=
  { State.reset with
    lib := { State.reset.lib with
      workQueue := List.replicate n { seq := 0, kind := .saveProfile }, port := op, cursor := some (4095, 7) } }

theorem witness_LibraryRequestsApply :
    (State.reset.listening ∧ State.reset.lib.port = .idle ∧ State.reset.nextFill = none ∧ State.reset.lib.workQueue = [] ∧
      State.reset.lib.cursor = none) ∧
    ((queued 6 (.erase 0 1)).listening ∧ 6 ≤ (queued 6 (.erase 0 1)).lib.workQueue.length) ∧
    ((queued 5 (.erase 0 1)).listening ∧ ¬6 ≤ (queued 5 (.erase 0 1)).lib.workQueue.length ∧
      (queued 5 (.erase 0 1)).lib.port ≠ .idle ∧ (queued 5 (.erase 0 1)).lib.cursor = some (4095, 7)) ∧
    ((queued 0 .idle).lib.port = .idle ∧ (queued 0 .idle).nextFill = none ∧ (queued 0 .idle).lib.workQueue = []) ∧
    ((511 : Half).toNat = (511 : Fin 512).val ∧ (511 : Half) ≠ 0 ∧ 512 ≤ (512 : Half).toNat ∧ 8 ≤ (8 : Half).toNat ∧
      (31 : Byte).toNat < 32 ∧ 32 ≤ (32 : Byte).toNat) := by
  unfold State.listening State.settled State.calm; decide +kernel

/-- A fill of page 8 whose next strip its flash slot holds well. -/
def filling (retried : Bool) : State :=
  { portAt (.fill 8 false 0 retried) 0 with
    flash := flashProgram [] 4096 (List.replicate 32 0 ++ bytesBE 2 (crc16 (List.replicate 32 0))) }

/-- The page cache with page 8 in way 0 of its set, one strip unsound, and a need for that page at sign 0. -/
def unsound : State :=
  let line : CacheLine :=
    { valid := true, tag := 0,
      strips := Vector.ofFn fun i => { valid := true, data := 0, parity := BitVec.ofNat 8 (i.val / 7) } }
  (wanting 8 0).updLib fun lib =>
    { lib with cache := lib.cache.set 8 ({ way0 := line, way1 := CacheLine.empty, lru1 := false } : CacheSet) }

/-- R175: a fill cannot start while frames in flight use both ways of its set, though one holds the page. -/
theorem test_fill_waits_for_a_way :
    let s : State := { unsound with
      lines := Vector.ofFn fun l : Fin 2 => { unsound.line l with
        inFlight := ((flying .poll 1 State.reset).line 0).inFlight.map fun f => { f with way := some (8, l == 0) } } }
    s.fillWay 8 = none ∧ unsound.fillWay 8 = some false := by decide +kernel
/-- R141: a candidate passed over has its page asked for before its fallback is sent. -/
theorem test_fallback_asks_for_its_page :
    let t := (wanting 40 80).arbitrate 0
    (t.line 0).inFlight.map Frame.kind = some .blank ∧
      t.lib.missQueue.map (fun r => (r.page, r.strips)) = [(40, 0xFF)] := by decide +kernel

/-- An entry for page 8 in the miss queue. -/
def asking (strips : BitVec 8) : State :=
  State.reset.updLib fun lib => { lib with missQueue := [{ page := 8, strips := strips, inService := false }] }

theorem witness_CacheFillsAndParity :
    (8 ≤ (8 : Page).toNat ∧ (portAt (.erase 0 1) 0).lib.port ≠ .idle) ∧
    (State.reset.lib.port = .idle ∧ State.reset.lib.missQueue = [] ∧ State.reset.lib.workQueue = [] ∧
      (queued 1 .idle).lib.workQueue = { seq := 0, kind := .saveProfile } :: [] ∧ (queued 1 .idle).lib.port = .idle) ∧
    ((asking 2).lib.port = .idle ∧ (asking 2).lib.missQueue = [] ++ { page := 8, strips := 2, inService := false } :: [] ∧
      (asking 2).fillWay 8 = some false ∧ (2 : BitVec 8).getLsbD 1 = true ∧ (2 : BitVec 8).getLsbD 0 = false ∧
      (asking 2).lib.workQueue = []) ∧
    ((unsound.line 0).inFlight = none ∧ (unsound.line 0).state ≠ .held ∧ unsound.candidate 0 = some (wanted 8) ∧
      (∀ m : Fin 16, m ≠ 0 → unsound.candidate m = none) ∧ unsound.cachedWay 8 = some false ∧ (8 : Page) ∉ unsound.lib.faulted ∧
      unsound.validStrips 8 = 0xFF ∧
      ∀ j : Fin 8, parityOf (unsound.strip 8 false j).data = (unsound.strip 8 false j).parity ↔ j < 7) := by
  decide +kernel

/-- The strip that a fill of page 8 has just read is in its way, and the miss queue holds an entry for the page. -/
def readInto (strips : BitVec 8) : State :=
  ((filling false).updLib fun lib => { lib with missQueue := [{ page := 8, strips := strips, inService := true }] }).updWay 8 false
    fun c => { c with strips := c.strips.set 0 { valid := true, data := 0, parity := 0 } }

theorem witness_FillReadEnds :
    ((filling false).settled ∧ (filling false).lib.port = .fill 8 false 0 false ∧
      crc16 (bytesBE 32 ((readSlotHead (filling false).flash 8 0 ^^^ 0) >>> 16 |>.setWidth 256)) =
        (readSlotHead (filling false).flash 8 0 ^^^ 0).setWidth 16) ∧
    crc16 (bytesBE 32 ((readSlotHead (filling false).flash 8 0 ^^^ 1) >>> 16 |>.setWidth 256)) ≠
      (readSlotHead (filling false).flash 8 0 ^^^ 1).setWidth 16 ∧
    (filling true).lib.port = .fill 8 false 0 true ∧
    ((readInto 1).nextStrip 8 false = none ∧ (readInto 3).nextStrip 8 false = some 1 ∧ (readInto 3).snoop 8 1 = none ∧
      ((readInto 7).updWay 8 false fun c =>
        { c with strips := c.strips.set 1 { valid := true, data := 9, parity := 9 } }).nextStrip 8 false = some 2) ∧
    (let s := (readInto 3).updLib fun lib => { lib with workQueue := [{ seq := 1, kind := .program 8 1 9 }] }
     s.snoop 8 1 = some 9 ∧ s.snoop 8 2 = none ∧ s.lib.workQueue = { seq := 1, kind := .program 8 1 9 } :: [] ∧
       (∀ r ∈ s.lib.missQueue, r.page = 8) ∧
       (s.updWay 8 false fun c =>
         { c with strips := c.strips.set 1 { valid := true, data := 9, parity := 9 } }).nextStrip 8 false = none) ∧
    (let s : State := { filling false with
       lines := (filling false).lines.map fun r => { r with inFlight := ((flying .poll 1 State.reset).line 0).inFlight } }
     s.settled ∧ ∀ l : Fin 2, (s.line l).inFlight ≠ none) := by
  unfold State.settled State.calm; decide +kernel

theorem witness_WorkItemEnds :
    let s (op : PortOp) (n : Nat) : State := { portAt op n with due := [.flashTimeout] }
    ((s (.program 5 4095 7 0) 8).calm ∧ (s (.program 5 4095 7 0) 8).lib.port = .program 5 4095 7 0 ∧
      Due.flashTimeout ∈ (s (.program 5 4095 7 0) 8).due ∧ 8 ≤ (s (.program 5 4095 7 0) 8).lib.opTicks ∧
      (s (.program 5 4095 7 0) 8).flash.wf = true) ∧
    ((s (.erase 5 511) 40).lib.port = .erase 5 511 ∧ 40 ≤ (s (.erase 5 511) 40).lib.opTicks) ∧
    ((s (.save 5 (Profile.defaults 0)) 80).lib.port = .save 5 (Profile.defaults 0) ∧
      80 ≤ (s (.save 5 (Profile.defaults 0)) 80).lib.opTicks) ∧
    (let u : State := (portAt (.program 5 8 1 0) 1).updLib fun lib => { lib with cache := unsound.lib.cache }
     let v : State := { u with
       lines := u.lines.map fun r => { r with inFlight := ((flying .poll 1 State.reset).line 0).inFlight }
       signs := (signIn .showing).signs.set 0 { (signIn .showing).sign 0 with shown :=
         { page := some 8, cls := .condition, confirmed := true, fallback := false } } }
     v.calm ∧ v.due = [] ∧ (∀ l : Fin 2, (v.line l).inFlight ≠ none) ∧ v.lib.missQueue = [] ∧ v.cachedWay 8 = some false ∧
       (v.sign 0).cfg.role ≠ .none ∧ (v.sign 0).need = .none ∧ (v.sign 0).shown.page = some 8 ∧ (8 : Page).toNat / 8 = 1) := by
  unfold State.calm; decide +kernel

theorem witness_TickAdvances : State.reset.calm ∧ State.reset.due = [] := by
  unfold State.calm; decide +kernel

theorem witness_RestartKeepsAndClears :
    State.reset.listening ∧ (queued 6 (.erase 0 1)).listening ∧ (∀ i : Fin 4, State.reset.confirmSettled i) ∧
    (let s : State := (segmentIn .closed .noPhase [.manual] (queued 0 (.fill 8 false 0 false))).updLine 0 fun r =>
       { r with inFlight := ((flying .poll 1 State.reset).line 0).inFlight }
     let u : State := s.updLine 1 fun _ => s.line 0
     u.listening ∧ u.confirmSettled 0 ∧ (u.segment 0).posture = .closed ∧ (∀ l : Fin 2, (u.line l).inFlight ≠ none) ∧
       u.lib.port = .fill 8 false 0 false) := by
  unfold State.listening State.settled State.calm State.confirmSettled; decide +kernel

theorem witness_FullResetStartsOver :
    State.reset.lib.port = .idle ∧ (filling true).lib.port = .fill 8 false 0 true ∧
      flashRead State.reset.flash 0 ≠ 0xA6 ∧
      ((Profile.defaults 3).fits ∧ Flash.wf [] = true ∧
        ({ State.reset with flash := writeProfile [] (Profile.defaults 3) } : State).flash =
          writeProfile [] (Profile.defaults 3)) := by
  refine ⟨by decide +kernel, by decide +kernel, by decide +kernel, ?_, by decide +kernel, rfl⟩
  unfold Profile.fits ChannelConfig.fits Pattern.fits; decide +kernel

theorem witness_InvKeptByStep : State.reset.Inv := by
  unfold State.Inv State.calm State.reportsDistinct State.queuesBounded; decide +kernel

end Sys2Proof.Tests
end

section
/-! SUPPORT. Accepted requests on a device that listens, and the trace's operations: what recording an entry does by the mark and
the room left (R53 to R55), and RELEASE_TRACE and SET_TRACE (R57, R58). -/

namespace Sys2Proof.Machine

/-! ### Accepted requests (R185) -/

/-- An accepted request that reaches neither a sign nor a line has its owner's effect and its reply, and nothing else. -/
theorem State.request_accepted (s t : State) (c : Instr) (data : List Byte) (h : s.listening)
    (ha : s.applyRequest c = accept data t) (hs : t.signs = s.signs) (hl : t.lines = s.lines) :
    s.request c = t.answered (bodyHead (encodeBody c)).1 (bodyHead (encodeBody c)).2 .ok data := by
  rw [State.request_listening s c h, ha]
  obtain ⟨⟨hcalm, -⟩, -⟩ := h
  exact State.conclude_of_calm _ _ hs ((State.calm_of_lines s _ hl).2 hcalm)

/-! ### Recording an entry, by the mark and the room left (R53 to R55) -/

theorem Trace.record_unmarked (t : Trace) (e : TraceEntry) (hm : t.mark = none) (he : e.kind ≠ .pathAlert) :
    t.record e = (t.append e, 0) := by
  simp [Trace.record, hm, he]

/-- A PATH_ALERT marks an unmarked trace (R54). -/
theorem Trace.record_unmarked_alert (t : Trace) (e : TraceEntry) (hm : t.mark = none) (he : e.kind = .pathAlert) :
    t.record e = ((t.append e).setMark, Flag.traceMarked) := by
  simp [Trace.record, hm, he]

theorem Trace.record_marked_room (t : Trace) (e : TraceEntry) (m : Nat) (hm : t.mark = some m)
    (hroom : t.entries.length < 128) : t.record e = (t.append e).checkNearFull := by
  simp [Trace.record, hm, hroom]

/-- A full trace with entries before its mark loses the oldest of them, and the mark moves with its entry (R55). -/
theorem Trace.record_marked_full (t : Trace) (e : TraceEntry) (m : Nat) (hm : t.mark = some m)
    (hfull : ¬t.entries.length < 128) (hpos : 0 < m) :
    t.record e = { t.append e with mark := some (m - 1) }.checkNearFull := by
  simp [Trace.record, hm, hfull, hpos]

/-- A full trace whose oldest entry is the marked one refuses the entry (R55). -/
theorem Trace.record_marked_refused (t : Trace) (e : TraceEntry) (hm : t.mark = some 0) (hfull : ¬t.entries.length < 128) :
    t.record e = ({ t with truncated := true }, if t.truncated then 0 else Flag.traceFull) := by
  simp [Trace.record, hm, hfull]

/-- Recording in an unmarked trace appends, whether or not the entry then marks it. -/
theorem Trace.record_unmarked_entries (t : Trace) (e : TraceEntry) (hm : t.mark = none) :
    (t.record e).1.entries = (t.append e).entries := by
  by_cases he : e.kind = .pathAlert
  · rw [Trace.record_unmarked_alert t e hm he]
    rfl
  · rw [Trace.record_unmarked t e hm he]

/-- The mark that a PATH_ALERT sets in an unmarked trace stands the pre-count back from the newest entry (R54). -/
theorem Trace.record_unmarked_alert_mark (t : Trace) (e : TraceEntry) (hm : t.mark = none) (he : e.kind = .pathAlert) :
    (t.record e).1.mark = some ((t.record e).1.entries.length - 1 - t.preCount) := by
  rw [Trace.record_unmarked_alert t e hm he]
  rfl

/-- An entry appended to a full trace overwrites the oldest one (R53). -/
theorem Trace.append_full (t : Trace) (e : TraceEntry) (hfull : t.entries.length = 128) :
    (t.append e).entries = t.entries.tail ++ [e] := by
  simp [Trace.append, hfull]

theorem Trace.append_length_room (t : Trace) (e : TraceEntry) (hroom : t.entries.length < 128) :
    (t.append e).entries.length = t.entries.length + 1 := by
  simp [Trace.append, hroom]

theorem Trace.append_length_full (t : Trace) (e : TraceEntry) (hfull : t.entries.length = 128) :
    (t.append e).entries.length = 128 := by
  simp [Trace.append_full t e hfull, hfull]

/-! ### The near-full check (R55) -/

@[simp] theorem Trace.checkNearFull_mark (t : Trace) : t.checkNearFull.1.mark = t.mark := by
  unfold Trace.checkNearFull
  split <;> rfl

/-- Before the near-full indication of a marking is posted, the check posts it as soon as the free count is within the margin. -/
theorem Trace.checkNearFull_flags (t : Trace) (m : Nat) (hm : t.mark = some m) (hp : t.nearFullPosted = false) :
    t.checkNearFull.2 = if 128 - (t.entries.length - m) ≤ t.margin then Flag.traceNearFull else 0 := by
  simp only [Trace.checkNearFull, Trace.free, Trace.spanned, hm, hp, Bool.not_false, and_true]
  split <;> rfl

theorem Trace.checkNearFull_flags_ne_marked (t : Trace) : t.checkNearFull.2 ≠ Flag.traceMarked := by
  unfold Trace.checkNearFull
  split
  · exact (by decide : Flag.traceNearFull ≠ Flag.traceMarked)
  · exact (by decide : (0 : BitVec 16) ≠ Flag.traceMarked)

/-- An entry written in a marked trace posts the near-full indication by the free count that it leaves and the margin in force. -/
theorem Trace.record_marked_flags (t : Trace) (e : TraceEntry) (m : Nat) (hm : t.mark = some m)
    (hle : t.entries.length ≤ 128) (hw : t.entries.length < 128 ∨ 0 < m) (hp : t.nearFullPosted = false) :
    (t.record e).2 =
      if 128 - (if t.entries.length < 128 then t.entries.length + 1 - m else 128 - (m - 1)) ≤ t.margin
      then Flag.traceNearFull else 0 := by
  by_cases hroom : t.entries.length < 128
  · rw [Trace.record_marked_room t e m hm hroom, Trace.checkNearFull_flags (t.append e) m hm hp,
      Trace.append_length_room t e hroom, if_pos hroom]
    rfl
  · have hpos : 0 < m := hw.resolve_left hroom
    have hfull : t.entries.length = 128 := by omega
    rw [Trace.record_marked_full t e m hm hroom hpos,
      Trace.checkNearFull_flags { t.append e with mark := some (m - 1) } (m - 1) rfl hp,
      Trace.append_length_full t e hfull, if_neg hroom]
    rfl

/-- An entry offered to a marked trace, a PATH_ALERT too, joins the present marking: the trace stays marked and no new marking is
posted (R54). -/
theorem Trace.record_marked_stays (t : Trace) (e : TraceEntry) (hm : t.mark ≠ none) :
    (t.record e).1.mark ≠ none ∧ (t.record e).2 ≠ Flag.traceMarked := by
  obtain ⟨m, hm⟩ := Option.ne_none_iff_exists'.1 hm
  by_cases hroom : t.entries.length < 128
  · rw [Trace.record_marked_room t e m hm hroom]
    refine ⟨?_, Trace.checkNearFull_flags_ne_marked _⟩
    have happend : (t.append e).mark = some m := hm
    simp [happend]
  · cases m with
    | zero =>
      rw [Trace.record_marked_refused t e hm hroom]
      refine ⟨by simp [hm], ?_⟩
      dsimp only
      split <;> decide
    | succ m =>
      rw [Trace.record_marked_full t e (m + 1) hm hroom m.succ_pos]
      exact ⟨by simp, Trace.checkNearFull_flags_ne_marked _⟩

/-! ### RELEASE_TRACE (R57) -/

/-- A trace after its release: unmarked, with TRUNCATED and the near-full indication clear. -/
def Trace.released (t : Trace) : Trace := { t with mark := none, truncated := false, nearFullPosted := false }

theorem exec_releaseTrace (tag : Byte) (s : State) : exec (.releaseTrace tag) s = .next (s.request (.releaseTrace tag)) := rfl

theorem State.applyReleaseTrace_unmarked (s : State) (hm : s.trace.mark = none) :
    s.applyReleaseTrace = accept (u8 s.trace.entries.length) s := by
  simp [State.applyReleaseTrace, hm]

theorem State.applyReleaseTrace_marked (s : State) (hm : s.trace.mark ≠ none) :
    s.applyReleaseTrace =
      accept (u8 s.trace.entries.length) ({ s with trace := s.trace.released }.post .trace Flag.traceReleased) := by
  simp [State.applyReleaseTrace, Option.isSome_iff_ne_none, hm, Trace.released]

theorem exec_releaseTrace_unmarked (tag : Byte) (s : State) (h : s.listening) (hm : s.trace.mark = none) :
    exec (.releaseTrace tag) s = .next (s.answered 0x1F tag .ok (u8 s.trace.entries.length)) := by
  rw [exec_releaseTrace,
    State.request_accepted s s (.releaseTrace tag) _ h (State.applyReleaseTrace_unmarked s hm) rfl rfl]
  rfl

theorem exec_releaseTrace_marked (tag : Byte) (s : State) (h : s.listening) (hm : s.trace.mark ≠ none) :
    exec (.releaseTrace tag) s = .next
      (({ s with trace := s.trace.released }.post .trace Flag.traceReleased).answered 0x1F tag .ok
        (u8 s.trace.entries.length)) := by
  rw [exec_releaseTrace,
    State.request_accepted s _ (.releaseTrace tag) _ h (State.applyReleaseTrace_marked s hm) rfl rfl]
  rfl

/-! ### SET_TRACE (R58) -/

/-- A trace with a pre-count and a margin. -/
def Trace.withSettings (t : Trace) (preCount margin : Nat) : Trace := { t with preCount := preCount, margin := margin }

theorem clampNat_zero (hi x : Nat) : clampNat 0 hi x = min hi x := by simp [clampNat]

theorem exec_setTrace (tag preCount margin : Byte) (s : State) :
    exec (.setTrace tag preCount margin) s = .next (s.request (.setTrace tag preCount margin)) := rfl

theorem State.applySetTrace_eq (preCount margin : Byte) (s : State) :
    s.applySetTrace preCount margin =
      accept (u8 (min 64 preCount.toNat) ++ u8 (min 32 margin.toNat))
        ({ s with trace := s.trace.withSettings (min 64 preCount.toNat) (min 32 margin.toNat) }.post .trace
          Flag.traceConfig) := by
  simp only [State.applySetTrace, clampNat_zero, Trace.withSettings]

theorem exec_setTrace_listening (tag preCount margin : Byte) (s : State) (h : s.listening) :
    exec (.setTrace tag preCount margin) s = .next
      (({ s with trace := s.trace.withSettings (min 64 preCount.toNat) (min 32 margin.toNat) }.post .trace
        Flag.traceConfig).answered 0x20 tag .ok (u8 (min 64 preCount.toNat) ++ u8 (min 32 margin.toNat))) := by
  rw [exec_setTrace,
    State.request_accepted s _ (.setTrace tag preCount margin) _ h (State.applySetTrace_eq preCount margin s) rfl rfl]
  rfl

/-! ### The obligations -/

/-- Settles O24: the two cases of the mark give the state; what is recorded afterwards follows from the unmarked trace. -/
theorem releaseTraceUnmarks : Obligations.ReleaseTraceUnmarks := by
  unfold Obligations.ReleaseTraceUnmarks
  intro tag s h
  refine ⟨exec_releaseTrace_unmarked tag s h, exec_releaseTrace_marked tag s h, rfl, fun e => ⟨?_, ?_, ?_⟩⟩
  · intro hfull
    exact (Trace.record_unmarked_entries s.trace.released e rfl).trans (Trace.append_full s.trace.released e hfull)
  · intro he
    exact ⟨congrArg Prod.snd (Trace.record_unmarked_alert s.trace.released e rfl he),
      Trace.record_unmarked_alert_mark s.trace.released e rfl he⟩
  · intro hm _
    obtain ⟨hmark, hflag⟩ := Trace.record_marked_stays s.trace e hm
    exact ⟨hmark, hflag, _, exec_releaseTrace_marked tag { s with trace := (s.trace.record e).1 } h hmark, rfl, rfl⟩

/-- Settles O25: the next state is exact, and the next entry is recorded in a trace that differs by its settings alone. -/
theorem setTraceApplies : Obligations.SetTraceApplies := by
  unfold Obligations.SetTraceApplies
  intro tag preCount margin s h p m
  refine ⟨exec_setTrace_listening tag preCount margin s h, rfl, rfl, rfl, rfl, fun hle => ⟨?_, ?_⟩⟩
  · intro e k hk _ hw hp
    exact Trace.record_marked_flags (s.trace.withSettings p m) e k hk hle hw hp
  · intro e hm he
    exact Trace.record_unmarked_alert_mark (s.trace.withSettings p m) e hm he

end Sys2Proof.Machine
end

section
/-! SUPPORT. SET_FLASH (R100): the class byte, the pattern written, and what a generator loads from it at a phase end (R98) and at
a rise to the class (R99). -/

namespace Sys2Proof.Machine

/-! ### The operands -/

/-- A class byte outside 1..3 names no class. -/
theorem flashClassOf_eq_none (cls : Byte) (h1 : cls ≠ 1) (h2 : cls ≠ 2) (h3 : cls ≠ 3) : flashClassOf cls = none := by
  unfold flashClassOf
  split
  case h_1 h => exact absurd (BitVec.eq_of_toNat_eq h) h1
  case h_2 h => exact absurd (BitVec.eq_of_toNat_eq h) h2
  case h_3 h => exact absurd (BitVec.eq_of_toNat_eq h) h3
  case h_4 => rfl

/-- A class byte is the code of the class that it names. -/
theorem toNat_of_flashClassOf (cls : Byte) (c : FlashClass) (h : flashClassOf cls = some c) : cls.toNat = c.code := by
  unfold flashClassOf at h
  split at h <;> cases h <;> assumption

/-- The reply names the class by the byte that the request carried. -/
theorem u8_code_of_flashClassOf (cls : Byte) (c : FlashClass) (h : flashClassOf cls = some c) : u8 c.code = [cls] := by
  rw [u8, ← toNat_of_flashClassOf cls c h, BitVec.ofNat_toNat, BitVec.setWidth_eq]

/-- The pattern of the two time bytes, a time of 0 taken as 1. -/
def Pattern.applied (on off : Byte) : Pattern := { on := max 1 on.toNat, off := max 1 off.toNat }

/-! ### The request -/

theorem exec_setFlash (tag cls on off : Byte) (s : State) :
    exec (.setFlash tag cls on off) s = .next (s.request (.setFlash tag cls on off)) := rfl

theorem State.applySetFlash_refused (cls on off : Byte) (s : State) (hc : flashClassOf cls = none) :
    s.applySetFlash cls on off = refuse .outOfRange s := by
  simp only [State.applySetFlash, hc]

theorem State.applySetFlash_accepted (cls on off : Byte) (c : FlashClass) (s : State) (hc : flashClassOf cls = some c) :
    s.applySetFlash cls on off =
      accept [cls, BitVec.ofNat 8 (Pattern.applied on off).on, BitVec.ofNat 8 (Pattern.applied on off).off]
        ({ s with patterns := s.patterns.write c (Pattern.applied on off) }.post .system Flag.flashConfig) := by
  simp only [State.applySetFlash, hc, u8_code_of_flashClassOf cls c hc]
  rfl

theorem exec_setFlash_refused (tag cls on off : Byte) (s : State) (h : s.listening) (hc : flashClassOf cls = none) :
    exec (.setFlash tag cls on off) s = .next (s.answered 0x28 tag .outOfRange []) := by
  rw [exec_setFlash,
    State.request_refused s (.setFlash tag cls on off) .outOfRange h (State.applySetFlash_refused cls on off s hc)]
  rfl

theorem exec_setFlash_accepted (tag cls on off : Byte) (c : FlashClass) (s : State) (h : s.listening)
    (hc : flashClassOf cls = some c) :
    exec (.setFlash tag cls on off) s = .next
      (({ s with patterns := s.patterns.write c (Pattern.applied on off) }.post .system Flag.flashConfig).answered 0x28 tag .ok
        [cls, BitVec.ofNat 8 (Pattern.applied on off).on, BitVec.ofNat 8 (Pattern.applied on off).off]) := by
  rw [exec_setFlash,
    State.request_accepted s _ (.setFlash tag cls on off) _ h (State.applySetFlash_accepted cls on off c s hc) rfl rfl]
  rfl

/-! ### What a generator loads -/

/-- A phase end loads the other phase's time from the running class's pattern as it stands (R98). -/
theorem Flasher.nextPhase_countdown (f : Flasher) (p : Patterns) :
    (f.nextPhase p).countdown = if f.phaseOn then (p.of f.running).off else (p.of f.running).on := rfl

/-- A rise starts the class at phase ON with its on time (R99). -/
theorem Flasher.retune_rise (f : Flasher) (p : Patterns) (c : FlashClass) (hc : c ≠ .none)
    (hrise : f.running.code < c.code) :
    f.retune p c = { f with running := c, phaseOn := true, countdown := (p.of c).on } := by
  rw [Flasher.retune, if_neg hc, if_pos hrise]

/-! ### The obligation -/

/-- Settles O37: the class byte decides between the refusal and the exact state; the generator's loads read the pattern that
stands. -/
theorem setFlashApplies : Obligations.SetFlashApplies := by
  unfold Obligations.SetFlashApplies
  intro tag cls on off s h x reply sets
  have accepted (c : FlashClass) (hc : flashClassOf cls = some c) :
      ∃ t : State, exec (.setFlash tag cls on off) s = .next t ∧ sets (s.patterns.write c x) t :=
    ⟨_, exec_setFlash_accepted tag cls on off c s h hc, rfl, rfl⟩
  refine ⟨fun h1 h2 h3 => ?_, fun hc => ?_, fun hc => ?_, fun hc => ?_, rfl, fun f c p hn hp => ⟨fun hrun => ?_, fun hrise => ?_⟩⟩
  · exact exec_setFlash_refused tag cls on off s h (flashClassOf_eq_none cls h1 h2 h3)
  · exact accepted .closed (by rw [hc]; rfl)
  · exact accepted .moving (by rw [hc]; rfl)
  · exact accepted .alert (by rw [hc]; rfl)
  · rw [Flasher.nextPhase_countdown, hrun, hp]
  · rw [Flasher.retune_rise f p c hn hrise, hp]
    exact ⟨rfl, rfl⟩

end Sys2Proof.Machine
end

section
/-! SUPPORT. Due events: what taking an event does to the list of due events, and that a command which takes what is due leaves
nothing of it (R27 to R31, R186). -/

namespace Sys2Proof.Machine

/-! ### Operations that leave the list of due events alone -/

/-- The list of due events stands in every frame. -/
theorem due_of_exceptOutputs {s t : State} (h : t.exceptOutputs = s.exceptOutputs) : t.due = s.due := by
  have f (x : State) : x.due = x.exceptOutputs.due := rfl
  rw [f t, f s, h]

theorem due_of_exceptBarriers {s t : State} (h : t.exceptBarriers = s.exceptBarriers) : t.due = s.due :=
  due_of_exceptOutputs (exceptOutputs_of_exceptBarriers h)

theorem due_of_exceptSigns {s t : State} (h : t.exceptSigns = s.exceptSigns) : t.due = s.due :=
  due_of_exceptOutputs (exceptOutputs_of_exceptSigns h)

theorem due_of_exceptTraffic {s t : State} (h : t.exceptTraffic = s.exceptTraffic) : t.due = s.due :=
  due_of_exceptOutputs (exceptOutputs_of_exceptTraffic h)

@[simp] theorem State.conclude_due (a s : State) : (State.conclude a s).due = s.due :=
  due_of_exceptOutputs (State.conclude_exceptOutputs a s)

@[simp] theorem State.replan_due (s : State) : s.replan.due = s.due := due_of_exceptSigns s.replan_exceptSigns

@[simp] theorem State.portChoice_due (s : State) : s.portChoice.due = s.due := due_of_exceptTraffic s.portChoice_exceptTraffic

/-! ### Changes of paths (R43 to R45) -/

@[simp] theorem State.traceMaybe_due (s : State) (e : Option (TraceKind × Nat)) (object : Nat) :
    (s.traceMaybe e object).due = s.due := by
  cases e with
  | none => rfl
  | some p => simp [State.traceMaybe, State.traceAdd]

@[simp] theorem State.handFlasher_exceptBarriers (s : State) (n : Fin 12) (old new : PathRec) :
    (s.handFlasher n old new).exceptBarriers = s.exceptBarriers := by
  unfold State.handFlasher State.pathWithdraw State.pathPost
  split
  · rfl
  · split <;> split <;> simp

@[simp] theorem State.handCause_exceptBarriers (s : State) (n : Fin 12) (old new : PathRec) :
    (s.handCause n old new).exceptBarriers = s.exceptBarriers := by
  unfold State.handCause
  split <;> simp

@[simp] theorem State.handOpen_exceptBarriers (s : State) (old new : PathRec) :
    (s.handOpen old new).exceptBarriers = s.exceptBarriers := by
  unfold State.handOpen
  split
  · rfl
  · dsimp only
    split <;> simp

/-- The three hand-overs of a path that come before the plans. -/
theorem State.handOvers_due (s : State) (n : Fin 12) (old new : PathRec) :
    (((s.handFlasher n old new).handCause n old new).handOpen old new).due = s.due :=
  due_of_exceptBarriers (by simp)

@[simp] theorem State.putPath_due (s : State) (n : Fin 12) (new : PathRec) (flags : BitVec 16)
    (entry : Option (TraceKind × Nat)) : (s.putPath n new flags entry).due = s.due := by
  simp [State.putPath, State.handOvers_due]

@[simp] theorem State.vote_due (s : State) (n : Fin 12) (p : PathRec) : (s.vote n p).due = s.due := by
  unfold State.vote
  dsimp only
  split <;> simp

@[simp] theorem State.activation_due (s : State) (n : Fin 12) (c : Fin 16) : (s.activation n c).due = s.due := by
  unfold State.activation
  dsimp only
  split <;> simp

@[simp] theorem State.memberLeft_due (s : State) (n : Fin 12) : (s.memberLeft n).due = s.due := by
  unfold State.memberLeft
  dsimp only
  split <;> simp

@[simp] theorem State.updateHealth_due (s : State) (n : Fin 12) : (s.updateHealth n).due = s.due := by
  simp [State.updateHealth]

/-! ### Changes of channels (R31) -/

@[simp] theorem State.pathTakes_due (c : Fin 16) (old new : ChannelState) (s : State) (n : Fin 12) :
    (State.pathTakes c old new s n).due = s.due := by
  unfold State.pathTakes
  split
  · rfl
  · dsimp only
    split
    · simp
    · split <;> simp

@[simp] theorem State.channelChanged_due (s : State) (c : Fin 16) (old new : ChannelState) :
    (s.channelChanged c old new).due = s.due := by
  unfold State.channelChanged
  split
  · rfl
  · simp [foldl_leaves State.due _ (State.pathTakes_due c old new)]

@[simp] theorem State.channelTo_due (s : State) (i : Fin 16) (new : ChannelState) (flags : BitVec 16) :
    (s.channelTo i new flags).due = s.due := by
  simp [State.channelTo, State.postChannel]

/-! ### Notices at a second (R109, R110) -/

theorem State.evalNamed_exceptBarriers (s : State) (x : Notice) : (s.evalNamed x).exceptBarriers = s.exceptBarriers :=
  foldl_leaves State.exceptBarriers _ State.evalOpen_exceptBarriers _ s

theorem State.addNotice_exceptBarriers (s : State) (x : Notice) : (s.addNotice x).exceptBarriers = s.exceptBarriers :=
  foldl_leaves State.exceptBarriers _ (fun s i => s.addCause_exceptBarriers i (.notice x.number)) _ s

theorem State.dropNotice_exceptBarriers (s : State) (x : Notice) : (s.dropNotice x).exceptBarriers = s.exceptBarriers :=
  foldl_leaves State.exceptBarriers _ (fun s i => s.removeCause_exceptBarriers i (.notice x.number)) _ s

@[simp] theorem State.evalNamed_due (s : State) (x : Notice) : (s.evalNamed x).due = s.due :=
  due_of_exceptBarriers (s.evalNamed_exceptBarriers x)

@[simp] theorem State.noticeTo_due (s : State) (i : Fin 24) (x : Notice) (v : NoticeState) :
    (s.noticeTo i x v).due = s.due := by
  simp only [State.noticeTo, State.noticeEntered, State.postNotice, State.replan_due, State.evalNamed_due]
  split
  · rw [due_of_exceptBarriers (State.addNotice_exceptBarriers _ _)]
    rfl
  · rfl

@[simp] theorem State.removeNotice_due (s : State) (i : Fin 24) (x : Notice) (v : NoticeState) :
    (s.removeNotice i x v).due = s.due := by
  simp only [State.removeNotice, State.postNotice, State.replan_due, State.evalNamed_due, State.post_due, State.setSlot_due]
  split
  · exact due_of_exceptBarriers (State.dropNotice_exceptBarriers _ _)
  · rfl

@[simp] theorem State.evalNotice_due (k : Nat) (s : State) (i : Fin 24) : (State.evalNotice k s i).due = s.due := by
  unfold State.evalNotice
  split
  · rfl
  · split
    · rfl
    · split
      · simp
      · split <;> simp

@[simp] theorem State.clockSecond_due (s : State) : s.clockSecond.due = s.due := by
  unfold State.clockSecond
  split
  · split
    · exact foldl_leaves State.due _ (State.evalNotice_due _) _ _
    · rfl
  · rfl

/-! ### Counters, signs, flashers and the flash port -/

@[simp] theorem State.becomeStuck_due (s : State) (i : Fin 12) : (s.becomeStuck i).due = s.due := by
  unfold State.becomeStuck
  dsimp only
  split
  · split
    · rw [due_of_exceptBarriers (State.setUncertain_exceptBarriers _ _),
        due_of_exceptBarriers (State.setUncertain_exceptBarriers _ _)]
      rfl
    · rfl
  · rfl

@[simp] theorem State.leaveStuck_due (s : State) (i : Fin 12) : (s.leaveStuck i).due = s.due := by
  unfold State.leaveStuck
  dsimp only
  split <;> rfl

@[simp] theorem State.rotationStep_exceptSigns (s : State) (n : Fin 16) : (s.rotationStep n).exceptSigns = s.exceptSigns := by
  unfold State.rotationStep
  split <;> simp

@[simp] theorem State.refreshDue_exceptSigns (s : State) (n : Fin 16) : (s.refreshDue n).exceptSigns = s.exceptSigns := by
  unfold State.refreshDue
  dsimp only
  split
  · split <;> simp
  · rfl

@[simp] theorem State.lowerSlot_exceptSigns (s : State) (n : Fin 16) : (s.lowerSlot n).exceptSigns = s.exceptSigns := by
  simp [State.lowerSlot]

@[simp] theorem State.signLapses_exceptSigns (s : State) (n : Fin 16) : (s.signLapses n).exceptSigns = s.exceptSigns := by
  unfold State.signLapses
  dsimp only
  split <;> simp

@[simp] theorem State.pollDue_exceptSigns (s : State) (n : Fin 16) : (s.pollDue n).exceptSigns = s.exceptSigns := by
  unfold State.pollDue
  split <;> simp

@[simp] theorem State.raiseHold_exceptSigns (s : State) (n : Fin 16) : (s.raiseHold n).exceptSigns = s.exceptSigns := rfl

@[simp] theorem State.enterHold_exceptSigns (s : State) (l : Fin 2) : (s.enterHold l).exceptSigns = s.exceptSigns := by
  unfold State.enterHold
  split
  · simp [foldl_leaves State.exceptSigns State.raiseHold State.raiseHold_exceptSigns]
  · rfl

@[simp] theorem State.heldWake_exceptSigns (s : State) (l : Fin 2) : (s.heldWake l).exceptSigns = s.exceptSigns := by
  unfold State.heldWake
  split <;> simp

@[simp] theorem State.flashPhaseEnd_due (s : State) (i : Fin 8) : (s.flashPhaseEnd i).due = s.due := by
  unfold State.flashPhaseEnd
  split <;> rfl

@[simp] theorem State.dropPage_due (s : State) (p : Page) : (s.dropPage p).due = s.due := by
  unfold State.dropPage
  split <;> rfl

@[simp] theorem State.dropCached_due (s : State) (p : Page) (i : Fin 8) : (s.dropCached p i).due = s.due := by
  unfold State.dropCached
  split <;> rfl

@[simp] theorem State.workFailed_due (s : State) (it : WorkItem) (r : FailReason) : (s.workFailed it r).due = s.due := rfl

@[simp] theorem State.portFree_due (s : State) : s.portFree.due = s.due := by simp [State.portFree]

@[simp] theorem State.timeoutFlash_due (s : State) : s.timeoutFlash.due = s.due := by
  unfold State.timeoutFlash
  split
  · rfl
  · split
    · rfl
    · rfl
    · simp
    · simp [foldl_leaves State.due State.dropPage State.dropPage_due]
    · simp [State.spoilProfile]

/-! ### One event -/

/-- Only a sampling tick makes further events due as it is taken. -/
theorem State.applyDue_due (s : State) (d : Due) (hd : d ≠ .sampling) : (s.applyDue d).due = s.due := by
  cases d with
  | sampling => exact absurd rfl hd
  | second => exact s.clockSecond_due
  | chFault i | chRecover i | chRefFault i | chActive i | chQuiet i =>
    simp only [State.applyDue, State.channelFaults, State.channelRecovers, State.channelRefFault, State.channelActive,
      State.channelQuiet]
    split <;> simp
  | confirmTimeout i | leadEnd i => exact due_of_exceptBarriers (by simp [State.applyDue])
  | stall i | motion i | pause i | relower i =>
    exact due_of_exceptBarriers (by simp only [State.applyDue]; split <;> simp)
  | stuck i => exact s.becomeStuck_due i
  | stuckLeft i => exact s.leaveStuck_due i
  | rotation n | refresh n | lapsed n | critical n | poll n | holdEntry l | heldWake l =>
    exact due_of_exceptSigns (by simp [State.applyDue])
  | phaseEnd i => exact s.flashPhaseEnd_due i
  | flashTimeout => exact s.timeoutFlash_due

theorem Channel.firstDue_isChannel (c : Channel) (i : Fin 16) (d : Due) (h : d ∈ c.firstDue i) : d.isChannel = true := by
  unfold Channel.firstDue at h
  split at h
  · rw [List.mem_singleton.1 h]; rfl
  · split at h
    · rw [List.mem_singleton.1 h]; rfl
    · cases h

theorem State.secondDue_isChannel (s : State) (i : Fin 16) (d : Due) (h : d ∈ s.secondDue i) : d.isChannel = true := by
  unfold State.secondDue at h
  dsimp only at h
  split at h
  · cases h
  · split at h
    · rw [List.mem_singleton.1 h]; rfl
    · split at h
      · rw [List.mem_singleton.1 h]; rfl
      · split at h
        · rw [List.mem_singleton.1 h]; rfl
        · cases h

theorem State.countChannel_due (s : State) (i : Fin 16) : (s.countChannel i).due = s.due := by
  unfold State.countChannel
  split <;> rfl

/-- A sampling tick adds channel entries to what is due, and nothing else (R27). -/
theorem State.sample_due (s : State) (x : Vector (BitVec 12) 16) :
    ∃ cs : List Due, (∀ e ∈ cs, e.isChannel = true) ∧ (s.sample x).due = s.due ++ cs := by
  unfold State.sample
  dsimp only
  generalize hc : (List.finRange 16).foldl (fun s i => s.updChannel i (Channel.convert x[i])) s = converted
  generalize hp : (List.finRange 16).foldl State.countChannel _ = counted
  have hdue : counted.due = s.due ++ (List.finRange 16).flatMap fun i => (converted.channel i).firstDue i := by
    rw [← hp, foldl_leaves State.due _ State.countChannel_due, ← hc]
    dsimp only
    rw [foldl_leaves State.due (fun s i => s.updChannel i (Channel.convert x[i])) fun s i => rfl]
  refine ⟨((List.finRange 16).flatMap fun i => (converted.channel i).firstDue i)
    ++ (List.finRange 16).flatMap counted.secondDue, fun e he => ?_, by rw [hdue, List.append_assoc]⟩
  rcases List.mem_append.1 he with he | he
  · obtain ⟨i, -, hi⟩ := List.mem_flatMap.1 he
    exact Channel.firstDue_isChannel _ i e hi
  · obtain ⟨i, -, hi⟩ := List.mem_flatMap.1 he
    exact State.secondDue_isChannel _ i e hi

/-! ### Several events -/

theorem diff_self {α : Type} [DecidableEq α] (l : List α) : l.diff l = [] := by
  induction l with
  | nil => rfl
  | cons a l ih => rw [List.diff_cons, List.erase_cons_head, ih]

/-- Events taken one after another, none a sampling tick, leave the list of due events and bring no other about. -/
theorem State.takeAll_due (ds : List Due) (s : State) (h : Due.sampling ∉ ds) :
    (ds.foldl State.takeOne s).due = s.due.diff ds := by
  induction ds generalizing s with
  | nil => rfl
  | cons d ds ih =>
    obtain ⟨hd, hds⟩ := not_or.1 (mt List.mem_cons.2 h)
    rw [List.foldl_cons, ih _ hds, List.diff_cons]
    exact congrArg (·.diff ds) (State.applyDue_due _ d (Ne.symm hd))

/-- No sampling tick stands among the channel entries, nor in a first part of them. -/
theorem State.sampling_notMem_channelDue (s : State) (p : Due → Bool) : Due.sampling ∉ s.channelDue.takeWhile p := fun h =>
  absurd (List.mem_filter.1 ((List.takeWhile_sublist p).mem h)).2 (by decide)

theorem State.takeSilent_due_sublist (s : State) : s.takeSilent.due.Sublist s.due := by
  rw [State.takeSilent, State.takeAll_due _ s (s.sampling_notMem_channelDue _)]
  exact List.diff_sublist _ _

/-- An event other than a sampling tick is off the list when its step has ended, and what it finds on the list is all that may
remain. -/
theorem State.runEvent_due_sublist (s : State) (d : Due) (hd : d ≠ .sampling) :
    (s.runEvent d).due.Sublist (s.due.erase d) := by
  unfold State.runEvent
  split
  · rw [State.conclude_due, State.takeEvent, if_neg hd]
    split
    · refine (State.takeSilent_due_sublist _).trans ?_
      have hnot : Due.sampling ∉ s.channelBefore d ++ [d] := by
        simp [State.channelBefore, s.sampling_notMem_channelDue, Ne.symm hd]
      rw [State.takeAll_due _ s hnot, List.diff_append, List.diff_cons, List.diff_nil, List.diff_erase]
      exact List.diff_sublist _ _
    · rw [State.takeOne, State.applyDue_due _ d hd]
  · rename_i h
    rw [List.erase_of_not_mem (by simpa using h)]

/-- A step that takes an event adds no sampling tick to the list, and takes off the one that is taken. -/
theorem State.runEvent_count_sampling (s : State) (d : Due) :
    (s.runEvent d).due.count .sampling ≤ (s.due.erase d).count .sampling := by
  by_cases hd : d = .sampling
  · subst hd
    unfold State.runEvent
    split
    · rw [State.conclude_due, State.takeEvent, if_neg (by decide), if_pos rfl]
      refine ((State.takeSilent_due_sublist _).count_le _).trans ?_
      obtain ⟨cs, hcs, hdue⟩ := State.sample_due { s with due := s.due.erase .sampling } s.analog
      have hnone : cs.count .sampling = 0 := List.count_eq_zero.2 fun h => absurd (hcs _ h) (by decide)
      rw [State.takeOne, State.applyDue, hdue, List.count_append, hnone]
      rfl
    · rename_i h
      rw [List.erase_of_not_mem (by simpa using h)]
  · exact (s.runEvent_due_sublist d hd).count_le _

/-- Once each event of a list has been given its step, the sampling ticks among them are off the list of due events. -/
theorem State.runEvents_count_sampling (ds : List Due) (s : State) :
    (ds.foldl State.runEvent s).due.count .sampling ≤ s.due.count .sampling - ds.count .sampling := by
  induction ds generalizing s with
  | nil => simp
  | cons d ds ih =>
    have hrest := ih (s.runEvent d)
    have hfirst := s.runEvent_count_sampling d
    rw [List.count_erase] at hfirst
    rw [List.foldl_cons, List.count_cons]
    omega

/-- Once each event of a list without a sampling tick has been given its step, what remains is among the others. -/
theorem State.runEvents_due_sublist (ds : List Due) (s : State) (h : Due.sampling ∉ ds) :
    (ds.foldl State.runEvent s).due.Sublist (s.due.diff ds) := by
  induction ds generalizing s with
  | nil => exact List.Sublist.refl _
  | cons d ds ih =>
    obtain ⟨hd, hds⟩ := not_or.1 (mt List.mem_cons.2 h)
    rw [List.foldl_cons, List.diff_cons]
    exact (ih _ hds).trans ((s.runEvent_due_sublist d (Ne.symm hd)).diff_right)

/-- What a command finds is nothing: the first round takes the sampling ticks, the second the channel entries these bring on. -/
@[simp] theorem State.settleDue_due (s : State) : s.settleDue.due = [] := by
  unfold State.settleDue
  dsimp only
  generalize ht : s.due.foldl State.runEvent s = t
  have hnone : t.due.count .sampling = 0 := by
    have := State.runEvents_count_sampling s.due s
    rw [ht] at this
    omega
  have hrest := State.runEvents_due_sublist t.due t (List.count_eq_zero.1 hnone)
  rw [diff_self] at hrest
  exact List.sublist_nil.1 hrest

/-! ### Commands -/

/-- A step that takes the first due event, no channel entry and no sampling tick. -/
theorem State.runEvent_first (s : State) (d : Due) (ds : List Due) (hs : s.due = d :: ds) (hc : d.isChannel = false)
    (hd : d ≠ .sampling) : s.runEvent d = State.conclude s ({ s with due := ds }.applyDue d) := by
  simp [State.runEvent, State.takeEvent, State.takeOne, hs, hc, hd]

/-- Taking all that is due begins with the step of the first event. -/
theorem State.settleDue_first (s : State) (d : Due) (ds : List Due) (hs : s.due = d :: ds) (hc : d.isChannel = false)
    (hd : d ≠ .sampling) : s.settleDue = (State.conclude s ({ s with due := ds }.applyDue d)).settleDue := by
  have hrest : (s.runEvent d).due = ds := by
    rw [State.runEvent_first s d ds hs hc hd, State.conclude_due, State.applyDue_due _ d hd]
  rw [← State.runEvent_first s d ds hs hc hd]
  simp only [State.settleDue, hs, List.foldl_cons, hrest]

/-- A command that has taken what is due acts as on a state that owes nothing. -/
theorem State.command_settleDue (s : State) (f : State → State) : s.settleDue.command f = s.command f := by
  rw [State.command, State.command, State.settleDue_of_nil s.settleDue s.settleDue_due]

/-- Every command but the timed events, SAMPLING_TICK and FULL_RESET is an effect on a state that owes nothing. -/
theorem exec_eq_command (c : Instr) (h : leavesDue c = false) :
    ∃ f : State → State, ∀ s : State, exec c s = .next (s.command f) := by
  cases c with
  | fullReset | passClockSecond | samplingTick | chRecover | chActive | chQuiet | confirmTimeout | leadEnd | stallFault
  | motionTimeout | pauseEnd | relower | stuck | stuckLeft | flashPhaseEnd | rotationStep | refreshDue | signLapsed
  | criticalPoint | pollDue | holdEntry | heldWakeAge | flashTimeout => cases h
  | _ => exact ⟨_, fun _ => rfl⟩

theorem step_idle (s : State) (hp : s.pending = []) (hd : s.due = []) : step s = .next s := by
  rw [step, hp]
  dsimp only
  rw [hd]

theorem step_due (s : State) (d : Due) (ds : List Due) (hp : s.pending = []) (hd : s.due = d :: ds) :
    step s = .next (s.runEvent d) := by
  rw [step, hp]
  dsimp only
  rw [hd]

/-! ### The obligation -/

/-- Settles O2: the first due event has its own step, a command takes every one of them first, and two rounds leave none. -/
theorem emptyQueueTakesDue : Obligations.EmptyQueueTakesDue := by
  unfold Obligations.EmptyQueueTakesDue
  refine ⟨fun s hp => ⟨step_idle s hp, fun d ds hd hc hs => ?_⟩, fun c s hc => ?_, State.settleDue_due,
    State.settleDue_of_nil, fun d ds s hd hc hs => State.settleDue_first s d ds hd hc hs⟩
  · rw [step_due s d ds hp hd, State.runEvent_first s d ds hd hc hs]
  · obtain ⟨f, hf⟩ := exec_eq_command c hc
    rw [hf, hf, State.command_settleDue]

end Sys2Proof.Machine
end

section
/-! SUPPORT. What the arbitrations that end a step keep of a line and of the flash port: a line's settings and counts, a frame
in flight, and an operation that the port is busy with (R141, R142, R174). -/

namespace Sys2Proof.Machine

/-! ### What is kept -/

/-- A line has kept its settings, its state and its count, and the frame in flight if there was one. -/
structure Line.Carried (r r' : Line) : Prop where
  cfg : r'.cfg = r.cfg
  state : r'.state = r.state
  activeCount : r'.activeCount = r.activeCount
  flight : r.inFlight ≠ none → r'.inFlight = r.inFlight ∧ r'.txBuffer = r.txBuffer

theorem Line.Carried.refl (r : Line) : r.Carried r := ⟨rfl, rfl, rfl, fun _ => ⟨rfl, rfl⟩⟩

theorem Line.Carried.trans {a b c : Line} (hab : a.Carried b) (hbc : b.Carried c) : a.Carried c where
  cfg := hbc.cfg.trans hab.cfg
  state := hbc.state.trans hab.state
  activeCount := hbc.activeCount.trans hab.activeCount
  flight h := by
    obtain ⟨hf, hb⟩ := hab.flight h
    obtain ⟨hf', hb'⟩ := hbc.flight (hf ▸ h)
    exact ⟨hf'.trans hf, hb'.trans hb⟩

/-- Both lines are carried, and an operation on the flash port goes on. -/
structure State.TrafficKept (s t : State) : Prop where
  lines : ∀ l : Fin 2, (s.line l).Carried (t.line l)
  port : s.lib.port ≠ .idle → t.lib.port = s.lib.port ∧ t.lib.opTicks = s.lib.opTicks

theorem State.TrafficKept.refl (s : State) : s.TrafficKept s := ⟨fun _ => .refl _, fun _ => ⟨rfl, rfl⟩⟩

theorem State.TrafficKept.trans {a b c : State} (hab : a.TrafficKept b) (hbc : b.TrafficKept c) : a.TrafficKept c where
  lines l := (hab.lines l).trans (hbc.lines l)
  port h := by
    obtain ⟨hp, ht⟩ := hab.port h
    obtain ⟨hp', ht'⟩ := hbc.port (hp ▸ h)
    exact ⟨hp'.trans hp, ht'.trans ht⟩

/-- A state that differs in nothing of the lines nor in the port's operation keeps them. -/
theorem State.TrafficKept.of_eq {s t : State} (hl : t.lines = s.lines) (hp : t.lib.port = s.lib.port)
    (ht : t.lib.opTicks = s.lib.opTicks) : s.TrafficKept t where
  lines l := by
    have h : t.line l = s.line l := by rw [State.line, hl, State.line]
    rw [h]
    exact .refl _
  port _ := ⟨hp, ht⟩

/-! ### Fills and the port arbiter -/

theorem State.markArbitrate_carried (s : State) (m : Fin 2) (b : Bool) (l : Fin 2) :
    (s.line l).Carried ((s.updLine m fun r => { r with arbitrate := b }).line l) := by
  rw [State.updLine_eq, State.setLine_line]
  split
  · rename_i h
    subst h
    exact ⟨rfl, rfl, rfl, fun _ => ⟨rfl, rfl⟩⟩
  · exact .refl _

/-- Marking or clearing an owed arbitration keeps the lines and the port. -/
theorem State.markArbitrate_kept (s : State) (m : Fin 2) (b : Bool) :
    s.TrafficKept (s.updLine m fun r => { r with arbitrate := b }) :=
  ⟨s.markArbitrate_carried m b, fun _ => ⟨rfl, rfl⟩⟩

theorem State.startFill_lines (s : State) (p : Page) (w : Bool) : (s.startFill p w).lines = s.lines := by
  unfold State.startFill
  dsimp only
  split <;> rfl

theorem State.endFill_carried (s : State) (p : Page) (l : Fin 2) : (s.line l).Carried ((s.endFill p).line l) :=
  (State.markArbitrate_carried _ 0 true l).trans (State.markArbitrate_carried _ 1 true l)

theorem State.runFill_carried (n : Nat) (s : State) (l : Fin 2) : (s.line l).Carried ((State.runFill n s).line l) := by
  induction n generalizing s with
  | zero => exact .refl _
  | succ n ih =>
    unfold State.runFill
    split
    · split
      · exact s.endFill_carried _ l
      · split
        · exact ih (s.installStrip _ _ _ _)
        · exact .refl _
    · exact .refl _

theorem State.arbitratePort_carried (n : Nat) (s : State) (l : Fin 2) :
    (s.line l).Carried ((State.arbitratePort n s).line l) := by
  induction n generalizing s with
  | zero => exact .refl _
  | succ n ih =>
    unfold State.arbitratePort
    split
    · exact .refl _
    · split
      · rename_i p w _
        have hstart : (s.startFill p w).line l = s.line l := congrArg (·[l]) (s.startFill_lines p w)
        exact (hstart ▸ State.runFill_carried 9 (s.startFill p w) l).trans (ih _)
      · split <;> exact .refl _

/-- The port's choice keeps the lines, and an operation it is busy with goes on (R174). -/
theorem State.portChoice_kept (s : State) : s.TrafficKept s.portChoice where
  lines := s.arbitratePort_carried 6
  port h := by
    rw [s.portChoice_busy h]
    exact ⟨rfl, rfl⟩

/-! ### Candidates of a line (R140, R141) -/

theorem Sign.contentCandidate_sign (g : Sign) (n : Fin 16) (cls : ArbClass) (since : Tick) (falls : Bool) :
    (g.contentCandidate n cls since falls).sign = n := by
  unfold Sign.contentCandidate
  split <;> rfl

/-- What a sign offers is its own. -/
theorem Sign.offers_sign (g : Sign) (n : Fin 16) : ∀ c ∈ g.offers n, c.sign = n := by
  have plan : ∀ c ∈ g.planCandidates n, c.sign = n := by
    unfold Sign.planCandidates
    split <;> simp [Sign.contentCandidate_sign]
  have restore : ∀ c ∈ g.restoreCandidates n, c.sign = n := by
    unfold Sign.restoreCandidates
    split <;> simp [Sign.contentCandidate_sign]
  have hold : ∀ c ∈ g.holdCandidates n, c.sign = n := by
    unfold Sign.holdCandidates
    split <;> simp
  have shed : ∀ c ∈ g.shedCandidates n, c.sign = n := by
    unfold Sign.shedCandidates
    split <;> simp
  have refresh : ∀ c ∈ g.refreshCandidates n, c.sign = n := by
    unfold Sign.refreshCandidates
    split
    · split <;> simp
    · simp
  have poll : ∀ c ∈ g.pollCandidates n, c.sign = n := by
    unfold Sign.pollCandidates
    split <;> simp
  unfold Sign.offers
  cases g.service <;> simp only [List.forall_mem_append]
  case absent => simp
  case showing | lapsed => exact ⟨⟨⟨⟨plan, restore⟩, hold⟩, refresh⟩, poll⟩
  case blank => exact ⟨plan, poll⟩
  case shed => exact ⟨shed, poll⟩
  case held => exact ⟨plan, restore⟩
  case offline => exact poll

theorem firstCandidate_mem (now : Tick) (cs : List Candidate) (c : Candidate) (h : firstCandidate now cs = some c) :
    c ∈ cs := by
  induction cs generalizing c with
  | nil => cases h
  | cons d rest ih =>
    unfold firstCandidate at h
    split at h
    · cases h
      exact List.mem_cons_self
    · rename_i e he
      split at h
      · cases h
        exact List.mem_cons_of_mem _ (ih _ he)
      · cases h
        exact List.mem_cons_self

theorem mem_insertCandidate (now : Tick) (c d : Candidate) (cs : List Candidate) :
    d ∈ insertCandidate now c cs ↔ d = c ∨ d ∈ cs := by
  induction cs with
  | nil => simp [insertCandidate]
  | cons e rest ih =>
    unfold insertCandidate
    split
    · simp
    · simp [ih, or_left_comm]

theorem mem_insertAll (now : Tick) (d : Candidate) (cs acc : List Candidate) :
    d ∈ cs.foldl (fun acc c => insertCandidate now c acc) acc ↔ d ∈ cs ∨ d ∈ acc := by
  induction cs generalizing acc with
  | nil => simp
  | cons c rest ih => simp [ih, mem_insertCandidate, or_assoc, or_left_comm]

theorem mem_signsOf (l : Fin 2) (n : Fin 16) : n ∈ signsOf l ↔ n.val / 8 = l.val := by
  constructor
  · intro h
    obtain ⟨a, -, rfl⟩ := List.mem_map.1 h
    simp only [signAt]
    omega
  · intro h
    exact List.mem_map.2 ⟨addressOf n, List.mem_finRange _, Fin.ext (by simp only [signAt, addressOf]; omega)⟩

/-- A line ranks candidates of its own signs alone. -/
theorem State.ranking_line (s : State) (l : Fin 2) (c : Candidate) (h : c ∈ s.ranking l) : lineOf c.sign = l := by
  rw [State.ranking, mem_insertAll] at h
  obtain ⟨n, hn, hc⟩ := List.mem_filterMap.1 (h.resolve_right List.not_mem_nil)
  rw [Sign.offers_sign _ n c (firstCandidate_mem _ _ c hc)]
  exact Fin.ext ((mem_signsOf l n).1 hn)

theorem State.fallbackOf_sign (s : State) (c d : Candidate) (h : s.fallbackOf c = some d) : d.sign = c.sign := by
  unfold State.fallbackOf at h
  split at h
  · cases h
  · split at h
    · split at h
      · split at h <;> cases h <;> rfl
      · cases h
    · cases h

/-! ### Arbitrations (R141, R142) -/

/-- A frame that enters an idle line leaves the other line and the port's operation. -/
theorem State.sendFrame_kept (s : State) (c : Candidate) (b : Bool) (h : (s.line (lineOf c.sign)).inFlight = none) :
    s.TrafficKept (s.sendFrame c b) := by
  have hline (f : Frame) (bytes : List Byte) :
      s.TrafficKept (s.updLine (lineOf c.sign) fun r => { r with inFlight := some f, txBuffer := bytes }) := by
    refine ⟨fun l => ?_, fun _ => ⟨rfl, rfl⟩⟩
    rw [State.updLine_eq, State.setLine_line]
    split
    · rename_i hl
      subst hl
      exact ⟨rfl, rfl, rfl, fun hn => absurd h hn⟩
    · exact .refl _
  unfold State.sendFrame
  dsimp only
  split
  · exact (hline _ _).trans (.of_eq rfl rfl rfl)
  · exact hline _ _

/-- Passing a candidate over reaches the miss queue alone (R173). -/
theorem State.passOver_eq (s : State) (c : Candidate) :
    ∃ q : List FillRequest, s.passOver c = s.updLib fun lib => { lib with missQueue := q } := by
  unfold State.passOver State.requestFill
  split
  · split
    · exact ⟨s.lib.missQueue, rfl⟩
    · split
      · exact ⟨s.lib.missQueue, rfl⟩
      · split
        · exact ⟨_, rfl⟩
        · split
          · exact ⟨_, rfl⟩
          · exact ⟨s.lib.missQueue, rfl⟩
  · exact ⟨s.lib.missQueue, rfl⟩

theorem State.passOver_lines (s : State) (c : Candidate) : (s.passOver c).lines = s.lines := by
  obtain ⟨q, hq⟩ := s.passOver_eq c
  rw [hq]
  rfl

theorem State.passOver_kept (s : State) (c : Candidate) : s.TrafficKept (s.passOver c) := by
  obtain ⟨q, hq⟩ := s.passOver_eq c
  rw [hq]
  exact .of_eq rfl rfl rfl

/-- The ranked candidates of an idle line: what is sent is sent on that line, and the rest is kept. -/
theorem State.takeCandidates_kept (l : Fin 2) (cs : List Candidate) (s : State) (hcs : ∀ c ∈ cs, lineOf c.sign = l)
    (hl : (s.line l).inFlight = none) : s.TrafficKept (State.takeCandidates cs s) := by
  induction cs generalizing s with
  | nil => exact .refl s
  | cons c rest ih =>
    have hc : lineOf c.sign = l := hcs c List.mem_cons_self
    have hrest : ∀ d ∈ rest, lineOf d.sign = l := fun d hd => hcs d (List.mem_cons_of_mem _ hd)
    have hpass (u : State) (hu : u.lines = s.lines) : ((u.passOver c).line l).inFlight = none := by
      rw [State.line, State.passOver_lines, hu]
      exact hl
    unfold State.takeCandidates
    split
    · split
      · exact s.sendFrame_kept c false (hc ▸ hl)
      · rename_i p w i _
        have hparity : s.TrafficKept (s.parityError p w i) := .of_eq rfl rfl rfl
        exact (hparity.trans (State.passOver_kept _ c)).trans (ih _ hrest (hpass _ rfl))
    · split
      · rename_i d hd
        refine (s.passOver_kept c).trans (State.sendFrame_kept _ d true ?_)
        rw [s.fallbackOf_sign c d hd, hc]
        exact hpass s rfl
      · exact (s.passOver_kept c).trans (ih _ hrest (hpass s rfl))

theorem State.arbitrate_kept (s : State) (l : Fin 2) : s.TrafficKept (s.arbitrate l) := by
  unfold State.arbitrate
  split
  · exact .refl s
  · rename_i h
    exact State.takeCandidates_kept l _ s (s.ranking_line l) (by simpa using (not_or.1 h).1)

theorem State.serveLine_kept (s : State) (l : Fin 2) : s.TrafficKept (s.serveLine l) := by
  unfold State.serveLine
  split
  · exact ((s.markArbitrate_kept l false).trans (State.arbitrate_kept _ l)).trans (State.portChoice_kept _)
  · exact .refl s

theorem State.serveLines_kept (n : Nat) (s : State) : s.TrafficKept (State.serveLines n s) := by
  induction n generalizing s with
  | zero => exact (s.markArbitrate_kept 0 false).trans (State.markArbitrate_kept _ 1 false)
  | succ n ih =>
    unfold State.serveLines
    split
    · exact ((s.serveLine_kept 0).trans (State.serveLine_kept _ 1)).trans (ih _)
    · exact .refl s

/-- The arbitrations that end a step start frames and fills and end none that run. -/
theorem State.finish_kept (s : State) : s.TrafficKept s.finish := s.serveLines_kept 8

end Sys2Proof.Machine
end

section
/-! SUPPORT. One tick: how each record advances, which events fall due, and how the step ends (R26, R66 to R70, R88, R89, R123,
R139, R150, R164, R167, R174, R186). -/

namespace Sys2Proof.Machine

/-! ### Segments (R1, R8, R9) -/

theorem Segment.confirmOver_iff (r : Segment) :
    r.confirmOver = true ↔ r.phase = .confirm ∧ (if r.pathLimit then 32 else r.cfg.confirm) ≤ r.phaseTimer := by
  rw [Segment.confirmOver, Segment.confirmLimit, Bool.and_eq_true, beq_iff_eq, decide_eq_true_iff]

theorem Segment.leadOver_iff (r : Segment) : r.leadOver = true ↔ r.phase = .lead ∧ r.cfg.lead ≤ r.phaseTimer := by
  simp [Segment.leadOver]

/-! ### Gates (R66 to R68, R70) -/

theorem Gate.driven_iff (g : Gate) : g.driven = true ↔ g.state = .lowering ∨ g.state = .raising := by
  simp [Gate.driven]

theorem Gate.tick_driven (g : Gate) (h : g.state = .lowering ∨ g.state = .raising) :
    g.tick = { g with motionTicks := min 2400 (g.motionTicks + 1),
                      stallCount := if 4 ≤ g.motionTicks then min 8 (g.stallCount + 1) else g.stallCount } := by
  rcases h with h | h <;> simp only [Gate.tick, h, Nat.lt_succ_iff]

theorem Gate.tick_pause (g : Gate) (h : g.state = .pause) : g.tick = { g with pauseCount := min 4 (g.pauseCount + 1) } := by
  simp only [Gate.tick, h]

theorem Gate.tick_clearing (g : Gate) (h : g.state = .opened) (ha : g.relowerArmed = true) :
    g.tick = { g with clearCount := if g.presence then 0 else min 24 (g.clearCount + 1) } := by
  simp only [Gate.tick, h, ha, if_true]

theorem Gate.tick_rest (g : Gate) (hd : ¬(g.state = .lowering ∨ g.state = .raising)) (hp : g.state ≠ .pause)
    (hc : ¬(g.state = .opened ∧ g.relowerArmed = true)) : g.tick = g := by
  unfold Gate.tick
  split
  · exact absurd (.inl ‹_›) hd
  · exact absurd (.inr ‹_›) hd
  · exact absurd ‹_› hp
  · exact if_neg fun ha => hc ⟨‹_›, ha⟩
  all_goals rfl

/-- A tick moves a gate's counts alone. -/
theorem Gate.tick_keeps (g : Gate) :
    g.tick.state = g.state ∧ g.tick.cfg = g.cfg ∧ g.tick.relowerArmed = g.relowerArmed := by
  by_cases hd : g.state = .lowering ∨ g.state = .raising
  · rw [g.tick_driven hd]
    exact ⟨rfl, rfl, rfl⟩
  · by_cases hp : g.state = .pause
    · rw [g.tick_pause hp]
      exact ⟨rfl, rfl, rfl⟩
    · by_cases hc : g.state = .opened ∧ g.relowerArmed = true
      · rw [g.tick_clearing hc.1 hc.2]
        exact ⟨rfl, rfl, rfl⟩
      · rw [g.tick_rest hd hp hc]
        exact ⟨rfl, rfl, rfl⟩

@[simp] theorem Gate.tick_state (g : Gate) : g.tick.state = g.state := g.tick_keeps.1
@[simp] theorem Gate.tick_cfg (g : Gate) : g.tick.cfg = g.cfg := g.tick_keeps.2.1
@[simp] theorem Gate.tick_relowerArmed (g : Gate) : g.tick.relowerArmed = g.relowerArmed := g.tick_keeps.2.2

theorem Gate.timedOut_tick (g : Gate) :
    g.tick.timedOut = true ↔ (g.state = .lowering ∨ g.state = .raising) ∧ g.cfg.motionLimit ≤ g.tick.motionTicks := by
  simp [Gate.timedOut, Gate.driven]

/-- TIMEOUT outranks STALL (R67). -/
theorem Gate.stalled_tick (g : Gate) :
    (g.tick.stalled && !g.tick.timedOut) = true ↔ (g.state = .lowering ∨ g.state = .raising) ∧
      ¬g.cfg.motionLimit ≤ g.tick.motionTicks ∧ g.tick.stallCount = 8 := by
  rw [Bool.and_eq_true, Bool.not_eq_true', ← Bool.not_eq_true, Gate.timedOut_tick]
  simp only [Gate.stalled, Bool.and_eq_true, Gate.driven_iff, Gate.tick_state, beq_iff_eq]
  tauto

theorem Gate.pauseEnds_tick (g : Gate) :
    (g.tick.pauseEnds && !g.pauseElapsed) = true ↔ g.state = .pause ∧ g.tick.pauseCount = 4 ∧ g.pauseCount ≠ 4 := by
  simp [Gate.pauseEnds, Gate.pauseElapsed, and_assoc]

theorem Gate.relowers_tick (g : Gate) :
    g.tick.relowers = true ↔ g.state = .opened ∧ g.relowerArmed = true ∧ g.tick.clearCount = 24 := by
  simp [Gate.relowers, and_assoc]

/-! ### Counter units (R88, R89) -/

theorem Counter.tick_other (c : Counter) (h : c.cfg.mode ≠ .loopPair) : c.tick = c := if_pos h

theorem Counter.tick_stuck (c : Counter) (h : c.cfg.mode = .loopPair) (hs : c.stuck = true) :
    c.tick = { c with clearTicks := if c.codeA || c.codeB then 0 else min 8 (c.clearTicks + 1) } := by
  simp only [Counter.tick, h, hs, ne_eq, not_true_eq_false, if_false, if_true]

theorem Counter.tick_running (c : Counter) (h : c.cfg.mode = .loopPair) (hs : c.stuck = false) :
    c.tick = { c with aOnTicks := if c.codeA then min 480 (c.aOnTicks + 1) else 0,
                      bOnTicks := if c.codeB then min 480 (c.bOnTicks + 1) else 0 } := by
  simp only [Counter.tick, h, hs, ne_eq, not_true_eq_false, if_false, Bool.false_eq_true]

/-- A tick moves a unit's counts alone. -/
theorem Counter.tick_keeps (c : Counter) :
    c.tick.cfg = c.cfg ∧ c.tick.stuck = c.stuck ∧ c.tick.codeA = c.codeA ∧ c.tick.codeB = c.codeB := by
  unfold Counter.tick
  split
  · exact ⟨rfl, rfl, rfl, rfl⟩
  · split <;> exact ⟨rfl, rfl, rfl, rfl⟩

@[simp] theorem Counter.tick_cfg (c : Counter) : c.tick.cfg = c.cfg := c.tick_keeps.1

theorem Counter.becomesStuck_tick (c : Counter) :
    c.tick.becomesStuck = true ↔ c.cfg.mode = .loopPair ∧ c.stuck = false ∧
      ((c.codeA = true ∧ c.tick.aOnTicks = 480) ∨ (c.codeB = true ∧ c.tick.bOnTicks = 480)) := by
  obtain ⟨-, hstuck, ha, hb⟩ := c.tick_keeps
  simp [Counter.becomesStuck, hstuck, ha, hb, and_assoc]

theorem Counter.leavesStuck_tick (c : Counter) :
    c.tick.leavesStuck = true ↔ c.cfg.mode = .loopPair ∧ c.stuck = true ∧ c.tick.clearTicks = 8 := by
  obtain ⟨-, hstuck, -, -⟩ := c.tick_keeps
  simp [Counter.leavesStuck, hstuck, and_assoc]

/-! ### Signs (R123, R139, R150, R167) -/

/-- The ages of an accounted sign after a tick (R150). -/
def Sign.agedByTick (g : Sign) : Ages := g.ages.map fun a => min g.lapsePoint (a + 1)

theorem Sign.counted_iff (g : Sign) : g.counted = true ↔ g.service = .showing ∨ g.service = .lapsed := by
  simp [Sign.counted]

theorem Sign.tick_counted (g : Sign) (h : g.service = .showing ∨ g.service = .lapsed) :
    g.tick = { g with ages := g.agedByTick, slotTimer := g.slotTimer - 1,
                      dwellCount := if 1 < g.rotation.length then g.dwellCount + 1 else g.dwellCount } := by
  rcases h with h | h <;> simp only [Sign.tick, h, Sign.agedByTick]

theorem Sign.tick_held (g : Sign) (h : g.service = .held) : g.tick = { g with ages := g.agedByTick } := by
  simp only [Sign.tick, h, Sign.agedByTick]

theorem Sign.tick_polled (g : Sign) (h : g.service = .blank ∨ g.service = .shed ∨ g.service = .offline) :
    g.tick = { g with pollCount := min (if g.service = .offline then 80 else 480) (g.pollCount + 1) } := by
  rcases h with h | h | h <;> simp only [Sign.tick, h, Service.pollInterval, reduceCtorEq, if_true, if_false]

theorem Sign.tick_absent (g : Sign) (h : g.service = .absent) : g.tick = g := by simp only [Sign.tick, h]

/-- What a tick leaves of a sign, whatever its service state. -/
theorem Sign.tick_eq (g : Sign) : ∃ (ages : Ages) (slotTimer dwellCount pollCount : Nat),
    g.tick = { g with ages := ages, slotTimer := slotTimer, dwellCount := dwellCount, pollCount := pollCount } := by
  unfold Sign.tick
  dsimp only
  split <;> exact ⟨_, _, _, _, rfl⟩

@[simp] theorem Sign.tick_service (g : Sign) : g.tick.service = g.service := by
  obtain ⟨_, _, _, _, h⟩ := g.tick_eq
  rw [h]

@[simp] theorem Sign.tick_cfg (g : Sign) : g.tick.cfg = g.cfg := by
  obtain ⟨_, _, _, _, h⟩ := g.tick_eq
  rw [h]

@[simp] theorem Sign.tick_shown (g : Sign) : g.tick.shown = g.shown := by
  obtain ⟨_, _, _, _, h⟩ := g.tick_eq
  rw [h]

@[simp] theorem Sign.tick_rotation (g : Sign) : g.tick.rotation = g.rotation := by
  obtain ⟨_, _, _, _, h⟩ := g.tick_eq
  rw [h]

@[simp] theorem Sign.tick_restoreNeed (g : Sign) : g.tick.restoreNeed = g.restoreNeed := by
  obtain ⟨_, _, _, _, h⟩ := g.tick_eq
  rw [h]

@[simp] theorem Sign.tick_pollNeed (g : Sign) : g.tick.pollNeed = g.pollNeed := by
  obtain ⟨_, _, _, _, h⟩ := g.tick_eq
  rw [h]

@[simp] theorem Sign.tick_lapsePoint (g : Sign) : g.tick.lapsePoint = g.lapsePoint := by
  obtain ⟨_, _, _, _, h⟩ := g.tick_eq
  rw [h]

@[simp] theorem Sign.tick_critical (g : Sign) : g.tick.critical = g.critical := by
  obtain ⟨_, _, _, _, h⟩ := g.tick_eq
  rw [h]

@[simp] theorem Sign.tick_heldSpan (g : Sign) : g.tick.heldSpan = g.heldSpan := by
  obtain ⟨_, _, _, _, h⟩ := g.tick_eq
  rw [h, Sign.heldSpan, Sign.heldSpan]

theorem Sign.tick_ages (g : Sign) (h : g.service = .showing ∨ g.service = .lapsed ∨ g.service = .held) :
    g.tick.ages = g.agedByTick := by
  rcases h with h | h | h
  · rw [g.tick_counted (.inl h)]
  · rw [g.tick_counted (.inr h)]
  · rw [g.tick_held h]

theorem Sign.lapses_tick (g : Sign) :
    ((g.tick.service == .showing || g.tick.service == .held) && decide (g.tick.lapsePoint ≤ g.tick.ages.oldest)) = true ↔
      (g.service = .showing ∨ g.service = .held) ∧ g.lapsePoint ≤ g.agedByTick.oldest := by
  simp only [Sign.tick_service, Sign.tick_lapsePoint, Bool.and_eq_true, Bool.or_eq_true, beq_iff_eq, decide_eq_true_iff]
  exact and_congr_right fun h => by rw [g.tick_ages (h.imp_right .inr)]

theorem Sign.refreshFalls_tick (g : Sign) :
    (g.tick.counted && g.tick.slotTimer == 0) = true ↔
      (g.service = .showing ∨ g.service = .lapsed) ∧ g.slotTimer ≤ 1 := by
  simp only [Bool.and_eq_true, Sign.counted_iff, Sign.tick_service, beq_iff_eq]
  refine and_congr_right fun h => ?_
  rw [g.tick_counted h]
  exact Nat.sub_eq_zero_iff_le

theorem Sign.critical_tick (g : Sign) :
    (g.tick.counted && decide (g.tick.critical ≤ g.tick.ages.oldest) && g.tick.restoreNeed == none) = true ↔
      (g.service = .showing ∨ g.service = .lapsed) ∧ g.critical ≤ g.agedByTick.oldest ∧ g.restoreNeed = none := by
  simp only [Bool.and_eq_true, Sign.counted_iff, Sign.tick_service, Sign.tick_critical, Sign.tick_restoreNeed, beq_iff_eq,
    decide_eq_true_iff, and_assoc]
  exact and_congr_right fun h => by rw [g.tick_ages (h.imp_right .inl)]

theorem Sign.pollFalls_iff (g : Sign) :
    g.pollFalls = true ↔
      g.service.pollInterval ≠ 0 ∧ g.service.pollInterval ≤ g.pollCount ∧ g.pollNeed = none := by
  simp only [Sign.pollFalls, Bool.and_eq_true, bne_iff_ne, beq_iff_eq, decide_eq_true_iff, and_assoc]

theorem Sign.pollFalls_tick (g : Sign) :
    g.tick.pollFalls = true ↔ (g.service = .blank ∨ g.service = .shed ∨ g.service = .offline) ∧
      (if g.service = .offline then 80 else 480) ≤ g.tick.pollCount ∧ g.pollNeed = none := by
  rw [Sign.pollFalls_iff, Sign.tick_service, Sign.tick_pollNeed]
  cases g.service <;> simp [Service.pollInterval]

theorem Sign.rotates_tick (g : Sign) :
    g.tick.rotates = true ↔ (g.service = .showing ∨ g.service = .lapsed) ∧ 1 < g.rotation.length ∧
      g.cfg.dwell ≤ g.tick.dwellCount := by
  simp only [Sign.rotates, Bool.and_eq_true, Sign.counted_iff, Sign.tick_service, Sign.tick_rotation, Sign.tick_cfg,
    decide_eq_true_iff, and_assoc]

theorem Sign.wakes_tick (g : Sign) : g.tick.wakes = true ↔ g.service = .held ∧ 2 * g.heldSpan ≤ g.tick.ages.oldest := by
  simp [Sign.wakes]

/-! ### Lines and the flash port (R164, R174) -/

/-- A tick moves a line's count alone. -/
theorem Line.tick_eq (r : Line) :
    r.tick = { r with activeCount := if r.state = .active then min 80 (r.activeCount + 1) else r.activeCount } := by
  unfold Line.tick
  split <;> rfl

/-- A tick moves the operation ticks of a busy port. -/
theorem Library.tick_busy (b : Library) (h : b.port ≠ .idle) : b.tick = { b with opTicks := min 255 (b.opTicks + 1) } :=
  if_neg h

theorem Library.overdue_tick (b : Library) :
    b.tick.overdue = true ↔
      match b.port with
      | .idle => False
      | .fill .. => False
      | .program .. => 7 ≤ b.opTicks
      | .erase .. => 39 ≤ b.opTicks
      | .save .. => 79 ≤ b.opTicks := by
  unfold Library.overdue Library.tick
  cases h : b.port <;> simp [h, PortOp.limit]

/-! ### The timebase (R26, R186) -/

theorem Timebase.passes_iff (t : Timebase) :
    t.passes = true ↔ 7 ≤ t.tickInSecond ∧ ∃ n : Nat, t.passClock = some n ∧ n < 0xFFFFFFFE := by
  unfold Timebase.passes
  cases t.passClock <;> simp

theorem State.isSamplingTick_iff (s : State) :
    s.isSamplingTick = true ↔ s.inReserve = false ∨ 3 ≤ s.economy ∨
      ∃ n : Fin 12, (s.path n).state = .watch ∨ (s.path n).state = .alert ∨ (s.path n).state = .hold := by
  simp [State.isSamplingTick, State.anyPathAwake, or_comm, or_left_comm]

/-! ### The events that fall due -/

/-- Whether the condition of an event holds once every timer has advanced. -/
def State.fallsDue (s : State) : Due → Bool
  | .second => s.tmb.passes
  | .sampling => s.isSamplingTick
  | .confirmTimeout i => (s.segment i).tick.confirmOver
  | .leadEnd i => (s.segment i).tick.leadOver
  | .motion i => (s.gate i).tick.timedOut
  | .stall i => (s.gate i).tick.stalled && !(s.gate i).tick.timedOut
  | .pause i => (s.gate i).tick.pauseEnds && !(s.gate i).pauseElapsed
  | .relower i => (s.gate i).tick.relowers
  | .stuck u => (s.counter u).tick.becomesStuck
  | .stuckLeft u => (s.counter u).tick.leavesStuck
  | .lapsed n =>
    let g := (s.sign n).tick
    (g.service == .showing || g.service == .held) && decide (g.lapsePoint ≤ g.ages.oldest)
  | .refresh n => (s.sign n).tick.counted && (s.sign n).tick.slotTimer == 0
  | .critical n =>
    let g := (s.sign n).tick
    g.counted && decide (g.critical ≤ g.ages.oldest) && g.restoreNeed == none
  | .poll n => (s.sign n).tick.pollFalls
  | .rotation n => (s.sign n).tick.rotates
  | .heldWake l => s.advance.wakeDue l
  | .holdEntry l => s.advance.holdDue l
  | .flashTimeout => s.lib.tick.overdue
  | .chFault _ | .chRecover _ | .chRefFault _ | .chActive _ | .chQuiet _ | .phaseEnd _ => false

theorem mem_dueIf (c : Bool) (d e : Due) : e ∈ dueIf c d ↔ c = true ∧ e = d := by
  cases c <;> simp [dueIf]

@[simp] theorem State.advance_segment (s : State) (i : Fin 4) : s.advance.segment i = (s.segment i).tick := by
  simp [State.advance, State.segment]

@[simp] theorem State.advance_gate (s : State) (i : Fin 6) : s.advance.gate i = (s.gate i).tick := by
  simp [State.advance, State.gate]

@[simp] theorem State.advance_counter (s : State) (i : Fin 12) : s.advance.counter i = (s.counter i).tick := by
  simp [State.advance, State.counter]

@[simp] theorem State.advance_sign (s : State) (i : Fin 16) : s.advance.sign i = (s.sign i).tick := by
  simp [State.advance, State.sign]

@[simp] theorem State.advance_line (s : State) (i : Fin 2) : s.advance.line i = (s.line i).tick := by
  simp [State.advance, State.line]

@[simp] theorem State.advance_lib (s : State) : s.advance.lib = s.lib.tick := rfl

/-- The list of a tick holds exactly the events whose conditions hold: each kind of event stands in one part of the list, under its
own condition. -/
theorem State.mem_dueAfter (s : State) (d : Due) : d ∈ s.dueAfter s.advance ↔ s.fallsDue d = true := by
  cases d <;> simp [State.dueAfter, Gate.dueAfter, Sign.dueAfter, mem_dueIf, State.fallsDue]

theorem State.wakeDue_tick (s : State) (l : Fin 2) :
    s.advance.wakeDue l = true ↔ ((s.line l).state = .holdEntry ∨ (s.line l).state = .held) ∧
      ∃ n : Fin 16, n.val / 8 = l.val ∧ (s.sign n).service = .held ∧ 2 * (s.sign n).heldSpan ≤ (s.sign n).tick.ages.oldest := by
  simp [State.wakeDue, Line.tick_eq, mem_signsOf, Sign.wakes_tick]

theorem State.holdDue_tick (s : State) (l : Fin 2) :
    s.advance.holdDue l = true ↔ (s.line l).state = .active ∧ 79 ≤ (s.line l).activeCount ∧ s.inReserve = true ∧
      (s.line l).inFlight = none := by
  have hreserve : s.advance.inReserve = s.inReserve := rfl
  simp only [State.holdDue, State.advance_line, hreserve, Line.tick_eq, Bool.and_eq_true, beq_iff_eq,
    Option.isNone_iff_eq_none, and_assoc]
  refine and_congr_right fun h => and_congr_left fun _ => ?_
  rw [if_pos h]
  omega

/-! ### The end of the step -/

/-- Signs that keep their configuration, their displayed record and their service state are not handed over (R125). -/
theorem State.handSigns_of_unchanged (a s : State)
    (h : ∀ n : Fin 16, (s.sign n).cfg = (a.sign n).cfg ∧ (s.sign n).shown = (a.sign n).shown ∧
      (s.sign n).service = (a.sign n).service) : State.handSigns a s = s := by
  have hadvance (i : Fin 4) : a.advanceOf i = s.advanceOf i := by
    unfold State.advanceOf Sign.isAdvanceOf
    simp only [fun n => (h n).1]
  refine List.foldl_fixed' (fun i => ?_) _
  unfold State.evalConfirmFor
  rw [if_neg]
  simp [hadvance, fun n => (h n).2.1, fun n => (h n).2.2]

/-- The state of a tick before its arbitrations: timers advanced, the events made due, both lines asked to arbitrate. -/
theorem State.tick_eq (s : State) (h : s.due = []) :
    s.tick = ({ s.advance with due := s.dueAfter s.advance }.askBoth).finish := by
  have honce : s.tickOnce = { s.advance with due := s.dueAfter s.advance }.askBoth := by
    have hdue : s.advance.due ++ s.dueAfter s.advance = s.dueAfter s.advance := by
      rw [show s.advance.due = [] from h, List.nil_append]
    rw [State.tickOnce, hdue]
  have hsigns (n : Fin 16) : s.tickOnce.sign n = (s.sign n).tick := s.advance_sign n
  rw [State.tick, State.command_of_nil s _ h, State.conclude,
    State.handSigns_of_unchanged s s.tickOnce fun n => by simp [hsigns], honce]

/-- Beyond the timers and the list of due events a tick reaches lines, the library and the report set alone. -/
theorem State.tick_exceptTraffic (s : State) (h : s.due = []) :
    s.tick.exceptTraffic = { s.advance with due := s.dueAfter s.advance }.exceptTraffic := by
  rw [s.tick_eq h, State.finish_exceptTraffic, State.askBoth_exceptTraffic]

/-- What a tick gives of any part of the state that its arbitrations do not reach. -/
theorem State.tick_part {α : Type} (s : State) (h : s.due = []) (part : State → α)
    (hpart : ∀ x : State, part x.exceptTraffic = part x) : part s.tick = part { s.advance with due := s.dueAfter s.advance } := by
  rw [← hpart, s.tick_exceptTraffic h, hpart]

/-- The arbitrations of a tick keep the advanced lines and the operation on the flash port. -/
theorem State.tick_kept (s : State) (h : s.due = []) : s.advance.TrafficKept s.tick := by
  rw [s.tick_eq h]
  have hdue : s.advance.TrafficKept { s.advance with due := s.dueAfter s.advance } := .of_eq rfl rfl rfl
  exact ((hdue.trans (State.markArbitrate_kept _ 0 true)).trans (State.markArbitrate_kept _ 1 true)).trans
    (State.finish_kept _)

theorem State.tick_segment (s : State) (h : s.due = []) (i : Fin 4) : s.tick.segment i = (s.segment i).tick :=
  (s.tick_part h (State.segment · i) fun _ => rfl).trans (s.advance_segment i)

theorem State.tick_gate (s : State) (h : s.due = []) (i : Fin 6) : s.tick.gate i = (s.gate i).tick :=
  (s.tick_part h (State.gate · i) fun _ => rfl).trans (s.advance_gate i)

theorem State.tick_counter (s : State) (h : s.due = []) (u : Fin 12) : s.tick.counter u = (s.counter u).tick :=
  (s.tick_part h (State.counter · u) fun _ => rfl).trans (s.advance_counter u)

theorem State.tick_sign (s : State) (h : s.due = []) (n : Fin 16) : s.tick.sign n = (s.sign n).tick :=
  (s.tick_part h (State.sign · n) fun _ => rfl).trans (s.advance_sign n)

theorem State.tick_economy (s : State) (h : s.due = []) :
    s.tick.economy = if s.isSamplingTick then 0 else s.economy + 1 :=
  s.tick_part h State.economy fun _ => rfl

theorem State.mem_tick_due (s : State) (h : s.due = []) (d : Due) : d ∈ s.tick.due ↔ s.fallsDue d = true := by
  rw [s.tick_part h State.due fun _ => rfl, ← s.mem_dueAfter]

/-- Timers and the list of due events apart, a tick changes nothing but the outputs. -/
theorem State.tick_frame (s : State) (h : s.due = []) :
    { s.tick.exceptOutputs with tmb := s.tmb, economy := s.economy, counters := s.counters, due := s.due } =
      s.exceptOutputs := by
  rw [exceptOutputs_of_exceptTraffic (s.tick_exceptTraffic h)]
  rfl

theorem exec_tick (s : State) : exec .tick s = .next s.tick := rfl

/-! ### The obligation -/

/-- Settles O56: the advanced records and the events of `State.fallsDue`, kept by the arbitrations that end the tick. -/
theorem tickAdvances : Obligations.TickAdvances := by
  unfold Obligations.TickAdvances
  intro s _ h sampling
  have hkept := s.tick_kept h
  refine ⟨s.tick, exec_tick s, s.tick_part h State.tmb fun _ => rfl, fun hs => ?_, fun hs => ?_, ?_, fun i => ?_, fun i => ?_,
    fun u => ?_, fun n => ?_, fun l => ?_, fun hp => ?_, ?_, s.tick_part h State.flashers fun _ => rfl, s.tick_frame h⟩
  · have hs := s.isSamplingTick_iff.2 hs
    exact ⟨by rw [s.tick_economy h, if_pos hs], (s.mem_tick_due h _).2 hs⟩
  · have hs := mt s.isSamplingTick_iff.1 hs
    exact ⟨by rw [s.tick_economy h, if_neg hs], mt (s.mem_tick_due h _).1 hs⟩
  · exact (s.mem_tick_due h _).trans s.tmb.passes_iff
  · dsimp only
    simp only [s.tick_segment h, s.mem_tick_due h]
    exact ⟨rfl, Segment.confirmOver_iff _, Segment.leadOver_iff _⟩
  · dsimp only
    simp only [s.tick_gate h, s.mem_tick_due h]
    exact ⟨Gate.tick_driven _, Gate.tick_pause _, Gate.tick_clearing _, Gate.tick_rest _, Gate.timedOut_tick _,
      Gate.stalled_tick _, Gate.pauseEnds_tick _, Gate.relowers_tick _⟩
  · dsimp only
    simp only [s.tick_counter h, s.mem_tick_due h]
    exact ⟨Counter.tick_other _, Counter.tick_stuck _, Counter.tick_running _, Counter.becomesStuck_tick _,
      Counter.leavesStuck_tick _⟩
  · dsimp only
    simp only [s.tick_sign h, s.mem_tick_due h]
    exact ⟨Sign.tick_counted _, Sign.tick_held _, Sign.tick_polled _, Sign.tick_absent _, Sign.lapses_tick _,
      Sign.refreshFalls_tick _, Sign.critical_tick _, Sign.pollFalls_tick _, Sign.rotates_tick _⟩
  · dsimp only
    obtain ⟨hcfg, hstate, hcount, hflight⟩ := hkept.lines l
    rw [State.advance_line, Line.tick_eq] at hcfg hstate hcount hflight
    simp only [s.tick_sign h, s.mem_tick_due h]
    exact ⟨hcfg, hstate, hcount, hflight, s.holdDue_tick l, s.wakeDue_tick l⟩
  · obtain ⟨hport, hticks⟩ := hkept.port (by rwa [State.advance_lib, Library.tick_busy _ hp])
    rw [State.advance_lib, Library.tick_busy _ hp] at hport hticks
    exact ⟨hport, hticks⟩
  · exact (s.mem_tick_due h _).trans s.lib.overdue_tick

end Sys2Proof.Machine
end

section
/-! SUPPORT. What a change of the device keeps: a property of states that every elementary change of a kind keeps is kept by every
operation made of changes of that kind. Retention and plans come first (R119 to R123, R138 to R168). -/

namespace Sys2Proof.Machine

/-- What every step of a fold keeps, the fold keeps. -/
theorem foldl_keeps {α : Type} {P : State → Prop} {f : State → α → State} (h : ∀ s a, P s → P (f s a)) (l : List α)
    {s : State} (hs : P s) : P (l.foldl f s) := by
  induction l generalizing s with
  | nil => exact hs
  | cons a l ih => exact ih (h s a hs)

/-- What each element's step keeps, the fold keeps. -/
theorem foldl_keeps_mem {α : Type} {P : State → Prop} {f : State → α → State} {l : List α} (h : ∀ s, ∀ a ∈ l, P s → P (f s a))
    {s : State} (hs : P s) : P (l.foldl f s) := by
  induction l generalizing s with
  | nil => exact hs
  | cons a l ih => exact ih (fun s b hb => h s b (List.mem_cons_of_mem _ hb)) (h s a List.mem_cons_self hs)

/-! ### Changes of a sign and of a line by the retention rules -/

/-- A sign record that follows another by the rules of service, retention and hold: the configuration, the plan with its place
and the need stand, what is displayed stands but for CONFIRMED, and the sign confirms only if it did before. -/
structure Sign.Retains (a b : Sign) : Prop where
  cfg : b.cfg = a.cfg
  planClass : b.planClass = a.planClass
  rotation : b.rotation = a.rotation
  index : b.index = a.index
  dwellCount : b.dwellCount = a.dwellCount
  need : b.need = a.need
  shown : b.shown = { a.shown with confirmed := b.shown.confirmed }
  confirms : b.confirms = true → a.confirms = true

theorem Sign.Retains.rfl {a : Sign} : a.Retains a :=
  ⟨Eq.refl _, Eq.refl _, Eq.refl _, Eq.refl _, Eq.refl _, Eq.refl _, Eq.refl _, id⟩

theorem Sign.Retains.trans {a b c : Sign} (h : a.Retains b) (k : b.Retains c) : a.Retains c :=
  ⟨k.cfg.trans h.cfg, k.planClass.trans h.planClass, k.rotation.trans h.rotation, k.index.trans h.index,
    k.dwellCount.trans h.dwellCount, k.need.trans h.need, by rw [k.shown, h.shown], fun x => h.confirms (k.confirms x)⟩

/-- A change of the fields that retention, service and hold own. -/
theorem Sign.retains_of_eq {a b : Sign} (h : b.cfg = a.cfg ∧ b.planClass = a.planClass ∧ b.rotation = a.rotation ∧
    b.index = a.index ∧ b.dwellCount = a.dwellCount ∧ b.need = a.need ∧ b.shown = a.shown ∧ b.service = a.service) :
    a.Retains b := by
  obtain ⟨h1, h2, h3, h4, h5, h6, h7, h8⟩ := h
  exact ⟨h1, h2, h3, h4, h5, h6, by rw [h7], by simp [Sign.confirms, h7, h8]⟩

/-- An entry to a service state, out of OFFLINE only to LAPSED. -/
theorem Sign.withService_retains (now : Tick) (new : Service) (g : Sign)
    (h : new = .lapsed ∨ g.service ≠ .offline) : g.Retains (g.withService now new) := by
  have hne : new ≠ .lapsed → g.service ≠ .offline := fun hn => h.resolve_left hn
  by_cases hh : g.service = .held <;> cases new <;>
    refine ⟨?_, ?_, ?_, ?_, ?_, ?_, ?_, ?_⟩ <;>
    simp_all [Sign.withService, Sign.derive, Sign.confirms]

/-- A line that is held or is entering hold. -/
def Line.holds (r : Line) : Prop := r.state = .holdEntry ∨ r.state = .held

/-- A line record that follows another by the rules of load, shedding and hold: its settings, its target and its exchange stand, and a
line that does not hold enters no hold and keeps its last wake. -/
structure Line.Retains (a b : Line) : Prop where
  cfg : b.cfg = a.cfg
  inFlight : b.inFlight = a.inFlight
  txBuffer : b.txBuffer = a.txBuffer
  target : b.target = a.target
  awake : ¬a.holds → ¬b.holds ∧ b.wakeCause = a.wakeCause

theorem Line.Retains.rfl {a : Line} : a.Retains a := ⟨Eq.refl _, Eq.refl _, Eq.refl _, Eq.refl _, fun h => ⟨h, Eq.refl _⟩⟩

theorem Line.Retains.trans {a b c : Line} (h : a.Retains b) (k : b.Retains c) : a.Retains c :=
  ⟨k.cfg.trans h.cfg, k.inFlight.trans h.inFlight, k.txBuffer.trans h.txBuffer, k.target.trans h.target, fun ha =>
    have ⟨hb, hcause⟩ := h.awake ha
    ⟨(k.awake hb).1, (k.awake hb).2.trans hcause⟩⟩

/-- A change of the fields that load and arbitration own. -/
theorem Line.retains_of_eq {a b : Line} (h : b.cfg = a.cfg ∧ b.inFlight = a.inFlight ∧ b.txBuffer = a.txBuffer ∧ b.target = a.target ∧
    b.state = a.state ∧ b.wakeCause = a.wakeCause) : a.Retains b := by
  obtain ⟨hcfg, hflight, hbuffer, htarget, hstate, hcause⟩ := h
  exact ⟨hcfg, hflight, hbuffer, htarget, fun hn => ⟨by rwa [Line.holds, hstate], hcause⟩⟩

/-- A line that is left active or resuming with its last wake. -/
theorem Line.retains_awake {a b : Line}
    (h : b.cfg = a.cfg ∧ b.inFlight = a.inFlight ∧ b.txBuffer = a.txBuffer ∧ b.target = a.target ∧ b.wakeCause = a.wakeCause)
    (hb : ¬b.holds) : a.Retains b := by
  obtain ⟨hcfg, hflight, hbuffer, htarget, hcause⟩ := h
  exact ⟨hcfg, hflight, hbuffer, htarget, fun _ => ⟨hb, hcause⟩⟩

/-- A change of the hold of a line that holds. -/
theorem Line.retains_holding {a b : Line}
    (h : b.cfg = a.cfg ∧ b.inFlight = a.inFlight ∧ b.txBuffer = a.txBuffer ∧ b.target = a.target) (ha : a.holds) : a.Retains b := by
  obtain ⟨hcfg, hflight, hbuffer, htarget⟩ := h
  exact ⟨hcfg, hflight, hbuffer, htarget, fun hn => absurd ha hn⟩

theorem Sign.not_offline_of_counted {g : Sign} (hc : g.counted = true) : g.service ≠ .offline := by
  intro ho
  simp [Sign.counted, ho] at hc

theorem Sign.not_offline_of_maySheds {g : Sign} (hg : g.maySheds = true) : g.service ≠ .offline := by
  simp only [Sign.maySheds, Bool.and_eq_true] at hg
  exact Sign.not_offline_of_counted hg.1.1

/-- An adoption of a target changes retention fields alone (R154). -/
theorem Sign.adopt_retains (now : Tick) (t : Granularity) (g : Sign) : g.Retains (g.adopt now t) :=
  Sign.retains_of_eq (by simp [Sign.adopt, Sign.derive])

/-- The effects of a change of the lapse point are on retention fields alone (R152). -/
theorem Sign.relapse_retains (g : Sign) : g.Retains g.relapse :=
  Sign.retains_of_eq (by unfold Sign.relapse Sign.rederive; split <;> simp [Sign.derive])

/-- A sign record that also stays in its band with its temperature, and is not polled anew. -/
structure Sign.Keeps (a b : Sign) : Prop extends a.Retains b where
  band : b.band = a.band
  temperature : b.temperature = a.temperature
  unpolled : a.pollCount = 0 ∧ a.pollNeed = none → b.pollCount = 0 ∧ b.pollNeed = none

theorem Sign.Keeps.rfl {a : Sign} : a.Keeps a := ⟨.rfl, Eq.refl _, Eq.refl _, id⟩

theorem Sign.Keeps.trans {a b c : Sign} (h : a.Keeps b) (k : b.Keeps c) : a.Keeps c :=
  ⟨h.toRetains.trans k.toRetains, k.band.trans h.band, k.temperature.trans h.temperature, fun x => k.unpolled (h.unpolled x)⟩

/-- A change of the fields that retention, service and hold own, but for band, temperature and poll. -/
theorem Sign.keeps_of_eq {a b : Sign} (h : b.cfg = a.cfg ∧ b.planClass = a.planClass ∧ b.rotation = a.rotation ∧
    b.index = a.index ∧ b.dwellCount = a.dwellCount ∧ b.need = a.need ∧ b.shown = a.shown ∧ b.service = a.service)
    (hb : b.band = a.band) (ht : b.temperature = a.temperature)
    (hp : a.pollCount = 0 ∧ a.pollNeed = none → b.pollCount = 0 ∧ b.pollNeed = none) : a.Keeps b := ⟨Sign.retains_of_eq h, hb, ht, hp⟩

/-- An entry to a service state but ABSENT, out of OFFLINE only to LAPSED. -/
theorem Sign.withService_keeps (now : Tick) (new : Service) (g : Sign) (h : new = .lapsed ∨ (g.service ≠ .offline ∧ new ≠ .absent)) :
    g.Keeps (g.withService now new) := by
  have hnew : new ≠ .absent := h.elim (fun he => by rw [he]; decide) And.right
  have hfields : (g.withService now new).band = g.band ∧ (g.withService now new).temperature = g.temperature ∧
      (g.pollCount = 0 ∧ g.pollNeed = none → (g.withService now new).pollCount = 0 ∧ (g.withService now new).pollNeed = none) := by
    unfold Sign.withService
    by_cases hh : g.service = .held
    · cases new <;> simp_all [Sign.derive]
    · cases new <;> simp_all
  obtain ⟨hband, htemperature, hpoll⟩ := hfields
  exact ⟨Sign.withService_retains now new g (h.imp id And.left), hband, htemperature, hpoll⟩

theorem Sign.relapse_keeps (g : Sign) : g.Keeps g.relapse := by
  have hfields : g.relapse.band = g.band ∧ g.relapse.temperature = g.temperature ∧ g.relapse.pollCount = g.pollCount ∧
      g.relapse.pollNeed = g.pollNeed := by
    unfold Sign.relapse Sign.rederive
    split <;> exact ⟨rfl, rfl, rfl, rfl⟩
  obtain ⟨hband, htemperature, hcount, hneed⟩ := hfields
  exact ⟨Sign.relapse_retains g, hband, htemperature, fun hp => ⟨hcount.trans hp.1, hneed.trans hp.2⟩⟩

/-! ### Properties kept by the retention rules -/

/-- A property that every change by the retention rules of one of the lines named or of a sign of it keeps, and every report. -/
structure LineStable (L : Fin 2 → Prop) (P : State → Prop) : Prop where
  sign : ∀ {s : State} {n : Fin 16} {g : Sign}, (s.sign n).Keeps g → P s → L (lineOf n) → P (s.setSign n g)
  line : ∀ {s : State} {l : Fin 2} {r : Line}, (s.line l).Retains r → P s → L l → P (s.setLine l r)
  post : ∀ {s : State} {o : Obj} {f : BitVec 16}, P s → P (s.post o f)

theorem lineOf_of_mem {l : Fin 2} {n : Fin 16} (h : n ∈ signsOf l) : lineOf n = l := Fin.ext ((mem_signsOf l n).1 h)

namespace LineStable

variable {L : Fin 2 → Prop} {P : State → Prop} (h : LineStable L P) {s : State}
include h

theorem postIf {c : Bool} {o : Obj} {f : BitVec 16} (hs : P s) : P (s.postIf c o f) := by
  cases c
  · exact hs
  · exact h.post hs

theorem updSign {n : Fin 16} {f : Sign → Sign} (hf : (s.sign n).Keeps (f (s.sign n))) (hs : P s) (hl : L (lineOf n)) : P (s.updSign n f) :=
  h.sign hf hs hl

theorem updLine {l : Fin 2} {f : Line → Line} (hf : (s.line l).Retains (f (s.line l))) (hs : P s) (hl : L l) : P (s.updLine l f) :=
  h.line hf hs hl

theorem askArbitration {l : Fin 2} (hs : P s) (hl : L l) : P (s.askArbitration l) :=
  h.updLine (Line.retains_of_eq ⟨rfl, rfl, rfl, rfl, rfl, rfl⟩) hs hl

theorem askBoth (hs : P s) (hl : ∀ l, L l) : P s.askBoth := h.askArbitration (h.askArbitration hs (hl 0)) (hl 1)

/-! #### Hold and wake (R164 to R168) -/

theorem checkResume {l : Fin 2} (hs : P s) (hl : L l) : P (s.checkResume l) := by
  unfold State.checkResume
  split
  · exact h.post (h.updLine (Line.retains_awake ⟨rfl, rfl, rfl, rfl, rfl⟩ (by simp [Line.holds])) hs hl)
  · exact hs

theorem checkHeld {l : Fin 2} (hs : P s) (hl : L l) : P (s.checkHeld l) := by
  unfold State.checkHeld
  split
  · next hheld =>
    obtain ⟨hentry, -⟩ := hheld
    exact h.post (h.updLine (Line.retains_holding ⟨rfl, rfl, rfl, rfl⟩ (.inl hentry)) hs hl)
  · exact hs

theorem clearHoldNeed {n : Fin 16} (hs : P s) (hl : L (lineOf n)) : P (s.clearHoldNeed n) := h.updSign (Sign.keeps_of_eq (by simp) rfl rfl id) hs hl

theorem raiseHeldRestore {n : Fin 16} (hs : P s) (hl : L (lineOf n)) : P (s.raiseHeldRestore n) :=
  h.updSign (by split <;> exact Sign.keeps_of_eq (by simp) rfl rfl id) hs hl

theorem wake {l : Fin 2} {c : Nat} (hs : P s) (hl : L l) : P (s.wake l c) := by
  unfold State.wake
  split
  · next hholds =>
    have hmem {n : Fin 16} (hn : n ∈ signsOf l) : L (lineOf n) := lineOf_of_mem hn ▸ hl
    exact h.askArbitration (h.checkResume (foldl_keeps_mem (fun _ _ hn hs => h.raiseHeldRestore hs (hmem hn))
      (h.post (foldl_keeps_mem (fun _ _ hn hs => h.clearHoldNeed hs (hmem hn))
        (h.updLine (Line.retains_holding ⟨rfl, rfl, rfl, rfl⟩ hholds) hs hl)))) hl) hl
  · exact hs

theorem restoreRaised {n : Fin 16} (hs : P s) (hl : L (lineOf n)) : P (s.restoreRaised n) := h.askArbitration (h.wake hs hl) hl

theorem raiseRestore {n : Fin 16} (hs : P s) (hl : L (lineOf n)) : P (s.raiseRestore n) := by
  unfold State.raiseRestore
  split
  · exact hs
  · exact h.restoreRaised (h.updSign (Sign.keeps_of_eq (by simp) rfl rfl id) hs hl) hl

/-! #### Service states and the load (R138, R155 to R160) -/

theorem changeService {n : Fin 16} {v : Service} (hv : v = .lapsed ∨ ((s.sign n).service ≠ .offline ∧ v ≠ .absent)) (hs : P s) (hl : L (lineOf n)) :
    P (s.changeService n v) := by
  unfold State.changeService
  dsimp only
  split
  · exact hs
  · have hset := h.post (o := .sign n) (f := serviceFlags (s.sign n) ((s.sign n).withService s.now v))
      (h.sign (Sign.withService_keeps s.now v _ hv) hs hl)
    split
    · exact h.checkResume (h.checkHeld (h.restoreRaised hset hl) hl) hl
    · exact h.checkResume (h.checkHeld hset hl) hl

theorem setOverloaded {l : Fin 2} {v : Bool} (hs : P s) (hl : L l) : P (s.setOverloaded l v) := by
  unfold State.setOverloaded
  split
  · exact hs
  · exact h.post (h.updLine (Line.retains_of_eq ⟨rfl, rfl, rfl, rfl, rfl, rfl⟩) hs hl)

theorem recompute {l : Fin 2} (hs : P s) (hl : L l) : P (s.recompute l) := by
  unfold State.recompute
  dsimp only
  split
  · exact h.setOverloaded (h.updLine (Line.retains_of_eq ⟨rfl, rfl, rfl, rfl, rfl, rfl⟩) hs hl) hl
  · exact h.updLine (Line.retains_of_eq ⟨rfl, rfl, rfl, rfl, rfl, rfl⟩) hs hl

theorem shedSign {n : Fin 16} (hn : (s.sign n).service ≠ .offline) (hs : P s) (hl : L (lineOf n)) : P (s.shedSign n) :=
  h.askArbitration (h.post (h.changeService (.inr ⟨hn, by decide⟩) hs hl)) hl

theorem restoreSign {n : Fin 16} (hs : P s) (hl : L (lineOf n)) : P (s.restoreSign n) := h.post (h.changeService (.inl rfl) hs hl)

theorem shedWhile {k : Nat} {l : Fin 2} (hs : P s) (hl : L l) : P (State.shedWhile k l s) := by
  induction k generalizing s with
  | zero => exact hs
  | succ k ih =>
    unfold State.shedWhile
    split
    · exact hs
    · split
      · exact hs
      · next n hn =>
        have hm : (s.sign n).maySheds = true := List.find?_some (p := fun n => (s.sign n).maySheds) hn
        have hn := lineOf_of_mem (List.mem_reverse.1 (List.mem_of_find?_eq_some hn))
        exact ih (h.recompute (h.shedSign (Sign.not_offline_of_maySheds hm) hs (hn ▸ hl)) hl)

theorem recomputeShed {l : Fin 2} (hs : P s) (hl : L l) : P (s.recomputeShed l) := by
  unfold State.recomputeShed
  dsimp only
  split
  · exact h.shedWhile (h.recompute hs hl) hl
  · exact h.setOverloaded (h.shedWhile (h.recompute hs hl) hl) hl

theorem restoreWhile {k : Nat} {l : Fin 2} (hs : P s) (hl : L l) : P (State.restoreWhile k l s) := by
  induction k generalizing s with
  | zero => exact hs
  | succ k ih =>
    unfold State.restoreWhile
    split
    · exact hs
    · next n hn =>
      split
      · have hn := lineOf_of_mem (List.mem_of_find?_eq_some hn)
        exact ih (h.recomputeShed (h.restoreSign hs (hn ▸ hl)) hl)
      · exact hs

theorem settleLoad {l : Fin 2} (hs : P s) (hl : L l) : P (s.settleLoad l) := h.restoreWhile (h.recomputeShed hs hl) hl

theorem reserveShedOne {n : Fin 16} (hs : P s) (hl : L (lineOf n)) : P (s.reserveShedOne n) := by
  unfold State.reserveShedOne
  split
  · next hn =>
    simp only [State.reserveSheds, Bool.and_eq_true] at hn
    exact h.shedSign (Sign.not_offline_of_counted hn.1.1.2) hs hl
  · exact hs

theorem reserveShed {l : Fin 2} (hs : P s) (hl : L l) : P (s.reserveShed l) := 
  foldl_keeps_mem (fun _ _ hn hs => h.reserveShedOne hs (lineOf_of_mem (List.mem_reverse.1 hn) ▸ hl)) hs

theorem reserveSettle {l : Fin 2} (hs : P s) (hl : L l) : P (s.reserveSettle l) := by
  unfold State.reserveSettle
  split
  · exact h.settleLoad (h.reserveShed hs hl) hl
  · exact hs

theorem settleCounted {n : Fin 16} {g : Sign} (hs : P s) (hl : L (lineOf n)) : P (s.settleCounted n g) := by
  unfold State.settleCounted
  split
  · exact hs
  · split
    · exact h.settleLoad (h.reserveShed hs hl) hl
    · exact hs

theorem enterService {n : Fin 16} {v : Service} (hv : v = .lapsed ∨ ((s.sign n).service ≠ .offline ∧ v ≠ .absent)) (hs : P s) (hl : L (lineOf n)) :
    P (s.enterService n v) :=
  h.settleCounted (h.changeService hv hs hl) hl

/-! #### Granularity, lapse points and bands (R148 to R154) -/

theorem adoptOne {n : Fin 16} (hs : P s) (hl : L (lineOf n)) : P (s.adoptOne n) := by
  unfold State.adoptOne
  split
  · exact h.post (h.updSign ⟨Sign.adopt_retains _ _ _, rfl, rfl, id⟩ hs hl)
  · exact hs

theorem adoptSigns {l : Fin 2} {ns : List (Fin 16)} (hs : P s) (hl : L l) (hns : ∀ n ∈ ns, L (lineOf n)) : P (s.adoptSigns l ns) := by
  unfold State.adoptSigns
  split
  · exact h.settleLoad (foldl_keeps_mem (fun _ n hn hs => h.adoptOne hs (hns n hn)) hs) hl
  · exact hs

/-- The target is changed here alone. -/
theorem retarget {l : Fin 2} (htarget : ∀ {u : State} {g : Granularity}, P u → P (u.updLine l fun r => { r with target := g }))
    (hs : P s) (hl : L l) : P (s.retarget l) := by
  unfold State.retarget
  split
  · exact hs
  · exact h.adoptSigns (h.post (htarget hs)) hl fun _ hn => lineOf_of_mem hn ▸ hl

theorem checkLapse {n : Fin 16} (hs : P s) (hl : L (lineOf n)) : P (s.checkLapse n) := by
  unfold State.checkLapse
  dsimp only
  split
  · exact h.post (h.changeService (.inl rfl) hs hl)
  · exact hs

theorem checkCritical {n : Fin 16} (hs : P s) (hl : L (lineOf n)) : P (s.checkCritical n) := by
  unfold State.checkCritical
  dsimp only
  split
  · exact h.raiseRestore hs hl
  · exact hs

theorem checkAges {n : Fin 16} (hs : P s) (hl : L (lineOf n)) : P (s.checkAges n) := h.checkCritical (h.checkLapse hs hl) hl

theorem lapsePointChanged {n : Fin 16} (hs : P s) (hl : L (lineOf n)) : P (s.lapsePointChanged n) := by
  have hrelapse : P (s.updSign n Sign.relapse) := h.updSign (Sign.relapse_keeps _) hs hl
  have hchecked (c : Prop) [Decidable c] :
      P ((if c then (s.updSign n Sign.relapse).checkLapse n else s.updSign n Sign.relapse).checkCritical n) := by
    split
    · exact h.checkCritical (h.checkLapse hrelapse hl) hl
    · exact h.checkCritical hrelapse hl
  unfold State.lapsePointChanged
  dsimp only
  generalize hu : State.checkCritical _ n = u
  have hu : P u := hu ▸ hchecked _
  split
  · exact h.settleLoad hu hl
  · exact h.settleLoad (h.reserveShed hu hl) hl

/-- The band is changed here alone. -/
theorem setBand {n : Fin 16} {b : Band}
    (hband : ∀ {u : State} {m : Fin 16} {b : Band}, P u → L (lineOf m) → P (u.updSign m fun g => { g with band := b }))
    (hs : P s) (hl : L (lineOf n)) : P (s.setBand n b) := by
  unfold State.setBand
  split
  · exact hs
  · exact h.lapsePointChanged (h.post (hband hs hl)) hl

theorem setBands {l : Fin 2} {b : Band}
    (hband : ∀ {u : State} {m : Fin 16} {b : Band}, P u → L (lineOf m) → P (u.updSign m fun g => { g with band := b }))
    (hs : P s) (hl : L l) : P (s.setBands l b) := 
  foldl_keeps_mem (fun _ _ hn hs => h.setBand hband hs (lineOf_of_mem hn ▸ hl)) hs

theorem needRaised {n : Fin 16} {c : Nat} (hs : P s) (hl : L (lineOf n)) : P (s.needRaised n c) := h.askArbitration (h.wake hs hl) hl

theorem planRaised {n : Fin 16} (hs : P s) (hl : L (lineOf n)) : P (s.planRaised n) := h.needRaised hs hl

theorem restoreProtected {n : Fin 16} (hs : P s) (hl : L (lineOf n)) : P (s.restoreProtected n) := by
  unfold State.restoreProtected
  split
  · exact h.settleLoad (h.restoreSign hs hl) hl
  · exact hs

/-! #### Timers of signs and lines (R139, R150, R164, R167) -/

theorem refreshDue {n : Fin 16} (hs : P s) (hl : L (lineOf n)) : P (s.refreshDue n) := by
  unfold State.refreshDue
  dsimp only
  split
  · have hfalls : P (s.updSign n (Sign.refreshFalls s.now)) :=
      h.updSign (by unfold Sign.refreshFalls; split <;> exact Sign.keeps_of_eq (by simp) rfl rfl id) hs hl
    split
    · exact h.askArbitration hfalls hl
    · exact hfalls
  · exact hs

theorem lowerSlot {n : Fin 16} (hs : P s) (hl : L (lineOf n)) : P (s.lowerSlot n) :=
  h.refreshDue (h.updSign (Sign.keeps_of_eq (by simp) rfl rfl id) hs hl) hl

theorem signLapses {n : Fin 16} (hs : P s) (hl : L (lineOf n)) : P (s.signLapses n) := by
  unfold State.signLapses
  dsimp only
  split
  · exact h.settleCounted (h.lowerSlot (h.checkLapse hs hl) hl) hl
  · exact h.settleCounted (h.checkLapse hs hl) hl

theorem raiseHold {n : Fin 16} (hs : P s) (hl : L (lineOf n)) : P (s.raiseHold n) :=
  h.updSign (by split <;> exact Sign.keeps_of_eq (by simp) rfl rfl id) hs hl

/-- The one change of a line that the rules above do not cover: an entry of hold. -/
theorem enterHold {l : Fin 2} (hline : ∀ {u : State} {r : Line}, P u → P (u.setLine l r)) (hs : P s) (hl : L l) : P (s.enterHold l) := by
  unfold State.enterHold
  split
  · exact h.askArbitration (h.checkHeld (h.post (foldl_keeps_mem (fun _ _ hn hs => h.raiseHold hs (lineOf_of_mem hn ▸ hl))
      (hline hs))) hl) hl
  · exact hs

theorem heldWake {l : Fin 2} (hs : P s) (hl : L l) : P (s.heldWake l) := by
  unfold State.heldWake
  split
  · exact h.wake hs hl
  · exact hs

theorem lineReserve {l : Fin 2} (hs : P s) (hl : L l) : P (s.lineReserve l) := by
  unfold State.lineReserve
  split
  · exact h.settleLoad (h.reserveShed hs hl) hl
  · exact h.settleLoad (h.wake hs hl) hl

/-! #### The end of a frame (R135 to R137, R139) -/

theorem clearRestore {n : Fin 16} (hs : P s) (hl : L (lineOf n)) : P (s.clearRestore n) := h.updSign (Sign.keeps_of_eq (by simp) rfl rfl id) hs hl

theorem frameEnded {n : Fin 16} {f : Frame} (hs : P s) (hl : L (lineOf n)) : P (s.frameEnded n f) :=
  h.updSign (Sign.keeps_of_eq (by simp) rfl rfl fun _ => ⟨rfl, rfl⟩) hs hl

theorem bandRule {n : Fin 16} {x : Int}
    (hband : ∀ {u : State} {m : Fin 16} {b : Band}, P u → L (lineOf m) → P (u.updSign m fun g => { g with band := b }))
    (hs : P s) (hl : L (lineOf n)) : P (s.bandRule n x) := by
  unfold State.bandRule
  split
  · exact h.setBand hband hs hl
  · exact hs

theorem takeBlanked {n : Fin 16} {f : Frame} {st : SignStatus} (hs : P s) (hl : L (lineOf n)) : P (s.takeBlanked n f st) := by
  unfold State.takeBlanked
  dsimp only
  split
  · exact h.enterService (.inl rfl) hs hl
  · exact hs

/-! #### Requests and the partial reset (R146, R158, R170) -/

theorem restoreUnsheddable {n : Fin 16} (hs : P s) (hl : L (lineOf n)) : P (s.restoreUnsheddable n) := by
  unfold State.restoreUnsheddable
  split
  · exact h.settleLoad (h.restoreSign hs hl) hl
  · exact hs

theorem configureSign {n : Fin 16}
    (hband : ∀ {u : State} {m : Fin 16} {b : Band}, P u → L (lineOf m) → P (u.updSign m fun g => { g with band := b }))
    (hs : P s) (hl : L (lineOf n)) : P (s.configureSign n) := by
  unfold State.configureSign
  dsimp only
  split
  · exact h.enterService (.inl rfl) (h.setBand hband hs hl) hl
  · exact h.enterService (.inl rfl) hs hl

theorem releaseHeld {n : Fin 16} (hs : P s) (hl : L (lineOf n)) : P (s.releaseHeld n) := by
  unfold State.releaseHeld
  split
  · next hh => exact h.checkCritical (h.checkLapse (h.changeService (.inr ⟨by rw [hh]; decide, by decide⟩) hs hl) hl) hl
  · exact hs

theorem restartLine {l : Fin 2} (hs : P s) (hl : L l) : P (s.restartLine l) :=
  h.askArbitration (h.settleLoad (h.reserveShed (foldl_keeps_mem
    (fun _ _ hn hs => h.updSign (Sign.keeps_of_eq (by simp [Sign.restart]) rfl rfl fun _ => ⟨rfl, rfl⟩) hs (lineOf_of_mem hn ▸ hl))
    (foldl_keeps_mem (fun _ _ hn hs => h.releaseHeld hs (lineOf_of_mem hn ▸ hl))
      (h.updLine (Line.retains_awake ⟨rfl, rfl, rfl, rfl, rfl⟩ (by simp [Line.holds])) hs hl))) hl) hl) hl

end LineStable

/-- A property that every change of a sign or a line by the retention rules keeps, and every report. -/
structure RetentionStable (P : State → Prop) : Prop where
  sign : ∀ {s : State} {n : Fin 16} {g : Sign}, (s.sign n).Retains g → P s → P (s.setSign n g)
  line : ∀ {s : State} {l : Fin 2} {r : Line}, (s.line l).Retains r → P s → P (s.setLine l r)
  target : ∀ {s : State} {l : Fin 2} {g : Granularity}, P s → P (s.setLine l { s.line l with target := g })
  post : ∀ {s : State} {o : Obj} {f : BitVec 16}, P s → P (s.post o f)

namespace RetentionStable

variable {P : State → Prop} (h : RetentionStable P) {s : State}
include h

/-- Both lines may change. -/
theorem lines : LineStable (fun _ => True) P := ⟨fun hg hs _ => h.sign hg.toRetains hs, fun hr hs _ => h.line hr hs, h.post⟩

theorem band {n : Fin 16} {b : Band} (hs : P s) : P (s.updSign n fun g => { g with band := b }) := h.sign (Sign.retains_of_eq (by simp)) hs

theorem postIf {c : Bool} {o : Obj} {f : BitVec 16} (hs : P s) : P (s.postIf c o f) := h.lines.postIf hs

theorem updSign {n : Fin 16} {f : Sign → Sign} (hf : (s.sign n).Retains (f (s.sign n))) (hs : P s) : P (s.updSign n f) :=
  h.sign hf hs

theorem updLine {l : Fin 2} {f : Line → Line} (hf : (s.line l).Retains (f (s.line l))) (hs : P s) : P (s.updLine l f) :=
  h.lines.updLine hf hs trivial

theorem askArbitration {l : Fin 2} (hs : P s) : P (s.askArbitration l) := h.lines.askArbitration hs trivial

theorem askBoth (hs : P s) : P s.askBoth := h.lines.askBoth hs (fun _ => trivial)

theorem checkResume {l : Fin 2} (hs : P s) : P (s.checkResume l) := h.lines.checkResume hs trivial

theorem checkHeld {l : Fin 2} (hs : P s) : P (s.checkHeld l) := h.lines.checkHeld hs trivial

theorem clearHoldNeed {n : Fin 16} (hs : P s) : P (s.clearHoldNeed n) := h.lines.clearHoldNeed hs trivial

theorem raiseHeldRestore {n : Fin 16} (hs : P s) : P (s.raiseHeldRestore n) := h.lines.raiseHeldRestore hs trivial

theorem wake {l : Fin 2} {c : Nat} (hs : P s) : P (s.wake l c) := h.lines.wake hs trivial

theorem restoreRaised {n : Fin 16} (hs : P s) : P (s.restoreRaised n) := h.lines.restoreRaised hs trivial

theorem raiseRestore {n : Fin 16} (hs : P s) : P (s.raiseRestore n) := h.lines.raiseRestore hs trivial

theorem changeService {n : Fin 16} {v : Service} (hv : v = .lapsed ∨ ((s.sign n).service ≠ .offline ∧ v ≠ .absent)) (hs : P s) : P (s.changeService n v) :=
  h.lines.changeService hv hs trivial

theorem setOverloaded {l : Fin 2} {v : Bool} (hs : P s) : P (s.setOverloaded l v) := h.lines.setOverloaded hs trivial

theorem recompute {l : Fin 2} (hs : P s) : P (s.recompute l) := h.lines.recompute hs trivial

theorem shedSign {n : Fin 16} (hn : (s.sign n).service ≠ .offline) (hs : P s) : P (s.shedSign n) := h.lines.shedSign hn hs trivial

theorem restoreSign {n : Fin 16} (hs : P s) : P (s.restoreSign n) := h.lines.restoreSign hs trivial

theorem shedWhile {k : Nat} {l : Fin 2} (hs : P s) : P (State.shedWhile k l s) := h.lines.shedWhile hs trivial

theorem recomputeShed {l : Fin 2} (hs : P s) : P (s.recomputeShed l) := h.lines.recomputeShed hs trivial

theorem restoreWhile {k : Nat} {l : Fin 2} (hs : P s) : P (State.restoreWhile k l s) := h.lines.restoreWhile hs trivial

theorem settleLoad {l : Fin 2} (hs : P s) : P (s.settleLoad l) := h.lines.settleLoad hs trivial

theorem reserveShedOne {n : Fin 16} (hs : P s) : P (s.reserveShedOne n) := h.lines.reserveShedOne hs trivial

theorem reserveShed {l : Fin 2} (hs : P s) : P (s.reserveShed l) := h.lines.reserveShed hs trivial

theorem reserveSettle {l : Fin 2} (hs : P s) : P (s.reserveSettle l) := h.lines.reserveSettle hs trivial

theorem settleCounted {n : Fin 16} {g : Sign} (hs : P s) : P (s.settleCounted n g) := h.lines.settleCounted hs trivial

theorem enterService {n : Fin 16} {v : Service} (hv : v = .lapsed ∨ ((s.sign n).service ≠ .offline ∧ v ≠ .absent)) (hs : P s) : P (s.enterService n v) :=
  h.lines.enterService hv hs trivial

theorem adoptOne {n : Fin 16} (hs : P s) : P (s.adoptOne n) := h.lines.adoptOne hs trivial

theorem adoptSigns {l : Fin 2} {ns : List (Fin 16)} (hs : P s) : P (s.adoptSigns l ns) :=
  h.lines.adoptSigns hs trivial fun _ _ => trivial

theorem retarget {l : Fin 2} (hs : P s) : P (s.retarget l) := h.lines.retarget (fun hu => h.target hu) hs trivial

theorem checkLapse {n : Fin 16} (hs : P s) : P (s.checkLapse n) := h.lines.checkLapse hs trivial

theorem checkCritical {n : Fin 16} (hs : P s) : P (s.checkCritical n) := h.lines.checkCritical hs trivial

theorem checkAges {n : Fin 16} (hs : P s) : P (s.checkAges n) := h.lines.checkAges hs trivial

theorem lapsePointChanged {n : Fin 16} (hs : P s) : P (s.lapsePointChanged n) := h.lines.lapsePointChanged hs trivial

theorem setBand {n : Fin 16} {b : Band} (hs : P s) : P (s.setBand n b) := h.lines.setBand (fun hu _ => h.band hu) hs trivial

theorem setBands {l : Fin 2} {b : Band} (hs : P s) : P (s.setBands l b) := h.lines.setBands (fun hu _ => h.band hu) hs trivial

theorem needRaised {n : Fin 16} {c : Nat} (hs : P s) : P (s.needRaised n c) := h.lines.needRaised hs trivial

theorem planRaised {n : Fin 16} (hs : P s) : P (s.planRaised n) := h.lines.planRaised hs trivial

theorem restoreProtected {n : Fin 16} (hs : P s) : P (s.restoreProtected n) := h.lines.restoreProtected hs trivial

theorem settleLinePlans {l : Fin 2} (hs : P s) : P (s.settleLinePlans l) := h.reserveSettle (h.retarget hs)

theorem refreshDue {n : Fin 16} (hs : P s) : P (s.refreshDue n) := h.lines.refreshDue hs trivial

theorem lowerSlot {n : Fin 16} (hs : P s) : P (s.lowerSlot n) := h.lines.lowerSlot hs trivial

theorem signLapses {n : Fin 16} (hs : P s) : P (s.signLapses n) := h.lines.signLapses hs trivial

theorem pollDue {n : Fin 16} (hs : P s) : P (s.pollDue n) := by
  unfold State.pollDue
  split
  · exact h.askArbitration (h.updSign (Sign.retains_of_eq (by simp)) hs)
  · exact hs

theorem raiseHold {n : Fin 16} (hs : P s) : P (s.raiseHold n) := h.lines.raiseHold hs trivial

theorem enterHold {l : Fin 2} (hline : ∀ {u : State} {r : Line}, P u → P (u.setLine l r)) (hs : P s) : P (s.enterHold l) :=
  h.lines.enterHold hline hs trivial

theorem heldWake {l : Fin 2} (hs : P s) : P (s.heldWake l) := h.lines.heldWake hs trivial

theorem lineReserve {l : Fin 2} (hs : P s) : P (s.lineReserve l) := h.lines.lineReserve hs trivial

theorem clearRestore {n : Fin 16} (hs : P s) : P (s.clearRestore n) := h.lines.clearRestore hs trivial

theorem frameEnded {n : Fin 16} {f : Frame} (hs : P s) : P (s.frameEnded n f) := h.lines.frameEnded hs trivial

theorem writeStatus {n : Fin 16} {r : SignReply} (hs : P s) : P (s.writeStatus n r) := h.postIf (h.sign (Sign.retains_of_eq (by simp)) hs)

theorem bandRule {n : Fin 16} {x : Int} (hs : P s) : P (s.bandRule n x) := h.lines.bandRule (fun hu _ => h.band hu) hs trivial

theorem takeBlanked {n : Fin 16} {f : Frame} {st : SignStatus} (hs : P s) : P (s.takeBlanked n f st) :=
  h.lines.takeBlanked hs trivial

theorem restoreUnsheddable {n : Fin 16} (hs : P s) : P (s.restoreUnsheddable n) := h.lines.restoreUnsheddable hs trivial

theorem configureSign {n : Fin 16} (hs : P s) : P (s.configureSign n) := h.lines.configureSign (fun hu _ => h.band hu) hs trivial

theorem releaseHeld {n : Fin 16} (hs : P s) : P (s.releaseHeld n) := h.lines.releaseHeld hs trivial

theorem restartLine {l : Fin 2} (hs : P s) : P (s.restartLine l) := h.lines.restartLine hs trivial

theorem plansReplaced {ns : List (Fin 16)} (hs : P s) : P (s.plansReplaced ns) := by
  have hraised : P (ns.foldl State.planRaised (ns.foldl State.restoreProtected s)) :=
    foldl_keeps (fun _ _ => h.planRaised) _ (foldl_keeps (fun _ _ => h.restoreProtected) _ hs)
  unfold State.plansReplaced
  dsimp only
  generalize ns.foldl State.planRaised _ = u at hraised
  split <;> split
  · exact h.settleLinePlans (h.settleLinePlans hraised)
  · exact h.settleLinePlans hraised
  · exact h.settleLinePlans hraised
  · exact hraised

end RetentionStable


/-! ### Properties kept by a recomputation of plans -/

/-- A property that the retention rules and the recomputation of one sign's plan keep. -/
structure PlanStable (P : State → Prop) : Prop extends RetentionStable P where
  replanSign : ∀ {s : State} {n : Fin 16}, P s → P (s.replanSign n)

namespace PlanStable

variable {P : State → Prop} (h : PlanStable P) {s : State}
include h

theorem replanSigns {ns : List (Fin 16)} (hs : P s) : P (s.replanSigns ns) := by
  have ht : P (ns.foldl State.replanSign s) := foldl_keeps (fun _ _ => h.replanSign) _ hs
  unfold State.replanSigns
  dsimp only
  split
  · exact ht
  · exact h.toRetentionStable.plansReplaced ht

theorem replan (hs : P s) : P s.replan := h.replanSigns hs

end PlanStable

end Sys2Proof.Machine
end

section
/-! SUPPORT. What a change of the gates and segments keeps, by the same plan: a property that every elementary change keeps is kept by
the drives of the gates and by closing and reopening (R2 to R13, R62 to R75). -/

namespace Sys2Proof.Machine

/-! ### Properties kept by the drives of the gates -/

@[simp] theorem Flasher.retune_requests (pats : Patterns) (c : FlashClass) (f : Flasher) :
    (f.retune pats c).gateReq = f.gateReq ∧ (f.retune pats c).pathReq = f.pathReq := by
  unfold Flasher.retune
  split
  · exact ⟨rfl, rfl⟩
  · split <;> exact ⟨rfl, rfl⟩

/-- A property that every change of a gate keeps, every request of a gate on a flasher, every report, and the two completions that a
gate's change of state can bring on (R10, R12). -/
structure DriveStable (P : State → Prop) : Prop where
  gate : ∀ {s : State} {i : Fin 6} {g : Gate}, P s → P (s.setGate i g)
  request : ∀ {s : State} {i : Fin 8} {g : Fin 6} {c : FlashClass}, P s → P (s.gateRequest i g c)
  post : ∀ {s : State} {o : Obj} {f : BitVec 16}, P s → P (s.post o f)
  completeLower : ∀ {s : State} {i : Fin 4}, P s → P (s.completeLower i)
  completeReopen : ∀ {s : State} {i : Fin 4}, P s → P (s.completeReopen i)

/-- What every change of a flasher but of its paths' requests keeps, and every report, the settling of a flasher keeps (R96, R97). -/
theorem settleFlasher_keeps {P : State → Prop}
    (hflasher : ∀ {s : State} {i : Fin 8} {f : Flasher}, f.pathReq = (s.flasher i).pathReq → P s → P (s.setFlasher i f))
    (hpost : ∀ {s : State} {o : Obj} {f : BitVec 16}, P s → P (s.post o f)) {s : State} {i : Fin 8} (hs : P s) : P (s.settleFlasher i) := by
  unfold State.settleFlasher
  dsimp only
  split
  · exact hs
  · exact hpost (hflasher (Flasher.retune_requests ..).2 hs)

/-- A property that every change of a flasher but of its paths' requests keeps too. -/
structure GateStable (P : State → Prop) : Prop extends DriveStable P where
  flasher : ∀ {s : State} {i : Fin 8} {f : Flasher}, f.pathReq = (s.flasher i).pathReq → P s → P (s.setFlasher i f)
  request := fun hs => settleFlasher_keeps flasher post (flasher rfl hs)

namespace GateStable

variable {P : State → Prop} (h : GateStable P) {s : State}
include h

theorem settleFlasher {i : Fin 8} (hs : P s) : P (s.settleFlasher i) := settleFlasher_keeps h.flasher h.post hs

theorem settleFlashers (hs : P s) : P s.settleFlashers := foldl_keeps (fun _ _ => h.settleFlasher) _ hs

end GateStable

namespace DriveStable

variable {P : State → Prop} (h : DriveStable P) {s : State}
include h

theorem postIf {c : Bool} {o : Obj} {f : BitVec 16} (hs : P s) : P (s.postIf c o f) := by
  cases c
  · exact hs
  · exact h.post hs

theorem updGate {i : Fin 6} {f : Gate → Gate} (hs : P s) : P (s.updGate i f) := h.gate hs

/-! #### Changes of state (R67, R68, R73) -/

theorem gateChanged {i : Fin 4} {a b : GateState} (hs : P s) : P (s.gateChanged i a b) :=
  h.completeReopen (h.completeLower (h.postIf hs))

theorem putGate {i : Fin 6} {a : GateState} {g : Gate} (hs : P s) : P (s.putGate i a g) := by
  have hset : P ((s.setGate i g).postGate i (gateFlags a g.state)) := h.post (h.gate hs)
  unfold State.putGate
  dsimp only
  generalize (s.setGate i g).postGate i (gateFlags a g.state) = u at hset
  split <;> split
  · exact h.gateChanged (h.request hset)
  · exact h.gateChanged hset
  · exact h.request hset
  · exact hset

theorem gateTo {i : Fin 6} {v : GateState} (hs : P s) : P (s.gateTo i v) := by
  unfold State.gateTo
  dsimp only
  split
  · exact hs
  · exact h.putGate hs

theorem gatePause {i : Fin 6} {d : Direction} (hs : P s) : P (s.gatePause i d) := h.gateTo (h.updGate hs)

theorem gateFault {i : Fin 6} {c : FaultCause} (hs : P s) : P (s.gateFault i c) := by
  unfold State.gateFault
  split
  · exact hs
  · exact h.gateTo (h.updGate hs)

theorem gateOpen {i : Fin 6} (hs : P s) : P (s.gateOpen i) := h.gateTo (h.updGate hs)

/-! #### Presence and pause (R68, R69, R71) -/

theorem reverse {i : Fin 6} (hs : P s) : P (s.reverse i) := by
  unfold State.reverse
  dsimp only
  split
  · exact h.gateTo (h.post (h.gate hs))
  · split
    · exact h.gateTo (h.post (h.gate hs))
    · exact h.gateTo (h.post (h.gate hs))

theorem lower {i : Fin 6} (hs : P s) : P (s.lower i) := by
  unfold State.lower
  split
  · exact h.reverse hs
  · exact h.gateTo hs

theorem pauseUp {i : Fin 6} (hs : P s) : P (s.pauseUp i) := by
  unfold State.pauseUp
  split
  · exact h.gateOpen hs
  · exact h.gateTo hs

theorem endPause {i : Fin 6} (hs : P s) : P (s.endPause i) := by
  unfold State.endPause
  dsimp only
  split
  · exact h.pauseUp hs
  · split
    · exact h.gateTo hs
    · split
      · exact h.lower hs
      · exact hs
  · exact hs

/-! #### The commands of the SGC (R72) -/

theorem gateDown {i : Fin 6} (hs : P s) : P (s.gateDown i) := by
  have hm : P (s.updGate i fun g => { g with manualLowering := false }) := h.updGate hs
  unfold State.gateDown
  dsimp only
  generalize (s.updGate i fun g => { g with manualLowering := false }) = u at hm
  split
  case h_1 | h_2 | h_3 => exact h.lower hm
  case h_4 | h_5 | h_8 | h_9 => exact hm
  case h_6 => exact h.gatePause hm
  case h_7 =>
    split
    · exact h.endPause (h.updGate hm)
    · exact h.updGate hm

theorem gateUp {i : Fin 6} (hs : P s) : P (s.gateUp i) := by
  have hm : P (s.updGate i fun g =>
      { g with attempts := 0, relowerArmed := false, clearCount := 0, manualLowering := false }) := h.updGate hs
  unfold State.gateUp
  dsimp only
  generalize (s.updGate i fun g => { g with
    attempts := 0, relowerArmed := false, clearCount := 0, manualLowering := false }) = u at hm
  split
  case h_1 | h_2 | h_5 => exact h.gateTo hm
  case h_3 | h_6 | h_9 => exact hm
  case h_4 => exact h.gatePause hm
  case h_7 =>
    split
    · exact h.pauseUp (h.updGate hm)
    · exact h.updGate hm
  case h_8 => exact h.pauseUp hm

theorem gatesDown {i : Fin 4} (hs : P s) : P (s.gatesDown i) := foldl_keeps (fun _ _ => h.gateDown) _ hs

theorem gatesUp {i : Fin 4} (hs : P s) : P (s.gatesUp i) := foldl_keeps (fun _ _ => h.gateUp) _ hs

theorem gateBack {i : Fin 6} (hs : P s) : P (s.gateBack i) := by
  unfold State.gateBack
  split
  · exact h.gateDown hs
  · exact hs

/-! #### Inputs and timers (R64 to R70) -/

theorem arrive {i : Fin 6} {d : LimitSide} (hs : P s) : P (s.arrive i d) := by
  unfold State.arrive
  split
  case h_1 => split <;> exact h.gateTo hs
  case h_2 => exact h.gateTo (h.post hs)
  case h_3 => exact h.gateOpen (h.post hs)
  case h_4 | h_6 | h_8 | h_10 | h_12 | h_14 => exact h.gateTo hs
  case h_5 | h_7 | h_9 | h_11 => exact h.gateOpen hs
  case h_13 | h_15 | h_16 | h_17 | h_18 => exact hs

theorem limitArrives {i : Fin 6} {d : LimitSide} (hs : P s) : P (s.limitArrives i d) := by
  unfold State.limitArrives
  dsimp only
  split
  · exact hs
  · split
    · exact h.gate hs
    · split
      · exact h.gateFault (h.gate hs)
      · exact h.arrive (h.gate (h.postIf (h.gate hs)))

theorem limitDeparts {i : Fin 6} {d : LimitSide} (hs : P s) : P (s.limitDeparts i d) := by
  unfold State.limitDeparts
  dsimp only
  split
  · exact hs
  · exact iteInduction (fun _ => h.gateTo (h.post (h.gate hs))) fun _ => h.gate hs

theorem presenceTo {i : Fin 6} {v : Bool} (hs : P s) : P (s.presenceTo i v) := by
  unfold State.presenceTo
  dsimp only
  split
  · exact hs
  · split
    · exact h.reverse (h.gate hs)
    · exact h.gate hs

theorem relowerGate {i : Fin 6} (hs : P s) : P (s.relowerGate i) := by
  unfold State.relowerGate
  split
  · exact h.lower hs
  · exact h.updGate hs

theorem deliverStep {i : Fin 12} {b : Bool} (hs : P s) : P (s.deliverStep i b) := by
  unfold State.deliverStep
  split
  · exact h.updGate hs
  · exact hs

/-! #### Requests on gates (R74, R75) -/

theorem moveUp {i : Fin 6} (hs : P s) : P (s.moveUp i) := by
  unfold State.moveUp
  dsimp only
  split
  case h_1 => exact h.gatePause hs
  case h_2 | h_4 | h_9 => exact hs
  case h_3 =>
    split
    · exact h.pauseUp (h.updGate hs)
    · exact h.updGate hs
  case h_5 => exact h.gateTo hs
  case h_6 | h_7 | h_8 => exact h.pauseUp hs

theorem moveDownStill {i : Fin 6} (hs : P s) : P (s.moveDownStill i) := by
  unfold State.moveDownStill
  split
  · exact h.gateTo hs
  · exact h.lower hs

theorem moveDown {i : Fin 6} (hs : P s) : P (s.moveDown i) := by
  unfold State.moveDown
  dsimp only
  split
  case h_1 | h_5 | h_9 => exact hs
  case h_2 => exact h.gatePause hs
  case h_3 =>
    split
    · exact h.lower (h.updGate hs)
    · exact h.updGate hs
  case h_4 => exact h.lower hs
  case h_6 | h_7 | h_8 => exact h.moveDownStill hs

theorem moveGate {i : Fin 6} {a : MoveAction} {b : Bool} (hs : P s) : P (s.moveGate i a b) := by
  unfold State.moveGate
  dsimp only
  split
  · exact h.gateTo (h.postIf (h.gate hs))
  · exact h.moveUp (h.postIf (h.gate hs))
  · exact h.moveDown (h.postIf (h.gate hs))

theorem resetGate {i : Fin 6} (hs : P s) : P (s.resetGate i) := by
  unfold State.resetGate
  dsimp only
  split
  · exact h.gate hs
  · exact h.putGate hs

theorem moveRequest {i : Fin 6} {a b : Gate} (hs : P s) : P (s.moveRequest i a b) := by
  have hold (f : Option (Fin 8)) (c : Prop) [Decidable c] : P (match f with
      | some f => if c then s else s.gateRequest f i .none
      | none => s) := by
    split
    · split
      · exact hs
      · exact h.request hs
    · exact hs
  unfold State.moveRequest
  dsimp only
  generalize (if a.configured then a.cfg.flasher else none) = oldReq
  generalize (if b.configured then b.cfg.flasher else none) = newReq
  split
  · exact hs
  · split
    · exact h.request (hold _ _)
    · exact hold _ _

end DriveStable

end Sys2Proof.Machine
end

section
/-! SUPPORT. What a change of lines and library keeps, by the same plan, and what every change of the device together keeps: the events,
the replies and the requests (R31, R42 to R45, R104 to R112, R141, R172 to R181, R184 to R191). -/

namespace Sys2Proof.Machine

/-! ### Properties kept by the flash port and the line arbiters -/

/-- The queues of the library within the bounds the spec gives them (R173, R176, R177). -/
def Library.bounded (b : Library) : Prop := b.missQueue.length ≤ 4 ∧ b.workQueue.length ≤ 6 ∧ b.faulted.length ≤ 8

/-- A line record that differs from another in its exchange alone: the frame in flight, what was sent and the arbitration owed. -/
def Line.Exchanges (a b : Line) : Prop := b = { a with inFlight := b.inFlight, txBuffer := b.txBuffer, arbitrate := b.arbitrate }

/-- A property that every change of a line's exchange keeps, every report, and every change of the library that keeps its queues in
bounds. -/
structure ExchangeStable (P : State → Prop) : Prop where
  exchange : ∀ {s : State} {l : Fin 2} {r : Line}, (s.line l).Exchanges r → P s → P (s.setLine l r)
  lib : ∀ {s : State} {f : Library → Library}, (s.lib.bounded → (f s.lib).bounded) → P s → P (s.updLib f)
  post : ∀ {s : State} {o : Obj} {f : BitVec 16}, P s → P (s.post o f)

/-- A property that also every other change of a line keeps. -/
structure TrafficStable (P : State → Prop) : Prop extends ExchangeStable P where
  line : ∀ {s : State} {l : Fin 2} {r : Line}, P s → P (s.setLine l r)
  exchange := fun _ hs => line hs

theorem mergeRequest_length (p : Page) (m : BitVec 8) (q : List FillRequest) : (mergeRequest p m q).length = q.length := by
  induction q with
  | nil => rfl
  | cons r rest ih =>
    unfold mergeRequest
    split
    · rfl
    · simp [ih]

namespace ExchangeStable

variable {P : State → Prop} (h : ExchangeStable P) {s : State}
include h

theorem askArbitration {l : Fin 2} (hs : P s) : P (s.askArbitration l) := h.exchange rfl hs

theorem askBoth (hs : P s) : P s.askBoth := h.askArbitration (h.askArbitration hs)

theorem clearFlight {l : Fin 2} (hs : P s) : P (s.clearFlight l) := h.exchange rfl hs

/-! #### The cache, the miss queue and the list of faulted pages (R172, R173, R176) -/

theorem updWay {p : Page} {w : Bool} {f : CacheLine → CacheLine} (hs : P s) : P (s.updWay p w f) := h.lib id hs

theorem useWay {p : Page} {w : Bool} (hs : P s) : P (s.useWay p w) := h.lib id hs

theorem installStrip {p : Page} {w : Bool} {i : Fin 8} {d : StripData} (hs : P s) : P (s.installStrip p w i d) := h.updWay hs

theorem dropStrip {p : Page} {w : Bool} {i : Fin 8} (hs : P s) : P (s.dropStrip p w i) := h.updWay hs

theorem parityError {p : Page} {w : Bool} {i : Fin 8} (hs : P s) : P (s.parityError p w i) :=
  h.post (h.lib id (h.dropStrip hs))

theorem unfault {p : Page} (hs : P s) : P (s.unfault p) :=
  h.lib (fun ⟨hm, hw, hf⟩ => ⟨hm, hw, (List.length_filter_le _ _).trans hf⟩) hs

theorem enterFaulted {p : Page} (hs : P s) : P (s.enterFaulted p) := by
  unfold State.enterFaulted
  split
  · exact hs
  · refine h.lib (fun ⟨hm, hw, hf⟩ => ⟨hm, hw, ?_⟩) hs
    dsimp only
    split <;> simp <;> omega

theorem requestFill {p : Page} {m : BitVec 8} (hs : P s) : P (s.requestFill p m) := by
  unfold State.requestFill
  split
  · exact hs
  · split
    · exact h.lib (fun ⟨hm, hw, hf⟩ => ⟨(mergeRequest_length _ _ _).trans_le hm, hw, hf⟩) hs
    · split
      · exact h.lib (fun ⟨_, hw, hf⟩ => ⟨by simp; omega, hw, hf⟩) hs
      · exact hs

/-! #### Fills and the port arbiter (R174, R175) -/

theorem startFill {p : Page} {w : Bool} (hs : P s) : P (s.startFill p w) := by
  have hlib {u : State} (hu : P u) : P ((u.useWay p w).updLib fun lib =>
      { lib with missQueue := serveRequest p lib.missQueue, port := .fill p w 0 false, opTicks := 0 }) :=
    h.lib (fun ⟨hm, hw, hf⟩ => ⟨by simpa [serveRequest] using hm, hw, hf⟩) (h.useWay hu)
  unfold State.startFill
  dsimp only
  split
  · exact hlib hs
  · exact hlib (h.updWay hs)

theorem endFill {p : Page} (hs : P s) : P (s.endFill p) :=
  h.askBoth (h.lib (fun ⟨hm, hw, hf⟩ => ⟨(List.length_filter_le _ _).trans hm, hw, hf⟩) hs)

theorem runFill {n : Nat} (hs : P s) : P (State.runFill n s) := by
  induction n generalizing s with
  | zero => exact hs
  | succ n ih =>
    unfold State.runFill
    split
    · split
      · exact h.endFill hs
      · split
        · exact ih (h.installStrip hs)
        · exact h.lib id hs
    · exact hs

theorem arbitratePort {n : Nat} (hs : P s) : P (State.arbitratePort n s) := by
  induction n generalizing s with
  | zero => exact hs
  | succ n ih =>
    unfold State.arbitratePort
    split
    · exact hs
    · split
      · exact ih (h.runFill (h.startFill hs))
      · split
        · exact hs
        · next it rest hq =>
          refine h.lib (fun ⟨hm, hw, hf⟩ => ⟨hm, ?_, hf⟩) hs
          rw [hq, List.length_cons] at hw
          exact (Nat.le_succ _).trans hw

theorem portChoice (hs : P s) : P s.portChoice := h.arbitratePort hs

theorem portFree (hs : P s) : P s.portFree := h.portChoice (h.lib id hs)

theorem queueWork {k : WorkKind} (hq : ¬6 ≤ s.lib.workQueue.length) (hs : P s) : P (s.queueWork k) :=
  h.portChoice (h.lib (fun ⟨hm, _, hf⟩ => ⟨hm, by simp; omega, hf⟩) hs)

/-! #### Line arbitrations (R141, R142) -/

theorem sendFrame {c : Candidate} {b : Bool} (hs : P s) : P (s.sendFrame c b) := by
  unfold State.sendFrame
  dsimp only
  split
  · exact h.useWay (h.exchange rfl hs)
  · exact h.exchange rfl hs

theorem passOver {c : Candidate} (hs : P s) : P (s.passOver c) := by
  unfold State.passOver
  split
  · split
    · exact hs
    · exact h.requestFill hs
  · exact hs

theorem takeCandidates {cs : List Candidate} (hs : P s) : P (State.takeCandidates cs s) := by
  induction cs generalizing s with
  | nil => exact hs
  | cons c rest ih =>
    unfold State.takeCandidates
    split
    · split
      · exact h.sendFrame hs
      · exact ih (h.passOver (h.parityError hs))
    · split
      · exact h.sendFrame (h.passOver hs)
      · exact ih (h.passOver hs)

theorem arbitrate {l : Fin 2} (hs : P s) : P (s.arbitrate l) := by
  unfold State.arbitrate
  split
  · exact hs
  · exact h.takeCandidates hs

theorem serveLine {l : Fin 2} (hs : P s) : P (s.serveLine l) := by
  unfold State.serveLine
  split
  · exact h.portChoice (h.arbitrate (h.exchange rfl hs))
  · exact hs

theorem serveLines {k : Nat} (hs : P s) : P (State.serveLines k s) := by
  induction k generalizing s with
  | zero => exact h.exchange rfl (h.exchange rfl hs)
  | succ k ih =>
    unfold State.serveLines
    split
    · exact ih (h.serveLine (h.serveLine hs))
    · exact hs

theorem finish (hs : P s) : P s.finish := h.serveLines hs

theorem lineIdle {l : Fin 2} (hs : P s) : P (s.lineIdle l) := h.askArbitration (h.portChoice hs)

/-! #### The ends of the port's operations (R175 to R178, R181) -/

theorem workDone {q : Byte} {f : BitVec 16} (hs : P s) : P (s.workDone q f) := h.post (h.lib id hs)

theorem workFailed {it : WorkItem} {r : FailReason} (hs : P s) : P (s.workFailed it r) := h.post (h.lib id hs)

theorem fillFault {p : Page} (hs : P s) : P (s.fillFault p) := h.endFill (h.post (h.lib id (h.enterFaulted hs)))

theorem readDone {err : BitVec 272} (hs : P s) : P (s.readDone err) := by
  unfold State.readDone
  split
  · exact iteInduction (fun _ => h.portChoice (h.runFill (h.installStrip hs)))
      fun _ => iteInduction (fun _ => h.portChoice (h.fillFault hs)) fun _ => h.lib id hs
  · exact hs

theorem replaceCached {p : Page} {i : Fin 8} {d : StripData} (hs : P s) : P (s.replaceCached p i d) := by
  unfold State.replaceCached
  split
  · exact h.installStrip hs
  · exact hs

theorem dropCached {p : Page} {i : Fin 8} (hs : P s) : P (s.dropCached p i) := by
  unfold State.dropCached
  split
  · exact h.dropStrip hs
  · exact hs

theorem dropPage {p : Page} (hs : P s) : P (s.dropPage p) := by
  unfold State.dropPage
  split
  · exact h.updWay hs
  · exact hs

end ExchangeStable

theorem TrafficStable.updLine {P : State → Prop} (h : TrafficStable P) {s : State} {l : Fin 2} {f : Line → Line} (hs : P s) :
    P (s.updLine l f) := h.line hs

/-! ### Properties kept by every change -/

/-- A sign record that follows another with its segments, and that confirms only if it did before. -/
structure Sign.Dims (a b : Sign) : Prop where
  role : b.cfg.role = a.cfg.role
  segments : b.cfg.segments = a.cfg.segments
  confirms : b.confirms = true → a.confirms = true

theorem Sign.Retains.dims {a b : Sign} (h : a.Retains b) : a.Dims b := ⟨by rw [h.cfg], by rw [h.cfg], h.confirms⟩

/-- A change of neither the segments, what is displayed nor the service state. -/
theorem Sign.dims_of_eq {a b : Sign} (h : b.cfg = a.cfg ∧ b.shown = a.shown ∧ b.service = a.service) : a.Dims b := by
  obtain ⟨hc, hs, hv⟩ := h
  exact ⟨by rw [hc], by rw [hc], by simp [Sign.confirms, hs, hv]⟩

theorem Sign.raisePlan_dims (now : Tick) (b : Bool) (g : Sign) : g.Dims (g.raisePlan now b) := Sign.dims_of_eq ⟨rfl, rfl, rfl⟩

/-- A segment record that follows another in the same posture and phase with the same causes and CONFIRM_MISSING. -/
structure Segment.SameClosing (a b : Segment) : Prop where
  posture : b.posture = a.posture
  phase : b.phase = a.phase
  causes : b.causes = a.causes
  confirmMissing : b.confirmMissing = a.confirmMissing

/-- Two states agree on segments, signs, lines, library, trace, flash and report set. -/
structure State.Aside (s t : State) : Prop where
  segments : t.segments = s.segments
  signs : t.signs = s.signs
  lines : t.lines = s.lines
  lib : t.lib = s.lib
  trace : t.trace = s.trace
  flash : t.flash = s.flash
  reports : t.link.reports = s.link.reports

/-- A property of segments, signs, lines, library, trace, flash and report set that every elementary change keeps. -/
structure StepStable (P : State → Prop) : Prop extends GateStable P, TrafficStable P where
  aside : ∀ {s t : State}, P s → s.Aside t → P t
  sign : ∀ {s : State} {n : Fin 16} {g : Sign}, (s.sign n).Dims g → P s → P (s.setSign n g)
  segment : ∀ {s : State} {i : Fin 4} {r : Segment}, (s.segment i).SameClosing r → P s → P (s.setSegment i r)
  evalOpen : ∀ {s : State} {i : Fin 4}, P s → P (s.evalOpen i)
  evalConfirmPhase : ∀ {s : State} {i : Fin 4}, P s → P (s.evalConfirmPhase i)
  evalConfirm : ∀ {s : State} {i : Fin 4}, P s → P (s.evalConfirm i)
  timeoutConfirm : ∀ {s : State} {i : Fin 4}, P s → P (s.timeoutConfirm i)
  endLead : ∀ {s : State} {i : Fin 4}, P s → P (s.endLead i)
  addCause : ∀ {s : State} {i : Fin 4} {c : Cause}, P s → P (s.addCause i c)
  removeCause : ∀ {s : State} {i : Fin 4} {c : Cause}, P s → P (s.removeCause i c)
  pathRequest : ∀ {s : State} {i : Fin 8} {n : Fin 12} {on : Bool}, P s → P (s.pathRequest i n on)
  traceAdd : ∀ {s : State} {k : TraceKind} {o v : Nat}, P s → P (s.traceAdd k o v)
  traceSettings : ∀ {s : State} {t : Trace}, t.entries = s.trace.entries → P s → P { s with trace := t }
  flash : ∀ {s : State} {m : Flash} {k : Nat}, (s.flash.wf = true → m.wf = true) → P s → P { s with flash := m, freeCount := k }
  advance : ∀ {s : State}, P s → P s.advance

theorem StepStable.toRetentionStable {P : State → Prop} (h : StepStable P) : RetentionStable P :=
  ⟨fun hg hs => h.sign hg.dims hs, fun _ hs => h.line hs, fun hs => h.line hs, h.toGateStable.post⟩

theorem StepStable.toPlanStable {P : State → Prop} (h : StepStable P) : PlanStable P where
  toRetentionStable := h.toRetentionStable
  replanSign {s n} hs := by
    unfold State.replanSign
    dsimp only
    split
    · exact hs
    · exact h.toGateStable.post (h.sign (Sign.dims_of_eq ⟨rfl, rfl, rfl⟩) hs)

namespace StepStable

variable {P : State → Prop} (h : StepStable P) {s : State}
include h

/-! #### The end of a step (R125, R141) -/

theorem handSigns {a : State} (hs : P s) : P (State.handSigns a s) := by
  refine foldl_keeps (fun s i hs => ?_) _ hs
  unfold State.evalConfirmFor
  split
  · exact h.evalConfirm hs
  · exact hs

theorem conclude {a : State} (hs : P s) : P (State.conclude a s) := h.toTrafficStable.finish (h.handSigns hs)

/-! #### Segments (R2, R14, R15, R17) -/

theorem evalOccupied {i : Fin 4} (hs : P s) : P (s.evalOccupied i) := by
  unfold State.evalOccupied
  dsimp only
  split
  · exact h.toGateStable.post (h.segment ⟨rfl, rfl, rfl, rfl⟩ hs)
  · exact hs

theorem setCount {i : Fin 4} {r : Segment} (hr : (s.segment i).SameClosing r) (hs : P s) : P (s.setCount i r) := by
  have hset (c : Bool) (f : BitVec 16) : P ((s.setSegment i r).postIf c (.segment i) f) := h.toGateStable.postIf (h.segment hr hs)
  have hocc (p : Prop) [Decidable p] {u : State} (hu : P u) : P (if p then u else u.evalOccupied i) :=
    iteInduction (fun _ => hu) fun _ => h.evalOccupied hu
  unfold State.setCount
  dsimp only
  split
  · exact hocc _ (hset _ _)
  · exact h.evalOpen (hocc _ (hset _ _))

theorem moveVehicle {b : Fin 5} {e : Bool} (hs : P s) : P (s.moveVehicle b e) := by
  unfold State.moveVehicle
  split
  · exact hs
  · refine h.setCount ?_ hs
    unfold Segment.moved
    split <;> split <;> exact ⟨rfl, rfl, rfl, rfl⟩

theorem setUncertain {b : Fin 5} (hs : P s) : P (s.setUncertain b) := by
  unfold State.setUncertain
  split
  · exact hs
  · exact h.setCount ⟨rfl, rfl, rfl, rfl⟩ hs

theorem setTimes {i : Fin 4} {a b : Nat} (hs : P s) : P (s.setTimes i a b) :=
  h.endLead (h.timeoutConfirm (h.toGateStable.post (h.segment ⟨rfl, rfl, rfl, rfl⟩ hs)))

theorem gatesChanged {i : Fin 4} (hs : P s) : P (s.gatesChanged i) := h.completeReopen (h.completeLower (h.evalConfirmPhase hs))

theorem gateJoins {i : Fin 4} {g : Fin 6} (hs : P s) : P (s.gateJoins i g) := by
  unfold State.gateJoins
  dsimp only
  split
  · exact h.toGateStable.gateDown hs
  · split
    · exact h.toGateStable.gateUp hs
    · exact hs

theorem moveMember {i : Fin 6} {a b : Gate} (hs : P s) : P (s.moveMember i a b) := by
  have hchanged (seg : Fin 4) : P (if a.state = b.state then s else s.gateChanged seg a.state b.state) :=
    iteInduction (fun _ => hs) fun _ => h.toGateStable.gateChanged hs
  unfold State.moveMember
  cases b.cfg.segment <;> cases a.cfg.segment <;> dsimp only <;> split
  · exact hs
  · exact hs
  · exact hs
  · exact h.gatesChanged hs
  · exact hchanged _
  · exact h.gatesChanged (h.gateJoins (hchanged _))
  · exact hchanged _
  · exact h.gatesChanged (h.gatesChanged (h.gateJoins (hchanged _)))

theorem setGateTo {i : Fin 6} {c : GateConfig} (hs : P s) : P (s.setGateTo i c) :=
  h.moveMember (h.toGateStable.moveRequest (h.toGateStable.post (h.gate hs)))

/-- The reserve posture changes (R16). -/
theorem setPower {a b : Bool} (hs : P s) : P (s.setPower a b) := by
  have hset : P { s with reserveRequest := a, supplyLow := b } := h.aside hs ⟨rfl, rfl, rfl, rfl, rfl, rfl, rfl⟩
  unfold State.setPower
  dsimp only
  split
  · exact hset
  · exact h.toRetentionStable.lineReserve (h.toRetentionStable.lineReserve
      (h.toGateStable.settleFlashers (h.toGateStable.post hset)))

/-! #### Paths and channels (R31, R40 to R45) -/

theorem setPath {n : Fin 12} {p : PathRec} (hs : P s) : P (s.setPath n p) := h.aside hs ⟨rfl, rfl, rfl, rfl, rfl, rfl, rfl⟩

theorem setChannel {i : Fin 16} {c : Channel} (hs : P s) : P (s.setChannel i c) :=
  h.aside hs ⟨rfl, rfl, rfl, rfl, rfl, rfl, rfl⟩

theorem setCounter {i : Fin 12} {c : Counter} (hs : P s) : P (s.setCounter i c) :=
  h.aside hs ⟨rfl, rfl, rfl, rfl, rfl, rfl, rfl⟩

theorem traceMaybe {e : Option (TraceKind × Nat)} {o : Nat} (hs : P s) : P (s.traceMaybe e o) := by
  cases e
  · exact hs
  · exact h.traceAdd hs

theorem updateHealth {n : Fin 12} (hs : P s) : P (s.updateHealth n) := h.toGateStable.postIf (h.setPath hs)

theorem handCause {n : Fin 12} {a b : PathRec} (hs : P s) : P (s.handCause n a b) := by
  unfold State.handCause
  split
  · exact h.addCause hs
  · exact h.removeCause hs
  · exact hs
  · exact hs

theorem handFlasher {n : Fin 12} {a b : PathRec} (hs : P s) : P (s.handFlasher n a b) := by
  unfold State.handFlasher State.pathWithdraw State.pathPost
  split
  · exact hs
  · split <;> split
    · exact h.pathRequest (h.pathRequest hs)
    · exact h.pathRequest hs
    · exact h.pathRequest hs
    · exact hs

theorem handOpen {a b : PathRec} (hs : P s) : P (s.handOpen a b) := by
  unfold State.handOpen
  split
  · exact hs
  · exact iteInduction (fun _ => h.evalOpen hs) fun _ => h.evalOpen (h.evalOpen hs)

theorem putPath {n : Fin 12} {p : PathRec} {f : BitVec 16} {e : Option (TraceKind × Nat)} (hs : P s) : P (s.putPath n p f e) :=
  h.toPlanStable.replan (h.handOpen (h.handCause (h.handFlasher (h.traceMaybe (h.toGateStable.postIf (h.setPath hs))))))

theorem vote {n : Fin 12} {p : PathRec} (hs : P s) : P (s.vote n p) := by
  unfold State.vote
  dsimp only
  split
  · exact h.putPath hs
  · exact h.putPath hs

theorem activation {n : Fin 12} {c : Fin 16} (hs : P s) : P (s.activation n c) := by
  unfold State.activation
  dsimp only
  split
  · exact hs
  · exact h.vote hs
  · exact h.vote hs
  · exact h.setPath hs
  · exact h.setPath hs

theorem memberLeft {n : Fin 12} (hs : P s) : P (s.memberLeft n) := by
  unfold State.memberLeft
  dsimp only
  split
  · exact h.putPath hs
  · exact hs

theorem pathTakes {c : Fin 16} {a b : ChannelState} {n : Fin 12} (hs : P s) : P (State.pathTakes c a b s n) := by
  unfold State.pathTakes
  split
  · exact hs
  · exact iteInduction (fun _ => h.activation (h.updateHealth hs))
      fun _ => iteInduction (fun _ => h.memberLeft (h.updateHealth hs)) fun _ => h.updateHealth hs

theorem channelChanged {c : Fin 16} {a b : ChannelState} (hs : P s) : P (s.channelChanged c a b) := by
  unfold State.channelChanged
  split
  · exact hs
  · exact foldl_keeps (fun _ _ => h.pathTakes) _ (h.traceMaybe hs)

theorem channelTo {i : Fin 16} {v : ChannelState} {f : BitVec 16} (hs : P s) : P (s.channelTo i v f) :=
  h.channelChanged (h.toGateStable.post (h.setChannel hs))

theorem putChannel {i : Fin 16} {c : Channel} {f : BitVec 16} (hs : P s) : P (s.putChannel i c f) :=
  h.channelChanged (h.toGateStable.postIf (h.setChannel hs))

theorem changeReferences {i : Fin 16} {r : Option (Fin 16)} (hs : P s) : P (s.changeReferences i r) := by
  have hold (x : Option (Fin 16)) : P (match x with
      | some r => s.releaseReference i r
      | none => s) := by
    split
    · exact iteInduction (fun _ => h.putChannel hs) fun _ => hs
    · exact hs
  unfold State.changeReferences
  dsimp only
  split
  · exact hs
  · split
    · exact iteInduction (fun _ => hold _) fun _ => h.putChannel (hold _)
    · exact hold _

theorem setChannelTo {i : Fin 16} {m : ChannelMode} {r : Option (Fin 16)} {a b : Int} {k : Nat} (hs : P s) :
    P (s.setChannelTo i m r a b k) := by
  unfold State.setChannelTo
  dsimp only
  split
  · exact h.putChannel hs
  · exact h.putChannel (h.changeReferences hs)

theorem sample {x : Vector (BitVec 12) 16} (hs : P s) : P (s.sample x) := by
  have hcount (t : State) (i : Fin 16) (ht : P t) : P (t.countChannel i) :=
    iteInduction (fun _ => h.setChannel ht) fun _ => ht
  have hdue {t : State} {ds : List Due} (ht : P t) : P { t with due := ds } := h.aside ht ⟨rfl, rfl, rfl, rfl, rfl, rfl, rfl⟩
  exact hdue (foldl_keeps hcount _ (hdue (foldl_keeps (fun _ _ => h.setChannel) _ hs)))

/-! #### Counters (R82 to R89) -/

theorem illegalChange {i : Fin 12} (hs : P s) : P (s.illegalChange i) := by
  unfold State.illegalChange
  dsimp only
  split
  · exact h.toGateStable.post (h.setCounter hs)
  · exact hs

theorem cross {i : Fin 12} {b : Bool} (hs : P s) : P (s.cross i b) := by
  unfold State.cross
  dsimp only
  split
  · split
    · exact h.moveVehicle (h.moveVehicle (h.toGateStable.post (h.setCounter hs)))
    · exact h.moveVehicle (h.moveVehicle (h.toGateStable.post (h.setCounter hs)))
  · exact h.toGateStable.post (h.setCounter hs)

theorem loopChange {i : Fin 12} {c : LoopChange} (hs : P s) : P (s.loopChange i c) := by
  unfold State.loopChange
  dsimp only
  split
  · exact h.cross (h.setCounter hs)
  · exact h.setCounter hs

theorem observe {i : Fin 12} {a b : Bool} (hs : P s) : P (s.observe i a b) := by
  unfold State.observe
  dsimp only
  split
  · exact h.setCounter hs
  · split
    · exact h.setCounter hs
    · exact iteInduction (fun _ => h.illegalChange (h.setCounter hs))
        fun _ => h.toGateStable.deliverStep (h.setCounter (h.setCounter hs))
    · exact iteInduction (fun _ => h.setCounter hs)
        fun _ => iteInduction (fun _ => h.setCounter (h.illegalChange (h.setCounter hs))) fun _ => h.loopChange (h.setCounter hs)

theorem becomeStuck {i : Fin 12} (hs : P s) : P (s.becomeStuck i) := by
  unfold State.becomeStuck
  dsimp only
  split
  · split
    · exact h.setUncertain (h.setUncertain (h.toGateStable.post (h.setCounter hs)))
    · exact h.toGateStable.post (h.setCounter hs)
  · exact hs

theorem leaveStuck {i : Fin 12} (hs : P s) : P (s.leaveStuck i) := by
  unfold State.leaveStuck
  dsimp only
  split
  · exact h.toGateStable.post (h.setCounter hs)
  · exact hs

/-! #### Notices (R105, R109, R110) -/

theorem notices {x : NoticeList} (hs : P s) : P { s with notices := x } := h.aside hs ⟨rfl, rfl, rfl, rfl, rfl, rfl, rfl⟩

theorem checkListMargin (hs : P s) : P s.checkListMargin := by
  unfold State.checkListMargin
  split
  · split
    · exact hs
    · exact h.toGateStable.post (h.notices hs)
  · exact h.notices hs

theorem noticeEntered {i : Fin 24} {x : Notice} {f : BitVec 16} (hs : P s) : P (s.noticeEntered i x f) := by
  have hpost : P (s.postNotice i f) := h.toGateStable.post hs
  unfold State.noticeEntered
  dsimp only
  split
  · exact h.toPlanStable.replan (foldl_keeps (fun _ _ => h.evalOpen) _ (foldl_keeps (fun _ _ => h.addCause) _ hpost))
  · exact h.toPlanStable.replan (foldl_keeps (fun _ _ => h.evalOpen) _ hpost)

theorem removeNotice {i : Fin 24} {x : Notice} {v : NoticeState} (hs : P s) : P (s.removeNotice i x v) := by
  have hremoved {u : State} (hu : P u) : P ((({ (u.setSlot i (some { x with state := v })) with
      notices := { (u.setSlot i (some { x with state := v })).notices with
        order := (u.setSlot i (some { x with state := v })).notices.order.filter (· != i) } }.postNotice i
          (Flag.noticeState ||| Flag.noticeRemoved)).evalNamed x).replan) :=
    h.toPlanStable.replan (foldl_keeps (fun _ _ => h.evalOpen) _ (h.toGateStable.post (h.notices (h.notices hu))))
  unfold State.removeNotice
  dsimp only
  split
  · exact hremoved (foldl_keeps (fun _ _ => h.removeCause) _ hs)
  · exact hremoved hs

theorem evalNotice {k : Nat} {i : Fin 24} (hs : P s) : P (State.evalNotice k s i) := by
  unfold State.evalNotice
  split
  · exact hs
  · split
    · exact hs
    · split
      · exact h.removeNotice hs
      · exact iteInduction (fun _ => h.noticeEntered (h.notices hs)) fun _ => hs

theorem evalNotices {k : Nat} (hs : P s) : P (s.evalNotices k) := foldl_keeps (fun _ _ => h.evalNotice) _ hs

theorem clockSecond (hs : P s) : P s.clockSecond := by
  unfold State.clockSecond
  split
  · exact iteInduction (fun _ => h.evalNotices (h.aside hs ⟨rfl, rfl, rfl, rfl, rfl, rfl, rfl⟩)) fun _ => hs
  · exact hs

theorem placeNotice {i : Fin 24} {x : Notice} (hs : P s) : P (s.placeNotice i x) :=
  h.checkListMargin (h.noticeEntered (h.notices hs))

theorem releaseSlot {i : Fin 24} (hs : P s) : P (s.releaseSlot i) := by
  unfold State.releaseSlot
  split
  · exact iteInduction (fun _ => hs) fun _ => h.checkListMargin (h.notices hs)
  · exact hs

/-! #### Rotation and library pages (R123, R128) -/

theorem rotationStep {n : Fin 16} (hs : P s) : P (s.rotationStep n) := by
  unfold State.rotationStep
  split
  · exact h.toRetentionStable.needRaised (h.sign (Sign.dims_of_eq ⟨rfl, rfl, rfl⟩) hs)
  · exact hs

theorem pageChanged {p : Page} (hs : P s) : P (s.pageChanged p) := by
  refine foldl_keeps (fun s n hs => ?_) _ hs
  unfold State.pageChangedFor
  split
  · exact h.toRetentionStable.needRaised (h.sign (Sign.raisePlan_dims _ _ _) hs)
  · exact hs

end StepStable

end Sys2Proof.Machine
end

section
/-! SUPPORT. What the events, the flash port and the requests keep: every due event, every end of an operation, every request but
SET_SIGN and RESTART, by the plan of the parts before (R27 to R31, R174 to R191). -/

namespace Sys2Proof.Machine

/-- The requests that SET_SIGN and RESTART are not among. -/
def Instr.keepsSigns : Instr → Bool
  | .setSign .. => false
  | .restart .. => false
  | _ => true

namespace TrafficStable

variable {P : State → Prop} (h : TrafficStable P) (hr : RetentionStable P) {s : State}
include h hr

/-! ### Replies that are no ACK (R135, R137) -/

theorem failAttempt {l : Fin 2} {f : Frame} (hs : P s) : P (s.failAttempt l f) := by
  have hend {u : State} (hu : P u) :
      P ((((u.adoptSigns l [signAt l f.address]).checkHeld l).checkResume l).lineIdle l) :=
    h.lineIdle (hr.checkResume (hr.checkHeld (hr.adoptSigns hu)))
  have hframe : P ((s.clearFlight l).frameEnded (signAt l f.address) f) := hr.frameEnded (h.clearFlight hs)
  unfold State.failAttempt
  dsimp only
  split
  · exact h.updLine hs
  · split
    · exact hend hframe
    · next hn =>
      have hoff : (((s.clearFlight l).frameEnded (signAt l f.address) f).sign (signAt l f.address)).service ≠ .offline := by
        simp only [not_or] at hn
        simpa [State.frameEnded, State.clearFlight] using hn.2.2
      exact hend (hr.enterService (.inr ⟨hoff, by decide⟩) hframe)

theorem replyFails {l : Fin 2} (hs : P s) : P (s.replyFails l) := by
  unfold State.replyFails
  split
  · exact hs
  · exact h.failAttempt hr hs

theorem nakAttempt {l : Fin 2} {f : Frame} {r : SignReply} (hs : P s) : P (s.nakAttempt l f r) :=
  iteInduction (fun _ => h.failAttempt hr hs)
    fun _ => h.failAttempt hr (hr.takeBlanked (hr.writeStatus hs))

theorem endMismatch {l : Fin 2} {f : Frame} {r : SignReply} (hs : P s) : P (s.endMismatch l f r) :=
  iteInduction (fun _ => h.lineIdle (hr.adoptSigns (h.clearFlight hs)))
    fun _ => h.lineIdle (hr.adoptSigns (hr.takeBlanked
      (h.post (hr.raiseRestore (hr.writeStatus (hr.frameEnded (h.clearFlight hs)))))))

/-- A reply that is no ACK keeps the property. -/
theorem takeReply {l : Fin 2} {b : BitVec 64} (hack : ∀ f r, P (s.endAck l f r)) (hs : P s) : P (s.takeReply l b) := by
  unfold State.takeReply
  split
  · exact hs
  · split
    · exact h.failAttempt hr hs
    · split
      · exact hack _ _
      · exact h.nakAttempt hr hs
      · exact iteInduction (fun _ => h.endMismatch hr hs) fun _ => h.nakAttempt hr hs

end TrafficStable

namespace StepStable

variable {P : State → Prop} (h : StepStable P) {s : State}
include h

/-! ### The flash port (R177, R178, R181) -/

theorem setFlash {m : Flash} (hm : s.flash.wf = true → m.wf = true) (hs : P s) : P (s.setFlash m) := h.flash hm hs

theorem freeFlash {a n : Nat} (hs : P s) : P (s.freeFlash a n) := h.flash (flashWriteAll_wf _ _ _) hs

theorem spoilProfile (hs : P s) : P s.spoilProfile := h.flash (flashWriteAll_wf _ _ _) hs

theorem programDone {err : BitVec 272} (hs : P s) : P (s.programDone err) := by
  unfold State.programDone
  split
  · next seq p i d _ =>
    have hw : P (s.setFlash (flashProgram s.flash (slotAddress p i) (slotBytes d))) := h.setFlash (flashProgram_wf _ _ _) hs
    dsimp only
    generalize s.setFlash (flashProgram s.flash (slotAddress p i) (slotBytes d)) = u at hw
    split
    · exact h.toTrafficStable.portFree (h.toTrafficStable.workDone (h.toTrafficStable.askBoth
        (h.pageChanged (h.toTrafficStable.unfault (h.toTrafficStable.replaceCached hw)))))
    · exact h.toTrafficStable.portFree (h.toTrafficStable.workFailed hw)
  · exact hs

theorem eraseDone (hs : P s) : P s.eraseDone := by
  unfold State.eraseDone
  split
  · next seq b _ =>
    have hw : P (s.setFlash (flashErase s.flash (4096 * b.val) (4096 * (b.val + 1)))) :=
      h.setFlash (flashErase_wf s.flash (4096 * b.val) (4096 * (b.val + 1))) hs
    have hdropped := foldl_keeps (f := State.dropPage) (fun _ _ => h.toTrafficStable.dropPage) (blockPages b) hw
    have hunfaulted := foldl_keeps (f := State.unfault) (fun _ _ => h.toTrafficStable.unfault) (blockPages b) hdropped
    have hchanged := foldl_keeps (f := State.pageChanged) (fun u p hu => h.pageChanged (s := u) (p := p) hu) (blockPages b) hunfaulted
    exact h.toTrafficStable.portFree (h.toTrafficStable.workDone hchanged)
  · exact hs

theorem saveDone {e : Bool} (hs : P s) : P (s.saveDone e) := by
  unfold State.saveDone
  split
  · split
    · next image _ _ =>
      have hw : P (s.setFlash (writeProfile s.flash image)) :=
        h.setFlash (fun hw => flashProgram_wf _ _ _ (flashErase_wf _ _ _ hw)) hs
      exact h.toTrafficStable.portFree (h.toTrafficStable.workDone hw)
    · exact h.toTrafficStable.portFree (h.toTrafficStable.workFailed (h.spoilProfile hs))
  · exact hs

theorem timeoutFlash (hs : P s) : P s.timeoutFlash := by
  unfold State.timeoutFlash
  split
  · exact hs
  · split
    · exact hs
    · exact hs
    · exact h.toTrafficStable.portFree (h.toTrafficStable.workFailed (h.toTrafficStable.dropCached (h.freeFlash hs)))
    · exact h.toTrafficStable.portFree (h.toTrafficStable.workFailed
        (foldl_keeps (fun _ _ => h.toTrafficStable.dropPage) _ (h.freeFlash hs)))
    · exact h.toTrafficStable.portFree (h.toTrafficStable.workFailed (h.spoilProfile hs))

/-! ### Due events (R186) -/

theorem flashPhaseEnd {i : Fin 8} (hs : P s) : P (s.flashPhaseEnd i) := iteInduction (fun _ => h.flasher rfl hs) fun _ => hs

theorem applyDue {d : Due} (hs : P s) : P (s.applyDue d) := by
  cases d with
  | second => exact h.clockSecond hs
  | sampling => exact h.sample hs
  | chFault i => exact iteInduction (fun _ => h.channelTo hs) fun _ => hs
  | chRecover i => exact iteInduction (fun _ => h.channelTo hs) fun _ => hs
  | chRefFault i => exact iteInduction (fun _ => h.channelTo hs) fun _ => hs
  | chActive i => exact iteInduction (fun _ => h.channelTo hs) fun _ => hs
  | chQuiet i => exact iteInduction (fun _ => h.channelTo hs) fun _ => hs
  | confirmTimeout i => exact h.timeoutConfirm hs
  | leadEnd i => exact h.endLead hs
  | stall i => exact iteInduction (fun _ => h.toGateStable.gateFault hs) fun _ => hs
  | motion i => exact iteInduction (fun _ => h.toGateStable.gateFault hs) fun _ => hs
  | pause i => exact iteInduction (fun _ => h.toGateStable.endPause hs) fun _ => hs
  | relower i => exact iteInduction (fun _ => h.toGateStable.relowerGate hs) fun _ => hs
  | stuck i => exact h.becomeStuck hs
  | stuckLeft i => exact h.leaveStuck hs
  | rotation n => exact h.rotationStep hs
  | refresh n => exact h.toRetentionStable.refreshDue hs
  | lapsed n => exact h.toRetentionStable.signLapses hs
  | critical n => exact h.toRetentionStable.checkCritical hs
  | poll n => exact h.toRetentionStable.pollDue hs
  | holdEntry l => exact h.toRetentionStable.enterHold (fun hu => h.toTrafficStable.line hu) hs
  | heldWake l => exact h.toRetentionStable.heldWake hs
  | phaseEnd i => exact h.flashPhaseEnd hs
  | flashTimeout => exact h.timeoutFlash hs

theorem due {ds : List Due} (hs : P s) : P { s with due := ds } := h.aside hs ⟨rfl, rfl, rfl, rfl, rfl, rfl, rfl⟩

theorem takeOne {d : Due} (hs : P s) : P (s.takeOne d) := h.applyDue (h.due hs)

theorem takeSilent (hs : P s) : P s.takeSilent := foldl_keeps (fun _ _ => h.takeOne) _ hs

theorem takeEvent {d : Due} (hs : P s) : P (s.takeEvent d) := by
  unfold State.takeEvent
  split
  · exact h.takeSilent (foldl_keeps (fun _ _ => h.takeOne) _ hs)
  · split
    · exact h.takeSilent (h.takeOne hs)
    · exact h.takeOne hs

theorem runEvent {d : Due} (hs : P s) : P (s.runEvent d) := iteInduction (fun _ => h.conclude (h.takeEvent hs)) fun _ => hs

theorem settleDue (hs : P s) : P s.settleDue := foldl_keeps (fun _ _ => h.runEvent) _ (foldl_keeps (fun _ _ => h.runEvent) _ hs)

theorem samplingTick {x : Vector (BitVec 12) 16} (hs : P s) : P (s.samplingTick x) :=
  iteInduction (fun _ => h.conclude (h.takeEvent (h.aside hs ⟨rfl, rfl, rfl, rfl, rfl, rfl, rfl⟩))) fun _ => hs

/-- A command that takes what is due and whose effect keeps the property keeps it. -/
theorem command {f : State → State} (hf : ∀ u, P u → P (f u)) (hs : P s) : P (s.command f) :=
  h.conclude (hf _ (h.settleDue hs))

theorem tickOnce (hs : P s) : P s.tickOnce := h.toTrafficStable.askBoth (h.due (h.advance hs))

theorem flashStepOnce (hs : P s) : P s.flashStepOnce := h.due (h.aside hs ⟨rfl, rfl, rfl, rfl, rfl, rfl, rfl⟩)

/-! ### Requests (R185) -/

omit h in
theorem onPath {b : Byte} {f : Fin 12 → Answer} (hf : ∀ n, P (f n).state) (hs : P s) : P (onPath b s f).state := by
  unfold Machine.onPath
  split
  · exact hs
  · split
    · exact hf _
    · exact hs

theorem queued {k : WorkKind} (hs : P s) : P (s.applyQueue k).state := by
  unfold State.applyQueue
  split
  · exact hs
  · next hq => exact h.toTrafficStable.queueWork hq hs

theorem releasePath {n : Fin 12} {k : TraceKind} (hs : P s) : P (s.releasePath n k) := h.putPath hs

theorem setLineTo {l : Fin 2} {c : LineConfig} (hs : P s) : P (s.setLineTo l c) := by
  have hset : P ((s.updLine l fun r => { r with cfg := c }).post (.line l) Flag.lineConfig) :=
    h.toGateStable.post (h.line hs)
  unfold State.setLineTo
  dsimp only
  generalize (s.updLine l fun r => { r with cfg := c }).post (.line l) Flag.lineConfig = u at hset
  have hload (p : Prop) [Decidable p] : P (if p then u else u.settleLoad l) :=
    iteInduction (fun _ => hset) fun _ => h.toRetentionStable.settleLoad hset
  split
  · exact h.toRetentionStable.setBands (h.toRetentionStable.retarget (hload _))
  · exact h.toRetentionStable.retarget (hload _)

theorem setConditions {m : BitVec 16} {p : Option Page} (hs : P s) : P (s.setConditions m p) := by
  refine h.toPlanStable.replanSigns (foldl_keeps (fun s n hs => ?_) _ hs)
  exact h.toGateStable.postIf (h.sign ⟨rfl, rfl, id⟩ hs)


theorem applySetClock {x : Word} (hs : P s) : P (s.applySetClock x).state :=
  iteInduction (motive := fun a : Answer => P a.state) (fun _ => hs) fun _ =>
    h.toGateStable.post (h.evalNotices (h.aside hs ⟨rfl, rfl, rfl, rfl, rfl, rfl, rfl⟩))

theorem applySetReserve {on : Byte} (hs : P s) : P (s.applySetReserve on).state := by
  unfold State.applySetReserve
  split
  · exact hs
  · exact h.setPower hs

omit h in
theorem applyInspect {k i : Byte} (hs : P s) : P (s.applyInspect k i).state := by
  unfold State.applyInspect
  split <;> exact hs

theorem applySetSegment {i : Byte} {a b : Half} (hs : P s) : P (s.applySetSegment i a b).state := by
  unfold State.applySetSegment
  split
  · exact hs
  · exact h.setTimes hs

theorem applyCloseSegment {i : Byte} (hs : P s) : P (s.applyCloseSegment i).state := by
  unfold State.applyCloseSegment
  split
  · exact hs
  · exact iteInduction (motive := P) (fun _ => hs) fun _ => h.toPlanStable.replan (h.addCause hs)

theorem applyOpenSegment {i : Byte} (hs : P s) : P (s.applyOpenSegment i).state := by
  unfold State.applyOpenSegment
  split
  · exact hs
  · exact iteInduction (motive := P) (fun _ => h.toPlanStable.replan (h.removeCause (h.removeCause hs))) fun _ => hs

theorem applyAdjustCount {i : Byte} {n : Half} (hs : P s) : P (s.applyAdjustCount i n).state := by
  unfold State.applyAdjustCount
  split
  · exact hs
  · exact h.setCount ⟨rfl, rfl, rfl, rfl⟩ hs

theorem applySetChannel {c m r : Byte} {a b : Half} {p : Byte} (hs : P s) : P (s.applySetChannel c m r a b p).state := by
  have haccept (i m r) : P (s.acceptChannel i m r a b p).state :=
    iteInduction (motive := fun a : Answer => P a.state) (fun _ => hs) fun _ => h.setChannelTo hs
  unfold State.applySetChannel
  split
  · split
    · split
      · exact haccept _ _ _
      · exact hs
    · exact haccept _ _ _
  · exact hs

theorem applySetPath {n i : Byte} {m : Half} {k : Byte} {w : Half} {c : Byte} {p : Half} {f : Byte} (hs : P s) :
    P (s.applySetPath n i m k w c p f).state := by
  have haccept (n c) : P (s.acceptPath n c).state :=
    iteInduction (motive := fun a : Answer => P a.state) (fun _ => hs) fun _ =>
      iteInduction (motive := fun a : Answer => P a.state) (fun _ => hs) fun _ => h.putPath hs
  unfold State.applySetPath
  split
  · exact iteInduction (motive := fun a : Answer => P a.state) (fun _ => hs) fun _ => haccept _ _
  · exact hs

theorem applyAckPath {n : Byte} (hs : P s) : P (s.applyAckPath n).state :=
  onPath (fun _ => iteInduction (motive := fun a : Answer => P a.state) (fun _ => h.putPath hs) fun _ => hs) hs

theorem applyDismissPath {n : Byte} (hs : P s) : P (s.applyDismissPath n).state :=
  onPath (fun _ => iteInduction (motive := fun a : Answer => P a.state) (fun _ => h.releasePath hs) fun _ => hs) hs

theorem applyClearPath {n : Byte} (hs : P s) : P (s.applyClearPath n).state :=
  onPath (fun _ => iteInduction (motive := fun a : Answer => P a.state) (fun _ => h.releasePath hs) fun _ => hs) hs

theorem applyMaskPath {n b : Byte} (hs : P s) : P (s.applyMaskPath n b).state := by
  unfold State.applyMaskPath
  split
  · split
    · exact hs
    · split
      case h_1 | h_2 | h_6 => exact h.putPath hs
      all_goals exact hs
  · exact hs

omit h in
theorem applyReadTrace {a b c : Byte} (hs : P s) : P (s.applyReadTrace a b c).state := by
  unfold State.applyReadTrace
  refine iteInduction (motive := fun a : Answer => P a.state) (fun _ => hs) fun _ =>
    iteInduction (motive := fun a : Answer => P a.state) (fun _ => hs) fun _ =>
      iteInduction (motive := fun a : Answer => P a.state) (fun _ => ?_) fun _ => hs
  split <;> exact hs

theorem applyReleaseTrace (hs : P s) : P s.applyReleaseTrace.state :=
  iteInduction (motive := fun a : Answer => P a.state) (fun _ => h.toGateStable.post (h.traceSettings rfl hs)) fun _ => hs

theorem applySetTrace {a b : Byte} (hs : P s) : P (s.applySetTrace a b).state := h.toGateStable.post (h.traceSettings rfl hs)

theorem applySetGate {g i u : Byte} {a b : Half} {f : Byte} (hs : P s) : P (s.applySetGate g i u a b f).state := by
  have haccept (i c) : P (s.acceptGate i c).state :=
    iteInduction (motive := fun a : Answer => P a.state) (fun _ => hs) fun _ =>
      iteInduction (motive := fun a : Answer => P a.state) (fun _ => hs) fun _ => h.setGateTo hs
  unfold State.applySetGate
  split
  · exact haccept _ _
  · exact hs

theorem applyMoveGate {g a o : Byte} (hs : P s) : P (s.applyMoveGate g a o).state := by
  unfold State.applyMoveGate
  dsimp only
  split
  · exact iteInduction (motive := fun a : Answer => P a.state) (fun _ => hs) fun _ =>
      iteInduction (motive := fun a : Answer => P a.state) (fun _ => hs) fun _ => h.toGateStable.moveGate hs
  · exact hs

theorem applyResetGate {g : Byte} (hs : P s) : P (s.applyResetGate g).state := by
  unfold State.applyResetGate onGate
  dsimp only
  split
  · exact hs
  · exact iteInduction (motive := fun a : Answer => P a.state)
      (fun _ => iteInduction (motive := fun a : Answer => P a.state) (fun _ => h.toGateStable.resetGate hs) fun _ => hs)
      fun _ => hs

theorem applySetCounter {u m a b : Byte} (hs : P s) : P (s.applySetCounter u m a b).state := by
  have haccept (i c) : P (s.acceptCounter i c).state :=
    iteInduction (motive := fun a : Answer => P a.state) (fun _ => hs)
      fun _ => h.toGateStable.post (h.setCounter hs)
  unfold State.applySetCounter
  split
  · split
    · split
      · exact haccept _ _
      · exact hs
    · exact haccept _ _
  · exact hs

theorem applySetFlash {c a b : Byte} (hs : P s) : P (s.applySetFlash c a b).state := by
  unfold State.applySetFlash
  split
  · exact hs
  · exact h.toGateStable.post (h.aside hs ⟨rfl, rfl, rfl, rfl, rfl, rfl, rfl⟩)

theorem applyPostNotice {r : Half} {m c : Byte} {p q : Half} {a b : Word} {l : Half} (hs : P s) :
    P (s.applyPostNotice r m c p q a b l).state := by
  have haccept (m p q a b) : P (s.acceptNotice r m p q a b l).state := by
    unfold State.acceptNotice
    split
    · exact hs
    · split
      · exact hs
      · split
        · exact hs
        · exact h.placeNotice hs
  unfold State.applyPostNotice
  split
  · exact hs
  · split
    · exact haccept _ _ _ _ _
    · exact hs

theorem applyEndNotice {n : Byte} (hs : P s) : P (s.applyEndNotice n).state := by
  unfold State.applyEndNotice
  split
  · exact hs
  · split
    · exact hs
    · split
      · exact hs
      · exact iteInduction (motive := fun a : Answer => P a.state) (fun _ => h.removeNotice hs) fun _ => hs

theorem applySetListMargin {m : Byte} (hs : P s) : P (s.applySetListMargin m).state :=
  h.checkListMargin (h.toGateStable.post (h.notices hs))

theorem applySetLine {l : Byte} {b : Half} {p m : Byte} (hs : P s) : P (s.applySetLine l b p m).state := by
  unfold State.applySetLine
  split
  · exact h.setLineTo hs
  · exact hs

theorem applySetCondition {m p : Half} (hs : P s) : P (s.applySetCondition m p).state := by
  unfold State.applySetCondition
  split
  · exact hs
  · split
    · exact hs
    · exact h.setConditions hs

theorem applyWakeLine {l : Byte} (hs : P s) : P (s.applyWakeLine l).state := by
  unfold State.applyWakeLine
  split
  · exact hs
  · exact h.toRetentionStable.wake hs

theorem applyOpenPage {p : Half} {i : Byte} (hs : P s) : P (s.applyOpenPage p i).state := by
  unfold State.applyOpenPage
  split
  · next p i _ _ => exact h.toTrafficStable.lib (f := fun lib => { lib with cursor := some (p, i) }) id hs
  · exact hs

theorem applyPageData {d : StripData} (hs : P s) : P (s.applyPageData d).state := by
  unfold State.applyPageData
  split
  · exact hs
  · split
    · exact hs
    · next hq => exact h.toTrafficStable.queueWork hq (h.toTrafficStable.lib id hs)

theorem applyEraseBlock {b : Half} (hs : P s) : P (s.applyEraseBlock b).state := by
  unfold State.applyEraseBlock
  split
  · exact h.queued hs
  · exact hs

theorem applyClearFaults (hs : P s) : P s.applyClearFaults.state :=
  h.toTrafficStable.lib (f := fun lib => { lib with faulted := [] }) (fun ⟨hm, hw, _⟩ => ⟨hm, hw, Nat.zero_le 8⟩) hs

omit h in
theorem applyReadDirectory {a b : Byte} (hs : P s) : P (s.applyReadDirectory a b).state := by
  unfold State.applyReadDirectory
  dsimp only
  split <;> exact hs

/-- Every request but SET_SIGN and RESTART. -/
theorem applyRequest {c : Instr} (hc : Instr.keepsSigns c = true) (hs : P s) : P (s.applyRequest c).state := by
  cases c with
  | setSign | restart => cases hc
  | setClock => exact h.applySetClock hs
  | setReserve => exact h.applySetReserve hs
  | saveProfile => exact h.queued hs
  | inspect => exact applyInspect hs
  | setSegment => exact h.applySetSegment hs
  | closeSegment => exact h.applyCloseSegment hs
  | openSegment => exact h.applyOpenSegment hs
  | adjustCount => exact h.applyAdjustCount hs
  | setChannel => exact h.applySetChannel hs
  | setPath => exact h.applySetPath hs
  | ackPath => exact h.applyAckPath hs
  | dismissPath => exact h.applyDismissPath hs
  | clearPath => exact h.applyClearPath hs
  | maskPath => exact h.applyMaskPath hs
  | readTrace => exact applyReadTrace hs
  | releaseTrace => exact h.applyReleaseTrace hs
  | setTrace => exact h.applySetTrace hs
  | setGate => exact h.applySetGate hs
  | moveGate => exact h.applyMoveGate hs
  | resetGate => exact h.applyResetGate hs
  | setCounter => exact h.applySetCounter hs
  | setFlash => exact h.applySetFlash hs
  | postNotice => exact h.applyPostNotice hs
  | endNotice => exact h.applyEndNotice hs
  | setListMargin => exact h.applySetListMargin hs
  | setLine => exact h.applySetLine hs
  | setCondition => exact h.applySetCondition hs
  | wakeLine => exact h.applyWakeLine hs
  | openPage => exact h.applyOpenPage hs
  | pageData => exact h.applyPageData hs
  | eraseBlock => exact h.applyEraseBlock hs
  | clearFaults => exact h.applyClearFaults hs
  | readDirectory => exact applyReadDirectory hs
  | _ => exact hs

end StepStable

end Sys2Proof.Machine
end

section
/-! SUPPORT. Properties of the report set and of the bounds of library, trace and flash: every change of a record keeps them, so every
event, reply, request and reset does (R53, R171 to R178, R189, R190). -/

namespace Sys2Proof.Machine

/-! ### Properties that an ACK and SET_SIGN keep -/

/-- A property that every change of a sign and of a line keeps, every report, and every change of the library within its bounds. -/
structure DisplayStable (P : State → Prop) : Prop extends TrafficStable P where
  sign : ∀ {s : State} {n : Fin 16} {g : Sign}, P s → P (s.setSign n g)

theorem DisplayStable.toRetentionStable {P : State → Prop} (h : DisplayStable P) : RetentionStable P :=
  ⟨fun _ hs => h.sign hs, fun _ hs => h.line hs, fun hs => h.line hs, h.post⟩

theorem DisplayStable.toPlanStable {P : State → Prop} (h : DisplayStable P) : PlanStable P where
  toRetentionStable := h.toRetentionStable
  replanSign {s n} hs := by
    unfold State.replanSign
    dsimp only
    split
    · exact hs
    · exact h.post (h.sign hs)

namespace DisplayStable

variable {P : State → Prop} (h : DisplayStable P) {s : State}
include h

theorem postIf {c : Bool} {o : Obj} {f : BitVec 16} (hs : P s) : P (s.postIf c o f) := h.toRetentionStable.postIf hs

/-! #### ACKs and SET_SIGN (R117, R136, R151, R157, R165) -/

theorem changeService {n : Fin 16} {v : Service} (hs : P s) : P (s.changeService n v) := by
  have hr := h.toRetentionStable
  unfold State.changeService
  dsimp only
  split
  · exact hs
  · have hset := h.post (o := .sign n) (f := serviceFlags (s.sign n) ((s.sign n).withService s.now v))
      (h.sign (n := n) (g := (s.sign n).withService s.now v) hs)
    split
    · exact hr.checkResume (hr.checkHeld (hr.restoreRaised hset))
    · exact hr.checkResume (hr.checkHeld hset)

theorem writeDisplayed {n : Fin 16} {f : Frame} (hs : P s) : P (s.writeDisplayed n f) := h.postIf (h.sign hs)

theorem ackHold {n : Fin 16} {st : SignStatus} (hs : P s) : P (s.ackHold n st) := by
  unfold State.ackHold
  split
  · exact iteInduction (fun _ => h.changeService hs) fun _ => h.toRetentionStable.raiseRestore (h.changeService hs)
  · split
    · exact hs
    · exact h.toRetentionStable.wake hs

theorem ackSign {n : Fin 16} {f : Frame} {st : SignStatus} (hs : P s) : P (s.ackSign n f st) := by
  have hr := h.toRetentionStable
  unfold State.ackSign
  split
  · exact hr.checkAges (h.sign (hr.clearRestore (h.changeService (h.writeDisplayed hs))))
  · exact hr.checkAges (h.sign hs)
  · exact iteInduction (fun _ => h.writeDisplayed hs) fun _ => hr.clearRestore (h.changeService (h.writeDisplayed hs))
  · exact h.ackHold hs
  · exact iteInduction (fun _ => h.changeService hs) fun _ => hs

theorem ackShed {n : Fin 16} {f : Frame} (hs : P s) : P (s.ackShed n f) := by
  have hw : P (if f.kind = .content ∨ f.kind = .blank then s.writeDisplayed n f else s) :=
    iteInduction (fun _ => h.writeDisplayed hs) fun _ => hs
  exact iteInduction (fun _ => h.sign hw) fun _ => hw

theorem endAck {l : Fin 2} {f : Frame} {r : SignReply} (hs : P s) : P (s.endAck l f r) := by
  have hr := h.toRetentionStable
  have ht := h.toTrafficStable
  have hack {u : State} (p : Prop) [Decidable p] (n : Fin 16) (hu : P u) :
      P (if p then u.ackShed n f else u.ackSign n f r.status) :=
    iteInduction (fun _ => h.ackShed hu) fun _ => h.ackSign hu
  exact iteInduction (fun _ => ht.lineIdle (hr.adoptSigns (ht.clearFlight hs))) fun _ =>
    ht.lineIdle (hr.checkResume (hr.checkHeld (hr.takeBlanked (hr.bandRule (hr.writeStatus (hr.adoptSigns
      (hr.settleCounted (hr.frameEnded (hack _ _ (ht.clearFlight hs))))))))))

theorem enterService {n : Fin 16} {v : Service} (hs : P s) : P (s.enterService n v) :=
  h.toRetentionStable.settleCounted (h.changeService hs)

theorem unconfigureSign {n : Fin 16} (hs : P s) : P (s.unconfigureSign n) :=
  h.toRetentionStable.retarget (h.postIf (h.sign (h.enterService hs)))

/-- What holds when the configuration is written and reported holds when SET_SIGN is done. -/
theorem setSignTo_of_written {n : Fin 16} {c : SignConfig} (hset : P ((s.setSign n { s.sign n with cfg := c }).post (.sign n) Flag.signConfig)) :
    P (s.setSignTo n c) := by
  have hr := h.toRetentionStable
  have hpoint {u : State} (p : Prop) [Decidable p] (hu : P u) : P (if p then u else u.lapsePointChanged n) :=
    iteInduction (fun _ => hu) fun _ => hr.lapsePointChanged hu
  have hrole {u : State} (b : Bool) (hu : P u) : P (u.followRole n b) := by
    unfold State.followRole
    split
    · exact h.unconfigureSign hu
    · exact hr.configureSign hu
    · exact hr.restoreUnsheddable hu
    · exact hu
  exact hr.reserveSettle (h.toPlanStable.replanSigns (hrole _ (hpoint _ hset)))

theorem setSignTo {n : Fin 16} {c : SignConfig} (hs : P s) : P (s.setSignTo n c) := h.setSignTo_of_written (h.post (h.sign hs))

theorem applySetSign {a b c d : Byte} {x : Half} {e f : Byte} (hs : P s) : P (s.applySetSign a b c d x e f).state := by
  unfold State.applySetSign
  split
  · exact hs
  · split
    · exact hs
    · exact h.setSignTo hs

end DisplayStable

/-! ### Properties that read no record but these -/

/-- The report set of one state is another's, and library, trace and flash stay within their bounds. -/
structure State.Follows (s t : State) : Prop where
  lib : s.lib.bounded → t.lib.bounded
  trace : s.trace.entries.length ≤ 128 → t.trace.entries.length ≤ 128
  flash : s.flash.wf = true → t.flash.wf = true
  reports : t.link.reports = s.link.reports

/-- A change of records other than library, trace, flash and report set. -/
theorem State.follows_of_eq {s t : State}
    (h : t.lib = s.lib ∧ t.trace = s.trace ∧ t.flash = s.flash ∧ t.link.reports = s.link.reports) : s.Follows t := by
  obtain ⟨hl, ht, hf, hr⟩ := h
  exact ⟨by rw [hl]; exact id, by rw [ht]; exact id, by rw [hf]; exact id, hr⟩

/-- A property that every change within bounds keeps, and every report. -/
structure RecordStable (P : State → Prop) : Prop where
  follow : ∀ {s t : State}, P s → s.Follows t → P t
  post : ∀ {s : State} {o : Obj} {f : BitVec 16}, P s → P (s.post o f)

/-- An entry recorded in a trace of at most 128 entries leaves at most 128 (R53). -/
theorem Trace.record_length (t : Trace) (e : TraceEntry) (h : t.entries.length ≤ 128) : (t.record e).1.entries.length ≤ 128 := by
  have happend (t : Trace) (h : t.entries.length ≤ 128) : (t.append e).entries.length ≤ 128 := by
    unfold Trace.append
    dsimp only
    split <;> simp <;> omega
  have hcheck (t : Trace) : t.checkNearFull.1.entries = t.entries := by
    unfold Trace.checkNearFull
    split <;> rfl
  unfold Trace.record
  split
  · split
    · exact happend t h
    · exact happend t h
  · split
    · rw [hcheck]
      exact happend t h
    · split
      · rw [hcheck]
        exact happend t h
      · exact h

namespace RecordStable

variable {P : State → Prop} (h : RecordStable P) {s : State}
include h

/-- A change of records that the property does not read. -/
theorem same {t : State} (hs : P s)
    (ht : t.lib = s.lib ∧ t.trace = s.trace ∧ t.flash = s.flash ∧ t.link.reports = s.link.reports) : P t :=
  h.follow hs (State.follows_of_eq ht)

theorem postIf {c : Bool} {o : Obj} {f : BitVec 16} (hs : P s) : P (s.postIf c o f) := by
  cases c
  · exact hs
  · exact h.post hs

theorem setSign {n : Fin 16} {g : Sign} (hs : P s) : P (s.setSign n g) := h.same hs ⟨rfl, rfl, rfl, rfl⟩

theorem setSegment {i : Fin 4} {r : Segment} (hs : P s) : P (s.setSegment i r) := h.same hs ⟨rfl, rfl, rfl, rfl⟩

theorem setPosture {i : Fin 4} {p : Posture} {ph : Phase} (hs : P s) : P (s.setPosture i p ph) :=
  iteInduction (fun _ => hs) fun _ => h.post (h.setSegment hs)

/-- Gates and flashers are no records that the property reads. -/
theorem toGateStable : GateStable P where
  gate hs := h.same hs ⟨rfl, rfl, rfl, rfl⟩
  flasher _ hs := h.same hs ⟨rfl, rfl, rfl, rfl⟩
  post := h.post
  completeLower hs := iteInduction (fun _ => h.setPosture hs) fun _ => hs
  completeReopen hs := iteInduction (fun _ => h.setPosture hs) fun _ => hs

theorem enterLower {i : Fin 4} (hs : P s) : P (s.enterLower i) :=
  h.toGateStable.completeLower (h.toGateStable.gatesDown (h.setPosture hs))

theorem endConfirm {i : Fin 4} (hs : P s) : P (s.endConfirm i) :=
  iteInduction (fun _ => h.enterLower hs) fun _ => h.setPosture hs

theorem evalConfirmPhase {i : Fin 4} (hs : P s) : P (s.evalConfirmPhase i) :=
  iteInduction (fun _ => h.endConfirm hs) fun _ => hs

theorem timeoutConfirm {i : Fin 4} (hs : P s) : P (s.timeoutConfirm i) :=
  iteInduction (fun _ => h.endConfirm (h.post (h.setSegment hs))) fun _ => hs

theorem beginConfirm {i : Fin 4} (hs : P s) : P (s.beginConfirm i) := h.setPosture (h.postIf (h.setSegment hs))

theorem causeEffect {i : Fin 4} {c : Cause} {b : Bool} (hs : P s) : P (s.causeEffect i c b) := by
  unfold State.causeEffect
  split
  · exact h.evalConfirmPhase (h.beginConfirm hs)
  · exact h.evalConfirmPhase (h.beginConfirm hs)
  · exact h.evalConfirmPhase (foldl_keeps (fun _ _ => h.toGateStable.gateBack) _ (h.beginConfirm hs))
  · exact iteInduction (fun _ => h.timeoutConfirm (h.setSegment hs)) fun _ => hs
  · exact iteInduction (fun _ => h.enterLower hs) fun _ => hs
  all_goals exact hs

theorem enterReopening {i : Fin 4} (hs : P s) : P (s.enterReopening i) :=
  h.toGateStable.completeReopen (h.toGateStable.gatesUp (h.setPosture hs))

theorem evalOpen {i : Fin 4} (hs : P s) : P (s.evalOpen i) := iteInduction (fun _ => h.setPosture hs) fun _ => hs

/-- A property that reads none of the records that the rules of closing change is kept by all that a step does. -/
theorem toStepStable : StepStable P where
  toGateStable := h.toGateStable
  line hs := h.same hs ⟨rfl, rfl, rfl, rfl⟩
  lib hl hs := h.follow hs ⟨hl, id, id, rfl⟩
  aside hs ha := h.same hs ⟨ha.lib, ha.trace, ha.flash, ha.reports⟩
  sign _ hs := h.setSign hs
  segment _ hs := h.setSegment hs
  evalOpen := h.evalOpen
  evalConfirmPhase := h.evalConfirmPhase
  evalConfirm hs := iteInduction (fun _ => h.post (h.setSegment hs)) fun _ => h.evalConfirmPhase hs
  timeoutConfirm := h.timeoutConfirm
  endLead hs := iteInduction (fun _ => h.enterLower hs) fun _ => hs
  addCause hs := iteInduction (fun _ => hs) fun _ => h.causeEffect (h.post (h.setSegment hs))
  removeCause hs := iteInduction (fun _ => hs) fun _ =>
    iteInduction (fun _ => h.enterReopening (h.post (h.setSegment hs))) fun _ => h.post (h.setSegment hs)
  pathRequest hs := h.toGateStable.settleFlasher (h.same hs ⟨rfl, rfl, rfl, rfl⟩)
  traceAdd hs := h.postIf (h.follow hs ⟨id, Trace.record_length _ _, id, rfl⟩)
  traceSettings ht hs := h.follow hs ⟨id, by rw [ht]; exact id, id, rfl⟩
  flash hf hs := h.follow hs ⟨id, id, hf, rfl⟩
  advance hs := by
    refine h.follow hs ⟨fun hb => ?_, id, id, rfl⟩
    show (Library.tick _).bounded
    unfold Library.tick
    split <;> exact hb

/-- Signs, lines and library within bounds are no records that the property reads. -/
theorem toDisplayStable : DisplayStable P := ⟨h.toStepStable.toTrafficStable, fun hs => h.setSign hs⟩

theorem applySetSign {a b c d : Byte} {x : Half} {e f : Byte} (hs : P s) : P (s.applySetSign a b c d x e f).state :=
  h.toDisplayStable.applySetSign hs

/-! ### RESTART (R189) -/

theorem restartPath {n : Fin 12} (hs : P s) : P (s.restartPath n) := by
  unfold State.restartPath
  exact h.toStepStable.handOpen (h.postIf (h.toStepStable.setPath hs))

theorem clearTrace (hs : P s) :
    P { s with trace := { s.trace with entries := [], mark := none, truncated := false, nearFullPosted := false } } :=
  h.follow hs ⟨id, fun _ => Nat.zero_le _, id, rfl⟩

theorem restartPaths (hs : P s) : P s.restartPaths :=
  h.clearTrace (foldl_keeps (f := State.restartPath) (fun _ n hu => h.restartPath (n := n) hu) (List.finRange 12) hs)

theorem restartOutputs (hs : P s) : P s.restartOutputs := h.same hs ⟨rfl, rfl, rfl, rfl⟩

theorem restartPlan {n : Fin 16} (hs : P s) : P (s.restartPlan n) := by
  unfold State.restartPlan
  exact h.postIf (h.setSign hs)

theorem restartLibrary (hs : P s) : P s.restartLibrary :=
  h.postIf (h.follow hs ⟨fun _ => ⟨by simp [Library.restart], by simp [Library.restart], by simp [Library.restart]⟩, id, id, rfl⟩)

theorem rereport (hs : P s) : P s.rereport :=
  foldl_keeps (f := fun s o => s.post o 0) (fun _ _ hu => h.post hu) _ hs

/-- A partial reset keeps the property where the emptied report set has it. -/
theorem partialReset (hs : P s.beginRestart) : P s.partialReset := by
  have hr := h.toStepStable.toRetentionStable
  have hchannels : P s.beginRestart.restartChannels := h.same hs ⟨rfl, rfl, rfl, rfl⟩
  have hpaths := h.restartPaths hchannels
  have hplans := foldl_keeps (f := State.restartPlan) (fun _ n hu => h.restartPlan (n := n) hu) (List.finRange 16)
    (h.restartOutputs hpaths)
  exact h.post (h.rereport (h.restartLibrary (hr.restartLine (l := 1) (hr.restartLine (l := 0) hplans))))

/-- Every request keeps the property, RESTART where the emptied report set has it. -/
theorem applyRequest {c : Instr} (hb : P s.beginRestart) (hs : P s) : P (s.applyRequest c).state := by
  cases hc : Instr.keepsSigns c
  · cases c with
    | setSign => exact h.applySetSign hs
    | restart => exact h.partialReset hb
    | _ => cases hc
  · exact h.toStepStable.applyRequest hc hs

end RecordStable

end Sys2Proof.Machine
end

section
/-! SUPPORT. What every command keeps: the effects of a command and the steps of the link, the partial and the full reset, from the
effects above (R184 to R191). -/

namespace Sys2Proof.Machine

/-- Every command, from what its effect keeps: the timed events, the pins, the flash port and replies that are no ACK are kept by
the plan above, and the rest is for the property to say. -/
theorem StepStable.exec {P : State → Prop} (h : StepStable P) {c : Instr} {s : State} (hs : P s)
    (hreply : ∀ l b, P (s.command fun u => u.takeReply l b)) (hrequest : ∀ c, P (s.request c))
    (hreceive : ∀ bs, P (s.command fun u => u.receive bs)) (hgap : ∀ bs, P (s.command fun u => (u.receive bs).abandonFrame))
    (hsend : P (s.command State.sendReply)) (hreport : P (s.command State.sendReport))
    (hreset : ∀ cause pins, P (s.fullReset cause pins)) : ∃ t, exec c s = .next t ∧ P t := by
  cases c with
  | unknownKind | badLength | frameDiscarded | receiveBufferOverflow => exact ⟨_, rfl, hreceive _⟩
  | interByteGapTimeout => exact ⟨_, rfl, hgap _⟩
  | replySend => exact ⟨_, rfl, hsend⟩
  | reportSend => exact ⟨_, rfl, hreport⟩
  | fullReset => exact ⟨_, rfl, hreset _ _⟩
  | signReply => exact ⟨_, rfl, hreply _ _⟩
  | signReplyFailure => exact ⟨_, rfl, h.command (fun _ => h.toTrafficStable.replyFails h.toRetentionStable) hs⟩
  | supplyLowChange => exact ⟨_, rfl, h.command (fun _ => h.setPower) hs⟩
  | tick => exact ⟨_, rfl, h.command (fun _ => h.tickOnce) hs⟩
  | flashStep => exact ⟨_, rfl, h.command (fun _ => h.flashStepOnce) hs⟩
  | samplingTick => exact ⟨_, rfl, h.samplingTick hs⟩
  | limitArrival => exact ⟨_, rfl, h.command (fun _ => h.toGateStable.limitArrives) hs⟩
  | limitLost => exact ⟨_, rfl, h.command (fun _ => h.toGateStable.limitDeparts) hs⟩
  | presenceChange => exact ⟨_, rfl, h.command (fun _ => h.toGateStable.presenceTo) hs⟩
  | encoderStep | loopInputChange => exact ⟨_, rfl, h.command (fun _ => h.observe) hs⟩
  | flashReadDone => exact ⟨_, rfl, h.command (fun _ => h.toTrafficStable.readDone) hs⟩
  | programDone => exact ⟨_, rfl, h.command (fun _ => h.programDone) hs⟩
  | eraseDone => exact ⟨_, rfl, h.command (fun _ => h.eraseDone) hs⟩
  | profileSaved => exact ⟨_, rfl, h.command (fun _ => h.saveDone) hs⟩
  | passClockSecond | flashPhaseEnd | chRecover | chActive | chQuiet | confirmTimeout | leadEnd | stallFault | motionTimeout
  | pauseEnd | relower | stuck | stuckLeft | rotationStep | refreshDue | signLapsed | criticalPoint | pollDue | holdEntry
  | heldWakeAge | flashTimeout => exact ⟨_, rfl, h.runEvent hs⟩
  | _ => exact ⟨_, rfl, hrequest _⟩

/-- A step, from what every command keeps. -/
theorem StepStable.step {P : State → Prop} (h : StepStable P) {s : State} (hs : P s)
    (hexec : ∀ c u, P u → ∃ t, Machine.exec c u = .next t ∧ P t) : ∃ t, Machine.step s = .next t ∧ P t := by
  unfold Machine.step
  split
  · exact hexec _ _ (h.aside hs ⟨rfl, rfl, rfl, rfl, rfl, rfl, rfl⟩)
  · split
    · exact ⟨_, rfl, h.runEvent hs⟩
    · exact ⟨_, rfl, hs⟩

/-! ### Properties that a report's leaving keeps -/

/-- A received byte changes the frames received and the frame being received, and nothing else of the link (R184). -/
theorem Link.receiveByte_eq (k : Link) (b : Byte) :
    ∃ frames partialFrame, k.receiveByte b = { k with rxFrames := frames, rxPartial := partialFrame } := by
  have hextend (bytes : List Byte) :
      ∃ frames partialFrame, k.extend bytes = { k with rxFrames := frames, rxPartial := partialFrame } := by
    unfold Link.extend
    split
    · exact ⟨_, _, rfl⟩
    · split
      · exact ⟨_, _, rfl⟩
      · split <;> exact ⟨_, _, rfl⟩
  unfold Link.receiveByte
  split
  · exact ⟨_, _, rfl⟩
  · split
    · split <;> exact ⟨_, _, rfl⟩
    · exact hextend _

/-- A property that every change within bounds keeps, every report, and every report's leaving the set. -/
structure LinkStable (P : State → Prop) : Prop extends RecordStable P where
  link : ∀ {s : State} {k : Link}, P s → k.reports.Sublist s.link.reports → P { s with link := k }

namespace LinkStable

variable {P : State → Prop} (h : LinkStable P) {s : State}
include h

theorem applyRequest {c : Instr} (hs : P s) : P (s.applyRequest c).state :=
  h.toRecordStable.applyRequest (h.link hs (List.nil_sublist _)) hs

theorem putReply {a : Answer} {b : Byte × Byte} (hs : P a.state) : P (State.putReply a b) := h.link hs (List.Sublist.refl _)

theorem parse (hs : P s) : P s.parse := by
  unfold State.parse
  split
  · exact h.putReply (h.applyRequest (h.link hs (List.Sublist.refl _)))
  · exact hs

theorem receiveByte {b : Byte} (hs : P s) : P (s.updLink fun k => k.receiveByte b) := by
  obtain ⟨frames, partialFrame, hk⟩ := s.link.receiveByte_eq b
  exact h.link hs (by dsimp only; rw [hk])

theorem receive {bs : List Byte} (hs : P s) : P (s.receive bs) := foldl_keeps (fun _ _ hu => h.parse (h.receiveByte hu)) _ hs

theorem request {c : Instr} (hs : P s) : P (s.request c) :=
  h.toStepStable.command (fun _ hu => iteInduction (fun _ => h.putReply (h.applyRequest hu)) fun _ => h.receive hu) hs

theorem sendReply (hs : P s) : P s.sendReply := by
  unfold State.sendReply
  split
  · exact hs
  · exact h.parse (h.link hs (List.Sublist.refl _))

theorem sendReport (hs : P s) : P s.sendReport := by
  unfold State.sendReport State.reportTaken
  split
  · next e rest _ hr =>
    have hsent : P (s.updLink fun k => { k with reports := rest, lastSent := s.reportFrame e }) :=
      h.link hs (by rw [hr]; exact List.sublist_cons_self _ _)
    split
    · exact h.toStepStable.releaseSlot hsent
    · exact hsent
  · exact hs

/-! ### The full reset (R181, R190) -/

theorem startSegment {i : Fin 4} (hs : P s) : P (s.startSegment i) := by
  have hr := h.toRecordStable
  unfold State.startSegment
  split
  · exact hs
  · dsimp only
    have hcause : P (s.updSegment i fun r => { r with causes := [.restart] }) := hr.setSegment hs
    generalize (s.updSegment i fun r => { r with causes := [.restart] }) = u at hcause
    split
    · exact hr.setPosture hcause
    · exact hr.evalConfirmPhase (hr.beginConfirm hcause)

theorem startPlan {n : Fin 16} (hs : P s) : P (s.startPlan n) := by
  unfold State.startPlan
  dsimp only
  split
  · exact h.toRecordStable.setSign hs
  · exact hs

theorem startLine {l : Fin 2} (hs : P s) : P (s.startLine l) :=
  foldl_keeps (f := fun s n => s.updSign n (Sign.startRetention _)) (fun _ _ hu => h.toRecordStable.setSign hu) _
    (h.toStepStable.toTrafficStable.updLine hs)

theorem startLoad {l : Fin 2} (hs : P s) : P (s.startLoad l) :=
  h.toStepStable.toRetentionStable.reserveSettle (h.toStepStable.toRetentionStable.recomputeShed hs)

theorem startPaths (hs : P s) : P s.startPaths := h.toRecordStable.same hs ⟨rfl, rfl, rfl, rfl⟩

/-- A full reset keeps a property that the start-up records have. -/
theorem fullReset {cause : FullResetCause} {pins : Pins}
    (hs : P (s.cutFlash.records cause pins (loadProfile s.cutFlash.flash pins.preset).1 (loadProfile s.cutFlash.flash pins.preset).2))
    (hstart : ∀ u, P u → P u.started) : P (s.fullReset cause pins) := by
  have hsegments := foldl_keeps (f := State.startSegment) (fun _ i hu => h.startSegment (i := i) hu) (List.finRange 4)
    (h.startPaths hs)
  have hplans := foldl_keeps (f := State.startPlan) (fun _ n hu => h.startPlan (n := n) hu) (List.finRange 16) hsegments
  exact hstart _ (h.startLoad (h.startLoad (h.startLine (h.startLine hplans))))

end LinkStable

end Sys2Proof.Machine
end

section
/-! SUPPORT. The queue and the invariants between steps (R53, R141, R173, R176, R177, R190). -/

namespace Sys2Proof.Machine

/-- Settles O1: the queue's front decides the step. -/
theorem stepTakesFront : Obligations.StepTakesFront := by
  unfold Obligations.StepTakesFront
  intro c q s hp
  unfold step
  rw [hp]

/-! ### No arbitration is owed between steps -/

theorem State.command_calm (s : State) (f : State → State) : (s.command f).calm := State.conclude_calm _ _

theorem State.runEvent_calm (s : State) (d : Due) (hs : s.calm) : (s.runEvent d).calm :=
  iteInduction (motive := State.calm) (fun _ => State.conclude_calm _ _) fun _ => hs

theorem State.samplingTick_calm (s : State) (x : Vector (BitVec 12) 16) (hs : s.calm) : (s.samplingTick x).calm :=
  iteInduction (motive := State.calm) (fun _ => State.conclude_calm _ _) fun _ => hs

theorem State.started_calm (s : State) : s.started.calm :=
  (State.calm_of_lines s.clearArbitrations s.started rfl).2 s.clearArbitrations_calm

/-- A command leaves no arbitration owed where none was. -/
theorem exec_calm (c : Instr) (s : State) (hs : s.calm) : ∃ t, exec c s = .next t ∧ t.calm := by
  cases hc : leavesDue c
  · obtain ⟨f, hf⟩ := exec_eq_command c hc
    exact ⟨_, hf s, s.command_calm f⟩
  · cases c with
    | fullReset => exact ⟨_, rfl, State.started_calm _⟩
    | samplingTick => exact ⟨_, rfl, s.samplingTick_calm _ hs⟩
    | passClockSecond | flashPhaseEnd | chRecover | chActive | chQuiet | confirmTimeout | leadEnd | stallFault | motionTimeout
    | pauseEnd | relower | stuck | stuckLeft | rotationStep | refreshDue | signLapsed | criticalPoint | pollDue | holdEntry
    | heldWakeAge | flashTimeout => exact ⟨_, rfl, s.runEvent_calm _ hs⟩
    | _ => cases hc

theorem step_calm (s : State) (hs : s.calm) : ∃ t, step s = .next t ∧ t.calm := by
  unfold step
  split
  · exact exec_calm _ _ hs
  · split
    · exact ⟨_, rfl, s.runEvent_calm _ hs⟩
    · exact ⟨_, rfl, hs⟩

/-! ### The report set, the queues and the flash -/

/-- The invariants apart from the arbitrations: distinct reports, bounded queues, and the flash in its canonical form. -/
def State.bounded (s : State) : Prop := s.reportsDistinct ∧ s.queuesBounded ∧ s.flash.wf = true

theorem State.bounded_of {s t : State} (hs : s.bounded) (hr : t.reportsDistinct) (hl : s.lib.bounded → t.lib.bounded)
    (ht : s.trace.entries.length ≤ 128 → t.trace.entries.length ≤ 128) (hf : s.flash.wf = true → t.flash.wf = true) :
    t.bounded := by
  obtain ⟨-, ⟨hmiss, hwork, hfaulted, htrace⟩, hflash⟩ := hs
  obtain ⟨hmiss', hwork', hfaulted'⟩ := hl ⟨hmiss, hwork, hfaulted⟩
  exact ⟨hr, ⟨hmiss', hwork', hfaulted', ht htrace⟩, hf hflash⟩

theorem linkStable_bounded : LinkStable State.bounded where
  follow hs h := State.bounded_of hs (by unfold State.reportsDistinct; rw [h.reports]; exact hs.1) h.lib h.trace h.flash
  post hs := State.bounded_of hs (State.post_distinct _ _ _ hs.1) id id id
  link hs h := State.bounded_of hs (List.Nodup.sublist (h.map _) hs.1) id id id

theorem State.freeFlash_wf (s : State) (a n : Nat) (h : s.flash.wf = true) : (s.freeFlash a n).flash.wf = true :=
  flashWriteAll_wf _ _ _ h

theorem State.cutFlash_wf (s : State) (h : s.flash.wf = true) : s.cutFlash.flash.wf = true := by
  unfold State.cutFlash
  split
  · exact h
  · exact h
  all_goals exact s.freeFlash_wf _ _ h

/-- A full reset starts with empty queues, one report, and a flash that is still in its canonical form. -/
theorem State.fullReset_bounded (s : State) (cause : FullResetCause) (pins : Pins) (hs : s.bounded) :
    (s.fullReset cause pins).bounded := by
  refine linkStable_bounded.fullReset ⟨List.nodup_singleton _, by simp [State.queuesBounded, State.records, Library.start],
    s.cutFlash_wf hs.2.2⟩ fun u hu => State.bounded_of hu (List.nodup_singleton _) id id id

theorem exec_bounded (c : Instr) (s : State) (hs : s.bounded) : ∃ t, exec c s = .next t ∧ t.bounded := by
  have h := linkStable_bounded
  exact h.toStepStable.exec hs
    (hreply := fun _ _ => h.toStepStable.command (fun _ hu => h.toStepStable.toTrafficStable.takeReply h.toStepStable.toRetentionStable (fun _ _ => h.toDisplayStable.endAck hu) hu) hs)
    (hrequest := fun _ => h.request hs)
    (hreceive := fun _ => h.toStepStable.command (fun _ => h.receive) hs)
    (hgap := fun _ => h.toStepStable.command (fun _ hu => h.link (h.receive hu) (List.Sublist.refl _)) hs)
    (hsend := h.toStepStable.command (fun _ => h.sendReply) hs)
    (hreport := h.toStepStable.command (fun _ => h.sendReport) hs)
    (hreset := fun cause pins => s.fullReset_bounded cause pins hs)

/-- Settles O59: no step can stop, none leaves an arbitration owed, and what reports, queues and flash keep is kept by every
command. -/
theorem invKeptByStep : Obligations.InvKeptByStep := by
  unfold Obligations.InvKeptByStep
  rintro s ⟨hcalm, hbounded⟩
  obtain ⟨t, ht, hkept⟩ := linkStable_bounded.toStepStable.step hbounded exec_bounded
  obtain ⟨u, hu, hquiet⟩ := step_calm s hcalm
  cases Host.Outcome.next.inj (hu.symm.trans ht)
  exact ⟨t, ht, hquiet, hkept⟩

/-- A power-on with every input inactive, evaluated. -/
theorem State.reset_fullReset :
    State.reset.fullReset .powerOn
      { preset := 0, supplyLow := false, openLimits := 0, closedLimits := 0, presence := 0, inputA := 0, inputB := 0 } =
      State.reset := by decide +kernel

theorem exec_fullReset (cause : FullResetCause) (pins : Pins) (s : State) :
    exec (.fullReset cause pins) s = .next (s.fullReset cause pins) := rfl

/-- Settles O60: the reset state has empty queues and one report, and a power-on is evaluated. -/
theorem invAtReset : Obligations.InvAtReset := by
  unfold Obligations.InvAtReset
  refine ⟨⟨rfl, List.nodup_singleton _, ?_, State.reset_flash_wf⟩, ⟨⟨rfl, rfl⟩, rfl⟩, ?_⟩
  · simp [State.queuesBounded, State.reset]
  · rw [exec_fullReset, State.reset_fullReset]

end Sys2Proof.Machine
end

section
/-! SUPPORT. The segment records stay sound (R1, R3 to R13): each rule of closing and reopening, then every change of the device. -/

namespace Sys2Proof.Machine

/-! ### Records -/

/-- A segment record is sound beside its confirmation: CONFIRM waits, and the closing is sound. -/
def Segment.Sound (r : Segment) (confirmed : Bool) : Prop := (r.phase = .confirm → confirmed = false) ∧ r.closingSound confirmed

/-- Soundness reads posture, phase, causes and CONFIRM_MISSING alone, and asks less where confirmation is not met. -/
theorem Segment.Sound.mono {r r' : Segment} {c c' : Bool} (h : r.Sound c) (hr : r.SameClosing r') (hc : c' = true → c = true) :
    r'.Sound c' := by
  obtain ⟨hp, hf, hcs, hm⟩ := hr
  unfold Segment.Sound Segment.closingSound at *
  rw [hp, hf, hcs, hm]
  cases c <;> cases c' <;> simp_all

theorem Segment.Sound.causes_iff {r : Segment} {c : Bool} (h : r.Sound c) :
    r.causes ≠ [] ↔ r.posture = .closing ∨ r.posture = .closed := h.2.1

theorem Segment.Sound.phase_iff {r : Segment} {c : Bool} (h : r.Sound c) : r.phase ≠ .noPhase ↔ r.posture = .closing := h.2.2.1

theorem Segment.Sound.closing {r : Segment} {c : Bool} (h : r.Sound c) {p : Phase} (hp : r.phase = p) (hn : p ≠ .noPhase) :
    r.posture = .closing := h.phase_iff.1 (hp ▸ hn)

/-- In an open posture, and in REOPENING, a record without causes is sound. -/
theorem Segment.sound_of_noCauses {r : Segment} {c : Bool} (hc : r.causes = []) (hp : r.posture ≠ .closing)
    (hq : r.posture ≠ .closed) (hf : r.phase = .noPhase) : r.Sound c := by
  simp [Segment.Sound, Segment.closingSound, hc, hp, hq, hf]

/-- In CLOSING past CONFIRM a record with causes is sound where CONFIRM_MISSING is not set beside a met confirmation. -/
theorem Segment.sound_of_closing {r : Segment} {c : Bool} (hc : r.causes ≠ []) (hp : r.posture = .closing)
    (hf : r.phase = .lead ∨ r.phase = .lower) (hm : c = true → r.confirmMissing = false) : r.Sound c := by
  rcases hf with hf | hf <;> simpa [Segment.Sound, Segment.closingSound, hc, hp, hf] using hm

theorem Segment.sound_of_closed {r : Segment} {c : Bool} (hc : r.causes ≠ []) (hp : r.posture = .closed)
    (hf : r.phase = .noPhase) (hm : c = true → r.confirmMissing = false) : r.Sound c := by
  simpa [Segment.Sound, Segment.closingSound, hc, hp, hf] using hm

/-- In CONFIRM a record with causes is sound while its confirmation is not met. -/
theorem Segment.sound_of_confirm {r : Segment} {c : Bool} (hc : r.causes ≠ []) (hp : r.posture = .closing)
    (hf : r.phase = .confirm) (hm : r.confirmMissing = false) (hn : c = false) : r.Sound c := by
  simp [Segment.Sound, Segment.closingSound, hc, hp, hf, hm, hn]

/-! ### All records beside given confirmations -/

/-- Every segment record is sound beside a given confirmation of each. -/
def State.soundFor (c : Fin 4 → Bool) (s : State) : Prop := ∀ i : Fin 4, (s.segment i).Sound (c i)

theorem State.closingSound_iff (s : State) : s.closingSound ↔ s.soundFor s.confirmed :=
  ⟨fun ⟨hw, hc⟩ i => ⟨hw i, hc i⟩, fun h => ⟨fun i => (h i).1, fun i => (h i).2⟩⟩

variable {c : Fin 4 → Bool} {s : State}

theorem State.soundFor_of_segments {t : State} (h : t.segments = s.segments) (hs : s.soundFor c) : t.soundFor c := fun i => by
  rw [State.segment, h]
  exact hs i

/-- Every record but one is sound: what a rule of closing finds while it writes that one. -/
def State.soundBut (i : Fin 4) (c : Fin 4 → Bool) (s : State) : Prop := ∀ j : Fin 4, j ≠ i → (s.segment j).Sound (c j)

theorem State.soundFor.but (hs : s.soundFor c) (i : Fin 4) : s.soundBut i c := fun j _ => hs j

theorem State.soundBut.all {i : Fin 4} (hs : s.soundBut i c) (hi : (s.segment i).Sound (c i)) : s.soundFor c := fun j => by
  by_cases h : j = i
  · exact h ▸ hi
  · exact hs j h

theorem State.soundBut.setSegment {i : Fin 4} {r : Segment} (hs : s.soundBut i c) : (s.setSegment i r).soundBut i c := fun j hj => by
  rw [State.setSegment_segment_other _ _ _ _ hj]
  exact hs j hj

/-- A segment takes a posture and a phase in which its record is sound. -/
theorem State.soundBut.setPosture {i : Fin 4} {p : Posture} {ph : Phase} (hs : s.soundBut i c)
    (hi : ((s.segment i).withPosture p ph).Sound (c i)) : (s.setPosture i p ph).soundFor c := by
  unfold State.setPosture
  dsimp only
  split
  · next h =>
    refine hs.all ?_
    obtain ⟨hp, hf⟩ := h
    by_cases hopen : p = .opened ∨ p = .caution
    · have hne : p ≠ .closing ∧ p ≠ .closed := by rcases hopen with rfl | rfl <;> simp
      have hph : ph = .noPhase := not_not.1 (mt hi.phase_iff.1 hne.1)
      have hcs : (s.segment i).causes = [] := not_not.1 (mt hi.causes_iff.1 (not_or.2 hne))
      exact Segment.sound_of_noCauses hcs (hp ▸ hne.1) (hp ▸ hne.2) (hf.trans hph)
    · exact hi.mono ⟨hp, hf, rfl, by simp [Segment.withPosture, hopen]⟩ id
  · exact State.soundFor_of_segments rfl (hs.setSegment.all (by simpa using hi))

theorem State.soundFor.setSegment {i : Fin 4} {r : Segment} (hs : s.soundFor c) (hr : (s.segment i).SameClosing r) :
    (s.setSegment i r).soundFor c :=
  (hs.but i).setSegment.all (by simpa using (hs i).mono hr id)

/-! ### Completions and the drives of the gates (R10, R12) -/

theorem State.soundFor.completeLower {i : Fin 4} (hs : s.soundFor c) : (s.completeLower i).soundFor c := by
  unfold State.completeLower
  split
  · next h =>
    have hp : (s.segment i).posture = .closing := (hs i).closing h.1 (by simp)
    exact (hs.but i).setPosture (Segment.sound_of_closed ((hs i).causes_iff.2 (.inl hp)) rfl rfl
      ((hs i).2.2.2.2 (.inl hp)))
  · exact hs

/-- An open posture taken by a record without causes. -/
theorem State.soundFor.openPosture {i : Fin 4} (hs : s.soundFor c) (hc : (s.segment i).causes = []) :
    (s.setPosture i (s.openPosture i) .noPhase).soundFor c := by
  refine (hs.but i).setPosture (Segment.sound_of_noCauses hc ?_ ?_ rfl) <;>
    simp only [Segment.withPosture, State.openPosture] <;> split <;> simp

theorem State.soundFor.completeReopen {i : Fin 4} (hs : s.soundFor c) : (s.completeReopen i).soundFor c := by
  unfold State.completeReopen
  split
  · next h => exact hs.openPosture (not_not.1 (mt (hs i).causes_iff.1 (by simp [h.1])))
  · exact hs

/-- Gates and flashers are no segments, and the completions keep every record sound. -/
theorem gateStable_soundFor (c : Fin 4 → Bool) : GateStable (State.soundFor c) where
  gate hs := State.soundFor_of_segments rfl hs
  flasher _ hs := State.soundFor_of_segments rfl hs
  post hs := State.soundFor_of_segments rfl hs
  completeLower hs := hs.completeLower
  completeReopen hs := hs.completeReopen

/-! ### Closing and reopening (R4 to R10) -/

/-- LOWER begins on a record with causes whose CONFIRM_MISSING is clear where confirmation is met. -/
theorem State.soundBut.enterLower {i : Fin 4} (hs : s.soundBut i c) (hc : (s.segment i).causes ≠ [])
    (hm : c i = true → (s.segment i).confirmMissing = false) : (s.enterLower i).soundFor c :=
  State.soundFor.completeLower ((gateStable_soundFor c).gatesDown (hs.setPosture
    (Segment.sound_of_closing hc rfl (.inr rfl) hm)))

/-- CONFIRM ends, on such a record. -/
theorem State.soundBut.endConfirm {i : Fin 4} (hs : s.soundBut i c) (hc : (s.segment i).causes ≠ [])
    (hm : c i = true → (s.segment i).confirmMissing = false) : (s.endConfirm i).soundFor c :=
  iteInduction (fun _ => hs.enterLower hc hm) fun _ => hs.setPosture (Segment.sound_of_closing hc rfl (.inl rfl) hm)

theorem State.soundFor.endLead {i : Fin 4} (hs : s.soundFor c) : (s.endLead i).soundFor c := by
  unfold State.endLead
  split
  · next h =>
    have hp : (s.segment i).posture = .closing := (hs i).closing (p := .lead) (by simp_all [Segment.leadOver]) (by simp)
    exact (hs.but i).enterLower ((hs i).causes_iff.2 (.inl hp)) ((hs i).2.2.2.2 (.inl hp))
  · exact hs

theorem State.soundFor.timeoutConfirm {i : Fin 4} (hs : s.soundFor c) : (s.timeoutConfirm i).soundFor c := by
  unfold State.timeoutConfirm
  split
  · next h =>
    have hf : (s.segment i).phase = .confirm := by simp_all [Segment.confirmOver]
    have hp : (s.segment i).posture = .closing := (hs i).closing hf (by simp)
    refine State.soundBut.endConfirm (fun j hj => ?_) ?_ ?_
    · simpa [State.postSeg, State.updSegment, State.setSegment_segment_other _ _ _ _ hj] using hs j
    · simpa [State.postSeg, State.updSegment] using (hs i).causes_iff.2 (.inl hp)
    · simp [(hs i).1 hf]
  · exact hs

end Sys2Proof.Machine
end

section
/-! SUPPORT. The segment records stay sound: what a change of causes does, and the evaluations of confirmation (R3 to R9, R13). -/

namespace Sys2Proof.Machine

variable {c : Fin 4 → Bool} {s : State}

/-! ### Entering CONFIRM (R4, R7) -/

/-- Segment i has just entered CONFIRM, its confirmation not yet evaluated, and every other record is sound. -/
def State.beginning (i : Fin 4) (c : Fin 4 → Bool) (s : State) : Prop :=
  s.soundFor (Function.update c i false) ∧ (s.segment i).phase = .confirm

theorem State.beginning.but {i : Fin 4} (hs : s.beginning i c) : s.soundBut i c := fun j hj => by
  simpa [Function.update_of_ne hj] using hs.1 j

theorem State.beginning.causes {i : Fin 4} (hs : s.beginning i c) : (s.segment i).causes ≠ [] :=
  (hs.1 i).causes_iff.2 (.inl ((hs.1 i).closing hs.2 (by simp)))

theorem State.setPosture_segment_other {i j : Fin 4} {p : Posture} {ph : Phase} (h : j ≠ i) :
    (s.setPosture i p ph).segment j = s.segment j := by
  unfold State.setPosture
  dsimp only
  split
  · rfl
  · simp [State.postSeg, State.setSegment_segment_other _ _ _ _ h]

/-- No drive of a gate changes a segment that has just entered CONFIRM. -/
theorem gateStable_beginning (i : Fin 4) (c : Fin 4 → Bool) : GateStable (State.beginning i c) where
  gate hs := ⟨(gateStable_soundFor _).gate hs.1, hs.2⟩
  flasher _ hs := ⟨(gateStable_soundFor _).flasher (by assumption) hs.1, hs.2⟩
  post hs := ⟨(gateStable_soundFor _).post hs.1, hs.2⟩
  completeLower {s j} hs := by
    refine ⟨hs.1.completeLower, ?_⟩
    unfold State.completeLower
    split
    · next h =>
      by_cases hj : i = j
      · exact absurd (hj ▸ h.1) (by simp [hs.2])
      · rw [State.setPosture_segment_other hj, hs.2]
    · exact hs.2
  completeReopen {s j} hs := by
    refine ⟨hs.1.completeReopen, ?_⟩
    unfold State.completeReopen
    split
    · next h =>
      by_cases hj : i = j
      · exact absurd (hj ▸ h.1) (by simp [(hs.1 i).closing hs.2 (by simp)])
      · rw [State.setPosture_segment_other hj, hs.2]
    · exact hs.2

theorem State.soundBut.beginConfirm {i : Fin 4} (hs : s.soundBut i c) (hc : (s.segment i).causes ≠ []) :
    (s.beginConfirm i).beginning i c := by
  have hbut : s.soundBut i (Function.update c i false) := fun j hj => by simpa [Function.update_of_ne hj] using hs j hj
  unfold State.beginConfirm
  dsimp only
  have hset : ((s.setSegment i { s.segment i with pathLimit := (s.segment i).hasPath, confirmMissing := false }).postIf
      (s.segment i).confirmMissing (.segment i) Flag.segConfirmMissing).soundBut i (Function.update c i false) := fun j hj => by
    simpa [State.setSegment_segment_other _ _ _ _ hj] using hbut j hj
  refine ⟨hset.setPosture (Segment.sound_of_confirm ?_ rfl rfl ?_ (by simp)), ?_⟩
  · simpa [Segment.withPosture] using hc
  · simp [Segment.withPosture]
  · unfold State.setPosture
    dsimp only
    split
    · next h => exact h.2
    · simp [State.postSeg, Segment.withPosture]

/-- The first evaluation of confirmation ends CONFIRM at once or leaves it waiting. -/
theorem State.beginning.evalConfirmPhase {i : Fin 4} (hs : s.beginning i c) (hc : s.confirmed i = c i) :
    (s.evalConfirmPhase i).soundFor c := by
  have hmissing : (s.segment i).confirmMissing = false := (hs.1 i).2.2.2.1 hs.2
  unfold State.evalConfirmPhase
  split
  · exact hs.but.endConfirm hs.causes fun _ => hmissing
  · next h =>
    have hwait : c i = false := by rw [← hc]; simpa [hs.2] using h
    exact hs.but.all (by simpa [hwait] using hs.1 i)

/-! ### Confirmation does not depend on gates and segments (R7) -/

theorem State.signs_of_exceptBarriers {t : State} (h : t.exceptBarriers = s.exceptBarriers) : t.signs = s.signs := by
  show t.exceptBarriers.signs = s.exceptBarriers.signs
  rw [h]

/-- Confirmation follows the sign records alone. -/
theorem State.confirmed_of_signs {t : State} (h : t.signs = s.signs) : t.confirmed = s.confirmed := by
  funext i
  simp [State.confirmed, State.advanceOf, State.sign, h]

theorem State.confirmed_of_exceptBarriers {t : State} (h : t.exceptBarriers = s.exceptBarriers) : t.confirmed = s.confirmed :=
  State.confirmed_of_signs (State.signs_of_exceptBarriers h)

/-! ### Causes (R3 to R5, R13) -/

theorem insertCause_ne_nil (c : Cause) (l : List Cause) : insertCause c l ≠ [] := by
  cases l with
  | nil => simp [insertCause]
  | cons d rest => unfold insertCause; split <;> simp

/-- What an added cause does, on a record that is sound but for the cause it has gained. -/
theorem State.soundBut.causeEffect {i : Fin 4} {x : Cause} {b : Bool} (hcf : s.confirmed = c) (hs : s.soundBut i c)
    (hc : (s.segment i).causes ≠ [])
    (hi : (s.segment i).posture = .closing ∨ (s.segment i).posture = .closed → (s.segment i).Sound (c i)) :
    (s.causeEffect i x b).soundFor c := by
  have hopen : ((s.beginConfirm i).evalConfirmPhase i).soundFor c :=
    (hs.beginConfirm hc).evalConfirmPhase (by rw [State.confirmed_of_exceptBarriers (State.beginConfirm_exceptBarriers s i), hcf])
  unfold State.causeEffect
  split
  case h_1 | h_2 => exact hopen
  case h_3 =>
    have hback := foldl_keeps (f := State.gateBack) (fun _ g hu => (gateStable_beginning i c).gateBack (i := g) hu)
      (s.gatesOf i) (hs.beginConfirm hc)
    have hsigns : ((s.gatesOf i).foldl State.gateBack (s.beginConfirm i)).exceptBarriers = s.exceptBarriers := by
      rw [foldl_leaves _ _ State.gateBack_exceptBarriers, State.beginConfirm_exceptBarriers]
    exact hback.evalConfirmPhase (by rw [State.confirmed_of_exceptBarriers hsigns, hcf])
  case h_4 hp hf =>
    have hsound := hs.all (hi (.inl hp))
    split
    · exact (hsound.setSegment (r := { s.segment i with pathLimit := true }) ⟨rfl, rfl, rfl, rfl⟩).timeoutConfirm
    · exact hsound
  case h_5 hp hf =>
    have hsound := hs.all (hi (.inl hp))
    split
    · exact hs.enterLower hc ((hsound i).2.2.2.2 (.inl hp))
    · exact hsound
  case h_6 hp _ | h_7 hp _ => exact hs.all (hi (.inl hp))
  case h_8 hp => exact hs.all (hi (.inr hp))

theorem State.soundFor.addCause {i : Fin 4} {x : Cause} (hcf : s.confirmed = c) (hs : s.soundFor c) :
    (s.addCause i x).soundFor c := by
  unfold State.addCause
  dsimp only
  split
  · exact hs
  · have hc := insertCause_ne_nil x (s.segment i).causes
    refine State.soundBut.causeEffect (hcf ▸ State.confirmed_of_signs rfl) (fun j hj => ?_) ?_ fun hp => ?_
    · simpa [State.postSeg, State.setSegment_segment_other _ _ _ _ hj] using hs j
    · simpa [State.postSeg] using hc
    · have h := hs i
      have hp' : (s.segment i).posture = .closing ∨ (s.segment i).posture = .closed := by simpa [State.postSeg] using hp
      simpa [State.postSeg, Segment.Sound, Segment.closingSound, hc, hp'] using
        (⟨h.1, h.phase_iff, h.2.2.2.1, h.2.2.2.2 hp'⟩ : _ ∧ _ ∧ _ ∧ _)

theorem State.soundFor.removeCause {i : Fin 4} {x : Cause} (hs : s.soundFor c) : (s.removeCause i x).soundFor c := by
  unfold State.removeCause
  dsimp only
  split
  · exact hs
  · next hx =>
    have hheld : (s.segment i).causes ≠ [] := fun h => hx (by simp [h])
    have hp := (hs i).causes_iff.1 hheld
    have hbut : ((s.setSegment i { s.segment i with causes := (s.segment i).causes.filter (· != x) }).postSeg i
        Flag.segCauses).soundBut i c := fun j hj => by
      simpa [State.postSeg, State.setSegment_segment_other _ _ _ _ hj] using hs j
    split
    · next h =>
      refine State.soundFor.completeReopen ((gateStable_soundFor c).gatesUp (hbut.setPosture
        (Segment.sound_of_noCauses ?_ (by simp [Segment.withPosture]) (by simp [Segment.withPosture]) rfl)))
      simpa [State.postSeg, Segment.withPosture] using h.1
    · next h =>
      have hleft : (s.segment i).causes.filter (· != x) ≠ [] := fun hn => h ⟨hn, hp⟩
      refine hbut.all ?_
      have hi := hs i
      simpa [State.postSeg, Segment.Sound, Segment.closingSound, hleft, hp] using
        (⟨hi.1, hi.phase_iff, hi.2.2.2.1, hi.2.2.2.2 hp⟩ : _ ∧ _ ∧ _ ∧ _)

end Sys2Proof.Machine
end

section
/-! SUPPORT. The segment records stay sound: every change of the device, the hand-overs of the signs, requests and resets. -/

namespace Sys2Proof.Machine

variable {c : Fin 4 → Bool} {s : State}

/-- A change of gates, flashers and segments that keeps every record sound beside the confirmations, which it does not change. -/
theorem State.closingSound_of_barriers {t : State} (hs : s.closingSound) (hb : t.exceptBarriers = s.exceptBarriers)
    (h : s.soundFor s.confirmed → t.soundFor s.confirmed) : t.closingSound := by
  rw [State.closingSound_iff, State.confirmed_of_exceptBarriers hb]
  exact h (s.closingSound_iff.1 hs)

/-- Segments with the same closing beside sign records of which none confirms more. -/
theorem State.closingSound_of_records {t : State} (hs : s.closingSound) (hg : ∀ i, (s.segment i).SameClosing (t.segment i))
    (hn : ∀ n, (s.sign n).Dims (t.sign n)) : t.closingSound := by
  rw [State.closingSound_iff] at hs ⊢
  refine fun i => (hs i).mono (hg i) fun hc => ?_
  have hadvance : t.advanceOf i = s.advanceOf i := by
    simp only [State.advanceOf, Sign.isAdvanceOf, (hn _).role, (hn _).segments]
  simp only [State.confirmed, hadvance, List.all_eq_true] at hc ⊢
  exact fun n hm => (hn n).confirms (hc n hm)

theorem Segment.SameClosing.rfl {r : Segment} : r.SameClosing r := ⟨Eq.refl _, Eq.refl _, Eq.refl _, Eq.refl _⟩

theorem Sign.Dims.rfl {g : Sign} : g.Dims g := ⟨Eq.refl _, Eq.refl _, id⟩

theorem State.closingSound_of_eq {t : State} (hs : s.closingSound) (hg : t.segments = s.segments) (hn : t.signs = s.signs) :
    t.closingSound :=
  State.closingSound_of_records hs (fun i => by rw [State.segment, State.segment, hg]; exact Segment.SameClosing.rfl)
    fun n => by rw [State.sign, State.sign, hn]; exact Sign.Dims.rfl

theorem Sign.tick_dims (g : Sign) : g.Dims g.tick := by
  unfold Sign.tick
  split <;> exact Sign.dims_of_eq ⟨rfl, rfl, rfl⟩

theorem Segment.tick_sameClosing (r : Segment) : r.SameClosing r.tick := by
  unfold Segment.tick
  split <;> exact ⟨rfl, rfl, rfl, rfl⟩

/-- Every elementary change keeps the segment records sound. -/
theorem stepStable_closingSound : StepStable State.closingSound where
  gate hs := State.closingSound_of_eq hs rfl rfl
  flasher _ hs := State.closingSound_of_eq hs rfl rfl
  post hs := State.closingSound_of_eq hs rfl rfl
  completeLower hs := State.closingSound_of_barriers hs (by simp) fun h => h.completeLower
  completeReopen hs := State.closingSound_of_barriers hs (by simp) fun h => h.completeReopen
  line hs := State.closingSound_of_eq hs rfl rfl
  lib _ hs := State.closingSound_of_eq hs rfl rfl
  aside hs h := State.closingSound_of_eq hs h.segments h.signs
  sign {s n g} hg hs := State.closingSound_of_records hs (fun _ => Segment.SameClosing.rfl) fun m => by
    by_cases h : n = m
    · subst h; simpa using hg
    · rw [State.setSign_sign_other _ _ _ _ (Ne.symm h)]; exact Sign.Dims.rfl
  segment hr hs := State.closingSound_of_barriers hs (by simp) fun h => h.setSegment hr
  evalOpen {s i} hs := State.closingSound_of_barriers hs (by simp) fun h => by
    unfold State.evalOpen
    split
    · next hp => exact h.openPosture (not_not.1 (mt (h i).causes_iff.1 (by rcases hp with hp | hp <;> simp [hp])))
    · exact h
  evalConfirmPhase {s i} hs := by
    unfold State.evalConfirmPhase
    rw [if_neg fun h => by simp [hs.1 i h.1] at h]
    exact hs
  evalConfirm {s i} hs := by
    have hmissing : ¬(((s.segment i).posture = .closing ∨ (s.segment i).posture = .closed) ∧
        (s.segment i).confirmMissing = true ∧ s.confirmed i = true) := fun ⟨hp, hm, hc⟩ => by
      simp [(hs.2 i).2.2.2 hp hc] at hm
    unfold State.evalConfirm State.evalConfirmPhase
    dsimp only
    rw [if_neg hmissing, if_neg fun h => by simp [hs.1 i h.1] at h]
    exact hs
  timeoutConfirm hs := State.closingSound_of_barriers hs (by simp) fun h => h.timeoutConfirm
  endLead hs := State.closingSound_of_barriers hs (by simp) fun h => h.endLead
  addCause hs := State.closingSound_of_barriers hs (by simp) fun h => h.addCause rfl
  removeCause hs := State.closingSound_of_barriers hs (by simp) fun h => h.removeCause
  pathRequest hs := State.closingSound_of_barriers hs (by simp) fun h =>
    (gateStable_soundFor _).settleFlasher (State.soundFor_of_segments rfl h)
  traceAdd {s k o v} hs := State.closingSound_of_eq hs (by simp [State.traceAdd]) (by simp [State.traceAdd])
  traceSettings _ hs := State.closingSound_of_eq hs rfl rfl
  flash _ hs := State.closingSound_of_eq hs rfl rfl
  advance {s} hs := State.closingSound_of_records hs
    (fun i => by simpa [State.advance, State.segment] using (s.segment i).tick_sameClosing)
    fun n => by simpa [State.advance, State.sign] using (s.sign n).tick_dims

/-! ### The hand-overs of the signs (R125) -/

/-- An evaluation of confirmation brings a record that was sound beside an earlier confirmation to the present one. -/
theorem State.soundFor.evalConfirm {i : Fin 4} (hs : s.soundFor c) :
    (s.evalConfirm i).soundFor (Function.update c i (s.confirmed i)) := by
  have hbut : s.soundBut i (Function.update c i (s.confirmed i)) := fun j hj => by simpa [Function.update_of_ne hj] using hs j
  have hi := hs i
  unfold State.evalConfirm
  dsimp only
  split
  · next h =>
    obtain ⟨hp, hm, hc⟩ := h
    have hf : (s.segment i).phase ≠ .confirm := fun hf => by simp [hi.2.2.2.1 hf] at hm
    refine State.soundFor_of_segments rfl ((hbut.setSegment (r := { s.segment i with confirmMissing := false })).all ?_)
    simpa [hc, Segment.Sound, Segment.closingSound, hf] using (⟨hi.causes_iff, hi.phase_iff⟩ : _ ∧ _)
  · next hmissing =>
    unfold State.evalConfirmPhase
    split
    · next h =>
      have hp : (s.segment i).posture = .closing := hi.closing h.1 (by simp)
      exact hbut.endConfirm (hi.causes_iff.2 (.inl hp)) fun _ => hi.2.2.2.1 h.1
    · next h =>
      refine hbut.all ⟨fun hf => ?_, hi.2.1, hi.2.2.1, hi.2.2.2.1, fun hp hc => ?_⟩
      · simpa [hf] using h
      · simpa [hp, show s.confirmed i = true by simpa using hc] using hmissing

/-- A segment none of whose ADVANCE signs changed what it shows or its service state has its confirmation as it was. -/
theorem State.confirmed_eq_of_unchanged {a : State} {i : Fin 4} (h : ¬(a.advanceOf i ≠ s.advanceOf i ∨ ((s.advanceOf i).any fun n =>
      (a.sign n).shown != (s.sign n).shown || (a.sign n).service != (s.sign n).service) = true)) :
    s.confirmed i = a.confirmed i := by
  obtain ⟨hadvance, hsame⟩ := not_or.1 h
  have hconfirms (n : Fin 16) (hn : n ∈ s.advanceOf i) : (s.sign n).confirms = (a.sign n).confirms := by
    have hn' : (a.sign n).shown = (s.sign n).shown ∧ (a.sign n).service = (s.sign n).service := by
      have := mt (fun hx => List.any_eq_true.2 ⟨n, hn, hx⟩) hsame
      simpa using this
    simp only [Sign.confirms, hn'.1, hn'.2]
  rw [State.confirmed, State.confirmed, not_not.1 hadvance, Bool.eq_iff_iff, List.all_eq_true, List.all_eq_true]
  exact forall₂_congr fun n hn => by rw [hconfirms n hn]

/-- The segments evaluated one after another each come to the present confirmation. -/
theorem State.soundFor_evalConfirmFor (a : State) (l : List (Fin 4)) (hl : l.Nodup)
    (hs : s.soundFor fun j => if j ∈ l then a.confirmed j else s.confirmed j) :
    (l.foldl (State.evalConfirmFor a) s).soundFor s.confirmed := by
  induction l generalizing s with
  | nil => simpa using hs
  | cons i l ih =>
    obtain ⟨hi, hl⟩ := List.nodup_cons.1 hl
    have hstep : (State.evalConfirmFor a s i).confirmed = s.confirmed := State.confirmed_of_exceptBarriers (by simp)
    have hnext : (State.evalConfirmFor a s i).soundFor fun j => if j ∈ l then a.confirmed j else s.confirmed j := by
      unfold State.evalConfirmFor
      split
      · intro j
        have hj := hs.evalConfirm (i := i) j
        by_cases h : j = i
        · subst h; simpa [hi] using hj
        · simpa [h, Function.update_of_ne h] using hj
      · next hu =>
        intro j
        have hj := hs j
        by_cases h : j = i
        · subst h; simpa [hi, State.confirmed_eq_of_unchanged hu] using hj
        · simpa [h] using hj
    rw [List.foldl_cons, ← hstep]
    exact ih hl (by rwa [hstep])

/-- Signs changed in any way are brought to the segments at the end of the step. -/
theorem State.handSigns_closingSound {a : State} (ha : a.closingSound) (hs : s.segments = a.segments) :
    (State.handSigns a s).closingSound := by
  rw [State.closingSound_iff, State.confirmed_of_exceptBarriers (State.handSigns_exceptBarriers a s)]
  refine State.soundFor_evalConfirmFor a _ (List.nodup_finRange 4) ?_
  simpa using State.soundFor_of_segments hs (a.closingSound_iff.1 ha)

/-- At the end of a step the records are sound where they were before it or where it changed no segment. -/
theorem State.conclude_closingSound {a : State} (ha : a.closingSound) (hs : s.closingSound ∨ s.segments = a.segments) :
    (State.conclude a s).closingSound :=
  hs.elim (fun h => stepStable_closingSound.conclude h)
    fun h => stepStable_closingSound.toTrafficStable.finish (State.handSigns_closingSound ha h)

end Sys2Proof.Machine
end

section
/-! SUPPORT. The segment records stay sound: requests on the link, and the resets (R22, R117, R136, R184, R189, R190). -/

namespace Sys2Proof.Machine

variable {s : State}

/-! ### Requests -/

/-- What changes signs, lines and library alone changes no segment. -/
theorem displayStable_segments (g : Vector Segment 4) : DisplayStable fun t => t.segments = g where
  line hs := hs
  lib _ hs := hs
  post hs := hs
  sign hs := hs

theorem State.partialReset_closingSound (hs : s.closingSound) : s.partialReset.closingSound := by
  have h := stepStable_closingSound
  have hpath (u : State) (n : Fin 12) (hu : u.closingSound) : (u.restartPath n).closingSound := by
    unfold State.restartPath
    exact h.handOpen (h.toGateStable.postIf (h.setPath hu))
  have hplan (u : State) (n : Fin 16) (hu : u.closingSound) : (u.restartPlan n).closingSound := by
    unfold State.restartPlan
    exact h.toGateStable.postIf (h.sign (Sign.dims_of_eq ⟨rfl, rfl, rfl⟩) hu)
  have hlibrary {u : State} (hu : u.closingSound) : u.restartLibrary.closingSound :=
    h.toGateStable.postIf (State.closingSound_of_eq hu rfl rfl)
  have hrereport {u : State} (hu : u.closingSound) : u.rereport.closingSound :=
    foldl_keeps (f := fun s o => s.post o 0) (fun _ _ hv => h.toGateStable.post hv) _ hu
  have houtputs {u : State} (hu : u.closingSound) : u.restartOutputs.closingSound := State.closingSound_of_eq hu rfl rfl
  have hclear {u : State} (hu : u.closingSound) : State.closingSound
      { u with trace := { u.trace with entries := [], mark := none, truncated := false, nearFullPosted := false } } :=
    State.closingSound_of_eq hu rfl rfl
  have hpaths {u : State} (hu : u.closingSound) : u.restartPaths.closingSound :=
    hclear (foldl_keeps (f := State.restartPath) hpath (List.finRange 12) hu)
  have hbegin : s.beginRestart.restartChannels.closingSound := State.closingSound_of_eq hs rfl rfl
  have hplans := foldl_keeps (f := State.restartPlan) hplan (List.finRange 16) (houtputs (hpaths hbegin))
  exact h.toGateStable.post (hrereport (hlibrary (h.toRetentionStable.restartLine (l := 1)
    (h.toRetentionStable.restartLine (l := 0) hplans))))

/-- After a request the records are sound, or it has changed no segment. -/
theorem State.applyRequest_closingSound (c : Instr) (hs : s.closingSound) :
    (s.applyRequest c).state.closingSound ∨ (s.applyRequest c).state.segments = s.segments := by
  cases hc : Instr.keepsSigns c
  · cases c with
    | setSign => exact .inr ((displayStable_segments s.segments).applySetSign rfl)
    | restart => exact .inl (State.partialReset_closingSound hs)
    | _ => cases hc
  · exact .inl (stepStable_closingSound.applyRequest hc hs)

/-! ### The link: at most one request is applied while bytes are received (R184) -/

/-- What has become of a state while bytes are received: no request has been applied, or one has, whose reply now waits. -/
def State.Handled (u t : State) : Prop :=
  (t.segments = u.segments ∧ t.signs = u.signs) ∨ (t.link.reply ≠ none ∧ (t.closingSound ∨ t.segments = u.segments))

theorem State.Handled.link {u t : State} {k : Link} (h : u.Handled t) (hk : k.reply = t.link.reply) :
    u.Handled { t with link := k } :=
  h.imp id fun ⟨hr, hseg⟩ => ⟨by simpa [hk] using hr, hseg.imp (fun hc => State.closingSound_of_eq hc rfl rfl) id⟩

/-- A request applied to a sound state, its reply in the slot. -/
theorem State.handled_putReply {u t : State} (hu : u.closingSound) (ht : t.segments = u.segments ∧ t.signs = u.signs) (c : Instr)
    (b : Byte × Byte) : u.Handled (State.putReply (t.applyRequest c) b) := by
  refine .inr ⟨by simp [State.putReply, State.updLink], ?_⟩
  have hsound := State.applyRequest_closingSound c (State.closingSound_of_eq hu ht.1 ht.2)
  exact hsound.imp (fun h => State.closingSound_of_eq h rfl rfl) fun h => h.trans ht.1

theorem State.Handled.parse {u t : State} (hu : u.closingSound) (h : u.Handled t) : u.Handled t.parse := by
  unfold State.parse
  split
  · next body rest hr _ =>
    obtain ht | ⟨hne, -⟩ := h
    · exact State.handled_putReply (t := t.updLink fun k => { k with rxFrames := rest }) hu ht _ _
    · exact absurd hr hne
  · exact h

theorem State.Handled.receive {u t : State} (hu : u.closingSound) (h : u.Handled t) (bs : List Byte) : u.Handled (t.receive bs) :=
  foldl_keeps (fun v b hv => State.Handled.parse hu (State.Handled.link hv (by
    obtain ⟨_, _, hk⟩ := v.link.receiveByte_eq b
    simp only [hk]))) bs h

/-- The end of the step that has received bytes leaves sound records. -/
theorem State.conclude_handled {u t : State} (hu : u.closingSound) (h : u.Handled t) : (State.conclude u t).closingSound :=
  State.conclude_closingSound hu (h.elim (fun ht => .inr ht.1) And.right)

/-! ### The full reset (R22, R190) -/

/-- No CONFIRM_MISSING is set. -/
def State.noneMissing (s : State) : Prop := ∀ i : Fin 4, (s.segment i).confirmMissing = false

theorem State.noneMissing_setSegment {i : Fin 4} {r : Segment} (hs : s.noneMissing) (hr : r.confirmMissing = false) :
    (s.setSegment i r).noneMissing := fun j => by
  rw [State.setSegment_segment]
  split
  · exact hr
  · exact hs j

theorem State.noneMissing_setPosture {i : Fin 4} {p : Posture} {ph : Phase} (hs : s.noneMissing) :
    (s.setPosture i p ph).noneMissing :=
  iteInduction (motive := State.noneMissing) (fun _ => hs)
    fun _ => State.noneMissing_setSegment hs (by simp [Segment.withPosture, hs i])

theorem gateStable_noneMissing : GateStable State.noneMissing where
  gate hs := hs
  flasher _ hs := hs
  post hs := hs
  completeLower hs := iteInduction (fun _ => State.noneMissing_setPosture hs) fun _ => hs
  completeReopen hs := iteInduction (fun _ => State.noneMissing_setPosture hs) fun _ => hs

theorem State.noneMissing_evalConfirmPhase {i : Fin 4} (hs : s.noneMissing) : (s.evalConfirmPhase i).noneMissing :=
  iteInduction (motive := State.noneMissing)
    (fun _ => iteInduction (motive := State.noneMissing)
      (fun _ => gateStable_noneMissing.completeLower (gateStable_noneMissing.gatesDown (State.noneMissing_setPosture hs)))
      fun _ => State.noneMissing_setPosture hs)
    fun _ => hs

theorem State.noneMissing_beginConfirm {i : Fin 4} (hs : s.noneMissing) : (s.beginConfirm i).noneMissing :=
  State.noneMissing_setPosture (gateStable_noneMissing.postIf (State.noneMissing_setSegment hs rfl))

/-- A segment takes its start-up posture: its record is sound beside the confirmation that the signs give. -/
theorem State.startSegment_sound {i : Fin 4} (hs : s.closingSound ∧ s.noneMissing) :
    (s.startSegment i).closingSound ∧ (s.startSegment i).noneMissing := by
  obtain ⟨hsound, hnone⟩ := hs
  have hmissing : (s.updSegment i fun r => { r with causes := [.restart] }).noneMissing :=
    State.noneMissing_setSegment hnone (hnone i)
  have hbut : (s.updSegment i fun r => { r with causes := [.restart] }).soundBut i s.confirmed :=
    ((s.closingSound_iff.1 hsound).but i).setSegment
  have hcauses : ((s.updSegment i fun r => { r with causes := [.restart] }).segment i).causes ≠ [] := by simp [State.updSegment]
  have hconfirmed : (s.updSegment i fun r => { r with causes := [.restart] }).confirmed = s.confirmed :=
    State.confirmed_of_signs rfl
  unfold State.startSegment
  split
  · exact ⟨hsound, hnone⟩
  · dsimp only
    generalize s.updSegment i (fun r => { r with causes := [.restart] }) = u at *
    split
    · refine ⟨?_, State.noneMissing_setPosture hmissing⟩
      rw [State.closingSound_iff, State.confirmed_of_exceptBarriers (State.setPosture_exceptBarriers _ _ _ _), hconfirmed]
      exact hbut.setPosture (Segment.sound_of_closed hcauses rfl rfl fun _ => by simp [Segment.withPosture, hmissing i])
    · refine ⟨?_, State.noneMissing_evalConfirmPhase (State.noneMissing_beginConfirm hmissing)⟩
      have hb := State.confirmed_of_exceptBarriers (State.beginConfirm_exceptBarriers u i)
      rw [State.closingSound_iff, State.confirmed_of_exceptBarriers (State.evalConfirmPhase_exceptBarriers _ _), hb, hconfirmed]
      exact (hbut.beginConfirm hcauses).evalConfirmPhase (by rw [hb, hconfirmed])

theorem Sign.startRetention_dims (t : Granularity) (g : Sign) : g.Dims (g.startRetention t) :=
  Sign.dims_of_eq ⟨rfl, rfl, rfl⟩

theorem State.fullReset_closingSound (s : State) (cause : FullResetCause) (pins : Pins) : (s.fullReset cause pins).closingSound := by
  have h := stepStable_closingSound
  have hr := h.toRetentionStable
  have hstart (u : State) (x : ProfileResult) (p : Profile) :
      (u.records cause pins x p).startPaths.closingSound ∧ (u.records cause pins x p).startPaths.noneMissing := by
    refine ⟨(State.closingSound_iff _).2 fun i => Segment.sound_of_noCauses ?_ ?_ ?_ ?_, fun i => ?_⟩ <;>
      simp [State.segment, State.startPaths, State.records, SegmentConfig.start]
  have hplan (u : State) (n : Fin 16) (hu : u.closingSound) : (u.startPlan n).closingSound := by
    unfold State.startPlan
    dsimp only
    split
    · exact h.sign (Sign.dims_of_eq ⟨rfl, rfl, rfl⟩) hu
    · exact hu
  have hline {u : State} {l : Fin 2} (hu : u.closingSound) : (u.startLine l).closingSound :=
    foldl_keeps (f := fun s n => s.updSign n (Sign.startRetention _))
      (fun _ _ hv => h.sign (Sign.startRetention_dims _ _) hv) _ (h.toTrafficStable.updLine hu)
  have hload {u : State} {l : Fin 2} (hu : u.closingSound) : (u.startLoad l).closingSound :=
    hr.reserveSettle (hr.recomputeShed hu)
  have hstarted {u : State} (hu : u.closingSound) : u.started.closingSound := State.closingSound_of_eq hu rfl rfl
  have hsegments := foldl_keeps (P := fun u => u.closingSound ∧ u.noneMissing) (f := State.startSegment)
    (fun _ _ hu => State.startSegment_sound hu) (List.finRange 4) (hstart s.cutFlash (loadProfile s.cutFlash.flash pins.preset).1
      (loadProfile s.cutFlash.flash pins.preset).2)
  have hplans := foldl_keeps (f := State.startPlan) hplan (List.finRange 16) hsegments.1
  exact hstarted (hload (l := 1) (hload (l := 0) (hline (l := 1) (hline (l := 0) hplans))))

/-! ### The obligation -/

theorem State.takeReply_closingSound {l : Fin 2} {b : BitVec 64} (hs : s.closingSound) :
    (s.takeReply l b).closingSound ∨ (s.takeReply l b).segments = s.segments := by
  have h := stepStable_closingSound
  unfold State.takeReply
  split
  · exact .inl hs
  · split
    · exact .inl (h.failAttempt h.toRetentionStable hs)
    · split
      · exact .inr ((displayStable_segments s.segments).endAck rfl)
      · exact .inl (h.nakAttempt h.toRetentionStable hs)
      · exact .inl (iteInduction (motive := State.closingSound) (fun _ => h.endMismatch h.toRetentionStable hs) fun _ => h.nakAttempt h.toRetentionStable hs)

theorem State.request_closingSound (c : Instr) (hs : s.closingSound) : (s.request c).closingSound := by
  have hd : s.settleDue.closingSound := stepStable_closingSound.settleDue hs
  refine State.conclude_handled hd ?_
  dsimp only
  split
  · exact State.handled_putReply hd ⟨rfl, rfl⟩ _ _
  · exact State.Handled.receive hd (.inl ⟨rfl, rfl⟩) _

theorem State.Handled.sendReply {u t : State} (hu : u.closingSound) (ht : t.segments = u.segments ∧ t.signs = u.signs) :
    u.Handled t.sendReply := by
  unfold State.sendReply
  split
  · exact .inl ht
  · exact State.Handled.parse hu (.inl ht)

theorem State.sendReport_closingSound (hs : s.closingSound) : s.sendReport.closingSound := by
  unfold State.sendReport State.reportTaken
  split
  · split
    · exact stepStable_closingSound.releaseSlot (State.closingSound_of_eq hs rfl rfl)
    · exact State.closingSound_of_eq hs rfl rfl
  · exact hs

theorem exec_closingSound (c : Instr) (s : State) (hs : s.closingSound) : ∃ t, exec c s = .next t ∧ t.closingSound := by
  have h := stepStable_closingSound
  have hd : s.settleDue.closingSound := h.settleDue hs
  have hreceived (bs : List Byte) : s.settleDue.Handled (s.settleDue.receive bs) := State.Handled.receive hd (.inl ⟨rfl, rfl⟩) bs
  exact h.exec hs
    (hreply := fun _ _ => State.conclude_closingSound hd (State.takeReply_closingSound hd))
    (hrequest := fun c => State.request_closingSound c hs)
    (hreceive := fun bs => State.conclude_handled hd (hreceived bs))
    (hgap := fun bs => State.conclude_handled hd ((hreceived bs).link rfl))
    (hsend := State.conclude_handled hd (State.Handled.sendReply hd ⟨rfl, rfl⟩))
    (hreport := h.command (fun _ => State.sendReport_closingSound) hs)
    (hreset := fun _ _ => s.fullReset_closingSound _ _)

/-- Settles O13: every elementary change keeps each record sound beside its confirmation; ACKs and SET_SIGN change the signs alone,
and the hand-over at the end of the step brings the segments to them. -/
theorem closingRecordsSound : Obligations.ClosingRecordsSound := by
  unfold Obligations.ClosingRecordsSound
  refine ⟨fun s hs => stepStable_closingSound.step hs exec_closingSound, ?_⟩
  rw [← State.reset_fullReset]
  exact State.fullReset_closingSound _ _ _

end Sys2Proof.Machine
end

section
/-! SUPPORT. The request codec: each kind's body spells its command and no other (R185). -/

namespace Sys2Proof.Machine

/-! ### Fields of two and of four bytes -/

theorem bytesBE_two (x : Half) : bytesBE 2 x = [(x >>> 8).setWidth 8, (x >>> 0).setWidth 8] := rfl

theorem bytesBE_four (x : Word) :
    bytesBE 4 x = [(x >>> 24).setWidth 8, (x >>> 16).setWidth 8, (x >>> 8).setWidth 8, (x >>> 0).setWidth 8] := rfl

theorem ofBytesBE_two (x : Half) : ofBytesBE 16 [(x >>> 8).setWidth 8, (x >>> 0).setWidth 8] = x := ofBytesBE_bytesBE 2 x

theorem ofBytesBE_four (x : Word) :
    ofBytesBE 32 [(x >>> 24).setWidth 8, (x >>> 16).setWidth 8, (x >>> 8).setWidth 8, (x >>> 0).setWidth 8] = x :=
  ofBytesBE_bytesBE 4 x

theorem bytesBE_ofBytesBE_two (a b : Byte) : bytesBE 2 (ofBytesBE 16 [a, b]) = [a, b] := bytesBE_ofBytesBE 2 [a, b] rfl

theorem bytesBE_ofBytesBE_four (a b c d : Byte) : bytesBE 4 (ofBytesBE 32 [a, b, c, d]) = [a, b, c, d] :=
  bytesBE_ofBytesBE 4 [a, b, c, d] rfl

/-- A list of known length, element by element. -/
theorem list_eq_ofFn {α : Type} {n : Nat} (l : List α) (h : l.length = n) : l = List.ofFn fun i : Fin n => l[i] := by
  subst h
  exact List.ofFn_getElem.symm

/-! ### Kinds -/

theorem RequestKind.ofCode_code (k : RequestKind) : RequestKind.ofCode k.code = some k := by
  cases k <;> rfl

/-- A byte names a kind only as its code. -/
theorem RequestKind.eq_code_of_ofCode {b : Byte} {k : RequestKind} (h : RequestKind.ofCode b = some k) : b = k.code := by
  unfold RequestKind.ofCode at h
  exact (beq_iff_eq.1 (List.find?_some (p := fun k : RequestKind => k.code == b) h)).symm

theorem decodeBody_of_code {kind tag : Byte} {f : List Byte} {k : RequestKind} (h : RequestKind.ofCode kind = some k) :
    decodeBody (kind :: tag :: f) = (decodeFields k tag f).getD (.badLength kind tag f) := by
  simp only [decodeBody, h]

/-! ### Fields -/

/-- Every request's body is its kind's code, its tag and the fields that spell it. -/
theorem encodeBody_request {c : Instr} {k : RequestKind} (h : c.requestKind = some k) :
    ∃ tag f, encodeBody c = k.code :: tag :: f ∧ f.length + 2 = k.bodyLength ∧ decodeFields k tag f = some c := by
  cases c with
  | pageData tag d =>
    cases h
    refine ⟨tag, bytesBE 32 d, rfl, by simp [RequestKind.bodyLength], ?_⟩
    rw [decodeFields, if_pos (bytesBE_length 32 d)]
    exact congrArg (fun x => some (Instr.pageData tag x)) (ofBytesBE_bytesBE 32 d)
  | setClock tag x =>
    cases h
    exact ⟨tag, bytesBE 4 x, rfl, rfl, by simp only [decodeFields, bytesBE_four, ofBytesBE_four]⟩
  | setSegment | adjustCount | setChannel | setPath | setGate | postNotice | setLine | setSign | setCondition | openPage
  | eraseBlock =>
    cases h
    refine ⟨_, _, rfl, rfl, ?_⟩
    simp only [decodeFields, bytesBE_two, bytesBE_four, ofBytesBE_two, ofBytesBE_four, List.append_eq, List.cons_append, List.nil_append]
  | _ => cases h <;> exact ⟨_, _, rfl, rfl, rfl⟩

/-- Fields that spell a request are its own, and it is one of the kind. -/
theorem encodeBody_of_decodeFields {k : RequestKind} {tag : Byte} {f : List Byte} {c : Instr}
    (h : decodeFields k tag f = some c) : encodeBody c = k.code :: tag :: f ∧ c.requestKind = some k := by
  cases k with
  | pageData =>
    rw [decodeFields] at h
    split at h
    · next hl => cases h; exact ⟨congrArg (0x39 :: tag :: ·) (bytesBE_ofBytesBE 32 f hl), rfl⟩
    · cases h
  | _ =>
    simp only [decodeFields] at h
    split at h
    · cases h
      simp only [encodeBody, bytesBE_ofBytesBE_two, bytesBE_ofBytesBE_four, List.cons_append, List.nil_append,
        RequestKind.code, Instr.requestKind, and_self]
    · cases h

/-- As many field bytes as the table gives spell a request. -/
theorem decodeFields_of_length {k : RequestKind} (tag : Byte) {f : List Byte} (h : f.length + 2 = k.bodyLength) :
    ∃ c, decodeFields k tag f = some c := by
  cases k with
  | pageData => exact ⟨_, if_pos (Nat.add_right_cancel h)⟩
  | _ =>
    rw [list_eq_ofFn f (Nat.add_right_cancel h)]
    exact ⟨_, rfl⟩

/-- Settles O3: a kind's fields and its command spell each other, and only fields of the table's length spell one. -/
theorem framesSpellCommands : Obligations.FramesSpellCommands := by
  unfold Obligations.FramesSpellCommands
  refine ⟨fun c k hk => ?_, fun kind tag f => ?_⟩
  · obtain ⟨tag, f, hbody, hlength, hfields⟩ := encodeBody_request hk
    rw [hbody, decodeBody_of_code (RequestKind.ofCode_code k), hfields]
    exact ⟨rfl, hlength, rfl⟩
  · cases hk : RequestKind.ofCode kind with
    | none => exact ⟨by simp only [decodeBody, hk, encodeBody], fun _ => by simp only [decodeBody, hk], nofun⟩
    | some k =>
      have hkind := RequestKind.eq_code_of_ofCode hk
      rw [decodeBody_of_code hk]
      refine ⟨?_, nofun, ?_⟩
      · cases hf : decodeFields k tag f with
        | none => rfl
        | some c => rw [Option.getD_some, (encodeBody_of_decodeFields hf).1, hkind]
      · rintro _ ⟨⟩
        split
        · next hl =>
          obtain ⟨c, hf⟩ := decodeFields_of_length tag hl
          rw [hf, Option.getD_some, (encodeBody_of_decodeFields hf).2]
        · next hl =>
          cases hf : decodeFields k tag f with
          | none => rfl
          | some c =>
            obtain ⟨hbody, hkind'⟩ := encodeBody_of_decodeFields hf
            obtain ⟨tag', f', hbody', hlength, -⟩ := encodeBody_request hkind'
            rw [hbody] at hbody'
            cases hbody'
            exact absurd hlength hl

end Sys2Proof.Machine
end

section
/-! SUPPORT. Receiving frames: what each byte of a frame does to the link, and what the whole frame does (R184, R185). -/

namespace Sys2Proof.Machine

/-! ### Frames begun -/

/-- A frame begun: a start byte, and if the length byte has come it is in range and more bytes are to come. -/
theorem isPartialFrame_cons {a b : Byte} {rest : List Byte} :
    isPartialFrame (a :: b :: rest) = true ↔
      a = 0xC3 ∧ 2 ≤ b.toNat ∧ b.toNat ≤ 240 ∧ rest.length < b.toNat + 1 := by
  simp [isPartialFrame, and_assoc]

theorem isPartialFrame_singleton {a : Byte} : isPartialFrame [a] = true ↔ a = 0xC3 := by simp [isPartialFrame]

theorem isWholeFrame_cons {a b : Byte} {rest : List Byte} :
    isWholeFrame (a :: b :: rest) = true ↔ a = 0xC3 ∧ 2 ≤ b.toNat ∧ b.toNat ≤ 240 ∧ rest.length = b.toNat + 1 := by
  simp [isWholeFrame, and_assoc]

/-- All but the last byte of a frame begun is a frame begun. -/
theorem isPartialFrame_of_append {p : List Byte} {b : Byte} (hp : p ≠ []) (h : isPartialFrame (p ++ [b]) = true) :
    isPartialFrame p = true := by
  match p, hp with
  | [a], _ => exact isPartialFrame_singleton.2 (isPartialFrame_cons.1 h).1
  | a :: l :: rest, _ =>
    obtain ⟨ha, hlow, hhigh, hlen⟩ := isPartialFrame_cons.1 h
    exact isPartialFrame_cons.2 ⟨ha, hlow, hhigh, by simp at hlen; omega⟩

theorem isPartialFrame_of_whole {p : List Byte} {b : Byte} (h : isWholeFrame (p ++ [b]) = true) : isPartialFrame p = true := by
  match p with
  | [] => simp [isWholeFrame] at h
  | [a] =>
    obtain ⟨-, hlow, -, hlen⟩ := isWholeFrame_cons.1 h
    simp at hlen
  | a :: l :: rest =>
    obtain ⟨ha, hlow, hhigh, hlen⟩ := isWholeFrame_cons.1 h
    exact isPartialFrame_cons.2 ⟨ha, hlow, hhigh, by simp at hlen; omega⟩

/-! ### One byte (R184) -/

/-- The bytes of the frames that wait in the receive buffer. -/
def Link.waiting (k : Link) : Nat := k.rxFrames.foldl (fun t b => t + (b.length + 3)) 0

theorem Link.occupancy_eq (k : Link) : k.occupancy = k.waiting + k.rxPartial.length := rfl

/-- A byte that goes on with a frame joins it. -/
theorem Link.receiveByte_partial {k : Link} {b : Byte} (hroom : k.occupancy < 256)
    (h : isPartialFrame (k.rxPartial ++ [b]) = true) : k.receiveByte b = { k with rxPartial := k.rxPartial ++ [b] } := by
  unfold Link.receiveByte
  rw [if_neg (by simpa [rxSize] using hroom)]
  match hp : k.rxPartial with
  | [] =>
    rw [hp] at h
    rw [if_pos rfl, if_pos (isPartialFrame_singleton.1 h)]
    rfl
  | a :: rest =>
    rw [hp] at h
    rw [if_neg (List.cons_ne_nil _ _)]
    have hgood : lengthGood ((a :: rest) ++ [b]) = true ∧ frameWhole ((a :: rest) ++ [b]) = false := by
      match rest with
      | [] =>
        obtain ⟨-, hlow, hhigh, -⟩ := isPartialFrame_cons.1 h
        simp [lengthGood, frameWhole, hlow, hhigh]
      | l :: rest =>
        obtain ⟨-, hlow, hhigh, hlen⟩ := isPartialFrame_cons.1 h
        simp at hlen
        simp [lengthGood, frameWhole, hlow, hhigh]
        omega
    rw [Link.extend, hgood.1, hgood.2]
    rfl

/-- The byte that ends a whole frame: the frame waits where its CRC-8 checks, and leaves nothing otherwise. -/
theorem Link.receiveByte_whole {k : Link} {b : Byte} (hroom : k.occupancy < 256)
    (h : isWholeFrame (k.rxPartial ++ [b]) = true) :
    k.receiveByte b = { k with
      rxPartial := []
      rxFrames := if crcGood (k.rxPartial ++ [b]) then k.rxFrames ++ [frameBody (k.rxPartial ++ [b])] else k.rxFrames } := by
  have hstart := isPartialFrame_of_whole h
  unfold Link.receiveByte
  rw [if_neg (by simpa [rxSize] using hroom)]
  match hp : k.rxPartial with
  | [] => simp [hp, isPartialFrame] at hstart
  | [a] =>
    rw [hp] at h
    obtain ⟨-, -, -, hlen⟩ := isWholeFrame_cons.1 h
    simp at hlen
  | a :: l :: rest =>
    rw [hp] at h
    obtain ⟨-, hlow, hhigh, hlen⟩ := isWholeFrame_cons.1 h
    have hgood : lengthGood ((a :: l :: rest) ++ [b]) = true ∧ frameWhole ((a :: l :: rest) ++ [b]) = true := by
      simp at hlen
      simp [lengthGood, frameWhole, hlow, hhigh]
      omega
    rw [if_neg (List.cons_ne_nil _ _), Link.extend, hgood.1, hgood.2]
    cases crcGood (a :: l :: rest ++ [b]) <;> rfl

/-- A length byte out of range ends the frame. -/
theorem Link.receiveByte_badLength {k : Link} {a b : Byte} (hroom : k.occupancy < 256) (hp : k.rxPartial = [a])
    (h : b.toNat < 2 ∨ 240 < b.toNat) : k.receiveByte b = { k with rxPartial := [] } := by
  have hbad : lengthGood [a, b] = false := by
    simp only [lengthGood, Bool.and_eq_false_iff, decide_eq_false_iff_not]
    omega
  unfold Link.receiveByte
  rw [if_neg (by simpa [rxSize] using hroom), hp, if_neg (List.cons_ne_nil _ _)]
  simp [Link.extend, hbad]

/-! ### The bytes of a frame on a link -/

/-- The next frame is parsed only where none waits behind a reply. -/
theorem State.parse_of_waiting {s : State} (h : s.link.rxFrames = [] ∨ s.link.reply ≠ none) : s.parse = s := by
  unfold State.parse
  split
  · next hr hf => rcases h with h | h <;> simp_all
  · rfl

theorem State.parse_of_frame {s : State} {body : List Byte} {rest : List (List Byte)} (hr : s.link.reply = none)
    (hf : s.link.rxFrames = body :: rest) : s.parse = (s.updLink fun k => { k with rxFrames := rest }).dispatch body := by
  unfold State.parse
  rw [hr, hf]

theorem State.receive_append (s : State) (p q : List Byte) : s.receive (p ++ q) = (s.receive p).receive q := List.foldl_append ..

theorem State.receive_singleton (s : State) (b : Byte) : s.receive [b] = (s.updLink fun k => k.receiveByte b).parse := rfl

/-- The bytes of a frame begun stand in the buffer, and nothing else has changed. -/
theorem State.receive_partial {s : State} (hp : s.link.rxPartial = []) (hw : s.link.rxFrames = [] ∨ s.link.reply ≠ none)
    (bytes : List Byte) (hroom : s.link.occupancy + bytes.length ≤ 256) (h : isPartialFrame bytes = true) :
    s.receive bytes = s.updLink fun k => { k with rxPartial := bytes } := by
  induction bytes using List.reverseRecOn with
  | nil => cases h
  | append_singleton p b ih =>
    have hprefix : s.receive p = s.updLink fun k => { k with rxPartial := p } := by
      by_cases he : p = []
      · subst he
        have hself : (s.updLink fun k => { k with rxPartial := [] }) = s := by simp [State.updLink, ← hp]
        exact hself.symm
      · exact ih (by simp at hroom; omega) (isPartialFrame_of_append he h)
    rw [State.receive_append, hprefix, State.receive_singleton]
    have hoc : ({ s.link with rxPartial := p } : Link).occupancy < 256 := by
      simp [Link.occupancy_eq, Link.waiting, hp] at hroom ⊢; omega
    have hbyte := Link.receiveByte_partial (k := { s.link with rxPartial := p }) hoc h
    simp only [State.updLink, hbyte]
    exact State.parse_of_waiting hw

/-- The last byte of a whole frame, once the bytes before it stand in the buffer. -/
theorem State.receive_whole {s : State} (hp : s.link.rxPartial = []) (hw : s.link.rxFrames = [] ∨ s.link.reply ≠ none)
    (p : List Byte) (b : Byte) (hroom : s.link.occupancy + p.length + 1 ≤ 256) (h : isWholeFrame (p ++ [b]) = true) :
    s.receive (p ++ [b]) =
      (s.updLink fun k => { k with
        rxFrames := if crcGood (p ++ [b]) then k.rxFrames ++ [frameBody (p ++ [b])] else k.rxFrames }).parse := by
  rw [State.receive_append, State.receive_partial hp hw p (by omega) (isPartialFrame_of_whole h), State.receive_singleton]
  have hoc : ({ s.link with rxPartial := p } : Link).occupancy < 256 := by
    simp [Link.occupancy_eq, Link.waiting, hp] at hroom ⊢; omega
  have hbyte := Link.receiveByte_whole (k := { s.link with rxPartial := p }) hoc h
  simp only [State.updLink, hbyte, hp]

/-! ### Host frames -/

theorem hostFrame_eq (body : List Byte) :
    hostFrame body = (0xC3 :: BitVec.ofNat 8 body.length :: body) ++ [crc8 (BitVec.ofNat 8 body.length :: body)] := rfl

theorem hostFrame_length (body : List Byte) : (hostFrame body).length = body.length + 3 := by simp [hostFrame]

/-- A host frame of 2 to 240 body bytes is a good frame of its body. -/
theorem hostFrame_good {body : List Byte} (hlow : 2 ≤ body.length) (hhigh : body.length ≤ 240) :
    isWholeFrame (hostFrame body) = true ∧ crcGood (hostFrame body) = true ∧ frameBody (hostFrame body) = body := by
  have hl : (BitVec.ofNat 8 body.length).toNat = body.length := by simp; omega
  refine ⟨?_, ?_, ?_⟩
  · rw [hostFrame, isWholeFrame_cons, hl]
    exact ⟨rfl, hlow, hhigh, by simp⟩
  · rw [crcGood, beq_iff_eq, hostFrame_eq, List.getLast?_concat]
    exact congrArg (fun l => some (crc8 l)) (List.dropLast_concat (l₁ := BitVec.ofNat 8 body.length :: body)).symm
  · simp [frameBody, hostFrame]

/-- A host frame received while a reply waits joins the frames in the buffer. -/
theorem State.receive_hostFrame_behind {s : State} {body : List Byte} (hp : s.link.rxPartial = []) (hr : s.link.reply ≠ none)
    (hlow : 2 ≤ body.length) (hhigh : body.length ≤ 240) (hroom : s.link.occupancy + body.length + 3 ≤ 256) :
    s.receive (hostFrame body) = { s with link := { s.link with rxFrames := s.link.rxFrames ++ [body] } } := by
  obtain ⟨hwhole, hcrc, hbody⟩ := hostFrame_good hlow hhigh
  rw [hostFrame_eq] at *
  rw [State.receive_whole hp (.inr hr) _ _ (by simp; omega) hwhole, hcrc, hbody]
  exact State.parse_of_waiting (.inr hr)

/-- A host frame received on an idle link is parsed and dispatched at once. -/
theorem State.receive_hostFrame_idle {s : State} {body : List Byte} (h : s.link.idle = true) (hlow : 2 ≤ body.length)
    (hhigh : body.length ≤ 240) : s.receive (hostFrame body) = s.dispatch body := by
  obtain ⟨⟨hf, hp⟩, hr⟩ : (s.link.rxFrames = [] ∧ s.link.rxPartial = []) ∧ s.link.reply = none := by
    simpa [Link.idle] using h
  obtain ⟨hwhole, hcrc, hbody⟩ := hostFrame_good hlow hhigh
  have hroom : s.link.occupancy + (0xC3 :: BitVec.ofNat 8 body.length :: body).length + 1 ≤ 256 := by
    simp [Link.occupancy, hf, hp]; omega
  rw [hostFrame_eq] at *
  rw [State.receive_whole hp (.inl hf) _ _ hroom hwhole, hcrc, hbody]
  have hparse := State.parse_of_frame (s := s.updLink fun k => { k with rxFrames := k.rxFrames ++ [body] })
    (body := body) (rest := []) hr
    (by simp [State.updLink, hf])
  exact hparse.trans (by simp [State.updLink, ← hf])

end Sys2Proof.Machine
end

section
/-! SUPPORT. Requests, frames and replies: what is answered, what is refused, and what waits (R184, R185, R191). -/

namespace Sys2Proof.Machine

/-! ### A request is its frame -/

theorem exec_request {c : Instr} {k : RequestKind} (h : c.requestKind = some k) (s : State) : exec c s = .next (s.request c) := by
  cases c with
  | unknownKind | frameDiscarded | interByteGapTimeout | receiveBufferOverflow | replySend | reportSend | fullReset
  | supplyLowChange | tick | passClockSecond | flashStep | flashPhaseEnd | samplingTick | chRecover | chActive | chQuiet
  | confirmTimeout | leadEnd | limitArrival | limitLost | presenceChange | stallFault | motionTimeout | pauseEnd | relower
  | encoderStep | loopInputChange | stuck | stuckLeft | rotationStep | signReply | signReplyFailure | refreshDue | signLapsed
  | criticalPoint | pollDue | holdEntry | heldWakeAge | flashReadDone | programDone | eraseDone | profileSaved | flashTimeout
  | badLength => cases h
  | _ => rfl

theorem RequestKind.bodyLength_bounds (k : RequestKind) : 2 ≤ k.bodyLength ∧ k.bodyLength ≤ 240 := by
  cases k <;> decide

/-- A request's body is read back as the request, with its kind's code and a tag at its front. -/
theorem encodeBody_facts {c : Instr} {k : RequestKind} (h : c.requestKind = some k) :
    decodeBody (encodeBody c) = c ∧ 2 ≤ (encodeBody c).length ∧ (encodeBody c).length ≤ 240 ∧
      (encodeBody c).length = k.bodyLength ∧ ∃ tag, bodyHead (encodeBody c) = (k.code, tag) ∧ (encodeBody c)[1]? = some tag := by
  obtain ⟨tag, f, hbody, hlength, hfields⟩ := encodeBody_request h
  have hl : (encodeBody c).length = k.bodyLength := by rw [hbody]; exact hlength
  obtain ⟨hlow, hhigh⟩ := RequestKind.bodyLength_bounds k
  refine ⟨?_, hl ▸ hlow, hl ▸ hhigh, hl, tag, by rw [hbody]; rfl, by rw [hbody]; rfl⟩
  rw [hbody, decodeBody_of_code (RequestKind.ofCode_code k), hfields]
  rfl

/-- Settles O4: on an idle link the frame's bytes are parsed whole, on another they are what the request is. -/
theorem requestIsItsFrame : Obligations.RequestIsItsFrame := by
  unfold Obligations.RequestIsItsFrame
  intro c k s hk u
  obtain ⟨hdecode, hlow, hhigh, -, -⟩ := encodeBody_facts hk
  rw [exec_request hk]
  refine congrArg (fun t => Host.Outcome.next (State.conclude u t)) ?_
  by_cases h : u.link.idle = true
  · rw [State.receive_hostFrame_idle h hlow hhigh, State.dispatch, hdecode]
    exact if_pos h
  · exact if_neg h

/-! ### Refused requests (R185) -/

/-- A request is answered OK, or refused with nothing changed. -/
def Answer.clean (a : Answer) (s : State) : Prop := a.outcome = .ok ∨ a = refuse a.outcome s

theorem Answer.clean_accept (d : List Byte) (s t : State) : (accept d t).clean s := .inl rfl

theorem Answer.clean_refuse (o : OutcomeCode) (s : State) : (refuse o s).clean s := .inr rfl

theorem Answer.clean_ite {p : Prop} [Decidable p] {a b : Answer} {s : State} (ha : a.clean s) (hb : b.clean s) :
    (if p then a else b).clean s := iteInduction (motive := fun x : Answer => x.clean s) (fun _ => ha) fun _ => hb

theorem onPath_clean {n : Byte} {s : State} {f : Fin 12 → Answer} (hf : ∀ n, (f n).clean s) : (onPath n s f).clean s := by
  unfold onPath
  split
  · exact .inr rfl
  · split
    · exact hf _
    · exact .inr rfl

theorem State.acceptChannel_clean (s : State) (i : Fin 16) (m : ChannelMode) (r : Option (Fin 16)) (a b : Half) (p : Byte) :
    (s.acceptChannel i m r a b p).clean s := Answer.clean_ite (.inr rfl) (.inl rfl)

theorem State.acceptCounter_clean (s : State) (i : Fin 12) (c : CounterConfig) : (s.acceptCounter i c).clean s :=
  Answer.clean_ite (.inr rfl) (.inl rfl)

theorem State.acceptNotice_clean (s : State) (r : Half) (m : BitVec 4) (p : Page) (q : Option Page) (a b : Option Nat) (l : Half) :
    (s.acceptNotice r m p q a b l).clean s := by
  refine Answer.clean_ite (.inr rfl) (Answer.clean_ite (.inr rfl) ?_)
  split
  · exact .inr rfl
  · exact .inl rfl

/-- The path, channel and trace requests. -/
theorem State.applyMaskPath_clean (s : State) (n b : Byte) : (s.applyMaskPath n b).clean s := by
  unfold State.applyMaskPath
  split
  · refine Answer.clean_ite (.inr rfl) ?_
    split
    case h_4 | h_5 => exact .inr rfl
    all_goals exact .inl rfl
  · exact .inr rfl

theorem State.applySetChannel_clean (s : State) (c m r : Byte) (a b : Half) (p : Byte) :
    (s.applySetChannel c m r a b p).clean s := by
  unfold State.applySetChannel
  split
  · refine Answer.clean_ite ?_ (s.acceptChannel_clean ..)
    split
    · exact s.acceptChannel_clean ..
    · exact .inr rfl
  · exact .inr rfl

theorem State.applyReadTrace_clean (s : State) (a b c : Byte) : (s.applyReadTrace a b c).clean s :=
  Answer.clean_ite (.inr rfl) (Answer.clean_ite (.inl rfl) (Answer.clean_ite (by split <;> [exact .inr rfl; exact .inl rfl]) (.inr rfl)))

theorem State.applySetCounter_clean (s : State) (u m a b : Byte) : (s.applySetCounter u m a b).clean s := by
  unfold State.applySetCounter
  split
  · refine Answer.clean_ite ?_ (s.acceptCounter_clean ..)
    split
    · exact s.acceptCounter_clean ..
    · exact .inr rfl
  · exact .inr rfl

theorem State.applyPostNotice_clean (s : State) (r : Half) (m c : Byte) (p q : Half) (a b : Word) (l : Half) :
    (s.applyPostNotice r m c p q a b l).clean s := by
  refine Answer.clean_ite (.inr rfl) ?_
  split
  · exact s.acceptNotice_clean ..
  · exact .inr rfl

theorem State.applyEndNotice_clean (s : State) (n : Byte) : (s.applyEndNotice n).clean s := by
  refine Answer.clean_ite (.inr rfl) ?_
  split
  · exact .inr rfl
  · split
    · exact .inr rfl
    · exact Answer.clean_ite (.inl rfl) (.inr rfl)

theorem State.applySetSign_clean (s : State) (a b c d : Byte) (x : Half) (e f : Byte) : (s.applySetSign a b c d x e f).clean s := by
  unfold State.applySetSign
  split
  · exact .inr rfl
  · split
    · exact .inr rfl
    · exact .inl rfl

theorem State.applyPageData_clean (s : State) (d : StripData) : (s.applyPageData d).clean s := by
  unfold State.applyPageData
  split
  · exact .inr rfl
  · exact Answer.clean_ite (.inr rfl) (.inl rfl)

/-- Every request is answered OK, or refused with nothing changed. -/
theorem State.applyRequest_clean (s : State) (c : Instr) : (s.applyRequest c).clean s := by
  have hok {d : List Byte} {t : State} : (accept d t).clean s := .inl rfl
  have hno {o : OutcomeCode} : (refuse o s).clean s := .inr rfl
  have hqueue {k : WorkKind} : (s.applyQueue k).clean s := Answer.clean_ite hno hok
  cases c with
  | identify | restart | setTrace | setListMargin | clearFaults => exact hok
  | releaseTrace => exact Answer.clean_ite hok hok
  | setClock => exact Answer.clean_ite hno hok
  | saveProfile => exact hqueue
  | eraseBlock =>
    show (State.applyEraseBlock _ s).clean s
    unfold State.applyEraseBlock
    split
    · exact hqueue
    · exact hno
  | setReserve | inspect | setSegment | closeSegment | openSegment | adjustCount | setFlash | wakeLine | readDirectory =>
    simp only [State.applyRequest, State.applySetReserve, State.applyInspect, State.applySetSegment, State.applyCloseSegment,
      State.applyOpenSegment, State.applyAdjustCount, State.applySetFlash, State.applyWakeLine, State.applyReadDirectory]
    split <;> [exact hno; exact hok]
  | setChannel => exact s.applySetChannel_clean ..
  | setPath =>
    show (State.applySetPath _ _ _ _ _ _ _ _ s).clean s
    unfold State.applySetPath State.acceptPath
    split
    · exact Answer.clean_ite hno (Answer.clean_ite hno (Answer.clean_ite hno hok))
    · exact hno
  | ackPath | dismissPath | clearPath => exact onPath_clean fun _ => Answer.clean_ite hok hno
  | maskPath => exact s.applyMaskPath_clean ..
  | readTrace => exact s.applyReadTrace_clean ..
  | setGate =>
    show (State.applySetGate _ _ _ _ _ _ s).clean s
    unfold State.applySetGate
    split
    · exact Answer.clean_ite hno (Answer.clean_ite hno hok)
    · exact hno
  | moveGate =>
    show (State.applyMoveGate _ _ _ s).clean s
    unfold State.applyMoveGate
    split
    · exact Answer.clean_ite hno (Answer.clean_ite hno hok)
    · exact hno
  | resetGate =>
    simp only [State.applyRequest, State.applyResetGate, onGate]
    split <;> [exact hno; exact Answer.clean_ite (Answer.clean_ite hok hno) hno]
  | setCounter => exact s.applySetCounter_clean ..
  | postNotice => exact s.applyPostNotice_clean ..
  | endNotice => exact s.applyEndNotice_clean ..
  | setLine =>
    show (State.applySetLine _ _ _ _ s).clean s
    unfold State.applySetLine
    split
    · exact hok
    · exact hno
  | setSign => exact s.applySetSign_clean ..
  | setCondition => exact Answer.clean_ite hno (by split <;> [exact hno; exact hok])
  | openPage =>
    show (State.applyOpenPage _ _ s).clean s
    unfold State.applyOpenPage
    split
    · exact hok
    · exact hno
  | pageData => exact s.applyPageData_clean ..
  | _ => exact hno

end Sys2Proof.Machine
end

section
/-! SUPPORT. Refusals, bytes that make no frame, and replies that are sent (R184, R185, R191). -/

namespace Sys2Proof.Machine

/-! ### Frames of no request -/

/-- A frame that spells no request is answered with its outcome, on a device that listens. -/
theorem State.receive_refused {s : State} {c : Instr} {o : OutcomeCode} {kind tag : Byte} {f : List Byte} (h : s.listening)
    (hf : f.length + 2 ≤ 240) (hd : decodeBody (kind :: tag :: f) = c) (hr : s.applyRequest c = refuse o s) :
    s.command (fun u => u.receive (hostFrame (kind :: tag :: f))) = s.answered kind tag o [] := by
  rw [State.command_of_nil _ _ h.1.2, State.receive_hostFrame_idle h.2 (by simp) (by simp; omega), State.dispatch, hd, hr]
  exact State.conclude_of_calm _ _ rfl h.1.1

/-- A request on a device that listens is answered with its kind and tag. -/
theorem exec_listening {c : Instr} {k : RequestKind} {s : State} (h : s.listening) (hk : c.requestKind = some k) :
    ∃ tag, (encodeBody c)[1]? = some tag ∧
      exec c s = .next (State.conclude s (State.putReply (s.applyRequest c) (k.code, tag))) := by
  obtain ⟨-, -, -, -, tag, hhead, htag⟩ := encodeBody_facts hk
  exact ⟨tag, htag, by rw [exec_request hk, State.request_listening s c h, hhead]⟩

theorem State.conclude_reply (a s : State) : (State.conclude a s).link.reply = s.link.reply := by
  rw [State.conclude_link]

/-- Settles O5: a frame that spells no request, and every request that is refused, change nothing but the reply slot. -/
theorem refusalsChangeNothing : Obligations.RefusalsChangeNothing := by
  unfold Obligations.RefusalsChangeNothing
  refine ⟨fun kind tag f s h => ⟨fun hwf => ?_, fun hwf => ?_⟩, fun c k s h hk => ?_⟩
  · obtain ⟨hkind, hlen⟩ : RequestKind.ofCode kind = none ∧ f.length + 2 ≤ 240 := by simpa [Instr.wellFormed] using hwf
    refine congrArg Host.Outcome.next (State.receive_refused (c := .unknownKind kind tag f) h hlen ?_ rfl)
    simp only [decodeBody, hkind]
  · obtain ⟨k, hkind, hne, hlen⟩ : ∃ k, RequestKind.ofCode kind = some k ∧ f.length + 2 ≠ k.bodyLength ∧ f.length + 2 ≤ 240 := by
      cases hk : RequestKind.ofCode kind with
      | none => simp [Instr.wellFormed, hk] at hwf
      | some k => exact ⟨k, rfl, by simpa [Instr.wellFormed, hk] using hwf⟩
    refine congrArg Host.Outcome.next (State.receive_refused (c := .badLength kind tag f) h hlen ?_ rfl)
    simpa [if_neg hne] using ((framesSpellCommands.2 kind tag f).2.2 k hkind)
  · obtain ⟨tag, htag, hexec⟩ := exec_listening h hk
    refine ⟨_, { kind := k.code, tag := tag, outcome := (s.applyRequest c).outcome, data := (s.applyRequest c).data }, hexec,
      by rw [State.conclude_reply]; rfl, rfl, htag, fun hne => ?_⟩
    have hrefused : s.applyRequest c = refuse (s.applyRequest c).outcome s := (s.applyRequest_clean c).resolve_left hne
    refine ⟨by rw [hrefused]; rfl, ?_⟩
    rw [hrefused]
    exact State.conclude_of_calm _ _ rfl h.1.1

/-! ### Bytes that make no good frame (R184) -/

/-- Bytes that leave a settled device as it was leave it so at the end of their step. -/
theorem State.command_settled {s t : State} {f : State → State} (h : s.settled) (ht : f s = t) (hs : t.signs = s.signs)
    (hl : t.lines = s.lines) : s.command f = t := by
  rw [State.command_of_nil _ _ h.2, ht]
  exact State.conclude_of_calm _ _ hs ((State.calm_of_lines s t hl).2 h.1)

theorem State.updLink_rxPartial_nil {s : State} (hp : s.link.rxPartial = []) : (s.updLink fun k => { k with rxPartial := [] }) = s := by
  simp [State.updLink, ← hp]

/-- Bytes that the receiver discards: a length out of range, or a CRC-8 that does not check. -/
theorem State.receive_discarded {s : State} {bytes : List Byte} (hp : s.link.rxPartial = [])
    (hw : s.link.rxFrames = [] ∨ s.link.reply ≠ none) (hroom : s.link.occupancy + bytes.length ≤ 256)
    (h : isDiscardedFrame bytes = true) : s.receive bytes = s := by
  have hwhole (hb : isWholeFrame bytes = true) (hcrc : crcGood bytes = false) : s.receive bytes = s := by
    obtain ⟨p, b, rfl⟩ : ∃ p b, bytes = p ++ [b] := by
      cases bytes using List.reverseRecOn with
      | nil => cases hb
      | append_singleton p b => exact ⟨p, b, rfl⟩
    rw [State.receive_whole hp hw p b (by simp at hroom; omega) hb, hcrc]
    exact State.parse_of_waiting hw
  match bytes, h with
  | [a, b], h =>
    obtain ⟨ha, hb⟩ : a = 0xC3 ∧ (b.toNat < 2 ∨ 240 < b.toNat) := by simpa [isDiscardedFrame] using h
    have hfirst := State.receive_partial hp hw [a] (by simp at hroom ⊢; omega) (isPartialFrame_singleton.2 ha)
    have hoc : ({ s.link with rxPartial := [a] } : Link).occupancy < 256 := by
      simp [Link.occupancy_eq, Link.waiting, hp] at hroom ⊢; omega
    rw [show [a, b] = [a] ++ [b] from rfl, State.receive_append, hfirst, State.receive_singleton]
    have hsecond := Link.receiveByte_badLength (k := { s.link with rxPartial := [a] }) hoc rfl hb
    simp only [State.updLink, hsecond]
    have hself := State.updLink_rxPartial_nil hp
    simp only [State.updLink] at hself
    rw [hself]
    exact State.parse_of_waiting hw
  | [], h | [_], h => simp [isDiscardedFrame, isWholeFrame] at h
  | a :: b :: c :: rest, h =>
    obtain ⟨hb, hbad⟩ : isWholeFrame (a :: b :: c :: rest) = true ∧ isGoodFrame (a :: b :: c :: rest) = false := by
      simpa [isDiscardedFrame] using h
    exact hwhole hb (by simpa [isGoodFrame, hb, crcGood] using hbad)

/-- Settles O6: the buffer is as it was after a discarded frame and after a gap, and a full buffer takes no byte. -/
theorem noFrameLeavesNothing : Obligations.NoFrameLeavesNothing := by
  unfold Obligations.NoFrameLeavesNothing
  refine ⟨fun bytes s h hp hw hroom => ⟨fun hwf => ?_, fun hwf => ?_⟩, fun b s h hfull hw => ?_⟩
  · exact congrArg Host.Outcome.next (State.command_settled h (State.receive_discarded hp hw hroom hwf) rfl rfl)
  · refine congrArg Host.Outcome.next (State.command_settled h ?_ rfl rfl)
    rw [State.receive_partial hp hw bytes hroom hwf]
    exact State.updLink_rxPartial_nil hp
  · refine congrArg Host.Outcome.next (State.command_settled h ?_ rfl rfl)
    have hbyte : s.link.receiveByte b = { s.link with rxPartial := [] } := if_pos hfull
    rw [State.receive_singleton]
    simp only [State.updLink, hbyte]
    exact State.parse_of_waiting hw

/-! ### Replies (R191) -/

/-- The end of a step reads of the state before it the signs alone. -/
theorem State.conclude_congr {a b : State} (h : a.signs = b.signs) (s : State) : State.conclude a s = State.conclude b s := by
  have hfor : State.evalConfirmFor a = State.evalConfirmFor b := by
    funext s i
    have hsign : a.sign = b.sign := by funext n; simp only [State.sign, h]
    have hadvance : a.advanceOf = b.advanceOf := by funext i; simp only [State.advanceOf, hsign]
    exact if_congr (by rw [hsign, hadvance]) rfl rfl
  simp only [State.conclude, State.handSigns, hfor]

/-- Settles O7: a frame behind a reply waits, and is applied as a request on the link that the sent reply leaves idle. -/
theorem replySentBeforeNextRequest : Obligations.ReplySentBeforeNextRequest := by
  unfold Obligations.ReplySentBeforeNextRequest
  refine ⟨fun c k r s hk h hr hp => ⟨fun hroom => ?_, fun hframes => ?_⟩, fun s h hf => ⟨fun hr => ?_, fun r hr => ?_⟩⟩
  · obtain ⟨-, hlow, hhigh, hlen, -⟩ := encodeBody_facts hk
    have hne : s.link.reply ≠ none := by simp [hr]
    have hbusy : ¬s.link.idle = true := by simp [Link.idle, hr]
    rw [exec_request hk]
    refine congrArg Host.Outcome.next (State.command_settled h ?_ rfl rfl)
    dsimp only
    rw [if_neg hbusy]
    exact State.receive_hostFrame_behind hp hne hlow hhigh (by omega)
  · obtain ⟨hdecode, -, -, -, -⟩ := encodeBody_facts hk
    have hidle : ({ s.link with reply := none, rxFrames := [], lastSent := r.frame } : Link).idle = true := by
      simp [Link.idle, hp]
    rw [exec_request hk]
    refine congrArg Host.Outcome.next ?_
    have hsend : s.sendReply = State.putReply
        (({ s with link := { s.link with reply := none, rxFrames := [], lastSent := r.frame } } : State).applyRequest c)
        (bodyHead (encodeBody c)) := by
      unfold State.sendReply
      rw [hr]
      refine (State.parse_of_frame (body := encodeBody c) (rest := []) rfl (by simp [State.updLink, hframes])).trans ?_
      rw [State.dispatch, hdecode]
      rfl
    have hrequest := State.command_of_nil { s with link := { s.link with reply := none, rxFrames := [], lastSent := r.frame } }
      (fun s => if s.link.idle then State.putReply (s.applyRequest c) (bodyHead (encodeBody c))
        else s.receive (hostFrame (encodeBody c))) h.2
    refine (State.command_of_nil s State.sendReply h.2).trans (Eq.trans ?_ hrequest.symm)
    rw [hsend]
    exact (State.conclude_congr rfl _).trans (congrArg (State.conclude _) (if_pos hidle).symm)
  · refine congrArg Host.Outcome.next (State.command_settled h ?_ rfl rfl)
    simp only [State.sendReply, hr]
  · refine congrArg Host.Outcome.next (State.command_settled h ?_ rfl rfl)
    simp only [State.sendReply, hr]
    exact State.parse_of_waiting (.inl hf)

end Sys2Proof.Machine
end

section
/-! SUPPORT. Operands, and requests on a device that listens: what names an object, and what a refused, a reading and an accepted
request leave (R185 to R188, R56). -/

namespace Sys2Proof.Machine

/-! ### Operands -/

theorem indexOf_of_toNat {n : Nat} {b : Byte} {i : Fin n} (h : b.toNat = i.val) : indexOf n b = some i := by
  have hlt : b.toNat < n := h ▸ i.isLt
  rw [indexOf, dif_pos hlt]
  exact congrArg some (Fin.ext h)

theorem indexOf_of_ge {n : Nat} {b : Byte} (h : n ≤ b.toNat) : indexOf n b = none := dif_neg (by omega)

theorem segmentOf_of_toNat {b : Byte} {i : Fin 4} (h : b.toNat = i.val + 1) : segmentOf b = some i := by
  rw [segmentOf, dif_pos (by omega)]
  exact congrArg some (Fin.ext (by simp; omega))

theorem segmentOf_out {b : Byte} (h : b.toNat = 0 ∨ 4 < b.toNat) : segmentOf b = none := dif_neg (by omega)

theorem toNat_of_indexOf {n : Nat} {b : Byte} {i : Fin n} (h : indexOf n b = some i) : b.toNat = i.val := by
  unfold indexOf at h
  split at h
  · cases h; rfl
  · cases h

theorem toNat_of_segmentOf {b : Byte} {i : Fin 4} (h : segmentOf b = some i) : b.toNat = i.val + 1 := by
  unfold segmentOf at h
  split at h
  · cases h; simp; omega
  · cases h

/-! ### Requests on a device that listens -/

/-- A refused request leaves its outcome in the reply slot and nothing else. -/
theorem exec_refused {c : Instr} {k : RequestKind} {o : OutcomeCode} {s : State} (hk : c.requestKind = some k) (h : s.listening)
    (hr : s.applyRequest c = refuse o s) :
    exec c s = .next (s.answered (bodyHead (encodeBody c)).1 (bodyHead (encodeBody c)).2 o []) := by
  rw [exec_request hk, State.request_refused s c o h hr]

/-- An accepted request that reaches neither signs nor lines leaves its owner's effect and its reply. -/
theorem exec_accepted {c : Instr} {k : RequestKind} {d : List Byte} {s t : State} (hk : c.requestKind = some k) (h : s.listening)
    (ha : s.applyRequest c = accept d t) (hs : t.signs = s.signs) (hl : t.lines = s.lines) :
    exec c s = .next (t.answered (bodyHead (encodeBody c)).1 (bodyHead (encodeBody c)).2 .ok d) := by
  rw [exec_request hk, State.request_accepted s t c d h ha hs hl]

/-- Any accepted request leaves its owner's effect, its reply, and what the end of the step does. -/
theorem exec_concluded {c : Instr} {k : RequestKind} {d : List Byte} {s t : State} (hk : c.requestKind = some k) (h : s.listening)
    (ha : s.applyRequest c = accept d t) :
    exec c s = .next (State.conclude s (t.answered (bodyHead (encodeBody c)).1 (bodyHead (encodeBody c)).2 .ok d)) := by
  rw [exec_request hk, State.request_listening s c h, ha]
  rfl

/-! ### The objects (R188) -/

theorem objectOf_obj (o : Obj) : objectOf (BitVec.ofNat 8 o.kindCode) (BitVec.ofNat 8 o.index) = some o := by
  have hindex {n : Nat} (hn : n ≤ 256) (i : Fin n) := indexOf_u8 hn i
  cases o with
  | segment i => exact congrArg (Option.map Obj.segment) (segmentOf_of_toNat (i := i) (by simp [Obj.index, segmentNumber]; omega))
  | system | library | trace => rfl
  | channel i => exact congrArg (Option.map Obj.channel) (hindex (by omega) i)
  | path i => exact congrArg (Option.map Obj.path) (hindex (by omega) i)
  | gate i => exact congrArg (Option.map Obj.gate) (hindex (by omega) i)
  | counter i => exact congrArg (Option.map Obj.counter) (hindex (by omega) i)
  | notice i => exact congrArg (Option.map Obj.notice) (hindex (by omega) i)
  | sign i => exact congrArg (Option.map Obj.sign) (hindex (by omega) i)
  | line i => exact congrArg (Option.map Obj.line) (hindex (by omega) i)

/-- Bytes that name an object are its kind and index. -/
theorem objectOf_eq_some {kind index : Byte} {o : Obj} (h : objectOf kind index = some o) :
    kind.toNat = o.kindCode ∧ index.toNat = o.index := by
  unfold objectOf at h
  split at h
  case h_12 => cases h
  case h_2 hk =>
    obtain ⟨i, hi, rfl⟩ := Option.map_eq_some_iff.1 h
    exact ⟨hk, toNat_of_segmentOf hi⟩
  all_goals
    rename_i hk
    obtain ⟨i, hi, rfl⟩ := Option.map_eq_some_iff.1 h
    have := toNat_of_indexOf hi
    exact ⟨hk, by simpa [Obj.index] using this⟩

/-! ### The reading requests -/

/-- The reply of READ_TRACE spelled out (R56). -/
theorem Trace.reply_read (t : Trace) (start count : Nat) :
    t.reply (t.read start count) =
      u8 t.entries.length ++ u8 t.flags ++ u8 (t.mark.getD 0xFF) ++ u8 ((t.entries.drop start).take count).length ++
        ((t.entries.drop start).take count).flatMap fun e =>
          u32 (e.second.getD 0xFFFFFFFF) ++ u8 e.tick ++ u8 e.kind.code ++ u8 e.object ++ u16 e.value := rfl

/-- Settles O9: each request that reads answers from the state as it stands, or refuses. -/
theorem readingRequestsAnswer : Obligations.ReadingRequestsAnswer := by
  unfold Obligations.ReadingRequestsAnswer
  refine ⟨fun tag s h => ?_, fun tag s h => ⟨fun o => ?_, fun kind index hno => ?_⟩, ?_⟩
  · exact exec_accepted (k := .identify) rfl h rfl rfl rfl
  · refine exec_accepted (k := .inspect) rfl h ?_ rfl rfl
    simp only [State.applyRequest, State.applyInspect, objectOf_obj]
    rfl
  · refine exec_refused (k := .inspect) rfl h ?_
    have hnone : objectOf kind index = none := Option.eq_none_iff_forall_ne_some.2 fun o ho =>
      hno o (objectOf_eq_some ho).1 (objectOf_eq_some ho).2
    simp only [State.applyRequest, State.applyInspect, hnone]
  · intro tag origin offset count s h tr es reply
    have hcount : clampNat 1 8 count.toNat = max 1 (min 8 count.toNat) := rfl
    refine ⟨fun hbad => ?_, fun hoff => ⟨?_, fun hm => ?_, fun m hm => ?_⟩⟩
    · refine exec_refused (k := .readTrace) rfl h ?_
      show State.applyReadTrace origin offset count s = _
      unfold State.applyReadTrace
      split
      · rfl
      · next hlt =>
        have horigin : origin ≠ 0 ∧ origin ≠ 1 := by constructor <;> rintro rfl <;> simp at hbad <;> omega
        simp only [horigin.1, horigin.2, if_false]
    · refine exec_accepted (k := .readTrace) rfl h ?_ rfl rfl
      show State.applyReadTrace 0 offset count s = _
      rw [State.applyReadTrace, if_neg (by omega), if_pos rfl, Trace.reply_read, hcount]
    · refine exec_refused (k := .readTrace) rfl h ?_
      show State.applyReadTrace 1 offset count s = _
      simp only [State.applyReadTrace, if_neg (show ¬127 < offset.toNat by omega), show s.trace.mark = none from hm]
      rfl
    · refine exec_accepted (k := .readTrace) rfl h ?_ rfl rfl
      show State.applyReadTrace 1 offset count s = _
      rw [State.applyReadTrace, if_neg (by omega)]
      dsimp only
      rw [if_neg (by decide), if_pos rfl]
      split
      · next hnone => cases hm.symm.trans hnone
      · next m' hsome =>
        cases hm.symm.trans hsome
        rw [Trace.reply_read, hcount]

end Sys2Proof.Machine
end

section
/-! SUPPORT. Reports that are sent, and the notice slot that the report of a removed notice releases (R105, R112, R191). -/

namespace Sys2Proof.Machine

/-! ### The near-full indication (R112) -/

/-- The notice list with its near-full indication following the free count. -/
def NoticeList.checked (l : NoticeList) : NoticeList := { l with spent := decide (l.freeCount ≤ l.margin) }

theorem NoticeList.checked_freeCount (l : NoticeList) : l.checked.freeCount = l.freeCount := rfl

/-- The check writes the indication, and posts where it is newly set. -/
theorem State.checkListMargin_eq (s : State) :
    s.checkListMargin =
      ({ s with notices := s.notices.checked }.postIf (s.notices.checked.spent && !s.notices.spent) .system Flag.listNearFull) := by
  unfold State.checkListMargin NoticeList.checked
  split
  · next hle =>
    cases hs : s.notices.spent with
    | true => simp [hle, State.postIf, ← hs]
    | false => simp [hle, State.postIf]
  · next hgt => simp [hgt, State.postIf]

theorem addReport_filter_ne (o : Obj) (f : BitVec 16) (l : List ReportEntry) :
    (addReport o f l).filter (fun r => r.obj != o) = l.filter fun r => r.obj != o := by
  induction l with
  | nil => simp [addReport]
  | cons e rest ih =>
    unfold addReport
    split
    · next h => simp [h]
    · next h => simp [h, ih]

/-! ### Sending a report (R191) -/

/-- The oldest report leaves the set. -/
theorem State.sendReport_eq {s : State} {e : ReportEntry} {rest : List ReportEntry} (hr : s.link.reply = none)
    (hl : s.link.reports = e :: rest) :
    s.sendReport = (s.updLink fun k => { k with reports := rest, lastSent := s.reportFrame e }).reportTaken e.obj := by
  simp only [State.sendReport, hr, hl]

/-- A slot that holds no removed notice is not released. -/
theorem State.reportTaken_of_live {s : State} {o : Obj}
    (h : ∀ i : Fin 24, o = .notice i → ∀ x : Notice, s.notices.slots[i] = some x → x.state.live = true) :
    s.reportTaken o = s := by
  unfold State.reportTaken
  split
  · next i =>
    unfold State.releaseSlot
    split
    · next x hx => rw [if_pos (h i rfl x hx)]
    · rfl
  · rfl

theorem State.reportTaken_removed {s : State} {i : Fin 24} {x : Notice} (hx : s.notices.slots[i] = some x)
    (hl : x.state.live = false) : s.reportTaken (.notice i) = (s.setSlot i none).checkListMargin := by
  simp [State.reportTaken, State.releaseSlot, hx, hl]

/-- One element more passes a filter that it did not pass before. -/
theorem filter_length_succ {α : Type} {p q : α → Bool} {a : α} {l : List α} (hl : l.Nodup) (ha : a ∈ l) (hp : p a = false)
    (hq : q a = true) (hpq : ∀ b, b ≠ a → q b = p b) : (l.filter q).length = (l.filter p).length + 1 := by
  induction l with
  | nil => cases ha
  | cons b l ih =>
    obtain ⟨hb, hl⟩ := List.nodup_cons.1 hl
    by_cases hba : b = a
    · subst hba
      have hrest : l.filter q = l.filter p := List.filter_congr fun c hc => hpq c fun h => hb (h ▸ hc)
      simp [hp, hq, hrest]
    · have hm : a ∈ l := (List.mem_cons.1 ha).resolve_left fun h => hba h.symm
      have := ih hl hm
      cases hpb : p b <;> simp [hpb, hpq b hba, this]

/-- Releasing a slot raises the free count by one. -/
theorem NoticeList.freeCount_release (l : NoticeList) {i : Fin 24} {x : Notice} (hx : l.slots[i] = some x) :
    ({ l with slots := l.slots.set i none } : NoticeList).freeCount = l.freeCount + 1 := by
  refine filter_length_succ (a := i) (List.nodup_finRange 24) (List.mem_finRange i) ?_ ?_ fun b hb => ?_
  · simp [hx]
  · simp
  · have hne : i.val ≠ b.val := fun h => hb (Fin.ext h.symm)
    simp [hne]

/-- Settles O8: what the entry's object is decides whether a slot is released, and the check of the margin is the rest. -/
theorem oldestReportSent : Obligations.OldestReportSent := by
  unfold Obligations.OldestReportSent
  intro s h sent
  refine ⟨fun hno => ?_, fun e rest hr hl hlive => ?_, fun e rest i x hr hl ho hx hlive => ?_⟩
  · refine congrArg Host.Outcome.next (State.command_settled h ?_ rfl rfl)
    unfold State.sendReport
    split
    · next hr hl => rcases hno with hno | hno <;> simp_all
    · rfl
  · refine congrArg Host.Outcome.next (State.command_settled h ?_ rfl rfl)
    rw [State.sendReport_eq hr hl]
    exact State.reportTaken_of_live hlive
  · have hsend : s.sendReport = ((s.updLink fun k => { k with reports := rest, lastSent := s.reportFrame e }).setSlot i
        none).checkListMargin := by
      rw [State.sendReport_eq hr hl, ho]
      exact State.reportTaken_removed (s := s.updLink _) hx hlive
    set l : NoticeList := { s.notices with slots := s.notices.slots.set i none } with hl'
    have hfree : l.checked.freeCount = s.notices.freeCount + 1 := NoticeList.freeCount_release s.notices hx
    have hspent : l.checked.spent = decide (l.checked.freeCount ≤ s.notices.margin) := rfl
    have hstate : s.sendReport = State.postIf
        { s with link := { s.link with reports := rest, lastSent := sent e }, notices := l.checked }
        (l.checked.spent && !s.notices.spent) .system Flag.listNearFull := by
      rw [hsend, State.checkListMargin_eq]
      rfl
    refine ⟨_, congrArg Host.Outcome.next (State.command_settled h hstate (by simp) (by simp)), ?_⟩
    cases hpost : l.checked.spent && !s.notices.spent with
    | false =>
      refine ⟨rfl, rfl, rfl, rfl, hfree, hspent, fun _ => rfl, fun hnew hold => ?_, rfl⟩
      simp [show l.checked.spent = true from hnew, hold] at hpost
    | true =>
      refine ⟨rfl, rfl, rfl, rfl, hfree, hspent, fun hno => ?_, fun _ _ => ⟨State.post_reported _ _ _, ?_⟩, rfl⟩
      · have hnew : l.checked.spent = false ∨ s.notices.spent = true := hno
        rcases hnew with hnew | hnew <;> simp [hnew] at hpost
      · exact addReport_filter_ne _ _ _

end Sys2Proof.Machine
end

section
/-! SUPPORT. The trace, the counter units and the flashers (R53 to R55, R82, R83, R90, R96 to R99). -/

namespace Sys2Proof.Machine

/-! ### Recording in the trace (R53 to R55) -/

@[simp] theorem Trace.checkNearFull_entries (t : Trace) : t.checkNearFull.1.entries = t.entries := by
  unfold Trace.checkNearFull
  split <;> rfl

theorem Trace.append_room (t : Trace) (e : TraceEntry) (hroom : t.entries.length < 128) :
    (t.append e).entries = t.entries ++ [e] := by
  simp [Trace.append, hroom]

/-- An entry appended leaves the newest 128. -/
theorem Trace.append_entries (t : Trace) (e : TraceEntry) (h : t.entries.length ≤ 128) :
    (t.append e).entries = (t.entries ++ [e]).drop (t.entries.length - 127) := by
  by_cases hroom : t.entries.length < 128
  · rw [t.append_room e hroom, show t.entries.length - 127 = 0 by omega, List.drop_zero]
  · have hfull : t.entries.length = 128 := by omega
    obtain ⟨a, l, hl⟩ := List.exists_cons_of_ne_nil (List.ne_nil_of_length_pos (l := t.entries) (by omega))
    rw [t.append_full e hfull, hfull, hl]
    rfl

/-- Settles O23: recording by the mark and the room left. -/
theorem traceRecords : Obligations.TraceRecords := by
  unfold Obligations.TraceRecords
  refine ⟨fun e t hm h => ⟨?_, fun he => ?_, fun he => ⟨t.record_unmarked_alert_mark e hm he, ?_, ?_⟩⟩, fun e m t hm hle h => ?_⟩
  · rw [t.record_unmarked_entries e hm, t.append_entries e h]
  · rw [t.record_unmarked e hm he]
    exact ⟨hm, rfl⟩
  · rw [t.record_unmarked_alert e hm he]
    rfl
  · rw [t.record_unmarked_alert e hm he]
  · by_cases hroom : t.entries.length < 128
    · rw [t.record_marked_room e m hm hroom]
      refine ⟨m, by rw [Trace.checkNearFull_mark]; exact hm, ?_, ?_, fun hfull => ?_, fun _ => ?_, fun hfull => ?_⟩
      · rw [Trace.checkNearFull_entries, t.append_room e hroom, List.drop_append_of_le_length hle]
        exact List.prefix_append ..
      · rw [Trace.checkNearFull_entries, t.append_length_room e hroom]
        exact hroom
      · omega
      · exact ⟨by rw [Trace.checkNearFull_entries, t.append_room e hroom], rfl⟩
      · omega
    · have hfull : t.entries.length = 128 := by omega
      cases m with
      | zero =>
        rw [t.record_marked_refused e hm hroom]
        exact ⟨0, hm, List.prefix_refl _, h, fun _ _ => ⟨rfl, rfl⟩, fun hlt => absurd hlt hroom, fun _ hpos => absurd hpos (by simp)⟩
      | succ m =>
        rw [t.record_marked_full e (m + 1) hm hroom m.succ_pos]
        refine ⟨m, by simp, ?_, ?_, fun _ h0 => by omega, fun hlt => absurd hlt hroom, fun _ _ => ⟨?_, rfl⟩⟩
        · rw [Trace.checkNearFull_entries]
          show List.drop (m + 1) t.entries <+: List.drop m (t.append e).entries
          rw [t.append_full e hfull, List.drop_append_of_le_length (by simp; omega), List.drop_tail]
          exact List.prefix_append ..
        · rw [Trace.checkNearFull_entries]
          exact (t.append_length_full e hfull).le
        · rw [Trace.checkNearFull_entries]
          exact t.append_full e hfull

/-! ### Encoder steps (R82, R83) -/

/-- A pin or port command on a settled device whose effect reaches neither signs nor lines. -/
theorem exec_settled {c : Instr} {s t : State} {f : State → State} (hc : exec c s = .next (s.command f)) (h : s.settled)
    (ht : f s = t) (hs : t.signs = s.signs) (hl : t.lines = s.lines) : exec c s = .next t := by
  rw [hc, State.command_settled h ht hs hl]

theorem changeOf_same (a b : Bool) : changeOf a b a b = none := by simp [changeOf]

theorem changeOf_ne {a b a' b' : Bool} (h : a ≠ a' ∨ b ≠ b') : ∃ c, changeOf a b a' b' = some c := by
  unfold changeOf
  split
  · exact ⟨_, rfl⟩
  · next ha => rw [if_pos (h.resolve_left ha)]; exact ⟨_, rfl⟩

/-- What an observation does where an input has changed, by the unit's mode. -/
theorem State.observe_changed {s : State} {u : Fin 12} {a b : Bool} (h : (s.counter u).codeA ≠ a ∨ (s.counter u).codeB ≠ b) :
    s.observe u a b =
      let t := s.setCounter u { s.counter u with codeA := a, codeB := b }
      match (s.counter u).cfg.mode with
      | .off => t
      | .encoder => if (s.counter u).codeA != a && (s.counter u).codeB != b then t.illegalChange u
          else t.encoderStep u (stepForward (s.counter u).codeA (s.counter u).codeB a b)
      | .loopPair => if (s.counter u).stuck then t else if (s.counter u).codeA != a && (s.counter u).codeB != b then t.loopDouble u
          else t.loopChange u ((changeOf (s.counter u).codeA (s.counter u).codeB a b).getD .aOn) := by
  obtain ⟨c, hc⟩ := changeOf_ne h
  simp only [State.observe, hc, Option.getD_some] <;> rfl

theorem State.observe_unchanged (s : State) (u : Fin 12) : s.observe u (s.counter u).codeA (s.counter u).codeB = s := by
  simp only [State.observe, changeOf_same]
  exact s.setCounter_self u

theorem exec_encoderStep (u : Fin 12) (a b : Bool) (s : State) :
    exec (.encoderStep u a b) s = .next (s.command fun t => t.observe u a b) := rfl

theorem exec_loopInputChange (u : Fin 12) (a b : Bool) (s : State) :
    exec (.loopInputChange u a b) s = .next (s.command fun t => t.observe u a b) := rfl

theorem codePlace_eq (x y : Bool) : codePlace x y = if x then (if y then 2 else 3) else (if y then 1 else 0) := by
  cases x <;> cases y <;> rfl

theorem single_or_double {a b a' b' : Bool} (h : (a = a' ∧ b ≠ b') ∨ (a ≠ a' ∧ b = b')) :
    (a ≠ a' ∨ b ≠ b') ∧ (a != a' && b != b') = false := by
  obtain ⟨ha, hb⟩ | ⟨ha, hb⟩ := h
  · exact ⟨.inr hb, by simp [ha]⟩
  · exact ⟨.inl ha, by simp [hb]⟩

/-- An observation in OFF only takes the code. -/
theorem State.observe_off {s : State} {u : Fin 12} (a b : Bool) (hm : (s.counter u).cfg.mode = .off) :
    s.observe u a b = s.setCounter u { s.counter u with codeA := a, codeB := b } := by
  by_cases h : (s.counter u).codeA ≠ a ∨ (s.counter u).codeB ≠ b
  · rw [State.observe_changed h, hm]
  · obtain ⟨rfl, rfl⟩ : (s.counter u).codeA = a ∧ (s.counter u).codeB = b := by simpa using h
    rw [State.observe_unchanged]
    exact (s.setCounter_self u).symm

theorem State.setCounter_setCounter (s : State) (u : Fin 12) (c c' : Counter) :
    (s.setCounter u c).setCounter u c' = s.setCounter u c' := by
  simp [State.setCounter]

/-- The double change of a unit whose code has been taken (R82). -/
theorem State.illegalChange_setCounter (s : State) (u : Fin 12) (c : Counter) :
    (s.setCounter u c).illegalChange u =
      if c.illegal < 255 then (s.setCounter u { c with illegal := c.illegal + 1 }).post (.counter u) Flag.ctrIllegal
      else s.setCounter u c := by
  simp only [State.illegalChange, State.setCounter_counter_same, State.setCounter_setCounter]
  rfl

theorem State.gateOfUnit_eq_some {s : State} {u : Fin 12} {g : Fin 6} (h : s.gateOfUnit u = some g) :
    (s.gate g).configured = true ∧ (s.gate g).cfg.encoder = u := by
  simpa using List.find?_some h

theorem State.gateOfUnit_congr {s t : State} (h : t.gates = s.gates) (u : Fin 12) : t.gateOfUnit u = s.gateOfUnit u := by
  simp only [State.gateOfUnit, State.gate, h]

theorem State.gateOfUnit_isSome (s : State) (u : Fin 12) :
    (s.gateOfUnit u).isSome = true ↔ ∃ g : Fin 6, (s.gate g).cfg.segment ≠ none ∧ (s.gate g).cfg.encoder = u := by
  simp [State.gateOfUnit, Gate.configured, Option.isSome_iff_ne_none]

/-- What a step does to the unit whose code has been taken, and to the gate that names it (R83). -/
theorem State.encoderStep_setCounter (s : State) (u : Fin 12) (c : Counter) (up : Bool) :
    (s.setCounter u c).encoderStep u up =
      match s.gateOfUnit u with
      | some g => (s.setCounter u { c with count := bumpCount up c.count }).setGate g ((s.gate g).step up)
      | none => s.setCounter u { c with count := bumpCount up c.count } := by
  simp only [State.encoderStep, State.updCounter_eq, State.setCounter_counter_same, State.setCounter_setCounter]
  cases h : s.gateOfUnit u with
  | none => simp only [State.deliverStep, show (s.setCounter u { c with count := bumpCount up c.count }).gateOfUnit u = none from h]
  | some g =>
    simp only [State.deliverStep, show (s.setCounter u { c with count := bumpCount up c.count }).gateOfUnit u = some g from h]
    rfl

/-- A step within the range of the position moves it by one, saturating (R63). -/
theorem clampInt_step (up : Bool) {x : Int} (hlo : -32768 ≤ x) (hhi : x ≤ 32767) :
    clampInt (-32768) 32767 (if up then x + 1 else x - 1) = if up then min 32767 (x + 1) else max (-32768) (x - 1) := by
  unfold clampInt
  cases up <;> simp <;> omega

/-- Settles O33: the code taken, and then by the mode of the unit and the change. -/
theorem encoderStepMovesGate : Obligations.EncoderStepMovesGate := by
  unfold Obligations.EncoderStepMovesGate
  intro u a b s h
  have hup : decide ((codePlace (s.counter u).codeA (s.counter u).codeB + 1) % 4 = codePlace a b) =
      stepForward (s.counter u).codeA (s.counter u).codeB a b := rfl
  simp only [← codePlace_eq, hup]
  have hc := exec_encoderStep u a b s
  refine ⟨fun ha hb => ?_, fun hm => ?_, fun hm hsingle hno => ?_, fun g hm hsingle hg hlo hhi => ?_, fun hm hdouble => ?_⟩
  · subst ha hb
    exact exec_settled hc h (s.observe_unchanged u) rfl rfl
  · exact exec_settled hc h (State.observe_off a b hm) rfl rfl
  · obtain ⟨hch, hd⟩ := single_or_double hsingle
    have hnone : s.gateOfUnit u = none := by
      rw [← Option.not_isSome_iff_eq_none, State.gateOfUnit_isSome]
      exact fun ⟨g, hs, he⟩ => hno g hs he
    refine exec_settled hc h ?_ rfl rfl
    rw [State.observe_changed hch, hm]
    simp only [hd, State.encoderStep_setCounter, hnone]
    rfl
  · obtain ⟨hch, hd⟩ := single_or_double hsingle
    refine exec_settled hc h ?_ rfl rfl
    rw [State.observe_changed hch, hm]
    simp only [hd, State.encoderStep_setCounter, hg, ← clampInt_step _ hlo hhi]
    rfl
  · have hd : ((s.counter u).codeA != a && (s.counter u).codeB != b) = true := by simp [hdouble.1, hdouble.2]
    refine exec_settled hc h ?_ ?_ ?_
    · rw [State.observe_changed (.inl hdouble.1), hm]
      simp only [hd, State.illegalChange_setCounter]
      rfl
    · split <;> rfl
    · split <;> rfl

/-! ### SET_COUNTER (R90, R91) -/

theorem counterModeOf_code (m : CounterMode) : counterModeOf (BitVec.ofNat 8 m.code) = some m := by cases m <;> rfl

/-- SET_COUNTER with its operands read (R90). -/
theorem State.applySetCounter_read {s : State} {unit fromSegment toSegment : Byte} {u : Fin 12} {x y : Fin 5} {m : CounterMode}
    (hu : unit.toNat = u.val) (hsides : m = .loopPair → fromSegment.toNat = x.val ∧ toSegment.toNat = y.val) :
    s.applySetCounter unit (BitVec.ofNat 8 m.code) fromSegment toSegment =
      s.acceptCounter u { mode := m, boundary := if m = .loopPair then some (x, y) else none } := by
  simp only [State.applySetCounter, indexOf_of_toNat hu, counterModeOf_code]
  by_cases hm : m = .loopPair
  · obtain ⟨hx, hy⟩ := hsides hm
    simp only [if_pos hm, indexOf_of_toNat hx, indexOf_of_toNat hy]
  · simp only [if_neg hm]

/-- The conflicts of R90. -/
theorem State.acceptCounter_conflict {s : State} {u : Fin 12} {x y : Fin 5} {m : CounterMode}
    (h : (m = .loopPair ∧ x = y) ∨ (m ≠ .encoder ∧ (s.gateOfUnit u).isSome = true)) :
    s.acceptCounter u { mode := m, boundary := if m = .loopPair then some (x, y) else none } = refuse .conflict s := by
  obtain ⟨hm, hxy⟩ | ⟨hm, hg⟩ := h
  · simp [State.acceptCounter, hm, hxy]
  · simp [State.acceptCounter, hm, hg]

theorem State.acceptCounter_ok {s : State} {u : Fin 12} {x y : Fin 5} {m : CounterMode}
    (hxy : m = .loopPair → x ≠ y) (hg : m ≠ .encoder → (s.gateOfUnit u).isSome = false) :
    let cfg : CounterConfig := { mode := m, boundary := if m = .loopPair then some (x, y) else none }
    let t := (s.setCounter u ((s.counter u).configuredAs cfg)).post (.counter u)
      (Flag.ctrConfig ||| if (s.counter u).stuck then Flag.ctrStuck else 0)
    s.acceptCounter u cfg = accept (t.counterReply u) t := by
  unfold State.acceptCounter
  dsimp only
  rw [if_neg ?_]
  · rfl
  · by_cases hm : m = .loopPair
    · have := hg (by rw [hm]; decide)
      simp [hm, hxy hm, this]
    · by_cases he : m = .encoder
      · simp [he]
      · simp [hm, hg he]

/-- Settles O36: the two conflicts of R90, or the unit started afresh. -/
theorem setCounterApplies : Obligations.SetCounterApplies := by
  unfold Obligations.SetCounterApplies
  intro tag unit fromSegment toSegment u x y m s h hu hsides
  simp only [← State.gateOfUnit_isSome]
  have happly := State.applySetCounter_read (s := s) hu hsides
  refine ⟨fun hconflict => ?_, fun hfree => ?_⟩
  · exact exec_refused (k := .setCounter) rfl h (happly.trans (State.acceptCounter_conflict hconflict))
  · have hok := State.acceptCounter_ok (s := s) (u := u) (x := x) (y := y) (m := m) (fun hm hxy => hfree (.inl ⟨hm, hxy⟩))
      (fun he => Bool.eq_false_iff.2 fun hg => hfree (.inr ⟨he, hg⟩))
    refine exec_accepted (k := .setCounter) rfl h (happly.trans (hok.trans (congrArg (accept · _) ?_))) rfl rfl
    simp only [State.counterReply, State.post_counter, State.setCounter_counter_same, Counter.configuredAs]
    congr 1
    · split <;> simp [u8opt, u8]
    · rw [State.gateOfUnit_congr (s := s) (by rfl) u, u8opt]
      cases s.gateOfUnit u <;> rfl

/-! ### Flashers (R96 to R99) -/

@[simp] theorem Flasher.retune_running (pats : Patterns) (c : FlashClass) (f : Flasher) : (f.retune pats c).running = c := by
  unfold Flasher.retune
  split
  · rfl
  · split <;> rfl

theorem Flasher.effective_congr {f g : Flasher} (reserve : Bool) (hg : f.gateReq = g.gateReq) (hp : f.pathReq = g.pathReq) :
    f.effective reserve = g.effective reserve := by
  unfold Flasher.effective
  rw [hg, hp]

theorem Flasher.retune_none (pats : Patterns) (f : Flasher) :
    (f.retune pats .none).output = false ∧ (f.retune pats .none).countdown = 0 := ⟨rfl, rfl⟩

/-- A fall to another class keeps the phase and the countdown (R99). -/
theorem Flasher.retune_fall {pats : Patterns} {c : FlashClass} {f : Flasher} (hc : c ≠ .none) (h : ¬f.running.code < c.code) :
    (f.retune pats c).phaseOn = f.phaseOn ∧ (f.retune pats c).countdown = f.countdown := by
  rw [Flasher.retune, if_neg hc, if_neg h]
  exact ⟨rfl, rfl⟩

theorem FlashClass.ne_none_of_lt {a c : FlashClass} (h : a.code < c.code) : c ≠ .none := by
  rintro rfl
  cases a <;> exact absurd h (by decide)

/-- A gate's request: the entry, and the generator where the effective class has changed (R96, R99). -/
theorem State.gateRequest_eq (s : State) (i : Fin 8) (g : Fin 6) (c : FlashClass) :
    let f : Flasher := { s.flasher i with gateReq := (s.flasher i).gateReq.set g c }
    let c' := f.effective s.inReserve
    s.gateRequest i g c =
      if c' = (s.flasher i).running then s.setFlasher i f
      else (s.setFlasher i (f.retune s.patterns c')).post .system Flag.flasher := by
  simp only [State.gateRequest, State.settleFlasher, State.updFlasher_eq, State.setFlasher_flasher_same,
    State.setFlasher_inReserve, State.setFlasher_patterns]
  congr 1
  simp [State.setFlasher]

/-- Settles O38: the effective class is as it was, or the generator is retuned to it. -/
theorem flasherFollowsRequests : Obligations.FlasherFollowsRequests := by
  unfold Obligations.FlasherFollowsRequests
  intro i g c s hrun
  dsimp only
  set f : Flasher := { s.flasher i with gateReq := (s.flasher i).gateReq.set g c } with hf
  have hframe := s.gateRequest_exceptBarriers i g c
  have heq := s.gateRequest_eq i g c
  dsimp only at heq
  rw [← hf] at heq
  by_cases hc : f.effective s.inReserve = (s.flasher i).running
  · rw [if_pos hc] at heq
    have hi : (s.gateRequest i g c).flasher i = f := by rw [heq, State.setFlasher_flasher_same]
    rw [hi]
    refine ⟨rfl, rfl, hc.symm, fun _ => ⟨rfl, rfl, by rw [heq]; rfl⟩, fun h => absurd rfl h, fun h => absurd h (lt_irrefl _),
      fun h => absurd h (lt_irrefl _), fun hn h => absurd h hn, fun j hj => ?_, hframe⟩
    rw [heq, State.setFlasher_flasher_other _ _ _ _ hj]
  · rw [if_neg hc] at heq
    have hi : (s.gateRequest i g c).flasher i = f.retune s.patterns (f.effective s.inReserve) := by
      rw [heq, State.post_flasher, State.setFlasher_flasher_same]
    obtain ⟨hgate, hpath⟩ := f.retune_requests s.patterns (f.effective s.inReserve)
    rw [hi, Flasher.retune_running]
    refine ⟨hgate, hpath, (Flasher.effective_congr _ hgate hpath).symm, fun h => absurd h hc, fun _ => ?_, fun h => ?_, fun h hn => ?_,
      fun _ h => ?_, fun j hj => ?_, hframe⟩
    · rw [heq]
      exact State.post_reported _ _ _
    · rw [Flasher.retune_rise f s.patterns _ (FlashClass.ne_none_of_lt h) h]
      exact ⟨rfl, rfl⟩
    · exact Flasher.retune_fall (f := f) hn (Nat.not_lt.2 h.le)
    · rw [h]
      exact f.retune_none s.patterns
    · rw [heq, State.post_flasher, State.setFlasher_flasher_other _ _ _ _ hj]

/-! ### Flash steps and phase ends (R98) -/

theorem exec_flashStep (s : State) : exec .flashStep s = .next (s.command State.flashStepOnce) := rfl

theorem exec_flashPhaseEnd (i : Fin 8) (s : State) : exec (.flashPhaseEnd i) s = .next (s.runEvent (.phaseEnd i)) := rfl

theorem Flasher.step_phaseOver (f : Flasher) : f.step.phaseOver = true ↔ f.running ≠ .none ∧ f.countdown ≤ 1 := by
  unfold Flasher.step
  split
  · next h => simp [Flasher.phaseOver, h]
  · next h => simp [Flasher.phaseOver, h]; omega

theorem State.flashStepOnce_flasher (s : State) (i : Fin 8) : s.flashStepOnce.flasher i = (s.flasher i).step := by
  simp [State.flashStepOnce, State.flasher]

theorem State.mem_flashStepOnce_due (s : State) (d : Due) :
    d ∈ s.flashStepOnce.due ↔ d ∈ s.due ∨ ∃ i : Fin 8, (s.flasher i).step.phaseOver = true ∧ d = .phaseEnd i := by
  simp [State.flashStepOnce, State.flasher, mem_dueIf]

/-- Settles O39. -/
theorem flashStepsAndPhases : Obligations.FlashStepsAndPhases := by
  unfold Obligations.FlashStepsAndPhases
  refine fun s hcalm => ⟨fun hdue => ⟨s.flashStepOnce, ?_, fun i => ⟨?_, ?_⟩, fun d hd => ?_, rfl⟩, fun i f ds hrun hcount hf => ?_⟩
  · exact exec_settled (exec_flashStep s) ⟨hcalm, hdue⟩ rfl rfl rfl
  · exact s.flashStepOnce_flasher i
  · rw [State.mem_flashStepOnce_due, hdue]
    simp [Flasher.step_phaseOver]
  · rw [State.mem_flashStepOnce_due, hdue] at hd
    obtain h | ⟨i, _, hi⟩ := hd
    · cases h
    · exact ⟨i, hi⟩
  · rw [exec_flashPhaseEnd, State.runEvent_first _ (.phaseEnd i) ds rfl rfl (by simp)]
    have hover : f.phaseOver = true := by simp [Flasher.phaseOver, hrun, hcount]
    have heffect : State.applyDue { s with due := ds } (.phaseEnd i) = { s with due := ds }.setFlasher i (f.nextPhase s.patterns) := by
      show State.flashPhaseEnd _ i = _
      rw [State.flashPhaseEnd, if_pos (by rw [show ({ s with due := ds } : State).flasher i = f from hf]; exact hover), State.updFlasher_eq,
        show ({ s with due := ds } : State).flasher i = f from hf]
    refine congrArg _ (Eq.trans (congrArg _ heffect) ?_)
    exact State.conclude_of_calm _ _ rfl ((State.calm_of_lines s _ rfl).2 hcalm)

end Sys2Proof.Machine
end

section
/-! SUPPORT. What closing, reopening and the open postures keep of a segment: its cause set, its settings, its counts; what stays
reported; and what a change of a path writes and hands on (R3 to R15, R43 to R49, R190). -/

namespace Sys2Proof.Machine

/-! ### Properties kept by the phases of a segment -/

/-- A segment record that follows another with the same settings, causes and counts. -/
structure Segment.SameCauses (a b : Segment) : Prop where
  cfg : b.cfg = a.cfg
  causes : b.causes = a.causes
  occupancy : b.occupancy = a.occupancy
  drift : b.drift = a.drift
  uncertain : b.uncertain = a.uncertain

/-- A property of segments, gates and flashers that every change of posture and phase keeps, every change of a gate and every change
of a flasher but of its paths' requests. -/
structure PostureStable (P : State → Prop) : Prop where
  other : ∀ {s t : State}, t.segments = s.segments → t.gates = s.gates → t.flashers = s.flashers → P s → P t
  gate : ∀ {s : State} {i : Fin 6} {g : Gate}, P s → P (s.setGate i g)
  flasher : ∀ {s : State} {i : Fin 8} {f : Flasher}, f.pathReq = (s.flasher i).pathReq → P s → P (s.setFlasher i f)
  segment : ∀ {s : State} {i : Fin 4} {r : Segment}, (s.segment i).SameCauses r → P s → P (s.setSegment i r)

namespace PostureStable

variable {P : State → Prop} (h : PostureStable P) {s : State}
include h

theorem post {o : Obj} {f : BitVec 16} (hs : P s) : P (s.post o f) := h.other (s := s) rfl rfl rfl hs

theorem postIf {c : Bool} {o : Obj} {f : BitVec 16} (hs : P s) : P (s.postIf c o f) := by
  cases c
  · exact hs
  · exact h.post hs

theorem setPosture {i : Fin 4} {p : Posture} {ph : Phase} (hs : P s) : P (s.setPosture i p ph) :=
  iteInduction (fun _ => hs) fun _ => h.post (h.segment ⟨rfl, rfl, rfl, rfl, rfl⟩ hs)

theorem toGateStable : GateStable P where
  gate := h.gate
  flasher := h.flasher
  post := h.post
  completeLower hs := iteInduction (fun _ => h.setPosture hs) fun _ => hs
  completeReopen hs := iteInduction (fun _ => h.setPosture hs) fun _ => hs

theorem evalOpen {i : Fin 4} (hs : P s) : P (s.evalOpen i) := iteInduction (fun _ => h.setPosture hs) fun _ => hs

theorem evalOccupied {i : Fin 4} (hs : P s) : P (s.evalOccupied i) :=
  iteInduction (fun _ => h.post (h.segment ⟨rfl, rfl, rfl, rfl, rfl⟩ hs)) fun _ => hs

theorem enterLower {i : Fin 4} (hs : P s) : P (s.enterLower i) :=
  h.toGateStable.completeLower (h.toGateStable.gatesDown (h.setPosture hs))

theorem endConfirm {i : Fin 4} (hs : P s) : P (s.endConfirm i) :=
  iteInduction (fun _ => h.enterLower hs) fun _ => h.setPosture hs

theorem evalConfirmPhase {i : Fin 4} (hs : P s) : P (s.evalConfirmPhase i) :=
  iteInduction (fun _ => h.endConfirm hs) fun _ => hs

theorem evalConfirm {i : Fin 4} (hs : P s) : P (s.evalConfirm i) :=
  iteInduction (fun _ => h.post (h.segment ⟨rfl, rfl, rfl, rfl, rfl⟩ hs)) fun _ => h.evalConfirmPhase hs

theorem timeoutConfirm {i : Fin 4} (hs : P s) : P (s.timeoutConfirm i) :=
  iteInduction (fun _ => h.endConfirm (h.post (h.segment ⟨rfl, rfl, rfl, rfl, rfl⟩ hs))) fun _ => hs

theorem endLead {i : Fin 4} (hs : P s) : P (s.endLead i) := iteInduction (fun _ => h.enterLower hs) fun _ => hs

theorem beginConfirm {i : Fin 4} (hs : P s) : P (s.beginConfirm i) :=
  h.setPosture (h.postIf (h.segment ⟨rfl, rfl, rfl, rfl, rfl⟩ hs))

theorem causeEffect {i : Fin 4} {c : Cause} {b : Bool} (hs : P s) : P (s.causeEffect i c b) := by
  unfold State.causeEffect
  split
  · exact h.evalConfirmPhase (h.beginConfirm hs)
  · exact h.evalConfirmPhase (h.beginConfirm hs)
  · exact h.evalConfirmPhase (foldl_keeps (fun _ _ => h.toGateStable.gateBack) _ (h.beginConfirm hs))
  · exact iteInduction (fun _ => h.timeoutConfirm (h.segment ⟨rfl, rfl, rfl, rfl, rfl⟩ hs)) fun _ => hs
  · exact iteInduction (fun _ => h.enterLower hs) fun _ => hs
  all_goals exact hs

theorem enterReopening {i : Fin 4} (hs : P s) : P (s.enterReopening i) :=
  h.toGateStable.completeReopen (h.toGateStable.gatesUp (h.setPosture hs))

theorem of_exceptSigns {t : State} (ht : t.exceptSigns = s.exceptSigns) (hs : P s) : P t :=
  h.other (s := s) (congrArg State.segments ht :) (congrArg State.gates ht :) (congrArg State.flashers ht :) hs

theorem of_exceptTraffic {t : State} (ht : t.exceptTraffic = s.exceptTraffic) (hs : P s) : P t :=
  h.other (s := s) (congrArg State.segments ht :) (congrArg State.gates ht :) (congrArg State.flashers ht :) hs

theorem replan (hs : P s) : P s.replan := h.of_exceptSigns s.replan_exceptSigns hs

theorem answered {k t : Byte} {o : OutcomeCode} {d : List Byte} (hs : P s) : P (s.answered k t o d) := h.other (s := s) rfl rfl rfl hs

theorem conclude {a : State} (hs : P s) : P (State.conclude a s) := by
  refine h.of_exceptTraffic (State.finish_exceptTraffic _) (foldl_keeps (fun s i hs => ?_) _ hs)
  exact iteInduction (fun _ => h.evalConfirm hs) fun _ => hs

theorem handOpen {a b : PathRec} (hs : P s) : P (s.handOpen a b) :=
  iteInduction (fun _ => hs) fun _ =>
    iteInduction (fun _ => h.evalOpen hs) fun _ => h.evalOpen (h.evalOpen hs)

end PostureStable

/-! #### The cause set of a segment, and the paths' requests on a flasher -/

theorem postureStable_causes (i : Fin 4) (Q : List Cause → Prop) : PostureStable fun s => Q (s.segment i).causes where
  other hseg _ _ hs := by rw [State.segment, hseg]; exact hs
  gate hs := hs
  flasher _ hs := hs
  segment {s j r} hr hs := by
    by_cases hj : j = i
    · subst hj; rw [State.setSegment_segment_same, hr.causes]; exact hs
    · rw [State.setSegment_segment_other _ _ _ _ (Ne.symm hj)]; exact hs

theorem postureStable_pathReq (i : Fin 8) (n : Fin 12) (v : Bool) : PostureStable fun s => (s.flasher i).pathReq[n] = v where
  other _ _ hf hs := by simp only [State.flasher, hf]; exact hs
  gate hs := hs
  flasher {s j f} hf hs := by
    by_cases hj : j = i
    · subst hj; simp only [State.setFlasher_flasher_same, hf]; exact hs
    · rw [State.setFlasher_flasher_other _ _ _ _ (Ne.symm hj)]; exact hs
  segment _ hs := hs

/-- What is reported stays reported, whatever a step does. -/
theorem recordStable_reported (o : Obj) (f : BitVec 16) : RecordStable fun s => s.reported o f where
  follow hs ht := (State.reported_of_reports _ _ o f ht.reports).2 hs
  post hs := State.post_keeps _ _ _ _ _ hs

/-- A posting reports each of its flags. -/
theorem State.post_reported_of (s : State) (o : Obj) {f g : BitVec 16} (h : g &&& f = f) : (s.post o g).reported o f := by
  obtain ⟨e, he, ho, hg⟩ := s.post_reported o g
  refine ⟨e, he, ho, ?_⟩
  rw [← h, ← BitVec.and_assoc, hg]

theorem mem_insertCause (c d : Cause) (l : List Cause) : d ∈ insertCause c l ↔ d = c ∨ d ∈ l := by
  induction l with
  | nil => simp [insertCause]
  | cons e l ih =>
    unfold insertCause
    split
    · simp
    · simp only [List.mem_cons, ih]; tauto

/-- A cause added is held. -/
theorem State.addCause_mem (s : State) (i : Fin 4) (c : Cause) : c ∈ ((s.addCause i c).segment i).causes := by
  unfold State.addCause
  dsimp only
  split
  · next h => simpa using h
  · refine (postureStable_causes i (c ∈ ·)).causeEffect ?_
    simp [State.postSeg, mem_insertCause]

/-- A cause removed is held no more. -/
theorem State.removeCause_notMem (s : State) (i : Fin 4) (c : Cause) : c ∉ ((s.removeCause i c).segment i).causes := by
  unfold State.removeCause
  dsimp only
  split
  · next h => simpa using h
  · split
    · refine (postureStable_causes i (c ∉ ·)).enterReopening ?_
      simp [State.postSeg]
    · simp [State.postSeg]

theorem RecordStable.answered {P : State → Prop} (h : RecordStable P) {s : State} {k t : Byte} {o : OutcomeCode} {d : List Byte}
    (hs : P s) : P (s.answered k t o d) := h.same hs ⟨rfl, rfl, rfl, rfl⟩

theorem State.answered_exceptOutputs {s t : State} (h : t.exceptOutputs = s.exceptOutputs) (k tag : Byte) (o : OutcomeCode)
    (d : List Byte) : (t.answered k tag o d).exceptOutputs = (s.answered k tag o d).exceptOutputs :=
  congrArg (fun u : State => u.answered k tag o d) h

@[simp] theorem State.answered_path (s : State) (k tag : Byte) (o : OutcomeCode) (d : List Byte) (n : Fin 12) :
    (s.answered k tag o d).path n = s.path n := rfl

@[simp] theorem State.answered_trace (s : State) (k tag : Byte) (o : OutcomeCode) (d : List Byte) :
    (s.answered k tag o d).trace = s.trace := rfl

/-! ### A change of a path (R43 to R45) -/

/-- The trace after the entry that a change gives, if it gives one. -/
def State.traceWith (s : State) (e : Option (TraceKind × Nat)) (object : Nat) : Trace :=
  match e with
  | some (k, v) =>
    (s.trace.record { second := s.tmb.passClock, tick := s.tmb.tickInSecond, kind := k, object := object, value := v }).1
  | none => s.trace

theorem State.traceMaybe_eq (s : State) (e : Option (TraceKind × Nat)) (object : Nat) :
    ∃ f : BitVec 16, s.traceMaybe e object = { s with trace := s.traceWith e object }.postIf (f != 0) .trace f := by
  cases e with
  | none => exact ⟨0, rfl⟩
  | some e => exact ⟨_, rfl⟩

theorem paths_of_exceptOutputs {s t : State} (h : t.exceptOutputs = s.exceptOutputs) : t.paths = s.paths :=
  (congrArg State.paths h :)

theorem trace_of_exceptOutputs {s t : State} (h : t.exceptOutputs = s.exceptOutputs) : t.trace = s.trace :=
  (congrArg State.trace h :)

/-- What a change of a path leaves alone (R43 to R45). -/
theorem State.putPath_frame (s : State) (n : Fin 12) (new : PathRec) (f : BitVec 16) (e : Option (TraceKind × Nat)) :
    (s.putPath n new f e).exceptOutputs = { s.setPath n new with trace := s.traceWith e n.val }.exceptOutputs := by
  have hb : ∀ u : State, (((u.handFlasher n (s.path n) new).handCause n (s.path n) new).handOpen (s.path n) new).replan.exceptOutputs =
      u.exceptOutputs := fun u => by
    rw [exceptOutputs_of_exceptSigns (State.replan_exceptSigns _), exceptOutputs_of_exceptBarriers (t := State.handOpen _ _ _) (s := u)]
    simp
  unfold State.putPath
  dsimp only
  rw [hb]
  obtain ⟨g, hg⟩ := State.traceMaybe_eq ((s.setPath n new).postIf
    ((f ||| if (s.path n).state = new.state then 0 else Flag.pathState) != 0) (.path n)
    (f ||| if (s.path n).state = new.state then 0 else Flag.pathState)) e n.val
  rw [hg, exceptOutputs_of_exceptBarriers (State.postIf_exceptBarriers ..)]
  cases e <;> simp [State.traceWith, State.postIf] <;> split <;> rfl

theorem State.putPath_paths (s : State) (n : Fin 12) (new : PathRec) (f : BitVec 16) (e : Option (TraceKind × Nat)) :
    (s.putPath n new f e).paths = s.paths.set n new := paths_of_exceptOutputs (s.putPath_frame n new f e)

@[simp] theorem State.putPath_path_same (s : State) (n : Fin 12) (new : PathRec) (f : BitVec 16) (e : Option (TraceKind × Nat)) :
    (s.putPath n new f e).path n = new := by simp [State.path, State.putPath_paths]

theorem State.putPath_path_other (s : State) {n m : Fin 12} (new : PathRec) (f : BitVec 16) (e : Option (TraceKind × Nat))
    (h : m ≠ n) : (s.putPath n new f e).path m = s.path m := by
  have : (s.setPath n new).path m = s.path m := s.setPath_path_other n new m h
  rw [State.path, State.putPath_paths]
  exact this

theorem State.putPath_trace (s : State) (n : Fin 12) (new : PathRec) (f : BitVec 16) (e : Option (TraceKind × Nat)) :
    (s.putPath n new f e).trace = s.traceWith e n.val := trace_of_exceptOutputs (s.putPath_frame n new f e)

/-- What a change of a path has posted, it reports. -/
theorem State.putPath_reported {s : State} {n : Fin 12} {new : PathRec} {f g : BitVec 16} (e : Option (TraceKind × Nat))
    (hg : (f ||| if (s.path n).state = new.state then 0 else Flag.pathState) &&& g = g) (h0 : g ≠ 0) :
    (s.putPath n new f e).reported (.path n) g := by
  have h := recordStable_reported (.path n) g
  have hne : ((f ||| if (s.path n).state = new.state then 0 else Flag.pathState) != 0) = true := by
    rw [bne_iff_ne]
    rintro hz
    rw [hz] at hg
    exact h0 (by simpa using hg.symm)
  unfold State.putPath
  dsimp only
  refine h.toStepStable.toPlanStable.replan (h.toStepStable.handOpen (h.toStepStable.handCause (h.toStepStable.handFlasher
    (h.toStepStable.traceMaybe ?_))))
  rw [hne]
  exact State.post_reported_of _ _ hg

theorem State.putPath_reported_state {s : State} {n : Fin 12} {new : PathRec} (e : Option (TraceKind × Nat))
    (h : (s.path n).state ≠ new.state) : (s.putPath n new 0 e).reported (.path n) Flag.pathState :=
  State.putPath_reported e (by rw [if_neg h]; rfl) (by decide)

theorem State.putPath_cause_added {s : State} {n : Fin 12} {new : PathRec} (f : BitVec 16) (e : Option (TraceKind × Nat))
    (hold : (s.path n).isCause = false) (hnew : new.isCause = true) :
    Cause.path n ∈ ((s.putPath n new f e).segment new.cfg.segment).causes := by
  have h := postureStable_causes new.cfg.segment (Cause.path n ∈ ·)
  unfold State.putPath State.handCause
  simp only [hold, hnew]
  exact h.replan (h.handOpen (State.addCause_mem _ _ _))

theorem State.putPath_cause_removed {s : State} {n : Fin 12} {new : PathRec} (f : BitVec 16) (e : Option (TraceKind × Nat))
    (hold : (s.path n).isCause = true) (hnew : new.isCause = false) :
    Cause.path n ∉ ((s.putPath n new f e).segment (s.path n).cfg.segment).causes := by
  have h := postureStable_causes (s.path n).cfg.segment (Cause.path n ∉ ·)
  unfold State.putPath State.handCause
  simp only [hold, hnew]
  exact h.replan (h.handOpen (State.removeCause_notMem _ _ _))

/-- A property that reads no segment is kept by a path's hand-over of its cause. -/
theorem PostureStable.handCause {P : State → Prop} (h : PostureStable P)
    (hseg : ∀ {s : State} {i : Fin 4} {r : Segment}, P s → P (s.setSegment i r)) {s : State} {n : Fin 12} {a b : PathRec} (hs : P s) :
    P (s.handCause n a b) := by
  unfold State.handCause
  split
  · exact iteInduction (fun _ => hs) fun _ => h.causeEffect (h.post (hseg hs))
  · exact iteInduction (fun _ => hs) fun _ =>
      iteInduction (fun _ => h.enterReopening (h.post (hseg hs))) fun _ => h.post (hseg hs)
  · exact hs
  · exact hs

theorem State.pathRequest_pathReq (s : State) (i : Fin 8) (n : Fin 12) (on : Bool) :
    ((s.pathRequest i n on).flasher i).pathReq[n] = on := by
  refine (postureStable_pathReq i n on).toGateStable.settleFlasher ?_
  simp [State.updFlasher_eq]

theorem State.putPath_withdrawn {s : State} {n : Fin 12} {new : PathRec} {i : Fin 8} (f : BitVec 16) (e : Option (TraceKind × Nat))
    (hold : (s.path n).request = some i) (hnew : new.request = none) :
    ((s.putPath n new f e).flasher i).pathReq[n] = false := by
  have h := postureStable_pathReq i n false
  unfold State.putPath State.handFlasher State.pathWithdraw State.pathPost
  simp only [hold, hnew, reduceCtorEq, if_false]
  exact h.replan (h.handOpen (h.handCause id (State.pathRequest_pathReq _ i n false)))

@[simp] theorem State.conclude_path (a s : State) (n : Fin 12) : (State.conclude a s).path n = s.path n := by
  rw [State.path, paths_of_exceptOutputs (State.conclude_exceptOutputs a s), State.path]

@[simp] theorem State.conclude_trace (a s : State) : (State.conclude a s).trace = s.trace :=
  trace_of_exceptOutputs (State.conclude_exceptOutputs a s)

/-! ### Requests that change a path (R46 to R51) -/

/-- A request that an owner's change of a path answers, to the end of its step. -/
theorem exec_putPath {c : Instr} {k : RequestKind} {s : State} {n : Fin 12} {new : PathRec} {f : BitVec 16}
    {e : Option (TraceKind × Nat)} {d : List Byte} (hk : c.requestKind = some k) (h : s.listening)
    (ha : s.applyRequest c = accept d (s.putPath n new f e)) :
    ∃ t : State, exec c s = .next t ∧ t.path n = new ∧ t.trace = s.traceWith e n.val ∧
      (∀ m : Fin 12, m ≠ n → t.path m = s.path m) ∧
      t.exceptOutputs = ({ s.setPath n new with trace := s.traceWith e n.val }.answered
        (bodyHead (encodeBody c)).1 (bodyHead (encodeBody c)).2 .ok d).exceptOutputs ∧
      (∀ P : State → Prop, PostureStable P → P (s.putPath n new f e) → P t) ∧
      ∀ (o : Obj) (g : BitVec 16), (s.putPath n new f e).reported o g → t.reported o g := by
  refine ⟨_, exec_concluded hk h ha, ?_, ?_, fun m hm => ?_, ?_, fun P hP hs => hP.conclude (hP.answered hs), fun o g hr =>
    (recordStable_reported o g).toStepStable.conclude ((recordStable_reported o g).answered hr)⟩
  · rw [State.conclude_path, State.answered_path, State.putPath_path_same]
  · rw [State.conclude_trace, State.answered_trace, State.putPath_trace]
  · rw [State.conclude_path, State.answered_path, State.putPath_path_other _ _ _ _ hm]
  · rw [State.conclude_exceptOutputs]
    exact State.answered_exceptOutputs (s.putPath_frame n new f e) ..

end Sys2Proof.Machine
end

section
/-! SUPPORT. The path requests ACK_PATH, DISMISS_PATH, CLEAR_PATH and MASK_PATH (R43 to R49). -/

namespace Sys2Proof.Machine

theorem onPath_unconfigured {path : Byte} {n : Fin 12} {s : State} {f : Fin 12 → Answer} (hn : path.toNat = n.val)
    (hm : (s.path n).cfg.members = 0) : onPath path s f = refuse .notConfigured s := by
  simp [onPath, indexOf_of_toNat hn, PathRec.configured, hm]

theorem onPath_configured {path : Byte} {n : Fin 12} {s : State} {f : Fin 12 → Answer} (hn : path.toNat = n.val)
    (hm : (s.path n).cfg.members ≠ 0) : onPath path s f = f n := by
  rw [onPath, indexOf_of_toNat hn]
  exact if_pos (bne_iff_ne.2 hm)

theorem pathAnswer_putPath (s : State) (n : Fin 12) (new : PathRec) (f : BitVec 16) (e : Option (TraceKind × Nat)) :
    pathAnswer n (s.putPath n new f e) = accept (u8 new.state.code) (s.putPath n new f e) := by
  rw [pathAnswer, State.putPath_path_same]

/-- The record of a path that the host releases from ALERT or HOLD (R47, R48). -/
def State.releasedPath (s : State) (n : Fin 12) : PathRec :=
  { s.path n with state := (if s.anyActive (s.path n) then .watch else .quiet), lastAct := Vector.replicate 16 none, lastVote := 0 }

theorem State.releasedPath_calm (s : State) (n : Fin 12) :
    (s.releasedPath n).isCause = false ∧ (s.releasedPath n).request = none ∧
      (s.releasedPath n).state ≠ .alert ∧ (s.releasedPath n).state ≠ .hold := by
  unfold State.releasedPath PathRec.isCause PathRec.request
  by_cases h : s.anyActive (s.path n) <;> simp [h]

/-- A release answers the free state, withdraws cause and request and is traced (R43 to R45, R47, R48). -/
theorem exec_releasePath {c : Instr} {k : RequestKind} {s : State} {n : Fin 12} {e : TraceKind} (hk : c.requestKind = some k)
    (h : s.listening) (hstate : (s.path n).state = .alert ∨ (s.path n).state = .hold)
    (ha : s.applyRequest c = pathAnswer n (s.releasePath n e)) :
    ∃ t : State, exec c s = .next t ∧ t.path n = s.releasedPath n ∧ t.reported (.path n) Flag.pathState ∧
      t.trace = s.traceWith (some (e, 0)) n.val ∧
      ((s.path n).state = .hold ∨ (s.path n).cfg.autoclose = true →
        Cause.path n ∉ (t.segment (s.path n).cfg.segment).causes) ∧
      (∀ f : Fin 8, (s.path n).cfg.flasher = some f → (t.flasher f).pathReq[n] = false) ∧
      (∀ m : Fin 12, m ≠ n → t.path m = s.path m) ∧
      t.exceptOutputs = ({ s.setPath n (s.releasedPath n) with trace := s.traceWith (some (e, 0)) n.val }.answered
        (bodyHead (encodeBody c)).1 (bodyHead (encodeBody c)).2 .ok (u8 (s.releasedPath n).state.code)).exceptOutputs := by
  obtain ⟨hcause, hreq, hna, hnh⟩ := s.releasedPath_calm n
  have hput : s.releasePath n e = s.putPath n (s.releasedPath n) 0 (some (e, 0)) := rfl
  rw [hput, pathAnswer_putPath] at ha
  obtain ⟨t, ht, hn, htrace, hother, hframe, hkeep, hrep⟩ := exec_putPath hk h ha
  refine ⟨t, ht, hn, hrep _ _ (State.putPath_reported_state _ ?_), htrace, fun hc => ?_, fun f hf => ?_, hother, hframe⟩
  · obtain hs | hs := hstate <;> rw [hs] <;> simp [hna.symm, hnh.symm]
  · refine hkeep _ (postureStable_causes _ (Cause.path n ∉ ·)) (State.putPath_cause_removed _ _ ?_ hcause)
    obtain hs | hs := hstate
    · simp_all [PathRec.isCause]
    · simp [PathRec.isCause, hs]
  · exact hkeep _ (postureStable_pathReq f n false) (State.putPath_withdrawn _ _ (by simp [PathRec.request, hstate, hf]) hreq)

theorem boolOf_zero : boolOf 0 = some false := rfl
theorem boolOf_one : boolOf 1 = some true := rfl

/-- MASK_PATH with its operands read (R49). -/
theorem State.applyMaskPath_read {path on : Byte} {n : Fin 12} {b : Bool} {s : State} (hn : path.toNat = n.val)
    (hm : (s.path n).cfg.members ≠ 0) (hb : boolOf on = some b) :
    s.applyMaskPath path on =
      if b then
        (match (s.path n).state with
        | .quiet | .watch => pathAnswer n (s.maskPath n)
        | .masked => pathAnswer n s
        | .alert | .hold => refuse .wrongState s)
      else if (s.path n).state = .masked then pathAnswer n (s.unmaskPath n) else pathAnswer n s := by
  simp only [State.applyMaskPath, indexOf_of_toNat hn, hb, PathRec.configured, bne_iff_ne.2 hm, Bool.not_true, Bool.false_eq_true, if_false]
  cases b <;> cases (s.path n).state <;> rfl

/-- Settles O22: each request by the state of the path. -/
theorem pathRequestsByState : Obligations.PathRequestsByState := by
  unfold Obligations.PathRequestsByState
  refine ⟨fun tag path n s h hn => ⟨fun hm => ?_, fun hm => ⟨fun ha => ?_, fun hh => ?_, fun ha => ?_, fun ha => ?_, fun hh => ?_⟩⟩, fun tag path n s h hn hm => ⟨fun hq => ?_, fun hk => ?_, fun hr => ?_, fun hk => ?_, fun hk => ?_⟩⟩
  · exact ⟨exec_refused (k := .ackPath) rfl h (onPath_unconfigured hn hm), exec_refused (k := .dismissPath) rfl h (onPath_unconfigured hn hm),
      exec_refused (k := .clearPath) rfl h (onPath_unconfigured hn hm)⟩
  · exact ⟨exec_refused (k := .ackPath) rfl h ((onPath_configured hn hm).trans (if_neg ha)),
      exec_refused (k := .dismissPath) rfl h ((onPath_configured hn hm).trans (if_neg ha))⟩
  · exact exec_refused (k := .clearPath) rfl h ((onPath_configured hn hm).trans (if_neg hh))
  · obtain ⟨t, ht, hnew, htrace, hother, hframe, hkeep, hrep⟩ := exec_putPath (c := .ackPath tag path) (k := .ackPath) rfl h
      ((onPath_configured hn hm).trans ((if_pos ha).trans (pathAnswer_putPath ..)))
    refine ⟨t, ht, hnew, hrep _ _ (State.putPath_reported_state _ (by simp [ha])), htrace, fun hauto => ?_, hother, ?_⟩
    · refine hkeep _ (postureStable_causes _ (Cause.path n ∈ ·)) (State.putPath_cause_added _ _ ?_ rfl)
      simp [PathRec.isCause, ha, hauto]
    · rw [hframe]; rfl
  · obtain ⟨t, ht, hnew, hrep, htrace, hcause, hreq, hother, hframe⟩ := exec_releasePath (c := .dismissPath tag path) (k := .dismissPath)
      rfl h (.inl ha) ((onPath_configured hn hm).trans (if_pos ha))
    exact ⟨t, ht, hnew, hrep, htrace, hcause, hreq, hother, by rw [hframe]; rfl⟩
  · obtain ⟨t, ht, hnew, hrep, htrace, hcause, hreq, hother, hframe⟩ := exec_releasePath (c := .clearPath tag path) (k := .clearPath)
      rfl h (.inr hh) ((onPath_configured hn hm).trans (if_pos hh))
    exact ⟨t, ht, hnew, hrep, htrace, hcause, hreq, hother, by rw [hframe]; rfl⟩
  · have hread : s.applyMaskPath path 1 = pathAnswer n (s.maskPath n) := by
      rw [State.applyMaskPath_read hn hm boolOf_one]
      obtain hq | hq := hq <;> rw [hq] <;> rfl
    obtain ⟨t, ht, hnew, htrace, hother, hframe, -, hrep⟩ := exec_putPath (c := .maskPath tag path 1) (k := .maskPath) rfl h
      (hread.trans (pathAnswer_putPath ..))
    refine ⟨t, ht, ⟨hrep _ _ (State.putPath_reported_state _ ?_), hother, ?_⟩, hnew⟩
    · obtain hq | hq := hq <;> simp [hq]
    · rw [hframe, hnew]; rfl
  · have hread : s.applyMaskPath path 0 = pathAnswer n (s.unmaskPath n) := by
      rw [State.applyMaskPath_read hn hm boolOf_zero, if_neg (by simp), if_pos hk]
    obtain ⟨t, ht, hnew, htrace, hother, hframe, -, hrep⟩ := exec_putPath (c := .maskPath tag path 0) (k := .maskPath) rfl h
      (hread.trans (pathAnswer_putPath ..))
    refine ⟨t, ht, ⟨hrep _ _ (State.putPath_reported_state _ ?_), hother, ?_⟩, hnew⟩
    · rw [hk]
      dsimp only
      split <;> simp
    · rw [hframe, hnew]; rfl
  · refine exec_refused (k := .maskPath) rfl h ((State.applyMaskPath_read hn hm boolOf_one).trans ?_)
    obtain hr | hr := hr <;> rw [hr] <;> rfl
  · refine exec_accepted (k := .maskPath) (t := s) rfl h ((State.applyMaskPath_read hn hm boolOf_one).trans ?_) rfl rfl
    simp only [hk, pathAnswer]
    rfl
  · refine exec_accepted (k := .maskPath) (t := s) rfl h ((State.applyMaskPath_read hn hm boolOf_zero).trans ?_) rfl rfl
    rw [if_neg (by simp), if_neg hk]
    rfl

/-! ### SET_PATH (R50, R51) -/

theorem boolOf_of_toNat {b : Byte} {v : Bool} (h : b.toNat = if v then 1 else 0) : boolOf b = some v := by
  have hb : b = if v then 1 else 0 := BitVec.eq_of_toNat_eq (by rw [h]; cases v <;> rfl)
  rw [hb]
  cases v <;> rfl

theorem flasherOf_of_toNat {b : Byte} {f : Option (Fin 8)} (h : b.toNat = (f.map Fin.val).getD 0xFF) : flasherOf b = some f := by
  cases f with
  | none => rw [show b = 0xFF from BitVec.eq_of_toNat_eq h]; rfl
  | some i =>
    have hi : b.toNat = i.val := h
    have hne : b ≠ 0xFF := by
      rintro rfl
      have : (255 : Nat) = i.val := hi
      omega
    rw [flasherOf, if_neg hne, indexOf_of_toNat hi]
    rfl

theorem pageOf_of_lt {x : Half} (h : x.toNat < 4096) : pageOf x = some (x.setWidth 12) := if_pos h

/-- SET_PATH with its operands read (R50). -/
theorem State.applySetPath_read {path segment k autoclose flasher : Byte} {members window hazardPage : Half} {n : Fin 12} {i : Fin 4}
    {a : Bool} {fl : Option (Fin 8)} {s : State} (hn : path.toNat = n.val) (hi : segment.toNat = i.val + 1)
    (ha : autoclose.toNat = if a then 1 else 0) (hp : hazardPage.toNat < 4096) (hf : flasher.toNat = (fl.map Fin.val).getD 0xFF) :
    s.applySetPath path segment members k window autoclose hazardPage flasher =
      if 8 < (bitsOf members).length then refuse .outOfRange s
      else s.acceptPath n
        { segment := i, members := members, k := appliedK k members, window := clampNat 1 2400 window.toNat, autoclose := a,
          hazardPage := hazardPage.setWidth 12, flasher := fl, masked := (s.path n).cfg.masked } := by
  simp only [State.applySetPath, indexOf_of_toNat hn, segmentOf_of_toNat hi, boolOf_of_toNat ha, pageOf_of_lt hp, flasherOf_of_toNat hf]
  rfl

/-- What a recomputation of the health keeps (R41). -/
theorem State.withHealth_keeps (s : State) (p : PathRec) :
    (s.withHealth p).cfg = p.cfg ∧ (s.withHealth p).state = p.state ∧ (s.withHealth p).lastAct = p.lastAct ∧
      (s.withHealth p).lastVote = p.lastVote := by
  unfold State.withHealth
  split <;> exact ⟨rfl, rfl, rfl, rfl⟩

/-- The health of a configured path (R40, R41). -/
theorem State.withHealth_health {s : State} {p : PathRec} (h0 : p.cfg.members ≠ 0) :
    (s.withHealth p).healthy = s.healthyCount p ∧ (s.withHealth p).kEff = max 1 (min p.cfg.k (s.healthyCount p)) ∧
      (s.withHealth p).degraded = decide (s.healthyCount p < p.cfg.k) := by
  rw [State.withHealth, if_pos (show p.configured = true from bne_iff_ne.2 h0)]
  exact ⟨rfl, rfl, rfl⟩

/-- The settings, the activations and the vote that SET_PATH leaves (R51). -/
theorem State.pathAfter_cfg (s : State) (old : PathRec) (cfg : PathConfig) :
    (s.pathAfter old cfg).cfg = { cfg with masked := cfg.masked && cfg.members != 0 } ∧
      (s.pathAfter old cfg).lastAct = (if old.cfg.members ≠ cfg.members then noActivations else old.lastAct) ∧
      (s.pathAfter old cfg).lastVote = if old.cfg.members ≠ cfg.members then 0 else old.lastVote := by
  unfold State.pathAfter
  obtain ⟨hcfg, -, hact, hvote⟩ := s.withHealth_keeps _
  refine ⟨hcfg, hact.trans ?_, hvote.trans ?_⟩ <;> simp only [bne_iff_ne]

theorem State.pathAfter_state (s : State) (old : PathRec) (cfg : PathConfig) :
    (s.pathAfter old cfg).state =
      if cfg.members = 0 then .quiet
      else if old.cfg.members ≠ cfg.members then
        if old.state = .masked then .masked
        else if (List.finRange 16).any (fun c => cfg.members.getLsbD c.val && (s.channel c).state == .active) then .watch else .quiet
      else old.state := by
  have hstate : (s.pathAfter old cfg).state = s.pathStateAfter old { old with
      cfg := cfg, lastAct := (if old.cfg.members != cfg.members then noActivations else old.lastAct),
      lastVote := (if old.cfg.members != cfg.members then 0 else old.lastVote) } := by
    exact (s.withHealth_keeps _).2.1
  rw [hstate]
  unfold State.pathStateAfter State.anyActive
  simp only [PathRec.configured, PathRec.hasMember]
  by_cases h0 : cfg.members = 0
  · simp [h0]
  · by_cases hm : old.cfg.members = cfg.members <;> simp [hm]

theorem State.pathAfter_health (s : State) (old : PathRec) (cfg : PathConfig) (h0 : cfg.members ≠ 0) :
    let healthy := ((List.finRange 16).filter fun c => cfg.members.getLsbD c.val && (s.channel c).healthy).length
    (s.pathAfter old cfg).healthy = healthy ∧ (s.pathAfter old cfg).kEff = max 1 (min cfg.k healthy) ∧
      (s.pathAfter old cfg).degraded = decide (healthy < cfg.k) := by
  exact State.withHealth_health (s := s) h0

/-- SET_PATH past its checks (R50). -/
theorem State.acceptPath_ok {s : State} {n : Fin 12} {cfg : PathConfig}
    (hlatched : ¬(((s.path n).state = .alert ∨ (s.path n).state = .hold) ∧
      ((s.path n).cfg.members ≠ cfg.members ∨ (s.path n).cfg.segment ≠ cfg.segment)))
    (hserving : ¬∃ c ∈ bitsOf cfg.members, (s.channel c).cfg.mode = .serve) :
    ∃ f : BitVec 16, f &&& Flag.pathConfig = Flag.pathConfig ∧
      s.acceptPath n cfg = accept (pathReply n (s.pathAfter (s.path n) cfg)) (s.putPath n (s.pathAfter (s.path n) cfg) f none) := by
  refine ⟨Flag.pathConfig ||| (if (s.path n).degraded = (s.pathAfter (s.path n) cfg).degraded then 0 else Flag.pathDegraded), ?_, ?_⟩
  · split <;> decide
  · unfold State.acceptPath
    dsimp only
    rw [if_neg hlatched, if_neg (by simpa using hserving), State.putPath_path_same]

/-- Flags posted among others are posted. -/
theorem flags_or_left {f g : BitVec 16} (x : BitVec 16) (h : f &&& g = g) : (f ||| x) &&& g = g := by
  ext i hi
  have hbit := congrArg (fun v : BitVec 16 => v[i]) h
  simp only [BitVec.getElem_and, BitVec.getElem_or] at hbit ⊢
  rw [Bool.and_or_distrib_right, hbit]
  cases g[i] <;> simp

theorem flags_or_right {f g : BitVec 16} (x : BitVec 16) (h : f &&& g = g) : (x ||| f) &&& g = g := by
  rw [BitVec.or_comm]
  exact flags_or_left x h

/-- Settles O21: the checks of R50 in their order, or the record of R51 written and handed on. -/
theorem setPathApplies : Obligations.SetPathApplies := by
  unfold Obligations.SetPathApplies
  intro tag path segment k autoclose flasher members window hazardPage n i a fl s h hn hi hauto hpage hfl
  have hread := State.applySetPath_read (k := k) (members := members) (window := window) (s := s) hn hi hauto hpage hfl
  refine ⟨fun hsize => ?_, fun hsize hlatched => ?_, fun hsize hfree hserving => ?_, fun hsize hfree hserving => ?_⟩
  · exact exec_refused (k := .setPath) rfl h (hread.trans (if_pos hsize))
  · refine exec_refused (k := .setPath) rfl h (hread.trans ((if_neg (Nat.not_lt.2 hsize)).trans ?_))
    exact if_pos hlatched
  · refine exec_refused (k := .setPath) rfl h (hread.trans ((if_neg (Nat.not_lt.2 hsize)).trans ?_))
    exact (if_neg hfree).trans (if_pos (by simpa using hserving))
  · set cfg : PathConfig :=
      { segment := i, members := members, k := appliedK k members, window := clampNat 1 2400 window.toNat, autoclose := a,
        hazardPage := hazardPage.setWidth 12, flasher := fl, masked := (s.path n).cfg.masked } with hcfg
    obtain ⟨f, hf, hok⟩ := State.acceptPath_ok (s := s) (n := n) (cfg := cfg) hfree hserving
    obtain ⟨t, ht, hnew, -, hother, hframe, hkeep, hrep⟩ :=
      exec_putPath (c := .setPath tag path segment members k window autoclose hazardPage flasher) (k := .setPath) rfl h
        (hread.trans ((if_neg (Nat.not_lt.2 hsize)).trans hok))
    obtain ⟨hnewcfg, hact, hvote⟩ := s.pathAfter_cfg (s.path n) cfg
    have hstate := s.pathAfter_state (s.path n) cfg
    have hnewauto : (s.pathAfter (s.path n) cfg).cfg.autoclose = a := by rw [hnewcfg]
    refine ⟨t, ht, ?_⟩
    rw [hnew]
    refine ⟨hrep _ _ (State.putPath_reported _ ?_ (by decide)), ?_, fun hm => ?_, fun hm => ?_, hstate, fun hne => ?_, fun h0 => ?_, fun hs ha ha' h0 => ?_, fun hs ha ha' => ?_, hother, ?_⟩
    · exact flags_or_left _ hf
    · exact hnewcfg
    · rw [hact, hvote, if_pos hm, if_pos hm]
      exact ⟨fun c => by simp [noActivations], rfl⟩
    · rw [hact, hvote, if_neg hm, if_neg hm]
      exact ⟨rfl, rfl⟩
    · exact hrep _ _ (State.putPath_reported _ (by rw [if_neg (Ne.symm hne)]; exact flags_or_right _ (by decide)) (by decide))
    · exact s.pathAfter_health (s.path n) cfg h0
    · have hnm : ¬(s.path n).cfg.members ≠ members := fun hm => hfree ⟨.inl hs, .inl hm⟩
      have halert : (s.pathAfter (s.path n) cfg).state = .alert := hstate.trans (by rw [if_neg h0, if_neg hnm, hs])
      have hcause := State.putPath_cause_added (s := s) (n := n) (new := s.pathAfter (s.path n) cfg) f none (by simp [PathRec.isCause, hs, ha])
        (by rw [PathRec.isCause, halert, hnewauto, ha']; rfl)
      rw [hnewcfg] at hcause
      exact hkeep _ (postureStable_causes i (Cause.path n ∈ ·)) hcause
    · have hseg : (s.path n).cfg.segment = i := by
        by_contra hne
        exact hfree ⟨.inl hs, .inr hne⟩
      have hnm : (s.path n).cfg.members = members := by
        by_contra hne
        exact hfree ⟨.inl hs, .inl hne⟩
      have hcause := State.putPath_cause_removed (s := s) (n := n) (new := s.pathAfter (s.path n) cfg) f none (by simp [PathRec.isCause, hs, ha])
        (by rw [PathRec.isCause, hstate, if_neg (not_not.2 hnm), hnewauto, ha', hs]; split <;> rfl)
      rw [hseg] at hcause
      exact hkeep _ (postureStable_causes i (Cause.path n ∉ ·)) hcause
    · rw [hframe, pathReply, hnewcfg]
      rfl

end Sys2Proof.Machine
end

section
/-! SUPPORT. What a change of a channel's state does to the paths: the health, the vote and the released WATCH of every path that has
the channel, with what is traced (R31, R40 to R43, R53). -/

namespace Sys2Proof.Machine

/-! ### Steps of the paths -/

/-- The state with the paths, the trace and all that the paths hand on put aside. -/
def State.exceptPaths (s : State) : State := { s.exceptOutputs with paths := State.reset.paths, trace := State.reset.trace }

theorem channels_of_exceptPaths {s t : State} (h : t.exceptPaths = s.exceptPaths) : t.channels = s.channels :=
  (congrArg State.channels h :)

theorem tmb_of_exceptPaths {s t : State} (h : t.exceptPaths = s.exceptPaths) : t.tmb = s.tmb := (congrArg State.tmb h :)

theorem due_of_exceptPaths {s t : State} (h : t.exceptPaths = s.exceptPaths) : t.due = s.due := (congrArg State.due h :)

theorem exceptPaths_of_exceptOutputs {s t : State} (h : t.exceptOutputs = s.exceptOutputs) : t.exceptPaths = s.exceptPaths := by
  rw [State.exceptPaths, State.exceptPaths, h]

/-- The path records become `r` and the trace gains the entries `es`, with the reports of changed states and of changed DEGRADED. -/
structure State.PathsStep (s t : State) (r : Fin 12 → PathRec) (es : List TraceEntry) : Prop where
  frame : t.exceptPaths = s.exceptPaths
  path : ∀ n : Fin 12, t.path n = r n
  trace : t.trace = s.trace.recordAll es
  state : ∀ n : Fin 12, (r n).state ≠ (s.path n).state → t.reported (.path n) Flag.pathState
  degraded : ∀ n : Fin 12, (r n).degraded ≠ (s.path n).degraded → t.reported (.path n) Flag.pathDegraded
  keep : ∀ (o : Obj) (f : BitVec 16), s.reported o f → t.reported o f

namespace State.PathsStep

variable {s t u : State} {r r' : Fin 12 → PathRec} {es fs : List TraceEntry}

theorem refl (s : State) : s.PathsStep s s.path [] :=
  ⟨rfl, fun _ => rfl, rfl, fun _ h => absurd rfl h, fun _ h => absurd rfl h, fun _ _ => id⟩

theorem trans (h : s.PathsStep t r es) (h' : t.PathsStep u r' fs) : s.PathsStep u r' (es ++ fs) where
  frame := h'.frame.trans h.frame
  path := h'.path
  trace := by rw [h'.trace, h.trace, Trace.recordAll_append]
  state n hn := by
    by_cases hr : (r' n).state = (t.path n).state
    · rw [hr, h.path] at hn
      exact h'.keep _ _ (h.state n hn)
    · exact h'.state n hr
  degraded n hn := by
    by_cases hr : (r' n).degraded = (t.path n).degraded
    · rw [hr, h.path] at hn
      exact h'.keep _ _ (h.degraded n hn)
    · exact h'.degraded n hr
  keep o f ho := h'.keep o f (h.keep o f ho)

theorem congr (h : s.PathsStep t r es) (hr : ∀ n, r n = r' n) (hes : es = fs) : s.PathsStep t r' fs := by
  rw [show r' = r from funext fun n => (hr n).symm, ← hes]
  exact h

/-- A change outside paths, trace and report set, before or after. -/
theorem of_frame (h : t.exceptOutputs = s.exceptOutputs) (hk : ∀ (o : Obj) (f : BitVec 16), s.reported o f → t.reported o f) :
    s.PathsStep t s.path [] where
  frame := exceptPaths_of_exceptOutputs h
  path n := by rw [State.path, paths_of_exceptOutputs h, State.path]
  trace := trace_of_exceptOutputs h
  state _ hn := absurd rfl hn
  degraded _ hn := absurd rfl hn
  keep := hk

theorem setPath {n : Fin 12} {p : PathRec} (hs : p.state = (s.path n).state) (hd : p.degraded = (s.path n).degraded) :
    s.PathsStep (s.setPath n p) (Function.update s.path n p) [] where
  frame := rfl
  path m := by rw [State.setPath_path, Function.update_apply]; simp [eq_comm]
  trace := rfl
  state m hm := by
    by_cases h : m = n
    · subst h; simp [hs] at hm
    · simp [Function.update_of_ne h] at hm
  degraded m hm := by
    by_cases h : m = n
    · subst h; simp [hd] at hm
    · simp [Function.update_of_ne h] at hm
  keep _ _ := id

/-- A change of state of a path (R43 to R45). -/
theorem putPath {n : Fin 12} {p : PathRec} (e : Option (TraceKind × Nat)) (hd : p.degraded = (s.path n).degraded) :
    s.PathsStep (s.putPath n p 0 e) (Function.update s.path n p) (e.toList.map fun x => s.entry x.1 n.val x.2) where
  frame := (exceptPaths_of_exceptOutputs (s.putPath_frame n p 0 e)).trans rfl
  path m := by
    by_cases h : m = n
    · subst h; simp
    · rw [State.putPath_path_other _ _ _ _ h, Function.update_of_ne h]
  trace := by rw [State.putPath_trace]; cases e <;> rfl
  state m hm := by
    by_cases h : m = n
    · subst h
      exact State.putPath_reported_state e (by simpa using hm.symm)
    · simp [Function.update_of_ne h] at hm
  degraded m hm := by
    by_cases h : m = n
    · subst h; simp [hd] at hm
    · simp [Function.update_of_ne h] at hm
  keep o f ho := by
    have h := (recordStable_reported o f).toStepStable
    exact h.putPath ho

/-- A recomputation of a path's health (R41). -/
theorem updateHealth {n : Fin 12} : s.PathsStep (s.updateHealth n) (Function.update s.path n (s.withHealth (s.path n))) [] where
  frame := (exceptPaths_of_exceptOutputs (exceptOutputs_of_exceptBarriers (State.postIf_exceptBarriers (s.setPath n _) ..))).trans rfl
  path m := by
    rw [State.updateHealth, State.postIf_path, State.setPath_path, Function.update_apply]
    simp [eq_comm]
  trace := by simp [State.updateHealth]
  state m hm := by
    by_cases h : m = n
    · subst h; simp [(s.withHealth_keeps (s.path m)).2.1] at hm
    · simp [Function.update_of_ne h] at hm
  degraded m hm := by
    by_cases h : m = n
    · subst h
      have hne : ((s.path m).degraded != (s.withHealth (s.path m)).degraded) = true := by
        rw [Function.update_self] at hm
        exact bne_iff_ne.2 hm.symm
      rw [State.updateHealth, hne]
      exact State.post_reported _ _ _
    · simp [Function.update_of_ne h] at hm
  keep o f ho := (recordStable_reported o f).toStepStable.updateHealth ho

/-- One path after another, each by what it and the channels give. -/
theorem foldl {f : State → Fin 12 → State} {g : State → Fin 12 → PathRec → PathRec} {e : State → Fin 12 → PathRec → List TraceEntry}
    (hf : ∀ (s : State) (n : Fin 12), s.PathsStep (f s n) (Function.update s.path n (g s n (s.path n))) (e s n (s.path n)))
    (hg : ∀ s t : State, t.exceptPaths = s.exceptPaths → g t = g s ∧ e t = e s) (l : List (Fin 12)) (hl : l.Nodup) (s : State) :
    s.PathsStep (l.foldl f s) (fun n => if n ∈ l then g s n (s.path n) else s.path n) (l.flatMap fun n => e s n (s.path n)) := by
  induction l generalizing s with
  | nil => exact refl s
  | cons m l ih =>
    obtain ⟨hm, hl⟩ := List.nodup_cons.1 hl
    have hfirst := hf s m
    obtain ⟨hg', he'⟩ := hg s (f s m) hfirst.frame
    have hpath (n : Fin 12) : (f s m).path n = Function.update s.path m (g s m (s.path m)) n := hfirst.path n
    refine (hfirst.trans (ih hl (f s m))).congr (fun n => ?_) ?_
    · by_cases hn : n = m
      · subst hn; simp [hm, hpath]
      · simp [hn, hpath, hg']
    · rw [List.flatMap_cons, he']
      congr 1
      refine List.flatMap_congr fun n hn => ?_
      rw [hpath, Function.update_of_ne (show n ≠ m from fun h => hm (h ▸ hn))]

end State.PathsStep

/-! ### What one path takes of a channel's change (R41 to R43) -/

/-- The record of a path after a vote. -/
def State.votedPath (s : State) (p : PathRec) : PathRec :=
  { p with lastVote := s.voteCount p, state := if p.kEff ≤ s.voteCount p then .alert else .watch }

/-- The record of a path after a member's activation. -/
def State.activatedPath (s : State) (c : Fin 16) (p : PathRec) : PathRec :=
  let q := { p with lastAct := p.lastAct.set c (some s.now) }
  if p.state = .masked then p else if p.state = .quiet ∨ p.state = .watch then s.votedPath q else q

/-- What a vote is traced as. -/
def State.voteTrace (s : State) (p : PathRec) : Option (TraceKind × Nat) :=
  if p.kEff ≤ s.voteCount p then some (.pathAlert, s.voteCount p) else if p.state = .quiet then some (.pathWatch, 0) else none

/-- The entry of a vote at a member's activation (R42, R53). -/
def State.activationEntries (s : State) (c : Fin 16) (n : Fin 12) (p : PathRec) : List TraceEntry :=
  if p.state = .quiet ∨ p.state = .watch then
    (s.voteTrace { p with lastAct := p.lastAct.set c (some s.now) }).toList.map fun x => s.entry x.1 n.val x.2
  else []

/-- What a change of a member makes of a record whose health has been taken (R42, R43). -/
def State.movedPath (s : State) (c : Fin 16) (old new : ChannelState) (q : PathRec) : PathRec :=
  if old = .quiet ∧ new = .active then s.activatedPath c q
  else if old = .active ∧ q.state = .watch ∧ s.anyActive q = false then { q with state := .quiet }
  else q

/-- The record of a path after a change of a channel. -/
def State.takenPath (c : Fin 16) (old new : ChannelState) (s : State) (_n : Fin 12) (p : PathRec) : PathRec :=
  if p.hasMember c then s.movedPath c old new (s.withHealth p) else p

/-- What a path's vote at a change of a channel is traced as. -/
def State.takenEntries (c : Fin 16) (old new : ChannelState) (s : State) (n : Fin 12) (p : PathRec) : List TraceEntry :=
  if p.hasMember c ∧ old = .quiet ∧ new = .active then s.activationEntries c n (s.withHealth p) else []

theorem PathRec.configured_of_hasMember {p : PathRec} {c : Fin 16} (h : p.hasMember c = true) : p.configured = true := by
  refine bne_iff_ne.2 fun h0 => ?_
  rw [PathRec.hasMember, h0] at h
  simp at h

theorem State.vote_eq (s : State) (n : Fin 12) (p : PathRec) : s.vote n p = s.putPath n (s.votedPath p) 0 (s.voteTrace p) := by
  unfold State.vote State.votedPath State.voteTrace
  by_cases h : p.kEff ≤ s.voteCount p <;> simp only [h, if_true, if_false]

theorem State.vote_step {s : State} {n : Fin 12} {p : PathRec} (hd : p.degraded = (s.path n).degraded) :
    s.PathsStep (s.vote n p) (Function.update s.path n (s.votedPath p)) ((s.voteTrace p).toList.map fun x => s.entry x.1 n.val x.2) := by
  rw [State.vote_eq]
  exact State.PathsStep.putPath _ hd

theorem State.activation_eq (s : State) (n : Fin 12) (c : Fin 16) :
    let p := s.path n
    let q := { p with lastAct := p.lastAct.set c (some s.now) }
    s.activation n c =
      if p.state = .masked then s else if p.state = .quiet ∨ p.state = .watch then s.vote n q else s.setPath n q := by
  unfold State.activation
  dsimp only
  generalize s.path n = p
  obtain ⟨_, state, _, _, _, _, _⟩ := p
  cases state <;> rfl

theorem State.activation_step (s : State) (n : Fin 12) (c : Fin 16) :
    s.PathsStep (s.activation n c) (Function.update s.path n (s.activatedPath c (s.path n))) (s.activationEntries c n (s.path n)) := by
  have hvote := State.vote_step (s := s) (n := n) (p := { s.path n with lastAct := (s.path n).lastAct.set c (some s.now) }) rfl
  have hset := State.PathsStep.setPath (s := s) (n := n) (p := { s.path n with lastAct := (s.path n).lastAct.set c (some s.now) }) rfl rfl
  rw [State.activation_eq]
  unfold State.activatedPath State.activationEntries
  dsimp only
  by_cases hm : (s.path n).state = .masked
  · simp only [hm, if_true, reduceCtorEq, or_self, if_false, Function.update_eq_self]
    exact State.PathsStep.refl s
  · by_cases hq : (s.path n).state = .quiet ∨ (s.path n).state = .watch
    · simpa only [hm, hq, if_true, if_false] using hvote
    · simpa only [hm, hq, if_false] using hset

theorem State.memberLeft_step (s : State) (n : Fin 12) :
    s.PathsStep (s.memberLeft n)
      (Function.update s.path n
        (if (s.path n).state = .watch ∧ s.anyActive (s.path n) = false then { s.path n with state := .quiet } else s.path n)) [] := by
  unfold State.memberLeft
  dsimp only
  by_cases h : (s.path n).state = .watch ∧ s.anyActive (s.path n) = false
  · rw [if_pos h, if_pos (by simpa using h)]
    exact State.PathsStep.putPath none rfl
  · rw [if_neg h, if_neg (by simpa using h)]
    exact (State.PathsStep.refl s).congr (fun _ => by simp) rfl

/-- What the vote, the counts and the trace of a path read of the state. -/
theorem State.taken_congr {s t : State} (h : t.exceptPaths = s.exceptPaths) (c : Fin 16) (old new : ChannelState) :
    State.takenPath c old new t = State.takenPath c old new s ∧ State.takenEntries c old new t = State.takenEntries c old new s := by
  have hch := channels_of_exceptPaths h
  have htmb := tmb_of_exceptPaths h
  have hpath : State.takenPath c old new t = State.takenPath c old new { s with channels := t.channels, tmb := t.tmb } := rfl
  have hentries : State.takenEntries c old new t = State.takenEntries c old new { s with channels := t.channels, tmb := t.tmb } := rfl
  rw [hch, htmb] at hpath hentries
  exact ⟨hpath, hentries⟩

/-- What a path's state makes of a change of a member (R42, R43). -/
theorem State.moved_step (u : State) (n : Fin 12) (c : Fin 16) (old new : ChannelState) :
    u.PathsStep (if old = .quiet ∧ new = .active then u.activation n c else if old = .active then u.memberLeft n else u)
      (Function.update u.path n (u.movedPath c old new (u.path n)))
      (if old = .quiet ∧ new = .active then u.activationEntries c n (u.path n) else []) := by
  unfold State.movedPath
  by_cases ha : old = .quiet ∧ new = .active
  · simp only [ha, and_self, if_true]
    exact u.activation_step n c
  · by_cases hold : old = .active
    · subst hold
      simpa only [reduceCtorEq, false_and, if_true, if_false, true_and] using u.memberLeft_step n
    · simp only [ha, hold, if_false, false_and, Function.update_eq_self]
      exact State.PathsStep.refl u

theorem State.moved_congr {s t : State} (h : t.exceptPaths = s.exceptPaths) (c : Fin 16) (old new : ChannelState) :
    t.movedPath c old new = s.movedPath c old new ∧ t.activationEntries c = s.activationEntries c := by
  have hpath : t.movedPath c old new = State.movedPath { s with channels := t.channels, tmb := t.tmb } c old new := rfl
  have hentries : t.activationEntries c = State.activationEntries { s with channels := t.channels, tmb := t.tmb } c := rfl
  rw [channels_of_exceptPaths h, tmb_of_exceptPaths h] at hpath hentries
  exact ⟨hpath, hentries⟩

theorem State.pathTakes_step (c : Fin 16) (old new : ChannelState) (s : State) (n : Fin 12) :
    s.PathsStep (State.pathTakes c old new s n) (Function.update s.path n (State.takenPath c old new s n (s.path n)))
      (State.takenEntries c old new s n (s.path n)) := by
  unfold State.pathTakes State.takenPath State.takenEntries
  by_cases hm : (s.path n).hasMember c
  · have hhealth := State.PathsStep.updateHealth (s := s) (n := n)
    have hpath (m : Fin 12) : (s.updateHealth n).path m = Function.update s.path n (s.withHealth (s.path n)) m := hhealth.path m
    obtain ⟨hmoved, hentries⟩ := State.moved_congr hhealth.frame c old new
    have hstep := State.moved_step (s.updateHealth n) n c old new
    rw [hmoved, hentries, hpath, Function.update_self] at hstep
    simp only [hm, PathRec.configured_of_hasMember hm, Bool.not_true, Bool.or_self, Bool.false_eq_true, if_false, if_true, true_and]
    refine (hhealth.trans hstep).congr (fun m => ?_) rfl
    by_cases h : m = n
    · subst h; simp
    · rw [Function.update_of_ne h, Function.update_of_ne h, hpath, Function.update_of_ne h]
  · simp only [hm, Bool.not_false, Bool.or_true, if_true, Bool.false_eq_true, if_false, false_and, Function.update_eq_self]
    exact State.PathsStep.refl s

/-! ### A channel's change of state (R31) -/

/-- The entry of a channel's change (R31, R53). -/
def State.channelEntries (s : State) (c : Fin 16) (old new : ChannelState) : List TraceEntry :=
  (channelEntry old new).toList.map fun k => s.entry k c.val (s.channel c).lastSample.toNat

theorem State.traceMaybe_step (s : State) (e : Option (TraceKind × Nat)) (object : Nat) :
    s.PathsStep (s.traceMaybe e object) s.path (e.toList.map fun x => s.entry x.1 object x.2) := by
  have hkeep (o : Obj) (f : BitVec 16) : s.reported o f → (s.traceMaybe e object).reported o f :=
    fun h => (recordStable_reported o f).toStepStable.traceMaybe h
  obtain ⟨g, hg⟩ := s.traceMaybe_eq e object
  refine ⟨?_, fun n => ?_, ?_, fun _ h => absurd rfl h, fun _ h => absurd rfl h, hkeep⟩
  · rw [hg]
    exact (exceptPaths_of_exceptOutputs (exceptOutputs_of_exceptBarriers (State.postIf_exceptBarriers ..))).trans rfl
  · rw [hg, State.postIf_path]; rfl
  · rw [hg, State.postIf_trace]; cases e <;> rfl

theorem State.channelChanged_step (s : State) (c : Fin 16) {old new : ChannelState} (h : old ≠ new) :
    s.PathsStep (s.channelChanged c old new) (fun n => State.takenPath c old new s n (s.path n))
      (s.channelEntries c old new ++ (List.finRange 12).flatMap fun n => State.takenEntries c old new s n (s.path n)) := by
  unfold State.channelChanged
  rw [if_neg h]
  dsimp only
  have htrace := s.traceMaybe_step ((channelEntry old new).map fun k => (k, (s.channel c).lastSample.toNat)) c.val
  obtain ⟨hpath, hentries⟩ := State.taken_congr htrace.frame c old new
  have hfold := State.PathsStep.foldl (f := State.pathTakes c old new) (State.pathTakes_step c old new)
    (fun s t h => State.taken_congr h c old new) (List.finRange 12) (List.nodup_finRange 12)
    (s.traceMaybe ((channelEntry old new).map fun k => (k, (s.channel c).lastSample.toNat)) c.val)
  refine (htrace.trans hfold).congr (fun n => ?_) ?_
  · simp [hpath, htrace.path]
  · simp only [hentries, htrace.path, State.channelEntries]
    cases channelEntry old new <;> rfl

/-! ### The record that a path takes -/

/-- A change that makes no channel ACTIVE gives a path its health, and releases a WATCH that it leaves with no ACTIVE member. -/
theorem State.takenPath_of_noVote {s : State} {c : Fin 16} {old new : ChannelState} {n : Fin 12} {p : PathRec}
    (h : ¬(old = .quiet ∧ new = .active)) :
    let q := State.takenPath c old new s n p
    q.cfg = p.cfg ∧ q.lastAct = p.lastAct ∧ q.lastVote = p.lastVote ∧
      (q.healthy, q.kEff, q.degraded) = (if p.hasMember c then ((s.withHealth p).healthy, (s.withHealth p).kEff, (s.withHealth p).degraded)
        else (p.healthy, p.kEff, p.degraded)) ∧
      q.state = if p.hasMember c = true ∧ old = .active ∧ p.state = .watch ∧ s.anyActive p = false then .quiet else p.state := by
  obtain ⟨hcfg, hstate, hact, hvote⟩ := s.withHealth_keeps p
  have hactive : s.anyActive (s.withHealth p) = s.anyActive p := by simp only [State.anyActive, PathRec.hasMember, hcfg]
  unfold State.takenPath State.movedPath
  by_cases hm : p.hasMember c = true
  · simp only [hm, if_true, h, if_false, hactive, hstate, true_and]
    by_cases hleft : old = .active ∧ p.state = .watch ∧ s.anyActive p = false
    · simp [hleft, hcfg, hact, hvote]
    · simp only [hleft, if_false]
      exact ⟨hcfg, hact, hvote, trivial, hstate⟩
  · simp [hm]

theorem State.takenEntries_of_noVote {s : State} {c : Fin 16} {old new : ChannelState} {n : Fin 12} {p : PathRec}
    (h : ¬(old = .quiet ∧ new = .active)) : State.takenEntries c old new s n p = [] :=
  if_neg fun hm => h hm.2

/-- A path without the channel is left alone. -/
theorem State.takenPath_of_noMember {s : State} {c : Fin 16} {old new : ChannelState} {n : Fin 12} {p : PathRec}
    (h : p.hasMember c = false) : State.takenPath c old new s n p = p := by
  simp [State.takenPath, h]

/-- The health that a state's channels give a path is what the claims ask for (R40, R41). -/
theorem State.healthTaken_of {s t u : State} {n : Fin 12} {c : Fin 16} (hm : (s.path n).hasMember c = true)
    (hch : u.channels = t.channels)
    (hp : ((t.path n).healthy, (t.path n).kEff, (t.path n).degraded) =
      ((u.withHealth (s.path n)).healthy, (u.withHealth (s.path n)).kEff, (u.withHealth (s.path n)).degraded))
    (hr : (t.path n).degraded ≠ (s.path n).degraded → t.reported (.path n) Flag.pathDegraded) : s.healthTaken t n := by
  obtain ⟨h1, h2, h3⟩ := State.withHealth_health (s := u) (p := s.path n) (bne_iff_ne.1 (PathRec.configured_of_hasMember hm))
  have hcount : u.healthyCount (s.path n) = t.healthyMembers (s.path n) := by
    simp only [State.healthyCount, State.healthyMembers, Channel.healthy, State.channel, hch]
  simp only [Prod.mk.injEq, h1, h2, h3, hcount] at hp
  exact ⟨hp.1, hp.2.1, hp.2.2, hr⟩

end Sys2Proof.Machine
end

section
/-! SUPPORT. CH_ACTIVE, CH_QUIET and CH_RECOVER as the first event that the channels owe (R28, R30, R31, R42, R43). -/

namespace Sys2Proof.Machine

/-! ### The first event that the channels owe -/

theorem State.mem_due_of_channelFirst {s : State} {d : Due} (h : s.channelFirst d) : d ∈ s.due ∧ d.isChannel = true := by
  obtain ⟨ds, hds, -⟩ := h
  have hmem : d ∈ s.channelDue := by rw [hds]; exact List.mem_cons_self
  exact List.mem_filter.1 hmem

/-- The first event of the channels, with none behind it that comes about with it, is taken alone (R31). -/
theorem State.runEvent_channelFirst {s : State} {d : Due} (h : s.channelFirst d) :
    s.runEvent d = State.conclude s ({ s with due := s.due.erase d }.applyDue d) := by
  obtain ⟨hmem, hd⟩ := State.mem_due_of_channelFirst h
  obtain ⟨ds, hds, hsilent⟩ := h
  have hbefore : s.channelBefore d = [] := by simp [State.channelBefore, hds]
  have hsampling : d ≠ .sampling := by rintro rfl; cases hd
  have hdue : (s.takeOne d).due = s.due.erase d := State.applyDue_due _ d hsampling
  have hrest : (s.takeOne d).channelDue = ds := by
    rw [State.channelDue, hdue, ← List.erase_filter]
    show s.channelDue.erase d = ds
    rw [hds, List.erase_cons_head]
  have hnone : ds.takeWhile Due.isSilent = [] := by
    cases ds with
    | nil => rfl
    | cons e es => simp [hsilent e rfl]
  rw [State.runEvent, if_pos (by simpa using hmem), State.takeEvent, if_pos hd, hbefore, List.nil_append, List.foldl_cons, List.foldl_nil,
    State.takeSilent, hrest, hnone]
  rfl

/-! ### A channel's change of state, to the end of its step -/

/-- What a channel takes as it changes its state, and what the paths make of it (R31). -/
theorem State.channelTo_step (s : State) (i : Fin 16) {new : ChannelState} (flags : BitVec 16) (h : (s.channel i).state ≠ new) :
    let u := s.setChannel i ((s.channel i).enter new)
    let t := s.channelTo i new flags
    t.channels = s.channels.set i ((s.channel i).enter new) ∧ t.reported (.channel i) flags ∧
      u.PathsStep t (fun n => State.takenPath i (s.channel i).state new u n (s.path n))
        (State.channelEntries u i (s.channel i).state new ++
          (List.finRange 12).flatMap fun n => State.takenEntries i (s.channel i).state new u n (s.path n)) := by
  have hpost : (s.setChannel i ((s.channel i).enter new)).PathsStep ((s.setChannel i ((s.channel i).enter new)).post (.channel i) flags)
      s.path [] := .of_frame rfl fun o f => State.post_keeps _ _ _ _ _
  have hstep := ((s.setChannel i ((s.channel i).enter new)).post (.channel i) flags).channelChanged_step i h
  obtain ⟨hpath, hentries⟩ := State.taken_congr hpost.frame i (s.channel i).state new
  refine ⟨(channels_of_exceptPaths hstep.frame).trans rfl, hstep.keep _ _ (State.post_reported _ _ _), ?_⟩
  refine (hpost.trans hstep).congr (fun n => ?_) ?_
  · rw [hpath]; rfl
  · rw [hentries]; rfl

/-- A channel's event that is its change of state, to the end of its step. -/
theorem State.runEvent_channelTo {s : State} {i : Fin 16} {d : Due} {new : ChannelState} {flags : BitVec 16} (hfirst : s.channelFirst d)
    (hd : State.applyDue { s with due := s.due.erase d } d = State.channelTo { s with due := s.due.erase d } i new flags)
    (hne : (s.channel i).state ≠ new) :
    let u := s.setChannel i ((s.channel i).enter new)
    let t := s.runEvent d
    t.channels = u.channels ∧ t.reported (.channel i) flags ∧
      (∀ n : Fin 12, t.path n = State.takenPath i (s.channel i).state new u n (s.path n)) ∧
      t.trace = s.trace.recordAll (State.channelEntries u i (s.channel i).state new ++
        (List.finRange 12).flatMap fun n => State.takenEntries i (s.channel i).state new u n (s.path n)) ∧
      (∀ n : Fin 12, (t.path n).state ≠ (s.path n).state → t.reported (.path n) Flag.pathState) ∧
      (∀ n : Fin 12, (t.path n).degraded ≠ (s.path n).degraded → t.reported (.path n) Flag.pathDegraded) ∧
      t.due = s.due.erase d ∧
      { t.exceptOutputs with channels := s.channels, paths := s.paths, trace := s.trace, due := s.due } = s.exceptOutputs := by
  obtain ⟨hch, hrep, hstep⟩ := State.channelTo_step { s with due := s.due.erase d } i flags hne
  rw [← hd] at hrep hstep
  have hend := hstep.trans (.of_frame (State.conclude_exceptOutputs s _)
    fun o f => (recordStable_reported o f).toStepStable.conclude)
  rw [← State.runEvent_channelFirst hfirst] at hend
  have hchannels := channels_of_exceptPaths hend.frame
  have hkeep := (recordStable_reported (.channel i) flags).toStepStable.conclude (a := s) hrep
  rw [← State.runEvent_channelFirst hfirst] at hkeep
  have hpath (n : Fin 12) : (s.runEvent d).path n =
      State.takenPath i (s.channel i).state new (s.setChannel i ((s.channel i).enter new)) n (s.path n) :=
    (hend.path n).trans (hstep.path n)
  refine ⟨hchannels.trans rfl, hkeep, hpath, hend.trace.trans ?_, fun n hn => hend.state n ?_, fun n hn => hend.degraded n ?_,
    due_of_exceptPaths hend.frame, ?_⟩
  · rw [List.append_nil]
    rfl
  · rwa [hend.path] at hn
  · rwa [hend.path] at hn
  · have hframe := hend.frame
    exact congrArg (fun v : State => { v with channels := s.channels, paths := s.paths, trace := s.trace, due := s.due }) hframe

/-! ### CH_QUIET and CH_RECOVER -/

theorem exec_chQuiet (i : Fin 16) (s : State) : exec (.chQuiet i) s = .next (s.runEvent (.chQuiet i)) := rfl
theorem exec_chRecover (i : Fin 16) (s : State) : exec (.chRecover i) s = .next (s.runEvent (.chRecover i)) := rfl
theorem exec_chActive (i : Fin 16) (s : State) : exec (.chActive i) s = .next (s.runEvent (.chActive i)) := rfl

/-- No member is ACTIVE beside a channel that has left ACTIVE. -/
theorem State.anyActive_left {s : State} {i : Fin 16} {r : Channel} (p : PathRec) (h : r.state ≠ .active) :
    (s.setChannel i r).anyActive p = false ↔
      (List.finRange 16).all (fun c => !(p.hasMember c && c != i && (s.channel c).state == .active)) = true := by
  rw [← Bool.not_eq_true', State.anyActive, List.not_any_eq_all_not]
  refine iff_of_eq (congrArg (· = true) (List.all_congr rfl fun c => ?_))
  by_cases hc : c = i
  · subst hc; simp [h]
  · rw [State.setChannel_channel_other _ _ _ _ hc, bne_iff_ne.2 hc, Bool.and_true]

/-- What a channel's change that makes nothing ACTIVE leaves of the paths, as the claims say it. -/
theorem State.runEvent_noVote {s : State} {i : Fin 16} {d : Due} {new : ChannelState} {flags : BitVec 16} {k : TraceKind}
    (hfirst : s.channelFirst d)
    (hd : State.applyDue { s with due := s.due.erase d } d = State.channelTo { s with due := s.due.erase d } i new flags)
    (hne : (s.channel i).state ≠ new) (hnew : new ≠ .active) (hk : channelEntry (s.channel i).state new = some k) :
    let t := s.runEvent d
    t.channels = s.channels.set i ((s.channel i).enter new) ∧ t.reported (.channel i) flags ∧
      (∀ n : Fin 12,
        let p := s.path n
        (t.path n).cfg = p.cfg ∧ (t.path n).lastAct = p.lastAct ∧ (t.path n).lastVote = p.lastVote ∧
        (p.hasMember i = false → t.path n = p) ∧ (p.hasMember i = true → s.healthTaken t n) ∧
        ((t.path n).state ≠ p.state → t.reported (.path n) Flag.pathState) ∧
        (t.path n).state =
          (if p.hasMember i = true ∧ (s.channel i).state = .active ∧ p.state = .watch ∧
              (List.finRange 16).all (fun c => !(p.hasMember c && c != i && (s.channel c).state == .active)) = true
            then .quiet else p.state)) ∧
      t.trace = s.trace.recordAll [s.entry k i.val (s.channel i).lastSample.toNat] ∧
      t.due = s.due.erase d ∧
      { t.exceptOutputs with channels := s.channels, paths := s.paths, trace := s.trace, due := s.due } = s.exceptOutputs := by
  have hno : ¬((s.channel i).state = .quiet ∧ new = .active) := fun h => hnew h.2
  obtain ⟨hch, hrep, hpath, htrace, hstate, hdeg, hdue, hframe⟩ := State.runEvent_channelTo hfirst hd hne
  refine ⟨hch, hrep, fun n => ?_, ?_, hdue, hframe⟩
  · obtain ⟨hcfg, hact, hvote, hhealth, hst⟩ := State.takenPath_of_noVote
      (s := s.setChannel i ((s.channel i).enter new)) (c := i) (n := n) (p := s.path n) hno
    rw [← hpath] at hcfg hact hvote hhealth hst
    refine ⟨hcfg, hact, hvote, fun hm => ?_, fun hm => ?_, hstate n, ?_⟩
    · rw [hpath, State.takenPath_of_noMember hm]
    · rw [if_pos hm] at hhealth
      exact State.healthTaken_of hm hch.symm hhealth (hdeg n)
    · rw [hst]
      simp only [State.anyActive_left _ (show ((s.channel i).enter new).state ≠ .active from hnew)]
  · rw [htrace, List.flatMap_eq_nil_iff.2 fun n _ => State.takenEntries_of_noVote hno, List.append_nil, State.channelEntries, hk]
    simp [Channel.enter, State.entry]

theorem State.reported_of_flags {s : State} {o : Obj} {f g : BitVec 16} (h : s.reported o g) (hf : g &&& f = f) : s.reported o f := by
  obtain ⟨e, he, ho, hg⟩ := h
  refine ⟨e, he, ho, ?_⟩
  rw [← hf, ← BitVec.and_assoc, hg]

/-- The state that a channel takes as it leaves FAULT is not FAULT. -/
theorem State.recoveredState_ne_fault (s : State) (c : Channel) : s.recoveredState c ≠ .fault ∧ s.recoveredState c ≠ .active := by
  unfold State.recoveredState
  split <;> try split
  all_goals simp

theorem State.faultAfterPass_iff (s : State) (j : Fin 16) :
    s.faultAfterPass j = true ↔ Due.chFault j ∈ s.due ∨ (Due.chRecover j ∉ s.due ∧ (s.channel j).state = .fault) := by
  unfold State.faultAfterPass
  by_cases hf : Due.chFault j ∈ s.due
  · simp [hf]
  · by_cases hr : Due.chRecover j ∈ s.due <;> simp [hf, hr]

/-- Settles O20: both are a first channel event that makes nothing ACTIVE. -/
theorem channelQuietAndRecovery : Obligations.ChannelQuietAndRecovery := by
  unfold Obligations.ChannelQuietAndRecovery
  refine fun i s _ => ⟨fun hfirst hstate hrun => ?_, fun hfirst hstate hrun => ?_⟩
  · have hd : State.applyDue { s with due := s.due.erase (.chQuiet i) } (.chQuiet i) =
        State.channelTo { s with due := s.due.erase (.chQuiet i) } i .quiet Flag.chState :=
      if_pos (show (s.channel i).goesQuiet = true by simp [Channel.goesQuiet, hstate, hrun])
    obtain ⟨hch, hrep, hpath, htrace, hdue, hframe⟩ :=
      State.runEvent_noVote (k := .chQuiet) hfirst hd (by simp [hstate]) (by simp) (by simp [channelEntry, hstate])
    refine ⟨_, exec_chQuiet i s, hch, hrep, fun n => ?_, htrace, hdue, hframe⟩
    obtain ⟨hcfg, hact, hvote, hother, hhealth, hsrep, hst⟩ := hpath n
    simp only [hstate, true_and] at hst
    exact ⟨hcfg, hact, hvote, hother, hhealth, hsrep, hst⟩
  · set w : State := { s with due := s.due.erase (.chRecover i) } with hw
    obtain ⟨hnf, hna⟩ := w.recoveredState_ne_fault (s.channel i)
    have hd : w.applyDue (.chRecover i) = w.channelTo i (w.recoveredState (s.channel i))
        (Flag.chRecover ||| if w.recoveredState (s.channel i) = .refFault then Flag.chRefFault else 0) :=
      if_pos (show (s.channel i).recovers = true by simp [Channel.recovers, hstate, hrun])
    obtain ⟨hch, hrep, hpath, htrace, hdue, hframe⟩ :=
      State.runEvent_noVote (k := .chRecover) hfirst hd (by rw [hstate]; exact hnf.symm) hna
        (by simp [channelEntry, hstate, hnf, hnf.symm])
    refine ⟨_, exec_chRecover i s, ⟨w.recoveredState (s.channel i), hch, fun hm => ?_, fun hm => ?_, fun j hm hj hji => ?_⟩,
      State.reported_of_flags hrep (flags_or_left _ (by decide)), fun n => ?_, htrace, hdue, hframe⟩
    · simp [State.recoveredState, hm]
    · simp [State.recoveredState, hm]
    · have hne : (Due.chRecover j) ≠ .chRecover i := fun h => hji (by cases h; rfl)
      have hfault : w.faultAfterPass j = true ↔ Due.chFault j ∈ s.due ∨ (Due.chRecover j ∉ s.due ∧ (s.channel j).state = .fault) := by
        rw [State.faultAfterPass_iff]
        simp only [hw, List.mem_erase_of_ne hne, List.mem_erase_of_ne (show Due.chFault j ≠ .chRecover i by simp)]
        rfl
      simp only [State.recoveredState, hm, State.referenceFaulted, hj, beq_self_eq_true, Bool.true_and, hfault]
    · obtain ⟨hcfg, hact, hvote, hother, hhealth, -, hst⟩ := hpath n
      simp only [hstate, reduceCtorEq, false_and, and_false, if_false] at hst
      exact ⟨hcfg, hst, hact, hvote, hother, hhealth⟩

end Sys2Proof.Machine
end

section
/-! SUPPORT. CH_ACTIVE: the vote of every path that has the channel, with the cause and the flasher request that an ALERT brings
(R30, R31, R42 to R45). -/

namespace Sys2Proof.Machine

/-! ### What a path takes of an activation (R42) -/

/-- The vote of a configured member's path: the record that the activation has written (R42). -/
def State.ballot (s : State) (c : Fin 16) (p : PathRec) : PathRec :=
  { s.withHealth p with lastAct := p.lastAct.set c (some s.now) }

theorem State.takenPath_of_vote {s : State} {c : Fin 16} {n : Fin 12} {p : PathRec} (hm : p.hasMember c = true) :
    let q := State.takenPath c .quiet .active s n p
    q.cfg = p.cfg ∧ (q.healthy, q.kEff, q.degraded) = ((s.withHealth p).healthy, (s.withHealth p).kEff, (s.withHealth p).degraded) ∧
      (p.state = .masked → q.state = .masked ∧ q.lastAct = p.lastAct) ∧
      (p.state ≠ .masked → q.lastAct = p.lastAct.set c (some s.now)) ∧
      (p.state = .alert ∨ p.state = .hold → q.state = p.state ∧ q.lastVote = p.lastVote) ∧
      (p.state = .quiet ∨ p.state = .watch → q = s.votedPath (s.ballot c p)) := by
  obtain ⟨hcfg, hstate, hact, hvote⟩ := s.withHealth_keeps p
  unfold State.takenPath State.movedPath State.activatedPath
  simp only [hm, if_true, and_self, hstate, hact]
  by_cases hk : p.state = .masked
  · simp [hk, hcfg, hstate, hact]
  · by_cases hq : p.state = .quiet ∨ p.state = .watch
    · simp only [hk, hq, if_true, if_false, State.votedPath, State.ballot, hcfg]
      refine ⟨trivial, trivial, fun h => absurd h (by simp), fun _ => trivial, fun h => ?_, fun _ => rfl⟩
      exfalso
      obtain hq | hq := hq <;> simp [hq] at h
    · simp only [hk, hq, if_false, hcfg, hvote]
      exact ⟨trivial, trivial, fun h => absurd h (by simp), fun _ => trivial, fun _ => ⟨trivial, trivial⟩, fun h => absurd h (by simp)⟩

theorem ticksSince_self (t : Tick) : ticksSince t t = 0 := by simp [ticksSince]

/-- The activation counts itself in a window of at least a tick (R42). -/
theorem State.ballot_inWindow (s : State) (c d : Fin 16) (p : PathRec) (hw : 1 ≤ p.cfg.window) :
    (s.ballot c p).inWindow s.now d = (d == c || p.inWindow s.now d) := by
  have hcfg := (s.withHealth_keeps p).1
  unfold PathRec.inWindow State.ballot
  by_cases hd : d = c
  · subst hd
    simp [hcfg, ticksSince_self, Nat.lt_of_lt_of_le Nat.zero_lt_one hw]
  · have hne : c.val ≠ d.val := fun h => hd (Fin.ext h.symm)
    simp only [hcfg, Fin.getElem_fin, Vector.getElem_set_ne _ _ hne, beq_eq_false_iff_ne.2 hd, Bool.false_or]

/-- A channel that leaves QUIET for ACTIVE stays healthy (R40). -/
theorem State.healthy_activated {s : State} {i : Fin 16} (h : (s.channel i).state = .quiet) (c : Fin 16) :
    ((s.setChannel i ((s.channel i).enter .active)).channel c).healthy = (s.channel c).healthy := by
  by_cases hc : c = i
  · subst hc; simp [Channel.enter, Channel.healthy, h]
  · rw [State.setChannel_channel_other _ _ _ _ hc]

/-- The count of the vote (R42). -/
theorem State.ballot_count {s : State} {i : Fin 16} (h : (s.channel i).state = .quiet) (p : PathRec) (hw : 1 ≤ p.cfg.window) :
    let u := s.setChannel i ((s.channel i).enter .active)
    u.voteCount (u.ballot i p) =
      (((List.finRange 16).filter fun c => p.hasMember c && (s.channel c).healthy).filter
        fun c => c == i || p.inWindow s.now c).length := by
  dsimp only
  rw [State.voteCount, List.filter_filter]
  refine congrArg (fun f => ((List.finRange 16).filter f).length) (funext fun c => ?_)
  rw [State.healthy_activated h]
  have hin := State.ballot_inWindow (s.setChannel i ((s.channel i).enter .active)) i c p hw
  have hmem : ((s.setChannel i ((s.channel i).enter .active)).ballot i p).hasMember c = p.hasMember c := by
    rw [PathRec.hasMember, State.ballot, (State.withHealth_keeps _ p).1, PathRec.hasMember]
  rw [hin, hmem, Bool.and_comm]
  rfl

theorem State.ballot_kEff {s : State} {i : Fin 16} (h : (s.channel i).state = .quiet) {p : PathRec} (hm : p.hasMember i = true) :
    ((s.setChannel i ((s.channel i).enter .active)).ballot i p).kEff =
      max 1 (min p.cfg.k ((List.finRange 16).filter fun c => p.hasMember c && (s.channel c).healthy).length) := by
  have hhealth := (State.withHealth_health (s := s.setChannel i ((s.channel i).enter .active)) (p := p)
    (bne_iff_ne.1 (PathRec.configured_of_hasMember hm))).2.1
  show (State.withHealth _ p).kEff = _
  simp only [hhealth, State.healthyCount, State.healthy_activated h]

/-! ### The cause and the flasher request of an ALERT (R44, R45) -/

theorem PostureStable.traceMaybe {P : State → Prop} (h : PostureStable P) {s : State} {e : Option (TraceKind × Nat)} {o : Nat} (hs : P s) :
    P (s.traceMaybe e o) := by
  obtain ⟨g, hg⟩ := s.traceMaybe_eq e o
  rw [hg]
  exact h.postIf (h.other (s := s) rfl rfl rfl hs)

/-- A property that the hand-overs of path m keep: a change of the cause of m, and of its requests. -/
structure PathStable (m : Fin 12) (P : State → Prop) : Prop extends PostureStable P where
  causes : ∀ {s : State} {i : Fin 4} {l : List Cause}, (∀ c, c ≠ .path m → c ∈ (s.segment i).causes → c ∈ l) → P s →
    P (s.setSegment i { s.segment i with causes := l })
  request : ∀ {s : State} {i : Fin 8} {on : Bool}, P s →
    P (s.setFlasher i { s.flasher i with pathReq := (s.flasher i).pathReq.set m on })

namespace PathStable

variable {m : Fin 12} {P : State → Prop} (h : PathStable m P) {s : State}
include h

theorem pathRequest {i : Fin 8} {on : Bool} (hs : P s) : P (s.pathRequest i m on) := h.toGateStable.settleFlasher (h.request hs)

theorem handFlasher {a b : PathRec} (hs : P s) : P (s.handFlasher m a b) := by
  unfold State.handFlasher State.pathWithdraw State.pathPost
  split
  · exact hs
  · split <;> split
    · exact h.pathRequest (h.pathRequest hs)
    · exact h.pathRequest hs
    · exact h.pathRequest hs
    · exact hs

theorem handCause {a b : PathRec} (hs : P s) : P (s.handCause m a b) := by
  unfold State.handCause
  split
  · refine iteInduction (fun _ => hs) fun _ => h.causeEffect (h.post (h.causes (fun c _ hc => ?_) hs))
    exact (mem_insertCause _ _ _).2 (.inr hc)
  · have hleft : P (s.setSegment a.cfg.segment
        { s.segment a.cfg.segment with causes := (s.segment a.cfg.segment).causes.filter (· != .path m) }) :=
      h.causes (fun c hne hc => List.mem_filter.2 ⟨hc, bne_iff_ne.2 hne⟩) hs
    exact iteInduction (fun _ => hs) fun _ => iteInduction (fun _ => h.enterReopening (h.post hleft)) fun _ => h.post hleft
  · exact hs
  · exact hs

theorem putPath {p : PathRec} {f : BitVec 16} {e : Option (TraceKind × Nat)} (hs : P s) : P (s.putPath m p f e) := by
  unfold State.putPath
  dsimp only
  refine h.replan (h.handOpen (h.handCause (h.handFlasher ?_)))
  exact h.traceMaybe (h.postIf (h.other (s := s) rfl rfl rfl hs))

theorem pathTakes {c : Fin 16} {old new : ChannelState} (hs : P s) : P (State.pathTakes c old new s m) := by
  have hhealth : P (s.updateHealth m) := h.postIf (h.other (s := s) rfl rfl rfl hs)
  unfold State.pathTakes
  refine iteInduction (fun _ => hs) fun _ => iteInduction (fun _ => ?_) fun _ => iteInduction (fun _ => ?_) fun _ => hhealth
  · unfold State.activation State.vote
    dsimp only
    have hset {q : PathRec} : P ((s.updateHealth m).setPath m q) := h.other (s := s.updateHealth m) rfl rfl rfl hhealth
    split
    · exact hhealth
    · exact iteInduction (fun _ => h.putPath hhealth) fun _ => h.putPath hhealth
    · exact iteInduction (fun _ => h.putPath hhealth) fun _ => h.putPath hhealth
    · exact hset
    · exact hset
  · exact iteInduction (fun _ => h.putPath hhealth) fun _ => hhealth

end PathStable

theorem pathStable_cause {n m : Fin 12} (h : m ≠ n) (i : Fin 4) : PathStable m fun s => Cause.path n ∈ (s.segment i).causes where
  toPostureStable := postureStable_causes i (Cause.path n ∈ ·)
  causes {s j l} hl hs := by
    by_cases hj : j = i
    · subst hj
      rw [State.setSegment_segment_same]
      exact hl _ (fun he => h (by cases he; rfl)) hs
    · rw [State.setSegment_segment_other _ _ _ _ (Ne.symm hj)]; exact hs
  request hs := hs

theorem pathStable_pathReq {n m : Fin 12} (h : m ≠ n) (i : Fin 8) (v : Bool) : PathStable m fun s => (s.flasher i).pathReq[n] = v where
  toPostureStable := postureStable_pathReq i n v
  causes _ hs := hs
  request {s j on} hs := by
    by_cases hj : j = i
    · subst hj
      have hne : m.val ≠ n.val := fun he => h (Fin.ext he)
      simpa [Vector.getElem_set_ne _ _ hne] using hs
    · rw [State.setFlasher_flasher_other _ _ _ _ (Ne.symm hj)]; exact hs

/-- What one element's step establishes and the others' keep stands when all have been taken. -/
theorem foldl_establishes {α : Type} {f : State → α → State} {Q P : State → Prop} {n : α} {l : List α} (hl : l.Nodup) (hn : n ∈ l)
    (hQ : ∀ s m, m ≠ n → Q s → Q (f s m)) (hest : ∀ s, Q s → P (f s n)) (hP : ∀ s m, m ≠ n → P s → P (f s m)) {s : State} (hs : Q s) :
    P (l.foldl f s) := by
  induction l generalizing s with
  | nil => cases hn
  | cons m l ih =>
    obtain ⟨hm, hl⟩ := List.nodup_cons.1 hl
    by_cases hmn : m = n
    · subst hmn
      have hrest : ∀ (k : List α) (u : State), m ∉ k → P u → P (k.foldl f u) := by
        intro k
        induction k with
        | nil => exact fun _ _ hu => hu
        | cons a k ihk =>
          intro u hk hu
          obtain ⟨ha, hk⟩ := not_or.1 (mt List.mem_cons.2 hk)
          exact ihk _ hk (hP u a (Ne.symm ha) hu)
      exact hrest l _ hm (hest s hs)
    · exact ih hl (by simpa [Ne.symm hmn] using hn) (hQ s m hmn hs)

theorem State.putPath_posted {s : State} {n : Fin 12} {new : PathRec} {i : Fin 8} (f : BitVec 16) (e : Option (TraceKind × Nat))
    (hold : (s.path n).request = none) (hnew : new.request = some i) :
    ((s.putPath n new f e).flasher i).pathReq[n] = true := by
  have h := postureStable_pathReq i n true
  unfold State.putPath State.handFlasher State.pathWithdraw State.pathPost
  simp only [hold, hnew, reduceCtorEq, if_false]
  exact h.replan (h.handOpen (h.handCause id (State.pathRequest_pathReq _ i n true)))

/-- An ALERT that a vote brings is a cause where autoclose is set, and is asked of the path's flasher (R44, R45). -/
theorem State.pathTakes_alert {v : State} {c : Fin 16} {n : Fin 12} (hm : (v.path n).hasMember c = true)
    (hq : (v.path n).state = .quiet ∨ (v.path n).state = .watch) (hmet : (v.ballot c (v.path n)).kEff ≤ v.voteCount (v.ballot c (v.path n))) :
    ((v.path n).cfg.autoclose = true →
      Cause.path n ∈ ((State.pathTakes c .quiet .active v n).segment (v.path n).cfg.segment).causes) ∧
    ∀ f : Fin 8, (v.path n).cfg.flasher = some f → ((State.pathTakes c .quiet .active v n).flasher f).pathReq[n] = true := by
  have hhealth := State.PathsStep.updateHealth (s := v) (n := n)
  have hpath : (v.updateHealth n).path n = v.withHealth (v.path n) := by rw [hhealth.path, Function.update_self]
  obtain ⟨hcfg, hstate, hact, -⟩ := v.withHealth_keeps (v.path n)
  have htakes : State.pathTakes c .quiet .active v n =
      (v.updateHealth n).putPath n { v.ballot c (v.path n) with lastVote := v.voteCount (v.ballot c (v.path n)), state := .alert } 0
        (some (.pathAlert, v.voteCount (v.ballot c (v.path n)))) := by
    have hballot : { (v.updateHealth n).path n with
        lastAct := ((v.updateHealth n).path n).lastAct.set c (some (v.updateHealth n).now) } = v.ballot c (v.path n) := by
      rw [hpath, State.ballot, hact, State.now, tmb_of_exceptPaths hhealth.frame, State.now]
    have hcount : (v.updateHealth n).voteCount (v.ballot c (v.path n)) = v.voteCount (v.ballot c (v.path n)) := by
      simp only [State.voteCount, State.channel, State.now, channels_of_exceptPaths hhealth.frame, tmb_of_exceptPaths hhealth.frame]
    have hnm : (v.path n).state ≠ .masked := by obtain hq | hq := hq <;> simp [hq]
    unfold State.pathTakes
    simp only [hm, PathRec.configured_of_hasMember hm, Bool.not_true, Bool.or_self, Bool.false_eq_true, if_false, and_self, if_true]
    rw [State.activation_eq, hballot]
    simp only [hpath, hstate, hnm, hq, if_true, if_false, State.vote_eq, State.votedPath, State.voteTrace, hcount, hmet]
  rw [htakes, ← hcfg]
  refine ⟨fun ha => State.putPath_cause_added _ _ ?_ ?_, fun f hf => State.putPath_posted _ _ ?_ ?_⟩
  · obtain hq | hq := hq <;> simp [hpath, PathRec.isCause, hstate, hq]
  · simpa [PathRec.isCause, State.ballot] using ha
  · obtain hq | hq := hq <;> simp [hpath, PathRec.request, hstate, hq]
  · simpa [PathRec.request, State.ballot] using hf

/-- What stands of one path when all have taken a channel's change (R44, R45). -/
theorem State.channelChanged_alert {s : State} {c : Fin 16} {n : Fin 12} (hm : (s.path n).hasMember c = true)
    (hq : (s.path n).state = .quiet ∨ (s.path n).state = .watch) (hmet : (s.ballot c (s.path n)).kEff ≤ s.voteCount (s.ballot c (s.path n))) :
    ((s.path n).cfg.autoclose = true →
      Cause.path n ∈ ((s.channelChanged c .quiet .active).segment (s.path n).cfg.segment).causes) ∧
    ∀ f : Fin 8, (s.path n).cfg.flasher = some f → ((s.channelChanged c .quiet .active).flasher f).pathReq[n] = true := by
  have htrace := s.traceMaybe_step ((channelEntry .quiet .active).map fun k => (k, (s.channel c).lastSample.toNat)) c.val
  have hfold {P : State → Prop} (hP : ∀ m, m ≠ n → PathStable m P)
      (hest : ∀ v : State, v.exceptPaths = s.exceptPaths ∧ v.path n = s.path n → P (State.pathTakes c .quiet .active v n)) :
      P (s.channelChanged c .quiet .active) := by
    unfold State.channelChanged
    rw [if_neg (by simp)]
    refine foldl_establishes (List.nodup_finRange 12) (List.mem_finRange n) (fun v m hmn hv => ?_) hest
      (fun v m hmn hv => (hP m hmn).pathTakes hv) ⟨htrace.frame, htrace.path n⟩
    have hstep := State.pathTakes_step c .quiet .active v m
    exact ⟨hstep.frame.trans hv.1, (hstep.path n).trans (by rw [Function.update_of_ne hmn.symm, hv.2])⟩
  have hvote {v : State} (hv : v.exceptPaths = s.exceptPaths ∧ v.path n = s.path n) :
      (v.ballot c (v.path n)).kEff ≤ v.voteCount (v.ballot c (v.path n)) := by
    obtain ⟨hframe, hpath⟩ := hv
    have hballot : v.ballot = State.ballot { s with channels := v.channels, tmb := v.tmb } := rfl
    have hcount : v.voteCount = State.voteCount { s with channels := v.channels, tmb := v.tmb } := rfl
    rw [hballot, hcount, channels_of_exceptPaths hframe, tmb_of_exceptPaths hframe, hpath]
    exact hmet
  refine ⟨fun ha => hfold (P := fun u => Cause.path n ∈ (u.segment (s.path n).cfg.segment).causes)
      (fun m hmn => pathStable_cause hmn _) fun v hv => ?_,
    fun f hf => hfold (P := fun u => (u.flasher f).pathReq[n] = true) (fun m hmn => pathStable_pathReq hmn f true) fun v hv => ?_⟩
  all_goals
    have hv' := hvote hv
    obtain ⟨-, hpath⟩ := hv
    obtain ⟨hcause, hreq⟩ := State.pathTakes_alert (v := v) (c := c) (n := n) (by rwa [hpath]) (by rwa [hpath]) hv'
  · rw [hpath] at hcause
    exact hcause ha
  · rw [hpath] at hreq
    exact hreq f hf

/-! ### CH_ACTIVE -/

/-- Settles O19: the channel's change, and the vote of each path that has it. -/
theorem channelActivationVotes : Obligations.ChannelActivationVotes := by
  unfold Obligations.ChannelActivationVotes
  intro i s _ hfirst hstate hrun
  dsimp only
  have hd : State.applyDue { s with due := s.due.erase (.chActive i) } (.chActive i) =
      State.channelTo { s with due := s.due.erase (.chActive i) } i .active Flag.chState :=
    if_pos (show (s.channel i).goesActive = true by simp [Channel.goesActive, hstate, hrun])
  obtain ⟨hch, hrep, hpath, htrace, hsrep, hdeg, hdue, hframe⟩ := State.runEvent_channelTo hfirst hd (by simp [hstate])
  rw [hstate] at hpath htrace
  set u := s.setChannel i ((s.channel i).enter .active) with hu
  have hcount (n : Fin 12) (hw : 1 ≤ (s.path n).cfg.window) := State.ballot_count hstate (s.path n) hw
  refine ⟨_, exec_chActive i s, hch, hrep, fun hwindows => ?_, fun n => ⟨fun hm => ?_, fun hm => ?_⟩, hdue, hframe⟩
  · have hchannel : State.channelEntries u i .quiet .active = [s.entry .chActive i.val (s.channel i).lastSample.toNat] := by
      rw [State.channelEntries, hu, State.setChannel_channel_same]
      rfl
    rw [htrace, hchannel, List.singleton_append, List.filterMap_eq_flatMap_toList]
    refine congrArg (fun es => s.trace.recordAll (_ :: es)) (List.flatMap_congr fun n _ => ?_)
    have hst : (u.withHealth (s.path n)).state = (s.path n).state := (u.withHealth_keeps _).2.1
    by_cases hv : (s.path n).hasMember i = true ∧ ((s.path n).state = .quiet ∨ (s.path n).state = .watch)
    · have hent : State.takenEntries i .quiet .active u n (s.path n) =
          (u.voteTrace (u.ballot i (s.path n))).toList.map fun x => u.entry x.1 n.val x.2 := by
        unfold State.takenEntries State.activationEntries
        rw [if_pos ⟨hv.1, rfl, rfl⟩, if_pos (by rw [hst]; exact hv.2), (u.withHealth_keeps _).2.2.1]
        rfl
      have hbst : (u.ballot i (s.path n)).state = (s.path n).state := hst
      rw [hent, if_pos hv, State.voteTrace, State.ballot_kEff hstate hv.1, hcount n (hwindows n hv), hbst]
      split
      · rfl
      · split <;> rfl
    · rw [if_neg hv]
      unfold State.takenEntries State.activationEntries
      split
      · next hm => rw [if_neg (by rw [hst]; exact fun hq => hv ⟨hm.1, hq⟩)]; rfl
      · rfl
  · rw [hpath, State.takenPath_of_noMember hm]
  · obtain ⟨hcfg, hhealth, hmasked, hact, hlatched, hvoted⟩ := State.takenPath_of_vote (s := u) (n := n) hm
    have hkEff := State.ballot_kEff hstate hm
    rw [← hpath] at hcfg hhealth hmasked hact hlatched hvoted
    refine ⟨hcfg, State.healthTaken_of hm hch.symm hhealth (hdeg n), hsrep n, hmasked, hact, hlatched, fun hq hw => ?_⟩
    rw [hvoted hq]
    refine ⟨hcount n hw, ?_, fun hmet => ?_⟩
    · have hballot : (u.votedPath (u.ballot i (s.path n))).state =
          if (u.ballot i (s.path n)).kEff ≤ u.voteCount (u.ballot i (s.path n)) then .alert else .watch := rfl
      rw [hballot, hkEff, hcount n hw]
    · have hv : (u.ballot i (s.path n)).kEff ≤ u.voteCount (u.ballot i (s.path n)) := by
        rw [hkEff, hcount n hw]
        exact hmet
      have halert := State.channelChanged_alert
        (s := (State.setChannel { s with due := s.due.erase (.chActive i) } i ((s.channel i).enter .active)).post (.channel i) Flag.chState) (c := i) (n := n) hm hq hv
      refine ⟨hsrep n ?_, fun ha => ?_, fun f hf => ?_⟩
      · rw [hvoted hq]
        have hal : (u.votedPath (u.ballot i (s.path n))).state = .alert := if_pos hv
        rw [hal]
        obtain hq | hq := hq <;> simp [hq]
      · rw [State.runEvent_channelFirst hfirst, hd]
        refine (postureStable_causes _ (Cause.path n ∈ ·)).conclude ?_
        rw [State.channelTo, show State.channel { s with due := s.due.erase (.chActive i) } i = s.channel i from rfl, hstate]
        exact halert.1 ha
      · rw [State.runEvent_channelFirst hfirst, hd]
        refine (postureStable_pathReq f n true).conclude ?_
        rw [State.channelTo, show State.channel { s with due := s.due.erase (.chActive i) } i = s.channel i from rfl, hstate]
        exact halert.2 f hf

end Sys2Proof.Machine
end

section
/-! SUPPORT. SET_CHANNEL: the references, the record of the channel, and the change handed to the paths (R25, R31 to R35). -/

namespace Sys2Proof.Machine

/-! ### A channel record written by SET_CHANNEL (R31, R35) -/

theorem State.putChannel_step (s : State) (i : Fin 16) (new : Channel) (extra : BitVec 16) :
    let u := s.setChannel i new
    let old := (s.channel i).state
    u.PathsStep (s.putChannel i new extra)
      (fun n => if old = new.state then s.path n else State.takenPath i old new.state u n (s.path n))
      (if old = new.state then [] else State.channelEntries u i old new.state ++
        (List.finRange 12).flatMap fun n => State.takenEntries i old new.state u n (s.path n)) := by
  dsimp only
  have hpost : (s.setChannel i new).PathsStep ((s.setChannel i new).postIf ((channelFlags (s.channel i) new ||| extra) != 0) (.channel i)
      (channelFlags (s.channel i) new ||| extra)) s.path [] :=
    .of_frame (exceptOutputs_of_exceptBarriers (State.postIf_exceptBarriers ..))
      fun o f h => (recordStable_reported o f).postIf h
  unfold State.putChannel
  dsimp only
  by_cases h : (s.channel i).state = new.state
  · simp only [h, if_true]
    rw [show State.channelChanged _ i new.state new.state = _ from if_pos rfl]
    exact hpost
  · simp only [h, if_false]
    have hstep := State.channelChanged_step ((s.setChannel i new).postIf ((channelFlags (s.channel i) new ||| extra) != 0) (.channel i)
      (channelFlags (s.channel i) new ||| extra)) i h
    obtain ⟨hpath, hentries⟩ := State.taken_congr hpost.frame i (s.channel i).state new.state
    refine (hpost.trans hstep).congr (fun n => ?_) ?_
    · rw [hpath, hpost.path]
    · simp only [hentries, hpost.path, State.channelEntries, State.entry, State.postIf_channel, State.postIf_tmb]
      rfl

theorem State.putChannel_channels (s : State) (i : Fin 16) (new : Channel) (extra : BitVec 16) :
    (s.putChannel i new extra).channels = s.channels.set i new := (channels_of_exceptPaths (s.putChannel_step i new extra).frame).trans rfl

@[simp] theorem State.putChannel_channel_same (s : State) (i : Fin 16) (new : Channel) (extra : BitVec 16) :
    (s.putChannel i new extra).channel i = new := by simp [State.channel, State.putChannel_channels]

theorem State.putChannel_channel_other (s : State) {i j : Fin 16} (new : Channel) (extra : BitVec 16) (h : j ≠ i) :
    (s.putChannel i new extra).channel j = s.channel j := by
  rw [State.channel, State.putChannel_channels]
  exact s.setChannel_channel_other i new j h

theorem State.putChannel_reported {s : State} {i : Fin 16} {new : Channel} {extra g : BitVec 16}
    (hg : (channelFlags (s.channel i) new ||| extra) &&& g = g) (h0 : g ≠ 0) : (s.putChannel i new extra).reported (.channel i) g := by
  have hne : ((channelFlags (s.channel i) new ||| extra) != 0) = true := by
    rw [bne_iff_ne]
    rintro hz
    rw [hz] at hg
    exact h0 (by simpa using hg.symm)
  unfold State.putChannel
  dsimp only
  refine (recordStable_reported (.channel i) g).toStepStable.channelChanged ?_
  rw [hne]
  exact State.post_reported_of _ _ hg

theorem State.takenEntries_of_noMember {s : State} {c : Fin 16} {old new : ChannelState} {n : Fin 12} {p : PathRec}
    (h : p.hasMember c = false) : State.takenEntries c old new s n p = [] :=
  if_neg fun hm => by simp [h] at hm

/-- A change of a channel in no path, with no entry of its own, is no change that the paths hear of (R31). -/
theorem State.putChannel_unseen {s : State} {i : Fin 16} {new : Channel} (extra : BitVec 16)
    (hm : ∀ n : Fin 12, (s.path n).hasMember i = false)
    (he : (s.channel i).state ≠ new.state → channelEntry (s.channel i).state new.state = none) :
    (s.setChannel i new).PathsStep (s.putChannel i new extra) s.path [] := by
  refine (s.putChannel_step i new extra).congr (fun n => ?_) ?_
  · split
    · rfl
    · exact State.takenPath_of_noMember (hm n)
  · split
    · rfl
    · next h =>
      rw [List.flatMap_eq_nil_iff.2 fun n _ => State.takenEntries_of_noMember (hm n), List.append_nil, State.channelEntries, he h]
      rfl

/-- The change of a channel's state is handed over, where what came before it was no change that the paths hear of. -/
theorem State.handedOver_putChannel {s v : State} {i : Fin 16} {new : Channel} (extra : BitVec 16) (hpath : v.path = s.path)
    (htrace : v.trace = s.trace) (htmb : v.tmb = s.tmb) (hi : (v.channel i).state = (s.channel i).state)
    (hother : ∀ (n : Fin 12) (c : Fin 16), (s.path n).hasMember c = true → (v.channel c).state = (s.channel c).state)
    (hna : new.state ≠ .active) (hnf : new.state = .fault → (s.channel i).state = .fault) :
    s.handedOver (v.putChannel i new extra) i := by
  have hstep := v.putChannel_step i new extra
  dsimp only at hstep
  rw [hi, hpath] at hstep
  have hno : ¬((s.channel i).state = .quiet ∧ new.state = .active) := fun h => hna h.2
  have hentries : (v.putChannel i new extra).trace = s.trace.recordAll
      (if (s.channel i).state = new.state then [] else (channelEntry (s.channel i).state new.state).toList.map fun k =>
        s.entry k i.val new.lastSample.toNat) := by
    rw [hstep.trace, State.setChannel_trace, htrace]
    congr 1
    split
    · rfl
    · rw [List.flatMap_eq_nil_iff.2 fun n _ => State.takenEntries_of_noVote hno, List.append_nil, State.channelEntries,
        State.setChannel_channel_same]
      simp only [State.entry, State.setChannel_tmb, htmb]
  unfold State.handedOver
  simp only [State.putChannel_channel_same]
  refine ⟨fun hold hnew => ?_, fun hold hnew => ?_, fun hq hf => ?_, fun n => ?_⟩
  · rw [hentries]
    simp [hold, hnew, channelEntry]
    rfl
  · rw [hentries]
    simp [hold, hnew, Ne.symm hnew, channelEntry]
    rfl
  · rw [hentries]
    have hnone : (s.channel i).state ≠ new.state → channelEntry (s.channel i).state new.state = none := fun hne => by
      rw [channelEntry, if_neg hne, if_neg fun h => hne ((hnf h).trans h.symm), if_neg fun h => hf ⟨h, fun hn => hne (h.trans hn.symm)⟩,
        if_neg hno, if_neg hq]
    split
    · rfl
    · next h => rw [hnone h]; rfl
  · have hactive : (v.setChannel i new).anyActive (s.path n) = false ↔
        (List.finRange 16).all (fun c => !((s.path n).hasMember c && c != i && (s.channel c).state == .active)) = true := by
      rw [State.anyActive_left _ hna]
      refine iff_of_eq (congrArg (· = true) (List.all_congr rfl fun c => ?_))
      cases hm : (s.path n).hasMember c
      · simp
      · rw [hother n c hm]
    rw [hstep.path]
    by_cases hold : (s.channel i).state = new.state
    · rw [if_pos hold, if_neg fun h => h.2.1 (hold.symm.trans h.1)]
    · rw [if_neg hold, (State.takenPath_of_noVote hno).2.2.2.2]
      simp only [hactive]
      refine if_congr ⟨fun ⟨hm, ha, hw, hall⟩ => ⟨ha, hna, hm, hw, hall⟩, fun ⟨ha, _, hm, hw, hall⟩ => ⟨hm, ha, hw, hall⟩⟩ rfl rfl

/-! ### The numbers (R33) -/

/-- The thresholds applied are ordered and in range (R33). -/
theorem applyThresholds_eq (m : ChannelMode) (rise fall : Int) :
    let lo := thresholdBottom m
    let r := clampInt lo 4095 rise
    let f := clampInt lo 4095 fall
    applyThresholds m rise fall =
      (if f < r then r else if r = lo then lo + 1 else r, if f < r then f else if r = lo then lo else r - 1) := by
  unfold applyThresholds
  dsimp only
  split
  · rfl
  · split <;> rfl

/-- SET_CHANNEL to FIXED or OFF with its operands read (R32). -/
theorem State.applySetChannel_plain {s : State} {channel reference : Byte} {rise fall : Half} {persist : Byte} {i : Fin 16} (off : Bool)
    (hi : channel.toNat = i.val) :
    s.applySetChannel channel (if off then 0 else 1) reference rise fall persist =
      s.acceptChannel i (if off then .off else .fixed) none rise fall persist := by
  unfold State.applySetChannel
  rw [indexOf_of_toNat hi]
  cases off <;> rfl

theorem State.applySetChannel_reference {s : State} {channel reference : Byte} {rise fall : Half} {persist : Byte} {i j : Fin 16}
    (hi : channel.toNat = i.val) (hj : reference.toNat = j.val) :
    s.applySetChannel channel 2 reference rise fall persist = s.acceptChannel i .reference (some j) rise fall persist := by
  unfold State.applySetChannel
  rw [indexOf_of_toNat hi, indexOf_of_toNat hj]
  rfl

/-! ### References (R25, R34) -/

theorem State.releases_iff (s : State) (i r : Fin 16) :
    ((s.referrers r).all (· == i)) = true ↔
      ¬∃ k : Fin 16, k ≠ i ∧ (s.channel k).cfg.mode = .reference ∧ (s.channel k).cfg.reference = some r := by
  rw [List.all_eq_true]
  constructor
  · rintro h ⟨k, hk, hm, hr⟩
    exact hk (by simpa using h k (by simp [State.referrers, Channel.references, hm, hr]))
  · intro h k hk
    obtain ⟨hm, hr⟩ : (s.channel k).cfg.mode = .reference ∧ (s.channel k).cfg.reference = some r := by
      simpa [State.referrers, Channel.references] using hk
    exact beq_iff_eq.2 (not_not.1 fun hne => h ⟨k, hne, hm, hr⟩)

/-- The record of a channel that leaves SERVE (R25). -/
theorem Channel.fromServe_eq (c : Channel) :
    c.fromServe.cfg = { c.cfg with mode := if c.cfg.baseFixed then .fixed else .off } ∧ c.fromServe.lastSample = c.lastSample ∧
      c.fromServe.state = (if c.cfg.baseFixed then if c.state = .fault then .fault else .quiet else .off) ∧
      c.fromServe.riseRun = 0 ∧ c.fromServe.fallRun = 0 ∧
      c.fromServe.recoveryRun = if c.cfg.baseFixed = true ∧ c.state = .fault then c.recoveryRun else 0 := by
  unfold Channel.fromServe
  by_cases h : c.cfg.baseFixed = true <;> simp [h]

/-- What a state between two parts of one SET_CHANNEL shares with the state before it: everything but channels, paths, trace, outputs
and the report set, which only grows. -/
structure State.ChannelsOnly (s t : State) : Prop where
  frame : { t.exceptPaths with channels := s.channels } = s.exceptPaths
  keep : ∀ (o : Obj) (f : BitVec 16), s.reported o f → t.reported o f

theorem State.ChannelsOnly.refl (s : State) : s.ChannelsOnly s := ⟨rfl, fun _ _ => id⟩

theorem State.ChannelsOnly.trans {s t u : State} (h : s.ChannelsOnly t) (h' : t.ChannelsOnly u) : s.ChannelsOnly u where
  frame := by
    have h1 : { u.exceptPaths with channels := s.channels } = { t.exceptPaths with channels := s.channels } :=
      congrArg (fun v : State => { v with channels := s.channels }) h'.frame
    exact h1.trans h.frame
  keep o f ho := h'.keep o f (h.keep o f ho)

theorem tmb_of_channelsOnly {s t : State} (h : s.ChannelsOnly t) : t.tmb = s.tmb := (congrArg State.tmb h.frame :)

theorem State.putChannel_only (s : State) (i : Fin 16) (new : Channel) (extra : BitVec 16) : s.ChannelsOnly (s.putChannel i new extra) where
  frame := congrArg (fun v : State => { v with channels := s.channels }) (s.putChannel_step i new extra).frame
  keep o f ho := (s.putChannel_step i new extra).keep o f ho

/-- A change of other channels that the paths do not hear of. -/
structure State.Unseen (s t : State) : Prop where
  path : t.path = s.path
  trace : t.trace = s.trace
  member : ∀ (n : Fin 12) (c : Fin 16), (s.path n).hasMember c = true → t.channel c = s.channel c

theorem State.Unseen.refl (s : State) : s.Unseen s := ⟨rfl, rfl, fun _ _ _ => rfl⟩

theorem State.Unseen.trans {s t u : State} (h : s.Unseen t) (h' : t.Unseen u) : s.Unseen u where
  path := h'.path.trans h.path
  trace := h'.trace.trans h.trace
  member n c hm := (h'.member n c (by rwa [h.path])).trans (h.member n c hm)

theorem State.unseen_putChannel {s : State} {i : Fin 16} {new : Channel} (extra : BitVec 16)
    (hm : ∀ n : Fin 12, (s.path n).hasMember i = false)
    (he : (s.channel i).state ≠ new.state → channelEntry (s.channel i).state new.state = none) : s.Unseen (s.putChannel i new extra) where
  path := funext (State.putChannel_unseen extra hm he).path
  trace := (State.putChannel_unseen extra hm he).trace
  member n c hc := State.putChannel_channel_other _ _ _ fun h => by simp [h, hm n] at hc

/-- What letting go of a reference does (R25, R34). -/
theorem State.releaseReference_spec (s : State) (i r : Fin 16) :
    let t := s.releaseReference i r
    s.ChannelsOnly t ∧ (∀ k : Fin 16, k ≠ r → t.channel k = s.channel k) ∧ s.letGo t i r ∧
      ((s.channel r).state ≠ .fault → (s.channel r).state ≠ .active → (∀ n : Fin 12, (s.path n).hasMember r = false) → s.Unseen t) := by
  unfold State.releaseReference
  by_cases h : ((s.referrers r).all (· == i)) = true
  · simp only [h, if_true]
    have hnot := (s.releases_iff i r).1 h
    obtain ⟨hcfg, hsample, hstate, hrise, hfall, hrec⟩ := (s.channel r).fromServe_eq
    refine ⟨s.putChannel_only .., fun k hk => State.putChannel_channel_other _ _ _ hk, ⟨fun hn => absurd hn hnot, fun _ => ?_⟩,
      fun hnf hna hm => State.unseen_putChannel _ hm fun hne => ?_⟩
    · rw [State.putChannel_channel_same]
      refine ⟨hcfg, hsample, hstate, hrise, hfall, hrec, fun hserve => State.putChannel_reported ?_ (by decide)⟩
      have hmode : (s.channel r).fromServe.cfg.mode ≠ .serve := by rw [hcfg]; dsimp only; split <;> simp
      have hflags : ¬((s.channel r).cfg.mode = .serve) = ((s.channel r).fromServe.cfg.mode = .serve) := by simp [hserve, hmode]
      rw [channelFlags, if_neg hflags]
      exact flags_or_left _ (flags_or_right _ (by decide))
    · have hnew : (s.channel r).fromServe.state = .quiet ∨ (s.channel r).fromServe.state = .off := by
        rw [hstate, if_neg hnf]
        split <;> simp
      rw [channelEntry, if_neg hne, if_neg (by obtain h | h := hnew <;> simp [h]), if_neg hnf,
        if_neg (by obtain h | h := hnew <;> simp [h]), if_neg fun h => hna h.1]
  · simp only [h]
    refine ⟨.refl s, fun _ _ => rfl, ⟨fun _ => rfl, fun hn => absurd ((s.releases_iff i r).2 hn) h⟩, fun _ _ _ => .refl s⟩

/-- What taking a reference does to it (R25, R34). -/
theorem State.takeReference_spec (s : State) (r : Fin 16) :
    let d := s.channel r
    let t := s.takeReference r
    s.ChannelsOnly t ∧ (∀ k : Fin 16, k ≠ r → t.channel k = s.channel k) ∧ (d.cfg.mode = .serve → t.channel r = d) ∧
      (d.cfg.mode ≠ .serve → t.channel r = d.toServe ∧ t.reported (.channel r) Flag.chServe) ∧
      ((∀ n : Fin 12, (s.path n).hasMember r = false) → s.Unseen t) := by
  unfold State.takeReference
  by_cases h : (s.channel r).cfg.mode = .serve
  · simp only [h, if_true]
    exact ⟨.refl s, fun _ _ => trivial, fun _ => trivial, fun hn => absurd rfl hn, fun _ => .refl s⟩
  · simp only [h, if_false]
    refine ⟨s.putChannel_only .., fun k hk => State.putChannel_channel_other _ _ _ hk, fun hs => absurd hs id,
      fun _ => ⟨State.putChannel_channel_same .., State.putChannel_reported ?_ (by decide)⟩,
      fun hm => State.unseen_putChannel _ hm fun hne => ?_⟩
    · have hflags : ¬((s.channel r).cfg.mode = .serve) = ((s.channel r).toServe.cfg.mode = .serve) := by simp [h, Channel.toServe]
      rw [channelFlags, if_neg hflags]
      exact flags_or_left _ (flags_or_right _ (by decide))
    · have hnf : (s.channel r).state ≠ .fault := fun hf => hne (by simp [Channel.toServe, hf])
      simp [channelEntry, Channel.toServe, hnf]

theorem State.letGo_of {s t u : State} {i k : Fin 16} (h : s.letGo t i k) (hk : u.channel k = t.channel k) (htu : t.ChannelsOnly u) :
    s.letGo u i k := by
  obtain ⟨hnamed, hfree⟩ := h
  unfold State.letGo
  dsimp only
  rw [hk]
  refine ⟨hnamed, fun hn => ?_⟩
  obtain ⟨hcfg, hsample, hstate, hrise, hfall, hrec, hrep⟩ := hfree hn
  exact ⟨hcfg, hsample, hstate, hrise, hfall, hrec, fun hs => htu.keep _ _ (hrep hs)⟩

/-- The state after a channel has let go of its reference. -/
def State.letOld (s : State) (i : Fin 16) : State :=
  match (s.channel i).cfg.reference with
  | some r => s.releaseReference i r
  | none => s

theorem State.letOld_spec (s : State) (i : Fin 16) :
    let t := s.letOld i
    s.ChannelsOnly t ∧ (∀ k : Fin 16, (s.channel i).cfg.reference ≠ some k → t.channel k = s.channel k) ∧
      (∀ k : Fin 16, (s.channel i).cfg.reference = some k → s.letGo t i k) ∧ (s.letsGoUnseen (s.channel i) → s.Unseen t) := by
  unfold State.letOld
  cases hr : (s.channel i).cfg.reference with
  | none => exact ⟨.refl s, fun _ _ => rfl, fun _ h => absurd h (by simp), fun _ => .refl s⟩
  | some r =>
    obtain ⟨honly, hother, hgo, hunseen⟩ := s.releaseReference_spec i r
    refine ⟨honly, fun k hk => hother k fun h => hk (by rw [h]), fun k hk => ?_, fun h => ?_⟩
    · cases hk
      exact hgo
    · obtain ⟨hnf, hna, hm⟩ := h r hr
      exact hunseen hnf hna hm

theorem State.changeReferences_none (s : State) (i : Fin 16) : s.changeReferences i none = s.letOld i := by
  unfold State.changeReferences State.letOld
  cases (s.channel i).cfg.reference <;> rfl

theorem State.changeReferences_some {s : State} {i j : Fin 16} (h : (s.channel i).cfg.reference ≠ some j) :
    s.changeReferences i (some j) = (s.letOld i).takeReference j := by
  unfold State.changeReferences State.letOld
  exact if_neg h

/-! ### The channel's record (R34) -/

/-- The thresholds and persist count that SET_CHANNEL writes (R33). -/
def Channel.withNumbers (c : Channel) (m : ChannelMode) (ref : Option (Fin 16)) (rise fall : Int) (persist : Nat) : ChannelConfig :=
  { c.cfg with mode := m, reference := ref, rise := rise, fall := fall, persist := persist }

theorem State.reconfigured_spec {s : State} {c : Channel} {m : ChannelMode} {ref : Option (Fin 16)} (rise fall : Int) (persist : Nat)
    (hs : c.cfg.mode ≠ .serve) (hk : ¬(c.cfg.mode = m ∧ c.cfg.reference = ref)) :
    let r := s.reconfigured c m ref rise fall persist
    r.cfg = c.withNumbers m ref rise fall persist ∧ r.riseRun = 0 ∧ r.fallRun = 0 ∧ r.lastSample = c.lastSample ∧
      r.recoveryRun = (if m ≠ .off ∧ c.state = .fault then c.recoveryRun else 0) ∧
      r.state = (if m = .off then .off else if c.state = .fault then .fault
        else if ∃ j, ref = some j ∧ (s.channel j).state = .fault then .refFault else .quiet) := by
  have hkept : (c.cfg.mode == m && c.cfg.reference == ref) = false := by
    rw [Bool.and_eq_false_iff, beq_eq_false_iff_ne, beq_eq_false_iff_ne]
    tauto
  unfold State.reconfigured Channel.withNumbers
  simp only [hkept, hs, if_false, Bool.false_eq_true]
  by_cases hm : m = .off
  · simp [hm, Channel.enter]
  · by_cases hf : c.state = .fault
    · simp [hm, hf]
    · cases ref with
      | none => simp [hm, hf, Channel.enter]
      | some j => simp [hm, hf, Channel.enter]

/-- A channel that keeps its mode and reference takes the numbers (R34). -/
theorem State.reconfigured_kept {s : State} {c : Channel} (rise fall : Int) (persist : Nat) (hs : c.cfg.mode ≠ .serve) :
    s.reconfigured c c.cfg.mode c.cfg.reference rise fall persist =
      { c with cfg := { c.cfg with rise := rise, fall := fall, persist := persist }, riseRun := 0, fallRun := 0 } := by
  simp [State.reconfigured, hs]

theorem State.reconfigured_serve {s : State} {c : Channel} (m : ChannelMode) (ref : Option (Fin 16)) (rise fall : Int) (persist : Nat)
    (hs : c.cfg.mode = .serve) :
    s.reconfigured c m ref rise fall persist =
      { c with cfg := { c.cfg with baseFixed := true, rise := rise, fall := fall, persist := persist }, riseRun := 0, fallRun := 0 } :=
  if_pos hs

theorem State.setChannelTo_eq {s : State} {i : Fin 16} {m : ChannelMode} {ref : Option (Fin 16)} {rise fall : Int} {persist : Nat}
    (hs : (s.channel i).cfg.mode ≠ .serve) :
    s.setChannelTo i m ref rise fall persist =
      (s.changeReferences i ref).putChannel i
        ((s.changeReferences i ref).reconfigured ((s.changeReferences i ref).channel i) m ref rise fall persist) Flag.chConfig := by
  rw [State.setChannelTo, if_neg hs]

/-- A record written without a change of state and of SERVE posts CONFIG and nothing else (R35). -/
theorem State.putChannel_config {s : State} {i : Fin 16} {new : Channel} (hs : new.state = (s.channel i).state)
    (hm : new.cfg.mode = (s.channel i).cfg.mode) :
    s.putChannel i new Flag.chConfig = (s.setChannel i new).post (.channel i) Flag.chConfig := by
  have hf : (channelFlags (s.channel i) new ||| Flag.chConfig) = Flag.chConfig := by
    simp [channelFlags, hs, hm]
  unfold State.putChannel
  dsimp only
  rw [hf, State.channelChanged, if_pos hs.symm]
  rfl

/-- A kept channel: its numbers, CONFIG, and nothing else (R34, R35). -/
theorem State.setChannelTo_kept {s : State} {i : Fin 16} {m : ChannelMode} {ref : Option (Fin 16)} (rise fall : Int) (persist : Nat)
    (hs : (s.channel i).cfg.mode ≠ .serve) (hm : (s.channel i).cfg.mode = m) (hr : (s.channel i).cfg.reference = ref) :
    s.setChannelTo i m ref rise fall persist =
      (s.setChannel i { s.channel i with
        cfg := { (s.channel i).cfg with rise := rise, fall := fall, persist := persist }, riseRun := 0, fallRun := 0 }).post (.channel i)
          Flag.chConfig := by
  subst hm hr
  have hrefs : s.changeReferences i (s.channel i).cfg.reference = s := if_pos rfl
  have heq := State.setChannelTo_eq (ref := (s.channel i).cfg.reference) (m := (s.channel i).cfg.mode) (rise := rise) (fall := fall)
    (persist := persist) hs
  rw [hrefs, State.reconfigured_kept _ _ _ hs] at heq
  exact heq.trans (State.putChannel_config (new := { s.channel i with
    cfg := { (s.channel i).cfg with rise := rise, fall := fall, persist := persist }, riseRun := 0, fallRun := 0 }) rfl rfl)

/-- A SERVE channel takes the numbers and FIXED as its base mode (R34). -/
theorem State.setChannelTo_serve {s : State} {i : Fin 16} (m : ChannelMode) (ref : Option (Fin 16)) (rise fall : Int) (persist : Nat)
    (hs : (s.channel i).cfg.mode = .serve) :
    s.setChannelTo i m ref rise fall persist =
      (s.setChannel i { s.channel i with
        cfg := { (s.channel i).cfg with baseFixed := true, rise := rise, fall := fall, persist := persist },
        riseRun := 0, fallRun := 0 }).post (.channel i) Flag.chConfig := by
  rw [State.setChannelTo, if_pos hs, State.reconfigured_serve _ _ _ _ _ hs]
  exact State.putChannel_config (new := { s.channel i with
    cfg := { (s.channel i).cfg with baseFixed := true, rise := rise, fall := fall, persist := persist }, riseRun := 0, fallRun := 0 }) rfl rfl

/-! ### SET_CHANNEL to the end of its step -/

theorem State.applySetChannel_accepted {s : State} {i : Fin 16} {m : ChannelMode} {ref : Option (Fin 16)} {rise fall : Half} {persist : Byte}
    (h : s.channelConflict i m ref = false) :
    let n := applyThresholds m rise.toInt fall.toInt
    let t := s.setChannelTo i m ref n.1 n.2 (clampNat 1 8 persist.toNat)
    s.acceptChannel i m ref rise fall persist = accept (channelReply i (t.channel i)) t := by
  rw [State.acceptChannel, if_neg (by simp [h])]

theorem channels_of_exceptOutputs {s t : State} (h : t.exceptOutputs = s.exceptOutputs) : t.channels = s.channels :=
  (congrArg State.channels h :)

theorem applyThresholds_plain (off : Bool) (rise fall : Int) :
    let r0 := clampInt 0 4095 rise
    let f0 := clampInt 0 4095 fall
    applyThresholds (if off then .off else .fixed) rise fall =
      (if f0 < r0 then r0 else if r0 = 0 then 1 else r0, if f0 < r0 then f0 else if r0 = 0 then 0 else r0 - 1) := by
  cases off <;> exact applyThresholds_eq _ rise fall

theorem applyThresholds_reference (rise fall : Int) :
    let r0 := clampInt (-4095) 4095 rise
    let f0 := clampInt (-4095) 4095 fall
    applyThresholds .reference rise fall =
      (if f0 < r0 then r0 else if r0 = -4095 then -4094 else r0, if f0 < r0 then f0 else if r0 = -4095 then -4095 else r0 - 1) :=
  applyThresholds_eq _ rise fall

/-- A change of channels that a request answers, to the end of its step. -/
theorem exec_channels {c : Instr} {k : RequestKind} {s t : State} {d : List Byte} (hk : c.requestKind = some k) (h : s.listening)
    (ha : s.applyRequest c = accept d t) (ht : s.ChannelsOnly t) :
    ∃ u : State, exec c s = .next u ∧ (∀ j : Fin 16, u.channel j = t.channel j) ∧ (∀ i : Fin 16, s.handedOver t i → s.handedOver u i) ∧
      (∀ i j : Fin 16, s.letGo t i j → s.letGo u i j) ∧ (∀ (o : Obj) (f : BitVec 16), t.reported o f → u.reported o f) ∧
      { u.exceptOutputs with channels := s.channels, paths := s.paths, trace := s.trace } =
        (s.answered (bodyHead (encodeBody c)).1 (bodyHead (encodeBody c)).2 .ok d).exceptOutputs := by
  have hframe := State.conclude_exceptOutputs s (t.answered (bodyHead (encodeBody c)).1 (bodyHead (encodeBody c)).2 .ok d)
  have hkeep (o : Obj) (f : BitVec 16) (ho : t.reported o f) :=
    (recordStable_reported o f).toStepStable.conclude (a := s)
      ((recordStable_reported o f).answered (k := (bodyHead (encodeBody c)).1) (t := (bodyHead (encodeBody c)).2) (o := .ok) (d := d) ho)
  have hch : (State.conclude s (t.answered (bodyHead (encodeBody c)).1 (bodyHead (encodeBody c)).2 .ok d)).channels = t.channels :=
    (channels_of_exceptOutputs hframe).trans rfl
  have hchannel (j : Fin 16) : (State.conclude s (t.answered (bodyHead (encodeBody c)).1 (bodyHead (encodeBody c)).2 .ok d)).channel j =
      t.channel j := by rw [State.channel, hch, State.channel]
  refine ⟨_, exec_concluded hk h ha, hchannel, fun i hi => ?_, fun i j hj => ?_, hkeep, ?_⟩
  · unfold State.handedOver at hi ⊢
    simpa only [hchannel, State.conclude_trace, State.answered_trace, State.conclude_path, State.answered_path] using hi
  · obtain ⟨hnamed, hfree⟩ := hj
    unfold State.letGo
    simp only [hchannel]
    refine ⟨hnamed, fun hn => ?_⟩
    obtain ⟨hcfg, hsample, hstate, hrise, hfall, hrec, hrep⟩ := hfree hn
    exact ⟨hcfg, hsample, hstate, hrise, hfall, hrec, fun hs => hkeep _ _ (hrep hs)⟩
  · rw [hframe]
    have hends := congrArg (fun v : State => v.answered (bodyHead (encodeBody c)).1 (bodyHead (encodeBody c)).2 .ok d) ht.frame
    exact congrArg (fun v : State => { v with paths := s.paths, trace := s.trace }) hends

/-- Settles O16: a channel that keeps its mode, one in SERVE, and one that changes its mode. -/
theorem setChannelFixedOrOff : Obligations.SetChannelFixedOrOff := by
  unfold Obligations.SetChannelFixedOrOff
  intro tag channel reference rise fall persist i off s h hi
  have hread := State.applySetChannel_plain (s := s) (reference := reference) (rise := rise) (fall := fall) (persist := persist) off hi
  have hnum := applyThresholds_plain off rise.toInt fall.toInt
  dsimp only at hnum ⊢
  generalize (if clampInt 0 4095 fall.toInt < clampInt 0 4095 rise.toInt then clampInt 0 4095 rise.toInt
    else if clampInt 0 4095 rise.toInt = 0 then 1 else clampInt 0 4095 rise.toInt) = r at hnum ⊢
  generalize (if clampInt 0 4095 fall.toInt < clampInt 0 4095 rise.toInt then clampInt 0 4095 fall.toInt
    else if clampInt 0 4095 rise.toInt = 0 then 0 else clampInt 0 4095 rise.toInt - 1) = f at hnum ⊢
  have hm : (if off then ChannelMode.off else .fixed) ≠ .serve ∧ (if off then ChannelMode.off else .fixed) ≠ .reference := by
    cases off <;> simp
  have hcode : (if off then ChannelMode.off else .fixed).code = if off then 0 else 1 := by cases off <;> rfl
  generalize hmode : (if off then ChannelMode.off else .fixed) = m at *
  have hok (hc : s.channelConflict i m none = false) :=
    hread.trans (State.applySetChannel_accepted (ref := none) (rise := rise) (fall := fall) (persist := persist) hc)
  simp only [hnum] at hok
  refine ⟨fun hkept href => ?_, fun hserve href => ?_, fun hne hserve href => ?_⟩
  · have hserve : (s.channel i).cfg.mode ≠ .serve := hkept ▸ hm.1
    have hacc := hok (by simp [State.channelConflict, hserve])
    rw [State.setChannelTo_kept r f _ hserve hkept href] at hacc
    refine exec_accepted (k := .setChannel) rfl h (hacc.trans (congrArg (accept · _) ?_)) rfl rfl
    rw [State.post_channel, State.setChannel_channel_same, channelReply, hkept, href, hcode]
    rfl
  · cases off with
    | true =>
      subst hmode
      refine exec_refused (k := .setChannel) rfl h (hread.trans (if_pos ?_))
      simp [State.channelConflict, hserve]
    | false =>
      have hacc := hok (by simp [State.channelConflict, hserve, ← hmode])
      rw [State.setChannelTo_serve _ _ _ _ _ hserve] at hacc
      refine exec_accepted (k := .setChannel) rfl h (hacc.trans (congrArg (accept · _) ?_)) rfl rfl
      rw [State.post_channel, State.setChannel_channel_same, channelReply, hserve, href]
      rfl
  · have hacc := hok (by simp [State.channelConflict, hserve])
    rw [State.setChannelTo_eq hserve, State.changeReferences_none] at hacc
    obtain ⟨honly, hother, hgo, hunseen⟩ := s.letOld_spec i
    have hi' : (s.letOld i).channel i = s.channel i := hother i href
    rw [hi'] at hacc
    obtain ⟨hcfg, hrise, hfall, hsample, hrec, hstate⟩ := State.reconfigured_spec (s := s.letOld i) (c := s.channel i) (m := m) (ref := none)
      r f (clampNat 1 8 persist.toNat) hserve (fun hk => hne hk.1)
    generalize hnew : (s.letOld i).reconfigured (s.channel i) m none r f (clampNat 1 8 persist.toNat) = new at *
    have hput := (s.letOld i).putChannel_only i new Flag.chConfig
    obtain ⟨t, ht, hch, hhand, hlet, hrep, hframe⟩ := exec_channels (c := .setChannel tag channel (if off then 0 else 1) reference rise fall persist)
      (k := .setChannel) rfl h hacc (honly.trans hput)
    have hoff : m = .off ↔ off = true := by rw [← hmode]; cases off <;> simp
    refine ⟨t, ht, hrep _ _ (State.putChannel_reported (flags_or_right _ (by decide)) (by decide)), ?_⟩
    simp only [hch, State.putChannel_channel_same]
    refine ⟨hcfg, hrise, hfall, hsample, hrec.trans ?_, hstate.trans ?_, fun j hj => ?_, fun hu => hhand i ?_, fun j hj hk => ?_, ?_⟩
    · simp [hoff]
    · simp [hoff]
    · have hji : j ≠ i := fun he => href (he ▸ hj)
      exact hlet i j (State.letGo_of (hgo j hj) (State.putChannel_channel_other _ _ _ hji) hput)
    · obtain ⟨hp, htr, hmem⟩ := hunseen hu
      refine State.handedOver_putChannel _ hp htr (tmb_of_channelsOnly honly) (by rw [hi']) (fun n c hc => by rw [hmem n c hc]) ?_ fun hf => ?_
      · rw [hstate]; split
        · simp
        · split <;> simp
      · rw [hstate] at hf
        by_contra hnf
        split at hf
        · cases hf
        · simp at hf
    · rw [State.putChannel_channel_other _ _ _ hj, hother j hk]
    · refine hframe.trans ?_
      rw [State.putChannel_channel_same, channelReply, hcfg, Channel.withNumbers, hcode]
      rfl

theorem State.channelConflict_reference (s : State) (i j : Fin 16) :
    s.channelConflict i .reference (some j) = true ↔
      j = i ∨ (s.channel j).cfg.mode = .reference ∨ (∃ n : Fin 12, (s.path n).hasMember j = true) ∨ (s.channel i).cfg.mode = .serve := by
  simp [State.channelConflict, State.isMember, or_assoc]

theorem Channel.toServe_spec (c : Channel) :
    c.toServe.cfg = { c.cfg with mode := .serve, baseFixed := c.cfg.mode == .fixed } ∧
      c.toServe.state = (if c.state = .fault then .fault else .serve) ∧ c.toServe.riseRun = 0 ∧ c.toServe.fallRun = 0 ∧
      c.toServe.recoveryRun = c.recoveryRun := ⟨rfl, rfl, rfl, rfl, rfl⟩

/-- Settles O17: the conflicts of R32, the reference kept, and a new reference taken. -/
theorem setChannelReference : Obligations.SetChannelReference := by
  unfold Obligations.SetChannelReference
  intro tag channel reference rise fall persist i j s h hi hj
  have hread := State.applySetChannel_reference (s := s) (rise := rise) (fall := fall) (persist := persist) hi hj
  have hnum := applyThresholds_reference rise.toInt fall.toInt
  dsimp only at hnum ⊢
  generalize (if clampInt (-4095) 4095 fall.toInt < clampInt (-4095) 4095 rise.toInt then clampInt (-4095) 4095 rise.toInt
    else if clampInt (-4095) 4095 rise.toInt = -4095 then -4094 else clampInt (-4095) 4095 rise.toInt) = r at hnum ⊢
  generalize (if clampInt (-4095) 4095 fall.toInt < clampInt (-4095) 4095 rise.toInt then clampInt (-4095) 4095 fall.toInt
    else if clampInt (-4095) 4095 rise.toInt = -4095 then -4095 else clampInt (-4095) 4095 rise.toInt - 1) = f at hnum ⊢
  simp only [← State.channelConflict_reference]
  refine ⟨fun hc => exec_refused (k := .setChannel) rfl h (hread.trans (if_pos hc)), fun hc hkept href => ?_, fun hc href hself => ?_⟩
  all_goals
    have hacc := hread.trans (State.applySetChannel_accepted (rise := rise) (fall := fall) (persist := persist) (Bool.eq_false_iff.2 hc))
    rw [State.channelConflict_reference] at hc
    obtain ⟨hji, hdmode, hmember, hserve⟩ : j ≠ i ∧ (s.channel j).cfg.mode ≠ .reference ∧
        (∀ n : Fin 12, (s.path n).hasMember j = false) ∧ (s.channel i).cfg.mode ≠ .serve := by
      simpa using hc
    simp only [hnum] at hacc
  · rw [State.setChannelTo_kept r f _ hserve hkept href] at hacc
    refine exec_accepted (k := .setChannel) rfl h (hacc.trans (congrArg (accept · _) ?_)) rfl rfl
    rw [State.post_channel, State.setChannel_channel_same, channelReply, hkept, href]
    rfl
  · rw [State.setChannelTo_eq hserve, State.changeReferences_some href] at hacc
    obtain ⟨honly, hother, hgo, hunseen⟩ := s.letOld_spec i
    obtain ⟨honly', hother', hdserve, hdtaken, hunseen'⟩ := (s.letOld i).takeReference_spec j
    rw [hother j href] at hdserve hdtaken
    generalize hv : (s.letOld i).takeReference j = v at *
    have hvi : v.channel i = s.channel i := (hother' i (Ne.symm hji)).trans (hother i hself)
    have hvonly : s.ChannelsOnly v := honly.trans honly'
    have hvfault : (v.channel j).state = .fault ↔ (s.channel j).state = .fault := by
      by_cases hs : (s.channel j).cfg.mode = .serve
      · rw [hdserve hs]
      · rw [(hdtaken hs).1, (Channel.toServe_spec _).2.1]
        split <;> simp [*]
    rw [hvi] at hacc
    obtain ⟨hcfg, hrise, hfall, hsample, hrec, hstate⟩ := State.reconfigured_spec (s := v) (c := s.channel i) (m := .reference)
      (ref := some j) r f (clampNat 1 8 persist.toNat) hserve (fun hk => href hk.2)
    generalize hnew : v.reconfigured (s.channel i) .reference (some j) r f (clampNat 1 8 persist.toNat) = new at *
    have hput := v.putChannel_only i new Flag.chConfig
    obtain ⟨t, ht, hch, hhand, hlet, hrep, hframe⟩ := exec_channels (c := .setChannel tag channel 2 reference rise fall persist)
      (k := .setChannel) rfl h hacc (hvonly.trans hput)
    have hjput := State.putChannel_channel_other (s := v) new Flag.chConfig hji
    refine ⟨t, ht, hrep _ _ (State.putChannel_reported (flags_or_right _ (by decide)) (by decide)), ?_⟩
    simp only [hch, State.putChannel_channel_same, hjput]
    refine ⟨hcfg, hrise, hfall, hsample, hrec.trans ?_, hstate.trans ?_, hdserve, fun hs => ?_, fun k hk => ?_, fun hu => hhand i ?_,
      fun k hki hkj hk => ?_, ?_⟩
    · simp
    · simp [hvfault]
    · obtain ⟨hto, hrepj⟩ := hdtaken hs
      rw [hto]
      exact ⟨rfl, rfl, rfl, rfl, rfl, hrep _ _ (hput.keep _ _ hrepj)⟩
    · have hki : k ≠ i := fun he => hself (he ▸ hk)
      have hkj : k ≠ j := fun he => href (he ▸ hk)
      exact hlet i k (State.letGo_of (State.letGo_of (hgo k hk) (hother' k hkj) honly') (State.putChannel_channel_other _ _ _ hki) hput)
    · obtain ⟨hp, htr, hmem⟩ := hunseen hu
      obtain ⟨hp', htr', hmem'⟩ := hunseen' (by rw [hp]; exact hmember)
      refine State.handedOver_putChannel _ (hp'.trans hp) (htr'.trans htr) (tmb_of_channelsOnly hvonly) (by rw [hvi])
        (fun n c hc => by rw [hmem' n c (by rwa [hp]), hmem n c hc]) ?_ fun hf => ?_
      · rw [hstate]; simp only [reduceCtorEq, if_false]
        split
        · simp
        · split <;> simp
      · rw [hstate] at hf
        by_contra hnf
        simp only [reduceCtorEq, if_false, hnf] at hf
        split at hf <;> cases hf
    · rw [State.putChannel_channel_other _ _ _ hki, hother' k hkj, hother k hk]
    · refine hframe.trans ?_
      rw [State.putChannel_channel_same, channelReply, hcfg, Channel.withNumbers]
      rfl

end Sys2Proof.Machine
end

section
/-! SUPPORT. What a change of a gate does to the gates: each operation of the gate drive unit takes one gate from its record to another,
said by a function of the record alone, and leaves the other gates (R64 to R75). -/

namespace Sys2Proof.Machine

/-! ### One gate's record replaced -/

theorem State.gate_of_set {s t : State} {i : Fin 6} {g : Gate} (h : t.gates = s.gates.set i g) :
    t.gate i = g ∧ ∀ j : Fin 6, j ≠ i → t.gate j = s.gate j := by
  have ht (j : Fin 6) : t.gate j = (s.setGate i g).gate j := congrArg (fun v : Vector Gate 6 => v[j]) h
  exact ⟨by rw [ht, State.setGate_gate_same], fun j hj => by rw [ht, State.setGate_gate_other s i g j hj]⟩

theorem State.gates_set_self (s : State) (i : Fin 6) : s.gates = s.gates.set i (s.gate i) :=
  congrArg State.gates (s.setGate_self i).symm

theorem State.gates_set_set (s : State) (i : Fin 6) (g g' : Gate) : (s.setGate i g).gates.set i g' = s.gates.set i g' := by
  simp [State.setGate]

theorem State.setPosture_gates (s : State) (k : Fin 4) (p : Posture) (ph : Phase) : (s.setPosture k p ph).gates = s.gates :=
  iteInduction (motive := fun t : State => t.gates = s.gates) (fun _ => rfl) fun _ => rfl

theorem State.completeLower_gates (s : State) (k : Fin 4) : (s.completeLower k).gates = s.gates :=
  iteInduction (motive := fun t : State => t.gates = s.gates) (fun _ => s.setPosture_gates ..) fun _ => rfl

theorem State.completeReopen_gates (s : State) (k : Fin 4) : (s.completeReopen k).gates = s.gates :=
  iteInduction (motive := fun t : State => t.gates = s.gates) (fun _ => s.setPosture_gates ..) fun _ => rfl

theorem State.gateChanged_gates (s : State) (k : Fin 4) (a b : GateState) : (s.gateChanged k a b).gates = s.gates := by
  refine (State.completeReopen_gates _ k).trans ((State.completeLower_gates _ k).trans ?_)
  cases (s.segment k).troubledBy a b <;> rfl

theorem State.gateRequest_gates (s : State) (f : Fin 8) (i : Fin 6) (c : FlashClass) : (s.gateRequest f i c).gates = s.gates := by
  rw [State.gateRequest_eq]
  exact iteInduction (motive := fun t : State => t.gates = s.gates) (fun _ => rfl) fun _ => rfl

theorem State.putGate_gates (s : State) (i : Fin 6) (a : GateState) (g : Gate) : (s.putGate i a g).gates = s.gates.set i g := by
  have hpost : ((s.setGate i g).postGate i (gateFlags a g.state)).gates = s.gates.set i g := rfl
  unfold State.putGate
  dsimp only
  generalize (s.setGate i g).postGate i (gateFlags a g.state) = u at hpost
  split <;> split
  · exact (State.gateChanged_gates ..).trans ((State.gateRequest_gates ..).trans hpost)
  · exact (State.gateChanged_gates ..).trans hpost
  · exact (State.gateRequest_gates ..).trans hpost
  · exact hpost

theorem State.putGate_reported (s : State) (i : Fin 6) (a : GateState) (g : Gate) :
    (s.putGate i a g).reported (.gate i) (gateFlags a g.state) := by
  have hP := (recordStable_reported (.gate i) (gateFlags a g.state)).toGateStable
  have hpost : ((s.setGate i g).postGate i (gateFlags a g.state)).reported (.gate i) (gateFlags a g.state) := State.post_reported ..
  unfold State.putGate
  dsimp only
  generalize (s.setGate i g).postGate i (gateFlags a g.state) = u at hpost
  split <;> split
  · exact hP.gateChanged (hP.request hpost)
  · exact hP.gateChanged hpost
  · exact hP.request hpost
  · exact hpost

/-! ### The records the operations leave -/

/-- A gate record that takes a state; taking the state it is in changes nothing. -/
def Gate.take (v : GateState) (g : Gate) : Gate := if g.state = v then g else g.enter v

/-- A gate record that takes OPEN and ends relowering (R64). -/
def Gate.opens (g : Gate) : Gate := { g with relowerArmed := false, clearCount := 0 }.take .opened

/-- A gate record in a presence reversal, before the arm rises (R69). -/
def Gate.reversing (g : Gate) : Gate :=
  { g with attempts := min 5 (g.attempts + 1), relowerArmed := true, clearCount := 0, manualLowering := false }

/-- The state a presence reversal takes (R69, R71). -/
def Gate.reversal (g : Gate) : GateState :=
  if g.openLimit then (if 4 ≤ g.attempts then .blocked else .opened) else .raising

/-- A gate record after a presence reversal (R69, R71). -/
def Gate.reversed (g : Gate) : Gate := g.reversing.take g.reversal

/-- A gate record as lowering begins, subject to presence (R69). -/
def Gate.lowered (g : Gate) : Gate := if g.presence then g.reversed else g.take .lowering

/-- A gate record whose pause has ended upward (R68). -/
def Gate.raised (g : Gate) : Gate := if g.openLimit then g.opens else g.take .raising

@[simp] theorem Gate.take_state (v : GateState) (g : Gate) : (g.take v).state = v := by
  unfold Gate.take
  split
  · assumption
  · rfl

@[simp] theorem Gate.take_cfg (v : GateState) (g : Gate) : (g.take v).cfg = g.cfg :=
  iteInduction (motive := fun x : Gate => x.cfg = g.cfg) (fun _ => rfl) fun _ => rfl

/-- What a change of state leaves of a record. -/
theorem Gate.take_keeps (v : GateState) (g : Gate) :
    (g.take v).position = g.position ∧ (g.take v).referenced = g.referenced ∧ (g.take v).openLimit = g.openLimit ∧
      (g.take v).closedLimit = g.closedLimit ∧ (g.take v).presence = g.presence :=
  iteInduction (motive := fun x : Gate => x.position = g.position ∧ x.referenced = g.referenced ∧ x.openLimit = g.openLimit ∧
    x.closedLimit = g.closedLimit ∧ x.presence = g.presence) (fun _ => ⟨rfl, rfl, rfl, rfl, rfl⟩) fun _ => ⟨rfl, rfl, rfl, rfl, rfl⟩

theorem Gate.take_of_ne {v : GateState} {g : Gate} (h : g.state ≠ v) : g.take v = g.enter v := if_neg h

theorem Gate.take_of_eq {v : GateState} {g : Gate} (h : g.state = v) : g.take v = g := if_pos h

@[simp] theorem Gate.reversing_state (g : Gate) : g.reversing.state = g.state := rfl

@[simp] theorem Gate.opens_state (g : Gate) : g.opens.state = .opened := Gate.take_state ..

@[simp] theorem Gate.reversed_state (g : Gate) : g.reversed.state = g.reversal := Gate.take_state ..

/-! ### The operations, by the records they leave -/

theorem State.gateTo_gates (s : State) (i : Fin 6) (v : GateState) : (s.gateTo i v).gates = s.gates.set i ((s.gate i).take v) := by
  unfold State.gateTo Gate.take
  dsimp only
  split
  · exact s.gates_set_self i
  · exact s.putGate_gates ..

theorem State.gateTo_reported {s : State} {i : Fin 6} {v : GateState} (h : (s.gate i).state ≠ v) :
    (s.gateTo i v).reported (.gate i) (gateFlags (s.gate i).state v) := by
  unfold State.gateTo
  dsimp only
  rw [if_neg h]
  exact s.putGate_reported i _ ((s.gate i).enter v)

/-- A record written before the gate takes a state, reported or not. -/
theorem State.gates_gateTo_of {s u : State} {i : Fin 6} {g : Gate} (v : GateState) (h : u.gates = s.gates.set i g) :
    (u.gateTo i v).gates = s.gates.set i (g.take v) := by
  rw [State.gateTo_gates, (State.gate_of_set h).1, h]
  simp

theorem State.gateOpen_gates (s : State) (i : Fin 6) : (s.gateOpen i).gates = s.gates.set i (s.gate i).opens :=
  State.gates_gateTo_of _ rfl

theorem State.gatePause_gates (s : State) (i : Fin 6) (d : Direction) :
    (s.gatePause i d).gates = s.gates.set i ({ s.gate i with pending := d }.take .pause) := State.gates_gateTo_of _ rfl

theorem State.gateFault_gates {s : State} {i : Fin 6} {c : FaultCause} (h : (s.gate i).state ≠ .fault) :
    (s.gateFault i c).gates = s.gates.set i ({ s.gate i with faultCause := c }.enter .fault) := by
  unfold State.gateFault
  rw [if_neg h]
  refine (State.gates_gateTo_of .fault rfl).trans ?_
  rw [Gate.take_of_ne (by exact h)]

/-- The choice a presence reversal makes between three states is the choice of one state. -/
theorem gateTo_reversal (u : State) (i : Fin 6) (g : Gate) (h : u.gate i = g.reversing) :
    (if !(u.gate i).openLimit then u.gateTo i .raising
      else if (u.gate i).attempts = 5 then u.gateTo i .blocked else u.gateTo i .opened) = u.gateTo i g.reversal := by
  have hfive : g.reversing.attempts = 5 ↔ 4 ≤ g.attempts := by simp only [Gate.reversing]; omega
  have hopen : g.reversing.openLimit = g.openLimit := rfl
  rw [h, hopen, if_congr hfive rfl rfl, Gate.reversal]
  by_cases ho : g.openLimit = true <;> by_cases hf : 4 ≤ g.attempts <;> simp [ho, hf]

theorem State.reverse_eq (s : State) (i : Fin 6) :
    s.reverse i = ((s.setGate i (s.gate i).reversing).postGate i Flag.gateReversal).gateTo i (s.gate i).reversal :=
  gateTo_reversal _ i _ (s.setGate_gate_same i (s.gate i).reversing)

theorem State.reverse_gates (s : State) (i : Fin 6) : (s.reverse i).gates = s.gates.set i (s.gate i).reversed := by
  rw [State.reverse_eq]
  exact State.gates_gateTo_of _ rfl

theorem State.lower_gates (s : State) (i : Fin 6) : (s.lower i).gates = s.gates.set i (s.gate i).lowered := by
  unfold State.lower Gate.lowered
  split
  · exact s.reverse_gates i
  · exact s.gateTo_gates ..

theorem State.pauseUp_gates (s : State) (i : Fin 6) : (s.pauseUp i).gates = s.gates.set i (s.gate i).raised := by
  unfold State.pauseUp Gate.raised
  split
  · exact s.gateOpen_gates i
  · exact s.gateTo_gates ..

end Sys2Proof.Machine
end

section
/-! SUPPORT. Gate commands on a settled device: RESET_GATE, and presence under a lowering arm (R69, R71, R75). -/

namespace Sys2Proof.Machine

/-! ### Commands that reach gates, segments and flashers only -/

theorem State.lines_of_exceptBarriers {s t : State} (h : t.exceptBarriers = s.exceptBarriers) : t.lines = s.lines :=
  (congrArg State.lines h :)

/-- A pin command whose effect stays with segments, gates and flashers leaves that effect. -/
theorem exec_barriers {c : Instr} {s t : State} {f : State → State} (hc : exec c s = .next (s.command f)) (h : s.settled)
    (ht : f s = t) (hb : t.exceptBarriers = s.exceptBarriers) : exec c s = .next t :=
  exec_settled hc h ht (State.signs_of_exceptBarriers hb) (State.lines_of_exceptBarriers hb)

theorem State.answered_exceptBarriers {s t : State} (h : t.exceptBarriers = s.exceptBarriers) (k tag : Byte) (o : OutcomeCode)
    (d : List Byte) : (t.answered k tag o d).exceptBarriers = (s.answered k tag o d).exceptBarriers :=
  congrArg (fun v : State => v.answered k tag o d) h

theorem Gate.configured_iff (g : Gate) : g.configured = true ↔ g.cfg.segment ≠ none := by
  rw [Gate.configured, Option.isSome_iff_ne_none]

theorem onGate_unconfigured {gate : Byte} {i : Fin 6} {s : State} {f : Fin 6 → Answer} (hi : gate.toNat = i.val)
    (hg : (s.gate i).cfg.segment = none) : onGate gate s f = refuse .notConfigured s := by
  simp [onGate, indexOf_of_toNat hi, Gate.configured, hg]

theorem onGate_configured {gate : Byte} {i : Fin 6} {s : State} {f : Fin 6 → Answer} (hi : gate.toNat = i.val)
    (hg : (s.gate i).cfg.segment ≠ none) : onGate gate s f = f i := by
  rw [onGate, indexOf_of_toNat hi]
  exact if_pos ((Gate.configured_iff _).2 hg)

/-- What is reported stays reported, whatever gates, segments and flashers do. -/
theorem gateStable_reported (o : Obj) (f : BitVec 16) : GateStable fun s => s.reported o f :=
  (recordStable_reported o f).toGateStable

/-! ### RESET_GATE (R75) -/

theorem Gate.rebuild_cfg (g : Gate) : g.rebuild.cfg = g.cfg := by unfold Gate.rebuild; split <;> rfl

theorem Gate.rebuild_conflict {g : Gate} (ho : g.openLimit = true) (hc : g.closedLimit = true) :
    g.rebuild = { g with faultCause := .limitConflict } := by
  have hlimit : g.limitState = .fault := by rw [Gate.limitState, ho, hc]
  unfold Gate.rebuild
  rw [hlimit]

/-- A gate whose limits are not both active is rebuilt from them. -/
theorem Gate.rebuild_sound {g : Gate} (h : ¬(g.openLimit = true ∧ g.closedLimit = true)) :
    g.rebuild.faultCause = .none ∧ g.rebuild.state ≠ .fault ∧
      (g.openLimit = true → g.rebuild.state = .opened ∧ g.rebuild.position = 0 ∧ g.rebuild.referenced = true) ∧
      (g.closedLimit = true → g.rebuild.state = .closed ∧ g.rebuild.position = g.cfg.travel ∧ g.rebuild.referenced = true ∧
        g.rebuild.attempts = 0) ∧
      (g.openLimit = false → g.closedLimit = false →
        g.rebuild.state = .unknown ∧ g.rebuild.position = g.position ∧ g.rebuild.referenced = g.referenced) := by
  unfold Gate.rebuild Gate.limitState
  cases ho : g.openLimit <;> cases hc : g.closedLimit <;> simp [ho, hc] at h ⊢

theorem State.resetGate_exceptBarriers (s : State) (i : Fin 6) : (s.resetGate i).exceptBarriers = s.exceptBarriers :=
  iteInduction (motive := fun t : State => t.exceptBarriers = s.exceptBarriers) (fun _ => s.setGate_exceptBarriers ..)
    fun _ => s.putGate_exceptBarriers ..

/-- Settles O28: the record is rebuilt by the four combinations of the limit inputs. -/
theorem resetGateRebuilds : Obligations.ResetGateRebuilds := by
  unfold Obligations.ResetGateRebuilds
  intro tag gate i s h hi
  dsimp only
  refine ⟨fun hg => exec_refused (k := .resetGate) rfl h (onGate_unconfigured hi hg),
    fun hg hf => exec_refused (k := .resetGate) rfl h ((onGate_configured hi hg).trans (if_neg hf)), fun hg hf => ?_⟩
  have happly : s.applyRequest (.resetGate tag gate) = accept (u8 i.val ++ u8 ((s.resetGate i).gate i).state.code ++
      u8 ((s.resetGate i).gate i).faultCause.code) (s.resetGate i) := (onGate_configured hi hg).trans (if_pos hf)
  have hframe := s.resetGate_exceptBarriers i
  have hexec := exec_accepted (k := .resetGate) rfl h happly (State.signs_of_exceptBarriers hframe)
    (State.lines_of_exceptBarriers hframe)
  refine ⟨fun ho hc => ?_, fun hlimits => ?_⟩
  · have hrebuild := Gate.rebuild_conflict ho hc
    have hreset : s.resetGate i = s.setGate i { s.gate i with faultCause := .limitConflict } := by
      unfold State.resetGate
      dsimp only
      rw [hrebuild, if_pos hf]
    rw [hexec, hreset, State.setGate_gate_same]
    exact congrArg (fun v : GateState => Host.Outcome.next (State.answered _ _ _ _ (_ ++ u8 v.code ++ _))) hf
  · obtain ⟨hcause, hstate, hopen, hclosed, hneither⟩ := Gate.rebuild_sound hlimits
    have hreset : s.resetGate i = s.putGate i .fault (s.gate i).rebuild := if_neg hstate
    have hgates := s.putGate_gates i .fault (s.gate i).rebuild
    rw [← hreset] at hgates
    obtain ⟨hsame, hother⟩ := State.gate_of_set hgates
    refine ⟨_, hexec, ?_, ?_, ?_, ?_, ?_, ?_, fun j hj => hother j hj, ?_⟩
    · have hrep := s.putGate_reported i .fault (s.gate i).rebuild
      rw [← hreset] at hrep
      refine (recordStable_reported _ _).answered (State.reported_of_flags hrep ?_)
      cases (s.gate i).rebuild.state <;> decide
    · exact (congrArg Gate.faultCause hsame).trans hcause
    · exact (congrArg Gate.cfg hsame).trans (s.gate i).rebuild_cfg
    · intro ho
      rw [← hsame] at hopen
      exact hopen ho
    · intro hc
      rw [← hsame] at hclosed
      exact hclosed hc
    · intro ho hc
      rw [← hsame] at hneither
      exact hneither ho hc
    · rw [State.answered_exceptBarriers hframe, hsame, hcause]
      exact congrArg (fun g : Gate => (s.answered 0x26 tag .ok (u8 i.val ++ u8 g.state.code ++ u8 0)).exceptBarriers) hsame.symm

/-! ### Presence (R69, R71) -/

theorem exec_presenceChange (i : Fin 6) (level : Bool) (s : State) :
    exec (.presenceChange i level) s = .next (s.command fun s => s.presenceTo i level) := rfl

theorem Gate.reversal_ne_lowering (g : Gate) : g.reversal ≠ .lowering := by
  unfold Gate.reversal
  split
  · split <;> decide
  · decide

theorem Gate.reversal_cases (g : Gate) : g.reversal = .raising ∨ g.reversal = .blocked ∨ g.reversal = .opened := by
  unfold Gate.reversal
  split
  · split
    · exact .inr (.inl rfl)
    · exact .inr (.inr rfl)
  · exact .inl rfl

/-- A presence reversal of a lowering arm (R69, R71). -/
theorem Gate.reversed_lowering {g : Gate} (h : g.state = .lowering) :
    g.reversed.attempts = min 5 (g.attempts + 1) ∧ g.reversed.clearCount = 0 ∧ g.reversed.manualLowering = false ∧
      (g.reversed.relowerArmed = true ↔ g.reversed.state ≠ .blocked) ∧ g.reversed.driveDown = false ∧
      (g.reversed.state = .raising → g.reversed.motionTicks = 0 ∧ g.reversed.stallCount = 0) ∧
      g.reversed.presence = g.presence := by
  have henter : g.reversed = g.reversing.enter g.reversal :=
    Gate.take_of_ne fun he => Gate.reversal_ne_lowering g (he.symm.trans h)
  rw [henter]
  rcases g.reversal_cases with hr | hr | hr <;> simp [hr, Gate.enter, Gate.reversing, Gate.driveDown, h]

/-- Settles O30. -/
theorem presenceReversesLowering : Obligations.PresenceReversesLowering := by
  unfold Obligations.PresenceReversesLowering
  intro i level s h hlevel
  dsimp only
  set u := s.setGate i { s.gate i with presence := level, clearCount := if level then 0 else (s.gate i).clearCount } with hu
  have hto : s.presenceTo i level =
      if level && (s.gate i).configured && (s.gate i).state == .lowering then u.reverse i else u := if_neg hlevel
  have hframe := s.presenceTo_exceptBarriers i level
  have hexec := exec_barriers (exec_presenceChange i level s) h rfl hframe
  refine ⟨fun hno => ?_, fun ht hg hstate => ⟨_, hexec, ?_⟩⟩
  · rw [hexec, hto, if_neg]
    simpa [Gate.configured_iff, and_assoc] using hno
  · rw [if_pos (by simp [ht, (Gate.configured_iff _).2 hg, hstate])] at hto
    have hgates := u.reverse_gates i
    have hrep : (u.reverse i).reported (.gate i) Flag.gateReversal := by
      rw [State.reverse_eq]
      exact (gateStable_reported _ _).gateTo (State.post_reported ..)
    rw [← hto, hu, State.setGate_gate_same, State.gates_set_set] at hgates
    rw [← hto] at hrep
    obtain ⟨hsame, hother⟩ := State.gate_of_set hgates
    obtain ⟨hattempts, hclear, hmanual, harmed, hdown, hraising, hpresence⟩ := Gate.reversed_lowering
      (g := { s.gate i with presence := level, clearCount := if level then 0 else (s.gate i).clearCount }) hstate
    rw [hsame]
    exact ⟨hpresence.trans ht, Gate.reversed_state _, hattempts, hclear, hmanual, harmed, hdown, hraising, hrep, hother, hframe⟩

end Sys2Proof.Machine
end

section
/-! SUPPORT. MOVE_GATE: what an accepted action makes of the gate's record, by the table of R74. -/

namespace Sys2Proof.Machine

/-! ### A gate driven to another record -/

/-- A gate record with a pending direction (R68). -/
def Gate.pendTo (d : Direction) (g : Gate) : Gate := { g with pending := d }

/-- The record of gate i is rewritten, its configuration, its state and every segment as they were. -/
structure State.Rewrites (s : State) (i : Fin 6) (g : Gate) (u : State) : Prop where
  gates : u.gates = s.gates.set i g
  segments : u.segments = s.segments
  cfg : g.cfg = (s.gate i).cfg
  state : g.state = (s.gate i).state

/-- The segments of t are what the gate's own segment made of the change of state, nothing having reached a segment before. -/
def State.Handed (s : State) (i : Fin 6) (t : State) : Prop :=
  ∃ (u : State) (k : Fin 4) (a b : GateState), (s.gate i).cfg.segment = some k ∧ u.gates = t.gates ∧ u.segments = s.segments ∧
    t = u.gateChanged k a b

/-- Gate i goes to the record g', no other gate changes, a change of its state is reported, and its segment alone may hear of it. -/
structure State.Drives (s : State) (i : Fin 6) (g' : Gate) (t : State) : Prop where
  gates : t.gates = s.gates.set i g'
  cfg : g'.cfg = (s.gate i).cfg
  report : g'.state ≠ (s.gate i).state → t.reported (.gate i) Flag.gateState
  handed : t.segments = s.segments ∨ s.Handed i t

namespace State.Drives

variable {s t u : State} {i : Fin 6} {g g' : Gate}

theorem refl (s : State) (i : Fin 6) : s.Drives i (s.gate i) s := ⟨s.gates_set_self i, rfl, fun h => absurd rfl h, .inl rfl⟩

/-- A record rewritten before its state changes. -/
theorem after (hu : s.Rewrites i g u) (h : u.Drives i g' t) : s.Drives i g' t := by
  have hgate := (State.gate_of_set hu.gates).1
  refine ⟨?_, h.cfg.trans (by rw [hgate, hu.cfg]), fun hne => h.report (by rwa [hgate, hu.state]), h.handed.imp ?_ ?_⟩
  · rw [h.gates, hu.gates]
    simp
  · exact fun hs => hs.trans hu.segments
  · rintro ⟨v, k, a, b, hk, hgates, hsegments, ht⟩
    exact ⟨v, k, a, b, by rwa [hgate, hu.cfg] at hk, hgates, hsegments.trans hu.segments, ht⟩

/-- A record rewritten, its state as it was. -/
theorem rewrite (hu : s.Rewrites i g u) : s.Drives i g u := by
  have h := after hu (refl u i)
  rwa [(State.gate_of_set hu.gates).1] at h

end State.Drives

theorem gateFlags_state (a b : GateState) : gateFlags a b &&& Flag.gateState = Flag.gateState := by
  cases a <;> cases b <;> decide

/-! #### What no other segment hears -/

theorem State.gateChanged_segment_other {s : State} {j k : Fin 4} {a b : GateState} (h : k ≠ j) :
    (s.gateChanged j a b).segment k = s.segment k := by
  have hpost (u : State) (p : Posture) : (u.setPosture j p .noPhase).segment k = u.segment k := State.setPosture_segment_other h
  have hlower (u : State) : (u.completeLower j).segment k = u.segment k :=
    iteInduction (motive := fun t : State => t.segment k = u.segment k) (fun _ => hpost u _) fun _ => rfl
  have hreopen (u : State) : (u.completeReopen j).segment k = u.segment k :=
    iteInduction (motive := fun t : State => t.segment k = u.segment k) (fun _ => hpost u _) fun _ => rfl
  refine (hreopen _).trans ((hlower _).trans ?_)
  cases (s.segment j).troubledBy a b <;> rfl

theorem State.gateRequest_segments (s : State) (f : Fin 8) (i : Fin 6) (c : FlashClass) : (s.gateRequest f i c).segments = s.segments := by
  rw [State.gateRequest_eq]
  exact iteInduction (motive := fun t : State => t.segments = s.segments) (fun _ => rfl) fun _ => rfl

/-- A gate that has a segment hands its change of state on to it, after its own report and its request on a flasher. -/
theorem State.putGate_handsOn {s : State} {i : Fin 6} {a : GateState} {g : Gate} {k : Fin 4} (hk : g.cfg.segment = some k) :
    ∃ u : State, u.gates = s.gates.set i g ∧ u.segments = s.segments ∧ u.exceptBarriers = s.exceptBarriers ∧
      s.putGate i a g = u.gateChanged k a g.state := by
  set v := (s.setGate i g).postGate i (gateFlags a g.state) with hv
  have hframe : v.exceptBarriers = s.exceptBarriers := (State.postGate_exceptBarriers ..).trans (State.setGate_exceptBarriers ..)
  refine ⟨match g.cfg.flasher with | some f => v.gateRequest f i g.state.request | none => v, ?_, ?_, ?_, ?_⟩
  · cases g.cfg.flasher with
    | some f => exact State.gateRequest_gates ..
    | none => rfl
  · cases g.cfg.flasher with
    | some f => exact State.gateRequest_segments ..
    | none => rfl
  · cases g.cfg.flasher with
    | some f => exact (State.gateRequest_exceptBarriers ..).trans hframe
    | none => exact hframe
  · unfold State.putGate
    rw [hk] <;> rfl

theorem State.putGate_segments {s : State} {i : Fin 6} {a : GateState} {g : Gate} (h : g.cfg.segment = none) :
    (s.putGate i a g).segments = s.segments := by
  unfold State.putGate
  rw [h]
  dsimp only
  split
  · exact State.gateRequest_segments ..
  · rfl

theorem State.gateTo_drives (s : State) (i : Fin 6) (v : GateState) : s.Drives i ((s.gate i).take v) (s.gateTo i v) := by
  refine ⟨s.gateTo_gates i v, Gate.take_cfg .., fun h => ?_, ?_⟩
  · exact State.reported_of_flags (State.gateTo_reported fun he => h (by rw [Gate.take_of_eq he])) (gateFlags_state _ _)
  · unfold State.gateTo
    dsimp only
    split
    · exact .inl rfl
    · cases hk : (s.gate i).cfg.segment with
      | none => exact .inl (State.putGate_segments hk)
      | some k =>
        obtain ⟨u, hgates, hsegments, -, heq⟩ := State.putGate_handsOn (s := s) (i := i) (a := (s.gate i).state)
          (g := (s.gate i).enter v) (k := k) hk
        exact .inr ⟨u, k, _, _, hk, hgates.trans (State.putGate_gates ..).symm, hsegments, heq⟩

/-- No segment but the gate's own changes. -/
theorem State.Drives.segment {s t : State} {i : Fin 6} {g' : Gate} (h : s.Drives i g' t) (k : Fin 4) (hk : (s.gate i).cfg.segment ≠ some k) :
    t.segment k = s.segment k := by
  rcases h.handed with hs | ⟨u, j, a, b, hj, -, hs, rfl⟩
  · exact congrArg (fun v : Vector Segment 4 => v[k]) hs
  · rw [State.gateChanged_segment_other (by rintro rfl; exact hk hj)]
    exact congrArg (fun v : Vector Segment 4 => v[k]) hs

/-- The gate takes a state after its record was rewritten. -/
theorem State.drives_gateTo {s u : State} {i : Fin 6} {g : Gate} (v : GateState) (hu : s.Rewrites i g u) :
    s.Drives i (g.take v) (u.gateTo i v) := by
  have h := u.gateTo_drives i v
  rw [(State.gate_of_set hu.gates).1] at h
  exact State.Drives.after hu h

theorem State.gateOpen_drives (s : State) (i : Fin 6) : s.Drives i (s.gate i).opens (s.gateOpen i) :=
  State.drives_gateTo _ ⟨rfl, rfl, rfl, rfl⟩

theorem State.gatePause_drives (s : State) (i : Fin 6) (d : Direction) :
    s.Drives i (((s.gate i).pendTo d).take .pause) (s.gatePause i d) :=
  State.drives_gateTo _ ⟨rfl, rfl, rfl, rfl⟩

theorem State.reverse_drives (s : State) (i : Fin 6) : s.Drives i (s.gate i).reversed (s.reverse i) := by
  rw [State.reverse_eq]
  exact State.drives_gateTo _ ⟨rfl, rfl, rfl, rfl⟩

theorem State.lower_drives (s : State) (i : Fin 6) : s.Drives i (s.gate i).lowered (s.lower i) := by
  unfold State.lower Gate.lowered
  split
  · exact s.reverse_drives i
  · exact s.gateTo_drives ..

theorem State.pauseUp_drives (s : State) (i : Fin 6) : s.Drives i (s.gate i).raised (s.pauseUp i) := by
  unfold State.pauseUp Gate.raised
  split
  · exact s.gateOpen_drives i
  · exact s.gateTo_drives ..

/-! ### The records MOVE_GATE leaves (R74) -/

/-- A gate record after UP. -/
def Gate.movedUp (g : Gate) : Gate :=
  match g.state with
  | .lowering => (g.pendTo .up).take .pause
  | .raising => g
  | .pause => if g.pauseElapsed then (g.pendTo .up).raised else g.pendTo .up
  | .opened => g
  | .closed => g.take .raising
  | .unknown => g.raised
  | .halted => g.raised
  | .blocked => g.raised
  | .fault => g

/-- A gate record after DOWN from a standstill. -/
def Gate.movedDownStill (g : Gate) : Gate := if g.closedLimit then g.take .closed else g.lowered

/-- A gate record after DOWN. -/
def Gate.movedDown (g : Gate) : Gate :=
  match g.state with
  | .lowering => g
  | .raising => (g.pendTo .down).take .pause
  | .pause => if g.pauseElapsed then (g.pendTo .down).lowered else g.pendTo .down
  | .opened => g.lowered
  | .closed => g
  | .unknown => g.movedDownStill
  | .halted => g.movedDownStill
  | .blocked => g.movedDownStill
  | .fault => g

/-- A gate record after an accepted action. -/
def Gate.moved (a : MoveAction) (g : Gate) : Gate :=
  match a with
  | .stop => g.take .halted
  | .up => g.movedUp
  | .down => g.movedDown

/-- A pausing gate takes a direction, and acts at once where its pause has elapsed. -/
theorem State.pause_drives {s t : State} {i : Fin 6} {d : Direction} {g' : Gate} (h : (s.updGate i (Gate.pendTo d)).Drives i g' t) :
    s.Drives i (if (s.gate i).pauseElapsed then g' else (s.gate i).pendTo d)
      (if ((s.updGate i (Gate.pendTo d)).gate i).pauseElapsed then t else s.updGate i (Gate.pendTo d)) := by
  have hgate : ((s.updGate i (Gate.pendTo d)).gate i).pauseElapsed = (s.gate i).pauseElapsed :=
    (congrArg Gate.pauseElapsed (s.setGate_gate_same i ((s.gate i).pendTo d)) :)
  rw [hgate]
  by_cases hp : (s.gate i).pauseElapsed = true
  · rw [if_pos hp, if_pos hp]
    exact State.Drives.after (g := (s.gate i).pendTo d) (u := s.updGate i (Gate.pendTo d)) ⟨rfl, rfl, rfl, rfl⟩ h
  · rw [if_neg hp, if_neg hp]
    exact State.Drives.rewrite (g := (s.gate i).pendTo d) ⟨rfl, rfl, rfl, rfl⟩

theorem State.moveUp_drives (s : State) (i : Fin 6) : s.Drives i (s.gate i).movedUp (s.moveUp i) := by
  unfold State.moveUp Gate.movedUp
  dsimp only
  cases (s.gate i).state with
  | lowering => exact s.gatePause_drives i .up
  | raising | opened | fault => exact .refl s i
  | closed => exact s.gateTo_drives i _
  | unknown | halted | blocked => exact s.pauseUp_drives i
  | pause =>
    have h := State.pauseUp_drives (s.updGate i (Gate.pendTo .up)) i
    rw [State.updGate_eq, State.setGate_gate_same] at h
    exact State.pause_drives h

theorem State.moveDownStill_drives (s : State) (i : Fin 6) : s.Drives i (s.gate i).movedDownStill (s.moveDownStill i) := by
  unfold State.moveDownStill Gate.movedDownStill
  split
  · exact s.gateTo_drives i _
  · exact s.lower_drives i

theorem State.moveDown_drives (s : State) (i : Fin 6) : s.Drives i (s.gate i).movedDown (s.moveDown i) := by
  unfold State.moveDown Gate.movedDown
  dsimp only
  cases (s.gate i).state with
  | raising => exact s.gatePause_drives i .down
  | lowering | closed | fault => exact .refl s i
  | opened => exact s.lower_drives i
  | unknown | halted | blocked => exact s.moveDownStill_drives i
  | pause =>
    have h := State.lower_drives (s.updGate i (Gate.pendTo .down)) i
    rw [State.updGate_eq, State.setGate_gate_same] at h
    exact State.pause_drives h

/-- An action on a gate, whatever it is. -/
def State.moveAction (s : State) (i : Fin 6) : MoveAction → State
  | .stop => s.moveStop i
  | .up => s.moveUp i
  | .down => s.moveDown i

theorem State.moveAction_drives (s : State) (i : Fin 6) (a : MoveAction) : s.Drives i ((s.gate i).moved a) (s.moveAction i a) := by
  cases a with
  | stop => exact s.gateTo_drives i _
  | up => exact s.moveUp_drives i
  | down => exact s.moveDown_drives i

theorem GateStable.moveAction {P : State → Prop} (h : GateStable P) {s : State} {i : Fin 6} {a : MoveAction} (hs : P s) :
    P (s.moveAction i a) := by
  cases a with
  | stop => exact h.gateTo hs
  | up => exact h.moveUp hs
  | down => exact h.moveDown hs

/-- An accepted action acts on the released gate; a BLOCKED one posts its release. -/
theorem State.moveGate_eq (s : State) (i : Fin 6) (a : MoveAction) (o : Bool) :
    s.moveGate i a o = ((s.setGate i ((s.gate i).released a o)).postIf ((s.gate i).state == .blocked) (.gate i)
      (Flag.gateBlocked ||| Flag.gateState)).moveAction i a := by
  cases a <;> rfl

/-- Gates, segments, flashers and reports are all that the drives of the gates reach. -/
theorem gateStable_frame (s : State) : GateStable fun t => t.exceptBarriers = s.exceptBarriers where
  gate h := (State.setGate_exceptBarriers ..).trans h
  flasher _ h := (State.setFlasher_exceptBarriers ..).trans h
  post h := (State.post_exceptBarriers ..).trans h
  completeLower h := (State.completeLower_exceptBarriers ..).trans h
  completeReopen h := (State.completeReopen_exceptBarriers ..).trans h

/-! ### What those records are -/

/-- A record that has gone to state r: what a driven gate keeps, and what it holds of a pause and of manual lowering. -/
structure Gate.GoesTo (g : Gate) (r : GateState) (d : Direction) (g' : Gate) : Prop where
  state : g'.state = r
  cfg : g'.cfg = g.cfg
  position : g'.position = g.position
  pending : r = .pause → g'.pending = d
  cleared : r ≠ .pause → r ≠ g.state → g'.pending = .none
  manual : r = .lowering ∨ r = .pause → g'.manualLowering = g.manualLowering

namespace Gate.GoesTo

variable {g g' : Gate} {r : GateState} {d : Direction}

theorem stays (h : g.state = r) (hr : r ≠ .pause) : g.GoesTo r d g :=
  ⟨h, rfl, rfl, fun he => absurd he hr, fun _ hne => absurd h.symm hne, fun _ => rfl⟩

theorem take (hr : r ≠ .pause) : g.GoesTo r d (g.take r) := by
  by_cases h : g.state = r
  · rw [Gate.take_of_eq h]
    exact stays h hr
  · rw [Gate.take_of_ne h]
    exact ⟨rfl, rfl, rfl, fun he => absurd he hr, fun _ _ => if_neg hr, fun he => if_pos he⟩

theorem pause (h : g.state ≠ .pause) : g.GoesTo .pause d ((g.pendTo d).take .pause) := by
  rw [Gate.take_of_ne (g := g.pendTo d) h]
  exact ⟨rfl, rfl, rfl, fun _ => rfl, fun he _ => absurd rfl he, fun _ => rfl⟩

theorem pend (h : g.state = .pause) : g.GoesTo .pause d (g.pendTo d) :=
  ⟨h, rfl, rfl, fun _ => rfl, fun he _ => absurd rfl he, fun _ => rfl⟩

/-- What the record held of a pause and of attempts before does not matter. -/
theorem congr {f : Gate} (hf : f.state = g.state ∧ f.cfg = g.cfg ∧ f.position = g.position)
    (hm : r = .lowering ∨ r = .pause → f.manualLowering = g.manualLowering) (h : f.GoesTo r d g') : g.GoesTo r d g' := by
  obtain ⟨hs, hc, hp⟩ := hf
  exact ⟨h.state, h.cfg.trans hc, h.position.trans hp, h.pending, fun hne hr => h.cleared hne (by rwa [hs]),
    fun he => (h.manual he).trans (hm he)⟩

theorem raised : g.GoesTo (if g.openLimit then .opened else .raising) d g.raised := by
  unfold Gate.raised
  split
  · exact congr (f := { g with relowerArmed := false, clearCount := 0 }) ⟨rfl, rfl, rfl⟩ (fun _ => rfl) (take (by decide))
  · exact take (by decide)

theorem reversed : g.GoesTo g.reversal d g.reversed := by
  have hne : g.reversal ≠ .pause := by rcases g.reversal_cases with h | h | h <;> rw [h] <;> decide
  exact congr (f := g.reversing) ⟨rfl, rfl, rfl⟩ (fun h => (h.elim g.reversal_ne_lowering hne).elim) (take hne)

theorem lowered : g.GoesTo (if g.presence then g.reversal else .lowering) d g.lowered := by
  unfold Gate.lowered
  split
  · exact reversed
  · exact take (by decide)

theorem movedDownStill :
    g.GoesTo (if g.closedLimit then .closed else if g.presence then g.reversal else .lowering) d g.movedDownStill := by
  unfold Gate.movedDownStill
  split
  · exact take (by decide)
  · exact lowered

end Gate.GoesTo

/-- The state an action takes a gate to, by its own state (R74). -/
def Gate.moveTarget (a : MoveAction) (g : Gate) : GateState :=
  let raised : GateState := if g.openLimit then .opened else .raising
  let lowered : GateState := if g.presence then g.reversal else .lowering
  match a, g.state with
  | .stop, _ => .halted
  | .up, .lowering => .pause
  | .up, .raising => .raising
  | .up, .pause => if g.pauseElapsed then raised else .pause
  | .up, .opened => .opened
  | .up, .closed => .raising
  | .up, .fault => .fault
  | .up, _ => raised
  | .down, .lowering => .lowering
  | .down, .raising => .pause
  | .down, .pause => if g.pauseElapsed then lowered else .pause
  | .down, .opened => lowered
  | .down, .closed => .closed
  | .down, .fault => .fault
  | .down, _ => if g.closedLimit then .closed else lowered

/-- The direction an action leaves pending in PAUSE (R68, R74). -/
def MoveAction.direction : MoveAction → Direction
  | .stop => .none
  | .up => .up
  | .down => .down

theorem Gate.movedUp_goesTo (g : Gate) : g.GoesTo (g.moveTarget .up) .up g.movedUp := by
  have hpend : ∀ r : GateState, (g.pendTo .up).GoesTo r .up (g.pendTo .up).raised → g.GoesTo r .up (g.pendTo .up).raised :=
    fun _ => Gate.GoesTo.congr ⟨rfl, rfl, rfl⟩ fun _ => rfl
  unfold Gate.movedUp Gate.moveTarget
  cases hs : g.state with
  | lowering => exact .pause (by simp [hs])
  | raising | opened | fault => exact .stays hs (by simp)
  | closed => exact .take (by simp)
  | unknown | halted | blocked => exact .raised
  | pause =>
    dsimp only
    split
    · exact hpend _ .raised
    · exact .pend hs

theorem Gate.movedDown_goesTo (g : Gate) : g.GoesTo (g.moveTarget .down) .down g.movedDown := by
  have hpend : ∀ r : GateState, (g.pendTo .down).GoesTo r .down (g.pendTo .down).lowered → g.GoesTo r .down (g.pendTo .down).lowered :=
    fun _ => Gate.GoesTo.congr ⟨rfl, rfl, rfl⟩ fun _ => rfl
  unfold Gate.movedDown Gate.moveTarget
  cases hs : g.state with
  | raising => exact .pause (by simp [hs])
  | lowering | closed | fault => exact .stays hs (by simp)
  | opened => exact .lowered
  | unknown | halted | blocked => exact .movedDownStill
  | pause =>
    dsimp only
    split
    · exact hpend _ .lowered
    · exact .pend hs

theorem Gate.moved_goesTo (a : MoveAction) (g : Gate) : g.GoesTo (g.moveTarget a) a.direction (g.moved a) := by
  cases a with
  | stop => exact Gate.GoesTo.take (r := .halted) (by decide)
  | up => exact g.movedUp_goesTo
  | down => exact g.movedDown_goesTo

end Sys2Proof.Machine
end

section
/-! PROOF. MOVE_GATE by the action and the gate's state (R74). -/

namespace Sys2Proof.Machine

theorem moveActionOf_of_toNat {b : Byte} {a : MoveAction} (h : b.toNat = match a with | .stop => 0 | .up => 1 | .down => 2) :
    moveActionOf b = some a := by
  unfold moveActionOf
  rw [h]
  cases a <;> rfl

theorem State.segmentLowers_iff (s : State) (g : Gate) : s.segmentLowers g = true ↔
    ∃ k : Fin 4, g.cfg.segment = some k ∧ (s.segment k).posture = .closing ∧ (s.segment k).phase = .lower := by
  unfold State.segmentLowers
  cases g.cfg.segment with
  | none => simp
  | some k => simp

theorem State.mayLower_iff (s : State) (g : Gate) : s.mayLower g = true ↔ ∃ k : Fin 4, g.cfg.segment = some k ∧
    (((s.segment k).posture = .closing ∧ (s.segment k).phase = .lower) ∨ (s.segment k).posture = .closed) := by
  unfold State.mayLower State.segmentLowers
  cases g.cfg.segment with
  | none => simp
  | some k => simp

theorem State.mayRaise_iff (s : State) (g : Gate) : s.mayRaise g = true ↔ ∃ k : Fin 4, g.cfg.segment = some k ∧
    ((s.segment k).posture = .opened ∨ (s.segment k).posture = .caution ∨ (s.segment k).posture = .reopening) := by
  unfold State.mayRaise
  cases g.cfg.segment with
  | none => simp
  | some k => simp [or_assoc]

/-- The check of an action, as the claim spells it. -/
theorem State.moveAllowed_iff (s : State) (g : Gate) (a : MoveAction) (o : Bool) : s.moveAllowed g a o = true ↔
    match a with
    | .stop => g.state = .lowering ∨ g.state = .raising ∨ g.state = .pause
    | .up => o = true ∨ ∃ k : Fin 4, g.cfg.segment = some k ∧
        ((s.segment k).posture == .opened || (s.segment k).posture == .caution || (s.segment k).posture == .reopening) = true
    | .down => o = true ∨ ∃ k : Fin 4, g.cfg.segment = some k ∧
        (((s.segment k).posture == .closing && (s.segment k).phase == .lower) || (s.segment k).posture == .closed) = true := by
  cases a with
  | stop => simp [State.moveAllowed, or_assoc]
  | up => simp [State.moveAllowed, s.mayRaise_iff, or_assoc]
  | down => simp [State.moveAllowed, s.mayLower_iff]

/-- An accepted action drives the released record on, and a change of the gate's state is reported. -/
theorem State.moveGate_drives (s : State) (i : Fin 6) (a : MoveAction) (o : Bool) :
    s.Drives i (((s.gate i).released a o).moved a) (s.moveGate i a o) ∧
      ((s.gate i).state = .blocked → (s.moveGate i a o).reported (.gate i) Flag.gateBlocked) := by
  rw [State.moveGate_eq]
  set u := (s.setGate i ((s.gate i).released a o)).postIf ((s.gate i).state == .blocked) (.gate i)
    (Flag.gateBlocked ||| Flag.gateState) with hu
  have hset : u.gates = s.gates.set i ((s.gate i).released a o) := by
    rw [hu]
    cases (s.gate i).state == .blocked <;> rfl
  have hsegments : u.segments = s.segments := by
    rw [hu]
    cases (s.gate i).state == .blocked <;> rfl
  have hgate := (State.gate_of_set hset).1
  have hmove := u.moveAction_drives i a
  rw [hgate] at hmove
  have hP (f : BitVec 16) := (gateStable_reported (.gate i) f).moveAction (s := u) (i := i) (a := a)
  by_cases hb : (s.gate i).state = .blocked
  · have hrep : u.reported (.gate i) (Flag.gateBlocked ||| Flag.gateState) := by
      rw [hu, hb]
      exact State.post_reported ..
    refine ⟨⟨by rw [hmove.gates, hset]; simp, hmove.cfg.trans (by rw [hgate]; rfl),
      fun _ => hP _ (State.reported_of_flags hrep (by decide)), hmove.handed.imp (·.trans hsegments) ?_⟩,
      fun _ => hP _ (State.reported_of_flags hrep (by decide))⟩
    rintro ⟨v, k, x, y, hk, hgates, hs, ht⟩
    exact ⟨v, k, x, y, by rwa [hgate] at hk, hgates, hs.trans hsegments, ht⟩
  · exact ⟨State.Drives.after ⟨hset, hsegments, rfl, if_neg hb⟩ hmove, fun h => absurd h hb⟩

theorem State.moveGate_exceptBarriers (s : State) (i : Fin 6) (a : MoveAction) (o : Bool) :
    (s.moveGate i a o).exceptBarriers = s.exceptBarriers := (gateStable_frame s).moveGate rfl

/-- What the released record leaves of the gate's own: its place, and with it what R74's table reads. -/
theorem Gate.released_moves {g g' : Gate} {a : MoveAction} {o : Bool} {r : GateState}
    (h : (g.released a o).GoesTo r a.direction g') (hr : g.state = .blocked → r ≠ .halted) :
    g'.state = r ∧ g'.cfg = g.cfg ∧ g'.position = g.position ∧ (r = .pause → g'.pending = a.direction) ∧
      (r ≠ .pause → r ≠ g.state → g'.pending = .none) := by
  refine ⟨h.state, h.cfg, h.position, h.pending, fun hp hne => h.cleared hp fun he => ?_⟩
  by_cases hb : g.state = .blocked
  · exact hr hb (he.trans (if_pos hb))
  · exact hne (he.trans (if_neg hb))

/-- Manual lowering is what the action gives it, in the two states that hold it (R74). -/
theorem Gate.released_manual {g g' : Gate} {a : MoveAction} {o : Bool}
    (h : (g.released a o).GoesTo ((g.released a o).moveTarget a) a.direction g')
    (hr : (g.released a o).moveTarget a = .lowering ∨ (g.released a o).moveTarget a = .pause) :
    g'.manualLowering = (o && a == .down) := by
  rw [h.manual hr]
  cases a with
  | stop => exact absurd hr (by simp [Gate.moveTarget])
  | up => exact (Bool.and_false o).symm
  | down =>
    have hclosed : g.state ≠ .closed := fun hc => by
      have hs : (g.released .down o).state = .closed := (if_neg (by rw [hc]; decide)).trans hc
      simp [Gate.moveTarget, hs] at hr
    show (o && g.state != .closed) = _
    simp [hclosed]

/-- Settles O27: an accepted action goes by the state of the released record. -/
theorem moveGateByState : Obligations.MoveGateByState := by
  unfold Obligations.MoveGateByState
  intro tag gate action o a i s h hi ha g command posture allowed attempts raised lowered result
  have hread : s.applyRequest command =
      if !g.configured then refuse .notConfigured s
      else if g.state = .fault ∨ !s.moveAllowed g a o then refuse .wrongState s
      else accept (u8 i.val ++ u8 ((s.moveGate i a o).gate i).state.code ++ u8 ((s.moveGate i a o).gate i).pending.code ++
        u8 ((s.moveGate i a o).gate i).percent) (s.moveGate i a o) := by
    show s.applyMoveGate gate action (if o then 1 else 0) = _
    unfold State.applyMoveGate
    rw [indexOf_of_toNat hi, moveActionOf_of_toNat ha, show boolOf (if o then 1 else 0) = some o by cases o <;> rfl]
  have hallowed : s.moveAllowed g a o = true ↔ allowed := by
    refine (s.moveAllowed_iff g a o).trans ?_
    cases a <;> exact Iff.rfl
  refine ⟨fun hg => exec_refused (k := .moveGate) rfl h (hread.trans (if_pos ?_)), fun hg hno => ?_, fun hg hf hok => ?_⟩
  · simp [Gate.configured, hg]
  · refine exec_refused (k := .moveGate) rfl h (hread.trans ((if_neg ?_).trans (if_pos ?_)))
    · simp [(Gate.configured_iff _).2 hg]
    · exact hno.imp id fun hno => by simpa using mt hallowed.1 hno
  · have hgo : s.applyRequest command = accept _ _ := hread.trans ((if_neg (by simp [(Gate.configured_iff _).2 hg])).trans
      (if_neg (by simp [hf, hallowed.2 hok])))
    obtain ⟨⟨hgates, -, hreport, -⟩, hblocked⟩ := s.moveGate_drives i a o
    obtain ⟨hsame, hother⟩ := State.gate_of_set hgates
    have hframe := s.moveGate_exceptBarriers i a o
    have hgoes := (g.released a o).moved_goesTo a
    have hresult : (g.released a o).moveTarget a = result := by
      cases a with
      | stop => rfl
      | up =>
        cases hs : g.state <;>
          simp [Gate.moveTarget, Gate.released, Gate.pauseElapsed, result, raised, hs] at hf ⊢
      | down =>
        cases hs : g.state <;>
          simp [Gate.moveTarget, Gate.released, Gate.pauseElapsed, Gate.reversal, result, lowered, attempts, hs] at hf ⊢
    have hhalted : g.state = .blocked → result ≠ .halted := fun hb => by
      cases a with
      | stop => exact absurd hok (by simp [allowed, hb])
      | up =>
        simp only [result, hb, raised]
        split <;> decide
      | down =>
        simp only [result, hb, lowered]
        split
        · decide
        · split
          · split
            · split <;> decide
            · decide
          · decide
    have hmanual := Gate.released_manual hgoes
    rw [hresult] at hgoes hmanual
    obtain ⟨hstate, hcfg, hposition, hpending, hcleared⟩ := Gate.released_moves hgoes hhalted
    rw [← hsame] at hstate hcfg hposition hpending hcleared hmanual hreport
    have hP (f : BitVec 16) (d : List Byte) :=
      (recordStable_reported (.gate i) f).answered (s := s.moveGate i a o) (k := 0x25) (t := tag) (o := .ok) (d := d)
    refine ⟨_, exec_accepted (k := .moveGate) rfl h hgo (State.signs_of_exceptBarriers hframe) (State.lines_of_exceptBarriers hframe),
      hstate, hcfg, hposition, fun hr => ?_, hcleared, hmanual, fun hne => ?_, fun hb => ?_, hother, ?_⟩
    · exact (hpending hr).trans (by cases a <;> rfl)
    · exact hP _ _ (hreport (by rwa [hstate]))
    · exact hP _ _ (hblocked hb)
    · rw [State.answered_exceptBarriers hframe, hstate]
      rfl

end Sys2Proof.Machine
end

section
/-! SUPPORT. The timers of a gate, and what a gate's change of state brings on in its segment (R10 to R12, R66 to R70, R73). -/

namespace Sys2Proof.Machine

/-! ### Due events that reach gates, segments and flashers only -/

/-- A due event that is no channel's, whose effect stays with segments, gates and flashers, leaves that effect. -/
theorem State.runEvent_barriers {s : State} {d : Due} (hd : d ∈ s.due) (hc : d.isChannel = false) (hs : d ≠ .sampling) (hcalm : s.calm)
    (h : (State.applyDue { s with due := s.due.erase d } d).exceptBarriers = { s with due := s.due.erase d }.exceptBarriers) :
    s.runEvent d = State.applyDue { s with due := s.due.erase d } d := by
  have htake : s.takeEvent d = State.applyDue { s with due := s.due.erase d } d := by
    unfold State.takeEvent
    rw [if_neg (by simp [hc]), if_neg hs]
    rfl
  unfold State.runEvent
  rw [if_pos (by simpa using hd), htake]
  have hsigns := State.signs_of_exceptBarriers h
  have hlines := State.lines_of_exceptBarriers h
  exact State.conclude_of_calm _ _ hsigns ((State.calm_of_lines _ _ hlines).2 hcalm)

/-! ### What a segment hears of a gate (R73) -/

/-- A change of state that is trouble for the segment is reported there (R10, R11, R12). -/
theorem State.putGate_trouble {s : State} {i : Fin 6} {a : GateState} {g : Gate} {k : Fin 4} (hk : g.cfg.segment = some k)
    (ht : (s.segment k).troubledBy a g.state = true) : (s.putGate i a g).reported (.segment k) Flag.segGateTrouble := by
  obtain ⟨u, -, hsegments, -, heq⟩ := State.putGate_handsOn (s := s) (i := i) (a := a) hk
  have hP := gateStable_reported (.segment k) Flag.segGateTrouble
  have hsegment : u.segment k = s.segment k := congrArg (fun v : Vector Segment 4 => v[k]) hsegments
  rw [heq]
  unfold State.gateChanged
  rw [hsegment, ht]
  exact hP.completeReopen (hP.completeLower (State.post_reported ..))

/-! ### Faults (R66, R67) -/

theorem gateFlags_fault {a : GateState} (h : a = .lowering ∨ a = .raising) :
    gateFlags a .fault &&& (Flag.gateFault ||| Flag.gateState) = Flag.gateFault ||| Flag.gateState := by
  rcases h with rfl | rfl <;> decide

/-- A driven gate that takes FAULT. -/
theorem State.gateFault_driven {s : State} {i : Fin 6} {k : Fin 4} (c : FaultCause) (hk : (s.gate i).cfg.segment = some k)
    (hd : (s.gate i).state = .lowering ∨ (s.gate i).state = .raising) :
    (s.gateFault i c).gates = s.gates.set i ({ s.gate i with faultCause := c }.enter .fault) ∧
      (s.gateFault i c).reported (.gate i) (Flag.gateFault ||| Flag.gateState) ∧
      ((s.segment k).phase = .lower ∨ (s.segment k).posture = .reopening →
        (s.gateFault i c).reported (.segment k) Flag.segGateTrouble) := by
  have hne : (s.gate i).state ≠ .fault := by rcases hd with h | h <;> simp [h]
  refine ⟨State.gateFault_gates hne, ?_⟩
  set u := s.updGate i fun g => { g with faultCause := c } with hu
  have hgate : u.gate i = { s.gate i with faultCause := c } := State.setGate_gate_same ..
  have hstate : (u.gate i).state = (s.gate i).state := by rw [hgate]
  have heq : s.gateFault i c = u.putGate i (s.gate i).state ((u.gate i).enter .fault) := by
    unfold State.gateFault State.gateTo
    rw [if_neg hne, ← hu]
    dsimp only
    rw [if_neg (by rwa [hstate]), hstate]
  rw [heq]
  refine ⟨State.reported_of_flags (State.putGate_reported ..) (gateFlags_fault hd), fun ht => State.putGate_trouble (k := k) ?_ ?_⟩
  · show (u.gate i).cfg.segment = _
    rw [hgate]
    exact hk
  · have hsegment : u.segment k = s.segment k := rfl
    have hfault : ((u.gate i).enter .fault).state = .fault := rfl
    rw [hsegment, hfault]
    rcases ht with ht | ht <;> simp [Segment.troubledBy, ht]

theorem exec_stallFault (i : Fin 6) (s : State) : exec (.stallFault i) s = .next (s.runEvent (.stall i)) := rfl

theorem exec_motionTimeout (i : Fin 6) (s : State) : exec (.motionTimeout i) s = .next (s.runEvent (.motion i)) := rfl

theorem exec_pauseEnd (i : Fin 6) (s : State) : exec (.pauseEnd i) s = .next (s.runEvent (.pause i)) := rfl

theorem exec_relower (i : Fin 6) (s : State) : exec (.relower i) s = .next (s.runEvent (.relower i)) := rfl

/-- A timer that takes a driven gate to FAULT with a cause. -/
theorem State.runEvent_fault {s : State} {i : Fin 6} {k : Fin 4} {d : Due} {c : FaultCause} (hcalm : s.calm) (hd : d ∈ s.due)
    (hc : d.isChannel = false) (hs : d ≠ .sampling) (hk : (s.gate i).cfg.segment = some k)
    (hdriven : (s.gate i).state = .lowering ∨ (s.gate i).state = .raising)
    (happly : State.applyDue { s with due := s.due.erase d } d = State.gateFault { s with due := s.due.erase d } i c) :
    let t := s.runEvent d
    let g := s.gate i
    (t.gate i).state = .fault ∧ (t.gate i).faultCause = c ∧ (t.gate i).driveDown = false ∧
      (t.gate i).driveUp = false ∧ (t.gate i).position = g.position ∧ (t.gate i).referenced = g.referenced ∧
      (t.gate i).pending = .none ∧ (t.gate i).manualLowering = false ∧ (t.gate i).relowerArmed = false ∧
      t.reported (.gate i) (Flag.gateFault ||| Flag.gateState) ∧
      ((s.segment k).phase = .lower ∨ (s.segment k).posture = .reopening → t.reported (.segment k) Flag.segGateTrouble) ∧
      (∀ j : Fin 6, j ≠ i → t.gate j = s.gate j) ∧ t.exceptBarriers = { s with due := s.due.erase d }.exceptBarriers := by
  have hframe := State.gateFault_exceptBarriers { s with due := s.due.erase d } i c
  have hrun := State.runEvent_barriers hd hc hs hcalm (by rw [happly]; exact hframe)
  rw [happly] at hrun
  obtain ⟨hgates, hrep, htrouble⟩ := State.gateFault_driven (s := { s with due := s.due.erase d }) (k := k) c hk hdriven
  obtain ⟨hsame, hother⟩ := State.gate_of_set hgates
  dsimp only
  rw [hrun, hsame]
  exact ⟨rfl, rfl, rfl, rfl, rfl, rfl, rfl, rfl, rfl, hrep, htrouble, hother, hframe⟩

/-! ### Pauses and relowering (R68, R70) -/

/-- Lowering begins with no presence: the record is driven down afresh. -/
theorem Gate.lowered_clear {g : Gate} (hp : g.presence = false) (hs : g.state ≠ .lowering) :
    g.lowered = g.enter .lowering := by
  unfold Gate.lowered
  rw [if_neg (by simp [hp]), Gate.take_of_ne hs]

theorem State.endPause_up {s : State} {i : Fin 6} (hp : (s.gate i).pending = .up) : s.endPause i = s.pauseUp i := by
  unfold State.endPause
  dsimp only
  rw [hp]

theorem State.endPause_down {s : State} {i : Fin 6} (hp : (s.gate i).pending = .down) :
    s.endPause i = if (s.gate i).closedLimit then s.gateTo i .closed
      else if s.mayLower (s.gate i) || (s.gate i).manualLowering then s.lower i else s := by
  unfold State.endPause
  dsimp only
  rw [hp]

/-- The end of a pause drives the one gate. -/
theorem State.endPause_drives (s : State) (i : Fin 6) : ∃ g' : Gate, s.Drives i g' (s.endPause i) := by
  unfold State.endPause
  dsimp only
  split
  · exact ⟨_, s.pauseUp_drives i⟩
  · split
    · exact ⟨_, s.gateTo_drives i _⟩
    · split
      · exact ⟨_, s.lower_drives i⟩
      · exact ⟨_, .refl s i⟩
  · exact ⟨_, .refl s i⟩

theorem State.relowerGate_gates (s : State) (i : Fin 6) : ∃ g' : Gate, (s.relowerGate i).gates = s.gates.set i g' := by
  unfold State.relowerGate
  split
  · exact ⟨_, s.lower_gates i⟩
  · exact ⟨_, rfl⟩

/-- A segment lets its gate lower (R68, R74). -/
theorem State.mayLower_of {s : State} {g : Gate} {k : Fin 4} (hk : g.cfg.segment = some k) : s.mayLower g = true ↔
    ((s.segment k).posture = .closing ∧ (s.segment k).phase = .lower) ∨ (s.segment k).posture = .closed := by
  rw [State.mayLower_iff, hk]
  simp

theorem State.segmentLowers_of {s : State} {g : Gate} {k : Fin 4} (hk : g.cfg.segment = some k) : s.segmentLowers g = true ↔
    (s.segment k).posture = .closing ∧ (s.segment k).phase = .lower := by
  rw [State.segmentLowers_iff, hk]
  simp

/-- The end of a pause, by its direction (R68). -/
theorem State.endPause_cases {s : State} {i : Fin 6} {k : Fin 4} (hk : (s.gate i).cfg.segment = some k)
    (hstate : (s.gate i).state = .pause) :
    let g := s.gate i
    let lowers := ((s.segment k).posture = .closing ∧ (s.segment k).phase = .lower) ∨ (s.segment k).posture = .closed
    let t := s.endPause i
    (g.pending = .up → (t.gate i).state = if g.openLimit then .opened else .raising) ∧
      (g.pending = .down → g.closedLimit = true → (t.gate i).state = .closed) ∧
      (g.pending = .down → g.closedLimit = false → lowers ∨ g.manualLowering = true → g.presence = false →
        (t.gate i).state = .lowering ∧ (t.gate i).driveDown = true ∧ (t.gate i).motionTicks = 0) ∧
      (g.pending = .down → g.closedLimit = false → ¬lowers → g.manualLowering = false → t = s) := by
  dsimp only
  refine ⟨fun hp => ?_, fun hp hc => ?_, fun hp hc hl hpres => ?_, fun hp hc hl hm => ?_⟩
  · rw [State.endPause_up hp, (State.gate_of_set (s.pauseUp_gates i)).1]
    exact (Gate.GoesTo.raised (d := .none)).state
  · rw [State.endPause_down hp, if_pos hc, (State.gate_of_set (s.gateTo_gates i _)).1]
    exact Gate.take_state ..
  · rw [State.endPause_down hp, if_neg (by simp [hc]), if_pos (by simpa [State.mayLower_of hk] using hl),
      (State.gate_of_set (s.lower_gates i)).1, Gate.lowered_clear hpres (by simp [hstate])]
    exact ⟨rfl, rfl, rfl⟩
  · rw [State.endPause_down hp, if_neg (by simp [hc]), if_neg (by simpa [State.mayLower_of hk, hm] using hl)]

/-- A gate that has been clear for its 24 ticks (R70). -/
theorem State.relowerGate_cases {s : State} {i : Fin 6} {k : Fin 4} (hk : (s.gate i).cfg.segment = some k)
    (hstate : (s.gate i).state = .opened) :
    let g := s.gate i
    let r := s.segment k
    let t := s.relowerGate i
    (r.posture = .closing → r.phase = .lower → g.presence = false →
      (t.gate i).state = .lowering ∧ (t.gate i).relowerArmed = false ∧ (t.gate i).attempts = g.attempts) ∧
      (¬(r.posture = .closing ∧ r.phase = .lower) → t = s.setGate i { g with relowerArmed := false, clearCount := 0 }) := by
  dsimp only
  refine ⟨fun hp hph hpres => ?_, fun hno => if_neg fun h => hno ((State.segmentLowers_of hk).1 h)⟩
  have heq : s.relowerGate i = s.lower i := if_pos ((State.segmentLowers_of hk).2 ⟨hp, hph⟩)
  rw [heq, (State.gate_of_set (s.lower_gates i)).1, Gate.lowered_clear hpres (by simp [hstate])]
  exact ⟨rfl, rfl, if_neg (by simp [hstate])⟩

/-- PAUSE_END and RELOWER take effect. -/
theorem State.runEvent_pause {s : State} {i : Fin 6} (hcalm : s.calm) (hd : Due.pause i ∈ s.due) (hstate : (s.gate i).state = .pause)
    (hcount : (s.gate i).pauseCount = 4) :
    s.runEvent (.pause i) = State.endPause { s with due := s.due.erase (.pause i) } i := by
  have happly : State.applyDue { s with due := s.due.erase (.pause i) } (.pause i) =
      State.endPause { s with due := s.due.erase (.pause i) } i := if_pos (by
    show (s.gate i).pauseEnds = true
    simp [Gate.pauseEnds, Gate.pauseElapsed, hstate, hcount])
  exact (State.runEvent_barriers hd rfl (by simp) hcalm (by rw [happly]; exact State.endPause_exceptBarriers ..)).trans happly

theorem State.runEvent_relower {s : State} {i : Fin 6} (hcalm : s.calm) (hd : Due.relower i ∈ s.due)
    (hstate : (s.gate i).state = .opened) (harmed : (s.gate i).relowerArmed = true) (hcount : (s.gate i).clearCount = 24) :
    s.runEvent (.relower i) = State.relowerGate { s with due := s.due.erase (.relower i) } i := by
  have happly : State.applyDue { s with due := s.due.erase (.relower i) } (.relower i) =
      State.relowerGate { s with due := s.due.erase (.relower i) } i := if_pos (by
    show (s.gate i).relowers = true
    simp [Gate.relowers, hstate, harmed, hcount])
  exact (State.runEvent_barriers hd rfl (by simp) hcalm (by rw [happly]; exact State.relowerGate_exceptBarriers ..)).trans happly

/-- Settles O31. -/
theorem gateTimersAct : Obligations.GateTimersAct := by
  unfold Obligations.GateTimersAct
  refine ⟨fun i k s hcalm hk hdriven => ?_, fun i k s hcalm hk => ⟨fun hd hstate hcount => ?_, fun hd hstate harmed hcount => ?_⟩⟩
  · have hisDriven : (s.gate i).driven = true := by
      rcases hdriven with h | h <;> simp [Gate.driven, h]
    refine ⟨fun hd hcount => ⟨_, exec_stallFault i s, State.runEvent_fault hcalm hd rfl (by simp) hk hdriven (if_pos ?_)⟩,
      fun hd hlimit => ⟨_, exec_motionTimeout i s, State.runEvent_fault hcalm hd rfl (by simp) hk hdriven (if_pos ?_)⟩⟩
    · show (s.gate i).stalled = true
      simp [Gate.stalled, hisDriven, hcount]
    · show (s.gate i).timedOut = true
      simp [Gate.timedOut, hisDriven, hlimit]
  · obtain ⟨g', hdrives⟩ := State.endPause_drives { s with due := s.due.erase (.pause i) } i
    refine ⟨_, (exec_pauseEnd i s).trans (congrArg _ (State.runEvent_pause hcalm hd hstate hcount)),
      ⟨(State.gate_of_set hdrives.gates).2, State.endPause_exceptBarriers ..⟩, ?_⟩
    exact State.endPause_cases (s := { s with due := s.due.erase (.pause i) }) hk hstate
  · obtain ⟨g', hgates⟩ := State.relowerGate_gates { s with due := s.due.erase (.relower i) } i
    refine ⟨_, (exec_relower i s).trans (congrArg _ (State.runEvent_relower hcalm hd hstate harmed hcount)),
      ⟨(State.gate_of_set hgates).2, State.relowerGate_exceptBarriers ..⟩, ?_⟩
    exact State.relowerGate_cases (s := { s with due := s.due.erase (.relower i) }) hk hstate

end Sys2Proof.Machine
end

section
/-! SUPPORT. The limit inputs: an arrival corrects the position and ends the move by R64's table, and a departure from the limit the gate
stands at halts it (R64, R65). -/

namespace Sys2Proof.Machine

/-! ### The levels -/

@[simp] theorem Gate.setLimit_limit (g : Gate) (side : LimitSide) (v : Bool) : (g.setLimit side v).limit side = v := by cases side <;> rfl

@[simp] theorem Gate.setLimit_limit_other (g : Gate) (side : LimitSide) (v : Bool) :
    (g.setLimit side v).limit (otherLimit side) = g.limit (otherLimit side) := by cases side <;> rfl

/-- A level changes nothing else. -/
theorem Gate.setLimit_keeps (g : Gate) (side : LimitSide) (v : Bool) :
    (g.setLimit side v).cfg = g.cfg ∧ (g.setLimit side v).state = g.state ∧ (g.setLimit side v).position = g.position ∧
      (g.setLimit side v).referenced = g.referenced ∧ (g.setLimit side v).faultCause = g.faultCause ∧
      (g.setLimit side v).attempts = g.attempts ∧ (g.setLimit side v).relowerArmed = g.relowerArmed := by cases side <;> simp [Gate.setLimit]

/-! ### What an arrival makes of the record (R64) -/

/-- A gate record after an arrival that is acted on. -/
def Gate.arrived (side : LimitSide) (g : Gate) : Gate :=
  match g.state, side with
  | .raising, .openLimit => if g.attempts = 5 then g.take .blocked else g.take .opened
  | .blocked, .openLimit => g
  | .pause, _ => g
  | .fault, _ => g
  | _, .openLimit => g.opens
  | _, .closedLimit => g.take .closed

/-- The state R64's table gives at an arrival. -/
def Gate.arrival (side : LimitSide) (g : Gate) : GateState :=
  match g.state, side with
  | .raising, .openLimit => if g.attempts = 5 then .blocked else .opened
  | .blocked, .openLimit => .blocked
  | .pause, _ => .pause
  | .fault, _ => .fault
  | _, .openLimit => .opened
  | _, .closedLimit => .closed

/-- A gate record with the state, relowering and attempts that an arrival leaves. -/
structure Gate.Arrives (g : Gate) (r : GateState) (g' : Gate) : Prop where
  state : g'.state = r
  cfg : g'.cfg = g.cfg
  position : g'.position = g.position
  referenced : g'.referenced = g.referenced
  openLimit : g'.openLimit = g.openLimit
  closedLimit : g'.closedLimit = g.closedLimit
  manual : g.manualLowering = false → g'.manualLowering = false
  attempts : r = .closed → g.state ≠ .closed → g'.attempts = 0
  disarmed : r = .opened → g.state ≠ .raising → g'.relowerArmed = false
  armed : r = .opened → g.state = .raising → g'.relowerArmed = g.relowerArmed

theorem Gate.Arrives.stays {g : Gate} {r : GateState} (h : g.state = r) (hc : r ≠ .opened) : g.Arrives r g :=
  ⟨h, rfl, rfl, rfl, rfl, rfl, id, fun hr hne => absurd (h.trans hr) hne, fun hr => absurd hr hc, fun hr => absurd hr hc⟩

theorem Gate.Arrives.take {g : Gate} {r : GateState} (hr : r = .opened → g.state = .raising) : g.Arrives r (g.take r) where
  state := g.take_state r
  cfg := g.take_cfg r
  position := (g.take_keeps r).1
  referenced := (g.take_keeps r).2.1
  openLimit := (g.take_keeps r).2.2.1
  closedLimit := (g.take_keeps r).2.2.2.1
  manual hm := by
    unfold Gate.take
    split
    · exact hm
    · simp [Gate.enter, hm]
  attempts hc hne := by
    subst hc
    rw [Gate.take_of_ne hne]
    simp [Gate.enter]
  disarmed ho hne := absurd (hr ho) hne
  armed ho hs := by
    subst ho
    rw [Gate.take_of_ne (by simp [hs])]
    simp [Gate.enter]

theorem Gate.Arrives.opens {g : Gate} (h : g.state ≠ .raising) : g.Arrives .opened g.opens where
  state := g.opens_state
  cfg := Gate.take_cfg ..
  position := (Gate.take_keeps ..).1
  referenced := (Gate.take_keeps ..).2.1
  openLimit := (Gate.take_keeps ..).2.2.1
  closedLimit := (Gate.take_keeps ..).2.2.2.1
  manual hm := by
    unfold Gate.opens Gate.take
    split
    · exact hm
    · rfl
  attempts hc := absurd hc (by decide)
  disarmed _ _ := by
    unfold Gate.opens Gate.take
    split
    · rfl
    · simp [Gate.enter]
  armed _ hs := absurd hs h

theorem Gate.arrived_arrives (side : LimitSide) (g : Gate) : g.Arrives (g.arrival side) (g.arrived side) := by
  unfold Gate.arrived Gate.arrival
  cases side with
  | openLimit =>
    cases hs : g.state with
    | raising =>
      dsimp only
      split
      · exact .take (by simp)
      · exact .take fun _ => hs
    | blocked | pause | fault => exact .stays hs (by simp)
    | unknown | halted | opened | closed | lowering => exact .opens (by simp [hs])
  | closedLimit =>
    cases hs : g.state with
    | pause | fault => exact .stays hs (by simp)
    | unknown | halted | opened | closed | lowering | raising | blocked => exact .take (by simp)

/-- The arrival drives the gate, and a move that ends at the wrong limit is reported. -/
theorem State.arrive_drives (s : State) (i : Fin 6) (side : LimitSide) : s.Drives i ((s.gate i).arrived side) (s.arrive i side) ∧
    (((s.gate i).state = .raising ∧ side = .closedLimit) ∨ ((s.gate i).state = .lowering ∧ side = .openLimit) →
      (s.arrive i side).reported (.gate i) Flag.gateWrongEnd) := by
  have hP := gateStable_reported (.gate i) Flag.gateWrongEnd
  have hpost : (s.postGate i Flag.gateWrongEnd).reported (.gate i) Flag.gateWrongEnd := State.post_reported ..
  unfold State.arrive Gate.arrived
  cases side with
  | openLimit =>
    cases hs : (s.gate i).state with
    | raising =>
      dsimp only
      split
      · exact ⟨s.gateTo_drives i _, by simp⟩
      · exact ⟨s.gateTo_drives i _, by simp⟩
    | blocked | pause | fault => exact ⟨.refl s i, by simp⟩
    | unknown | halted | opened | closed => exact ⟨s.gateOpen_drives i, by simp⟩
    | lowering => exact ⟨State.Drives.after (g := s.gate i) (u := s.postGate i Flag.gateWrongEnd)
        ⟨s.gates_set_self i, rfl, rfl, rfl⟩
        (State.gateOpen_drives (s.postGate i Flag.gateWrongEnd) i), fun _ => hP.gateOpen hpost⟩
  | closedLimit =>
    cases hs : (s.gate i).state with
    | pause | fault => exact ⟨.refl s i, by simp⟩
    | raising => exact ⟨State.drives_gateTo _ ⟨s.gates_set_self i, rfl, rfl, rfl⟩, fun _ => hP.gateTo hpost⟩
    | unknown | halted | opened | closed | lowering | blocked => exact ⟨s.gateTo_drives i _, by simp⟩

/-! ### The segment of a gate that arrives (R10, R12) -/

theorem State.setPosture_segment_same {s : State} {k : Fin 4} {p : Posture} {ph : Phase}
    (h : ¬((s.segment k).posture = p ∧ (s.segment k).phase = ph)) :
    (s.setPosture k p ph).segment k = (s.segment k).withPosture p ph := by
  unfold State.setPosture
  dsimp only
  rw [if_neg h]
  exact s.setSegment_segment_same k _

theorem State.setPosture_reported {s : State} {k : Fin 4} {p : Posture} {ph : Phase}
    (h : ¬((s.segment k).posture = p ∧ (s.segment k).phase = ph)) : (s.setPosture k p ph).reported (.segment k) Flag.segPosture := by
  unfold State.setPosture
  dsimp only
  rw [if_neg h]
  refine State.post_reported_of _ _ ?_
  have hne : ¬((s.segment k).posture = ((s.segment k).withPosture p ph).posture ∧
      (s.segment k).phase = ((s.segment k).withPosture p ph).phase) := h
  unfold segmentFlags
  rw [if_neg hne]
  exact flags_or_left _ (flags_or_left _ (by simp))

theorem State.allGates_iff {s u : State} {k : Fin 4} {i : Fin 6} {g : Gate} {v : GateState} (hu : u.gates = s.gates.set i g)
    (hcfg : g.cfg = (s.gate i).cfg) (hv : g.state = v) :
    ((u.gatesOf k).all fun j => (u.gate j).state == v) = true ↔ ∀ j ∈ s.gatesOf k, j ≠ i → (s.gate j).state = v := by
  obtain ⟨hsame, hother⟩ := State.gate_of_set hu
  have hgate (j : Fin 6) : (u.gate j).cfg = (s.gate j).cfg := by
    by_cases hj : j = i
    · rw [hj, hsame, hcfg]
    · rw [hother j hj]
  have hgates : u.gatesOf k = s.gatesOf k := List.filter_congr fun j _ => by rw [hgate]
  rw [hgates, List.all_eq_true]
  refine ⟨fun h j hj hne => ?_, fun h j hj => ?_⟩
  · rw [← hother j hne]
    exact beq_iff_eq.1 (h j hj)
  · by_cases hji : j = i
    · rw [hji, hsame, hv]
      simp
    · rw [hother j hji, h j hj hji]
      simp

/-- The last gate to reach CLOSED in LOWER closes its segment (R10). -/
theorem State.gateChanged_closes {u : State} {k : Fin 4} {a b : GateState} (hp : (u.segment k).posture = .closing)
    (hph : (u.segment k).phase = .lower) (hall : ((u.gatesOf k).all fun j => (u.gate j).state == .closed) = true) :
    (u.gateChanged k a b).segment k = (u.segment k).withPosture .closed .noPhase := by
  set v := u.postIf ((u.segment k).troubledBy a b) (.segment k) Flag.segGateTrouble with hv
  have hsegment : v.segment k = u.segment k := by rw [hv]; cases (u.segment k).troubledBy a b <;> rfl
  have hgates : v.gates = u.gates := by rw [hv]; cases (u.segment k).troubledBy a b <;> rfl
  have hgatesOf : ((v.gatesOf k).all fun j => (v.gate j).state == .closed) = true := by
    simpa [State.gatesOf, State.gate, hgates] using hall
  have hset : (v.setPosture k .closed .noPhase).segment k = (u.segment k).withPosture .closed .noPhase := by
    rw [State.setPosture_segment_same (by simp [hsegment, hp]), hsegment]
  have hlower : v.completeLower k = v.setPosture k .closed .noPhase := if_pos ⟨by rw [hsegment]; exact hph, hgatesOf⟩
  have hreopen : (v.completeLower k).completeReopen k = v.completeLower k := if_neg fun h => by
    rw [hlower, hset] at h
    exact absurd h.1 (by simp [Segment.withPosture])
  show ((v.completeLower k).completeReopen k).segment k = _
  rw [hreopen, hlower, hset]

theorem State.openPosture_cases (s : State) (k : Fin 4) :
    (s.mustCaution k → s.openPosture k = .caution) ∧ (¬s.mustCaution k → s.openPosture k = .opened) := by
  rw [← State.cautioned_iff]
  exact ⟨fun h => if_pos h, fun h => if_neg h⟩

/-- What stands in the way of OPEN is no gate's state, and no phase. -/
theorem State.mustCaution_congr {s t : State} {k : Fin 4} (hs : t.segments = s.segments) (hb : t.exceptBarriers = s.exceptBarriers) :
    t.mustCaution k ↔ s.mustCaution k := by
  have hp : t.paths = s.paths := (congrArg State.paths hb :)
  have hn : t.notices = s.notices := (congrArg State.notices hb :)
  simp [State.mustCaution, State.segment, State.path, State.listedNotices, hs, hp, hn]

/-- The last gate to reach OPEN in REOPENING ends it (R12). -/
theorem State.gateChanged_reopens {u : State} {k : Fin 4} {a b : GateState} (hp : (u.segment k).posture = .reopening)
    (hno : ((u.gatesOf k).all fun j => (u.gate j).state == .closed) = false)
    (hall : ((u.gatesOf k).all fun j => (u.gate j).state == .opened) = true) :
    (u.gateChanged k a b).segment k = (u.segment k).withPosture (u.openPosture k) .noPhase ∧
      (u.gateChanged k a b).reported (.segment k) Flag.segPosture := by
  set v := u.postIf ((u.segment k).troubledBy a b) (.segment k) Flag.segGateTrouble with hv
  have hsegments : v.segments = u.segments := by rw [hv]; cases (u.segment k).troubledBy a b <;> rfl
  have hsegment : v.segment k = u.segment k := congrArg (fun x : Vector Segment 4 => x[k]) hsegments
  have hgates : v.gates = u.gates := by rw [hv]; cases (u.segment k).troubledBy a b <;> rfl
  have hnone : ((v.gatesOf k).all fun j => (v.gate j).state == .closed) = false := by
    simpa [State.gatesOf, State.gate, hgates] using hno
  have hopened : ((v.gatesOf k).all fun j => (v.gate j).state == .opened) = true := by
    simpa [State.gatesOf, State.gate, hgates] using hall
  have hposture : v.openPosture k = u.openPosture k := by
    have h := State.mustCaution_congr (k := k) hsegments (State.postIf_exceptBarriers ..)
    rw [← State.cautioned_iff, ← State.cautioned_iff] at h
    exact if_congr h rfl rfl
  have hne : ¬((v.segment k).posture = v.openPosture k ∧ (v.segment k).phase = .noPhase) := by
    rw [hsegment, hp]
    unfold State.openPosture
    split <;> simp
  have hlower : v.completeLower k = v := if_neg fun h => by
    rw [hnone] at h
    exact absurd h.2 (by simp)
  have hreopen : v.completeReopen k = v.setPosture k (v.openPosture k) .noPhase := if_pos ⟨by rw [hsegment, hp], hopened⟩
  show ((v.completeLower k).completeReopen k).segment k = _ ∧ ((v.completeLower k).completeReopen k).reported _ _
  rw [hlower, hreopen]
  refine ⟨?_, State.setPosture_reported hne⟩
  rw [State.setPosture_segment_same hne, hposture, hsegment]

end Sys2Proof.Machine
end

section
/-! PROOF. LIMIT_ARRIVAL and LIMIT_LOST (R64, R65). -/

namespace Sys2Proof.Machine

/-! ### The hand-over of an arrival (R73) -/

/-- The state that gate i leaves by going to the record g' is what segment k makes of it, nothing having reached a segment before. -/
def State.HandsOn (s : State) (i : Fin 6) (k : Fin 4) (g' : Gate) (t : State) : Prop :=
  ∃ (u : State) (a b : GateState), u.gates = s.gates.set i g' ∧ u.segments = s.segments ∧ u.exceptBarriers = s.exceptBarriers ∧
    t = u.gateChanged k a b

theorem State.gateTo_handsOn {s w : State} {i : Fin 6} {k : Fin 4} {g : Gate} {v : GateState} (hw : w.gates = s.gates.set i g)
    (hs : w.segments = s.segments) (hb : w.exceptBarriers = s.exceptBarriers) (hk : g.cfg.segment = some k) (hne : g.state ≠ v) :
    s.HandsOn i k (g.take v) (w.gateTo i v) := by
  have hgate := (State.gate_of_set hw).1
  have hto : w.gateTo i v = w.putGate i g.state (g.enter v) := by
    unfold State.gateTo
    rw [hgate]
    exact if_neg hne
  obtain ⟨u, hgates, hsegments, hframe, heq⟩ := State.putGate_handsOn (s := w) (i := i) (a := g.state) (g := g.enter v) (k := k) hk
  refine ⟨u, _, _, ?_, hsegments.trans hs, hframe.trans hb, hto.trans heq⟩
  rw [hgates, hw, Gate.take_of_ne hne]
  simp

theorem State.arrive_handsOn {s : State} {i : Fin 6} {k : Fin 4} {side : LimitSide} (hk : (s.gate i).cfg.segment = some k)
    (hne : (s.gate i).arrival side ≠ (s.gate i).state) : s.HandsOn i k ((s.gate i).arrived side) (s.arrive i side) := by
  have hto (v : GateState) (h : (s.gate i).state ≠ v) : s.HandsOn i k ((s.gate i).take v) (s.gateTo i v) :=
    State.gateTo_handsOn (s.gates_set_self i) rfl rfl hk h
  have hopen (f : State → State) (hf : f = id ∨ f = fun u => u.postGate i Flag.gateWrongEnd) (h : (s.gate i).state ≠ .opened) :
      s.HandsOn i k (s.gate i).opens ((f s).gateOpen i) := by
    rcases hf with rfl | rfl
    · exact State.gateTo_handsOn (g := { s.gate i with relowerArmed := false, clearCount := 0 }) rfl rfl rfl hk h
    · exact State.gateTo_handsOn (g := { s.gate i with relowerArmed := false, clearCount := 0 }) rfl rfl rfl hk h
  unfold Gate.arrival at hne
  unfold State.arrive Gate.arrived
  cases side with
  | openLimit =>
    cases hs : (s.gate i).state with
    | raising =>
      dsimp only
      split
      · exact hto _ (by simp [hs])
      · exact hto _ (by simp [hs])
    | blocked | pause | fault | opened => simp [hs] at hne
    | unknown | halted | closed => exact hopen id (.inl rfl) (by simp [hs])
    | lowering => exact hopen _ (.inr rfl) (by simp [hs])
  | closedLimit =>
    cases hs : (s.gate i).state with
    | pause | fault | closed => simp [hs] at hne
    | raising => exact State.gateTo_handsOn (g := s.gate i) (s.gates_set_self i) rfl (State.postGate_exceptBarriers ..) hk (by simp [hs])
    | unknown | halted | opened | lowering | blocked => exact hto _ (by simp [hs])

/-- The segment of a gate that arrives last (R10, R12). -/
theorem State.HandsOn.segment {s t : State} {i : Fin 6} {k : Fin 4} {g' : Gate} (h : s.HandsOn i k g' t) (hcfg : g'.cfg = (s.gate i).cfg)
    (hk : (s.gate i).cfg.segment = some k) :
    (g'.state = .closed → (s.segment k).posture = .closing → (s.segment k).phase = .lower →
      (∀ j ∈ s.gatesOf k, j ≠ i → (s.gate j).state = .closed) →
      (t.segment k).posture = .closed ∧ (t.segment k).phase = .noPhase ∧
        (t.segment k).occupied = (decide (0 < (s.segment k).occupancy) || (s.segment k).uncertain)) ∧
    (g'.state = .opened → (s.segment k).posture = .reopening → (∀ j ∈ s.gatesOf k, j ≠ i → (s.gate j).state = .opened) →
      (s.mustCaution k → (t.segment k).posture = .caution) ∧ (¬s.mustCaution k → (t.segment k).posture = .opened) ∧
        (t.segment k).phase = .noPhase ∧ (t.segment k).causes = (s.segment k).causes ∧
        (t.segment k).confirmMissing = false ∧ t.reported (.segment k) Flag.segPosture) := by
  obtain ⟨u, a, b, hgates, hsegments, hframe, rfl⟩ := h
  have hsegment : u.segment k = s.segment k := congrArg (fun v : Vector Segment 4 => v[k]) hsegments
  have hall (v : GateState) (hv : g'.state = v) := State.allGates_iff (k := k) hgates hcfg hv
  refine ⟨fun hc hp hph hothers => ?_, fun ho hp hothers => ?_⟩
  · rw [State.gateChanged_closes (by rw [hsegment, hp]) (by rw [hsegment, hph]) ((hall _ hc).2 hothers), hsegment]
    exact ⟨rfl, rfl, rfl⟩
  · have hno : ((u.gatesOf k).all fun j => (u.gate j).state == .closed) = false := by
      obtain ⟨hsame, -⟩ := State.gate_of_set hgates
      rw [Bool.eq_false_iff]
      intro hclosed
      have hi : i ∈ u.gatesOf k := by simp [State.gatesOf, hsame, hcfg, hk]
      have := List.all_eq_true.1 hclosed i hi
      rw [hsame, ho] at this
      exact absurd this (by decide)
    obtain ⟨heq, hrep⟩ := State.gateChanged_reopens (a := a) (b := b) (by rw [hsegment, hp]) hno ((hall _ ho).2 hothers)
    obtain ⟨hcaution, hopen⟩ := u.openPosture_cases k
    rw [State.mustCaution_congr hsegments hframe] at hcaution hopen
    rw [heq, hsegment]
    refine ⟨hcaution, hopen, rfl, rfl, ?_, hrep⟩
    exact if_pos (by
      by_cases h : s.mustCaution k
      · exact .inr (hcaution h)
      · exact .inl (hopen h))

/-! ### Arrivals (R64) -/

theorem exec_limitArrival (i : Fin 6) (side : LimitSide) (s : State) :
    exec (.limitArrival i side) s = .next (s.command fun s => s.limitArrives i side) := rfl

theorem exec_limitLost (i : Fin 6) (side : LimitSide) (s : State) :
    exec (.limitLost i side) s = .next (s.command fun s => s.limitDeparts i side) := rfl

/-- A gate record at a limit, its position corrected, before its state follows (R64). -/
def Gate.corrected (side : LimitSide) (g : Gate) : Gate :=
  { g.setLimit side true with position := g.expected side, referenced := true, manualLowering := false }

theorem State.limitArrives_eq {s : State} {i : Fin 6} {side : LimitSide} {k : Fin 4} (hk : (s.gate i).cfg.segment = some k)
    (hl : (s.gate i).limit side = false) :
    s.limitArrives i side =
      if (s.gate i).limit (otherLimit side) then (s.setGate i ((s.gate i).setLimit side true)).gateFault i .limitConflict
      else (((s.setGate i ((s.gate i).setLimit side true)).postIf ((s.gate i).slipped side) (.gate i) Flag.gateSlip).setGate i
        ((s.gate i).corrected side)).arrive i side := by
  have hcfg : ((s.gate i).setLimit side true).configured = true := by
    rw [Gate.configured, ((s.gate i).setLimit_keeps side true).1, hk]
    rfl
  have hslip : ((s.gate i).setLimit side true).slipped side = (s.gate i).slipped side := by cases side <;> rfl
  have hexpected : ((s.gate i).setLimit side true).expected side = (s.gate i).expected side := by cases side <;> rfl
  unfold State.limitArrives
  dsimp only
  rw [hl, if_neg (by simp), hcfg, if_neg (by simp), Gate.setLimit_limit_other, hslip, hexpected]
  rfl

/-- An arrival with the other limit active: FAULT, and no correction (R64, R67). -/
theorem State.limitConflict_leaves {s : State} {i : Fin 6} {side : LimitSide} :
    let g := s.gate i
    let t := (s.setGate i (g.setLimit side true)).gateFault i .limitConflict
    ∃ g' : Gate, t.gates = s.gates.set i g' ∧ g'.limit side = true ∧ g'.cfg = g.cfg ∧ g'.state = .fault ∧ g'.position = g.position ∧
      g'.referenced = g.referenced ∧
      (g.state ≠ .fault → g'.faultCause = .limitConflict ∧ t.reported (.gate i) (Flag.gateFault ||| Flag.gateState)) ∧
      (g.state = .fault → g'.faultCause = g.faultCause) := by
  dsimp only
  obtain ⟨hcfg, hstate, hposition, hreferenced, hcause, -⟩ := (s.gate i).setLimit_keeps side true
  set g1 := (s.gate i).setLimit side true with hg1
  have hgate : (s.setGate i g1).gate i = g1 := State.setGate_gate_same ..
  have hlimit : g1.limit side = true := Gate.setLimit_limit ..
  by_cases hf : (s.gate i).state = .fault
  · have hfault : (s.setGate i g1).gateFault i .limitConflict = s.setGate i g1 := if_pos (by rw [hgate, hstate, hf])
    refine ⟨g1, by rw [hfault]; rfl, hlimit, hcfg, hstate.trans hf, hposition, hreferenced, fun h => absurd hf h, fun _ => hcause⟩
  · have hne : ((s.setGate i g1).gate i).state ≠ .fault := by rwa [hgate, hstate]
    refine ⟨{ g1 with faultCause := .limitConflict }.enter .fault, ?_, ?_, hcfg, rfl, hposition, hreferenced, fun _ => ⟨rfl, ?_⟩,
      fun h => absurd h hf⟩
    · rw [State.gateFault_gates hne, hgate]
      exact s.gates_set_set i _ _
    · rw [← hlimit]
      cases side <;> rfl
    · unfold State.gateFault
      rw [if_neg hne]
      refine State.reported_of_flags (State.gateTo_reported (v := .fault) ?_) ?_
      · rw [State.updGate_eq, State.setGate_gate_same]
        exact hne
      · generalize (State.gate _ i).state = a
        cases a <;> decide

theorem Gate.corrected_keeps (g : Gate) (side : LimitSide) :
    (g.corrected side).limit side = true ∧ (g.corrected side).cfg = g.cfg ∧ (g.corrected side).state = g.state ∧
      (g.corrected side).attempts = g.attempts ∧ (g.corrected side).relowerArmed = g.relowerArmed := by cases side <;> simp [Gate.corrected, Gate.setLimit, Gate.limit]

/-- An arrival that is acted on: the position corrected, and the state by R64's table. -/
theorem State.limitArrived_leaves {s : State} {i : Fin 6} {side : LimitSide} {k : Fin 4} (hk : (s.gate i).cfg.segment = some k)
    (hl : (s.gate i).limit side = false) (ho : (s.gate i).limit (otherLimit side) = false) :
    let g := s.gate i
    let t := s.limitArrives i side
    ∃ g' : Gate, t.gates = s.gates.set i g' ∧ g'.limit side = true ∧ (g.corrected side).Arrives (g.arrival side) g' ∧
      (g.slipped side = true → t.reported (.gate i) Flag.gateSlip) ∧
      ((g.state = .raising ∧ side = .closedLimit) ∨ (g.state = .lowering ∧ side = .openLimit) →
        t.reported (.gate i) Flag.gateWrongEnd) ∧
      (g.arrival side ≠ g.state → s.HandsOn i k g' t) := by
  dsimp only
  rw [State.limitArrives_eq hk hl, if_neg (by simp [ho])]
  set v := (s.setGate i ((s.gate i).setLimit side true)).postIf ((s.gate i).slipped side) (.gate i) Flag.gateSlip with hv
  have hvgates : v.gates = s.gates.set i ((s.gate i).setLimit side true) := by
    rw [hv]; cases (s.gate i).slipped side <;> rfl
  have hvsegments : v.segments = s.segments := by rw [hv]; cases (s.gate i).slipped side <;> rfl
  have hvframe : v.exceptBarriers = s.exceptBarriers := (State.postIf_exceptBarriers ..).trans (State.setGate_exceptBarriers ..)
  set c := (s.gate i).corrected side with hc
  set u := v.setGate i c with hu
  have hugates : u.gates = s.gates.set i c := by
    show v.gates.set i c = _
    rw [hvgates]
    simp
  have hgate : u.gate i = c := State.setGate_gate_same ..
  obtain ⟨hlimit, hcfg, hstate, hattempts, -⟩ := (s.gate i).corrected_keeps side
  rw [← hc] at hlimit hcfg hstate hattempts
  have harrival : c.arrival side = (s.gate i).arrival side := by unfold Gate.arrival; rw [hstate, hattempts]
  obtain ⟨hdrives, hwrong⟩ := u.arrive_drives i side
  have harrives := c.arrived_arrives side
  rw [hgate] at hdrives hwrong
  rw [harrival] at harrives
  refine ⟨c.arrived side, by rw [hdrives.gates, hugates]; simp, ?_, harrives, fun hslip => ?_, by rwa [hstate] at hwrong, fun hne => ?_⟩
  · rw [← hlimit]
    cases side with
    | openLimit => exact harrives.openLimit
    | closedLimit => exact harrives.closedLimit
  · have hrep : u.reported (.gate i) Flag.gateSlip := by
      rw [hu, hv, hslip]
      exact State.post_reported ..
    exact (recordStable_reported (.gate i) Flag.gateSlip).toStepStable.arrive hrep
  · obtain ⟨w, a, b, hwgates, hwsegments, hwframe, heq⟩ := State.arrive_handsOn (s := u) (i := i) (k := k) (side := side)
      (by rw [hgate, hcfg, hk]) (by rwa [hgate, harrival, hstate])
    rw [hgate] at hwgates
    refine ⟨w, a, b, by rw [hwgates, hugates]; simp, hwsegments.trans hvsegments,
      hwframe.trans ((State.setGate_exceptBarriers ..).trans hvframe), heq⟩

/-! ### Departures (R65) -/

theorem addReport_addReport (o : Obj) (f g : BitVec 16) (l : List ReportEntry) :
    addReport o g (addReport o f l) = addReport o (f ||| g) l := by
  induction l with
  | nil => simp [addReport]
  | cons e rest ih =>
    by_cases he : e.obj = o
    · simp [addReport, he, BitVec.or_assoc]
    · simp [addReport, he, ih]

/-- Two postings of one object join in its entry (R190). -/
theorem State.post_post (s : State) (o : Obj) (f g : BitVec 16) : (s.post o f).post o g = s.post o (f ||| g) := by
  simp [State.post, addReport_addReport]

/-- What is posted of a gate before its record changes joins the report of the change. -/
theorem State.putGate_reported_after (s : State) (i : Fin 6) (f : BitVec 16) (a : GateState) (g : Gate) :
    ((s.postGate i f).putGate i a g).reported (.gate i) (f ||| gateFlags a g.state) := by
  have hP := gateStable_reported (.gate i) (f ||| gateFlags a g.state)
  have hpost : (((s.postGate i f).setGate i g).postGate i (gateFlags a g.state)).reported (.gate i) (f ||| gateFlags a g.state) := by
    have heq : ((s.postGate i f).setGate i g).postGate i (gateFlags a g.state) = ((s.setGate i g).post (.gate i) f).post (.gate i)
      (gateFlags a g.state) := rfl
    rw [heq, State.post_post]
    exact State.post_reported ..
  unfold State.putGate
  dsimp only
  generalize ((s.postGate i f).setGate i g).postGate i (gateFlags a g.state) = u at hpost
  split <;> split
  · exact hP.gateChanged (hP.request hpost)
  · exact hP.gateChanged hpost
  · exact hP.request hpost
  · exact hpost

/-- A departure from the limit the gate stands at. -/
theorem State.limitDeparts_stands {s : State} {i : Fin 6} {side : LimitSide} {k : Fin 4} (hk : (s.gate i).cfg.segment = some k)
    (hl : (s.gate i).limit side = true)
    (hstands : (side = .openLimit ∧ (s.gate i).state = .opened) ∨ (side = .closedLimit ∧ (s.gate i).state = .closed)) :
    let g1 := (s.gate i).setLimit side false
    s.limitDeparts i side = ((s.setGate i g1).postGate i Flag.gateLimitLost).putGate i g1.state (g1.enter .halted) := by
  dsimp only
  obtain ⟨-, hstate, -⟩ := (s.gate i).setLimit_keeps side false
  set g1 := (s.gate i).setLimit side false with hg1
  have hgate : ((s.setGate i g1).postGate i Flag.gateLimitLost).gate i = g1 := State.setGate_gate_same ..
  have hleaves : s.limitDeparts i side = ((s.setGate i g1).postGate i Flag.gateLimitLost).gateTo i .halted := by
    unfold State.limitDeparts
    dsimp only
    rw [hl, if_neg (by simp)]
    refine if_pos ?_
    rcases hstands with ⟨rfl, h⟩ | ⟨rfl, h⟩ <;> simp [Gate.configured, hk, h]
  rw [hleaves]
  unfold State.gateTo
  rw [hgate]
  refine if_neg ?_
  rw [hstate]
  rcases hstands with ⟨-, h⟩ | ⟨-, h⟩ <;> simp [h]

/-- Settles O29. -/
theorem limitInputsAct : Obligations.LimitInputsAct := by
  unfold Obligations.LimitInputsAct
  refine ⟨fun i side k s h hk hl => ?_, fun i side k s h hk hl => ?_⟩
  · have hframe := s.limitArrives_exceptBarriers i side
    have hexec := exec_barriers (exec_limitArrival i side s) h rfl hframe
    intro g expected result
    by_cases ho : g.limit (otherLimit side) = true
    · have heq := State.limitArrives_eq hk hl
      rw [if_pos ho] at heq
      obtain ⟨g', hgates, hlimit, hcfg, hstate, hposition, hreferenced, hfault, hcause⟩ := State.limitConflict_leaves (s := s) (i := i) (side := side)
      rw [← heq] at hgates hfault
      obtain ⟨hsame, hother⟩ := State.gate_of_set hgates
      refine ⟨_, hexec, ?_, ?_, hother, hframe, fun _ => ?_, fun hno => absurd ho (by simp [hno])⟩
      · rw [hsame, hlimit]
      · rw [hsame, hcfg]
      · rw [hsame]
        exact ⟨hstate, hposition, hreferenced, hfault, hcause⟩
    · obtain ⟨g', hgates, hlimit, harrives, hslip, hwrong, hhands⟩ := State.limitArrived_leaves hk hl (by simpa using ho)
      obtain ⟨hsame, hother⟩ := State.gate_of_set hgates
      obtain ⟨-, hcfg, hstate, -, harmed⟩ := g.corrected_keeps side
      have hresult : g.arrival side = result := by
        cases side <;> cases hs : g.state <;> simp [Gate.arrival, result, hs]
      have hgcfg : g'.cfg = g.cfg := harrives.cfg.trans hcfg
      rw [hresult] at harrives hhands
      refine ⟨_, hexec, ?_, ?_, hother, hframe, fun hyes => absurd hyes ho, fun _ => ?_⟩
      · rw [hsame, hlimit]
      · rw [hsame, hgcfg]
      · rw [hsame]
        have hexpected : g.expected side = expected := by cases side <;> rfl
        refine ⟨harrives.position.trans hexpected, harrives.referenced, harrives.state, harrives.manual rfl, fun hr ht => hslip ?_,
          hwrong, fun hc hne => harrives.attempts hc (by rwa [hstate]), fun hc hne => harrives.disarmed hc (by rwa [hstate]),
          fun hc hs => (harrives.armed hc (by rwa [hstate])).trans harmed, fun _ hc hne hp hph hall => ?_,
          fun _ hc hne hp hall => ?_⟩
        · unfold Gate.slipped
          rw [hexpected]
          simp [g, hr, ht]
        · exact ((hhands (by rw [hc]; exact Ne.symm hne)).segment hgcfg hk).1 (harrives.state.trans hc) hp hph hall
        · exact ((hhands (by rw [hc]; exact Ne.symm hne)).segment hgcfg hk).2 (harrives.state.trans hc) hp hall
  · have hframe := s.limitDeparts_exceptBarriers i side
    have hexec := exec_barriers (exec_limitLost i side s) h rfl hframe
    intro g stands
    refine ⟨fun hno => ?_, fun hyes => ?_⟩
    · rw [hexec]
      unfold State.limitDeparts
      dsimp only
      rw [hl, if_neg (by simp)]
      refine congrArg _ (if_neg ?_)
      cases side <;> simpa [stands, Gate.configured, hk] using hno
    · have heq := State.limitDeparts_stands hk hl hyes
      dsimp only at heq
      obtain ⟨hcfg, hstate, hposition, hreferenced, -⟩ := g.setLimit_keeps side false
      set g1 := g.setLimit side false with hg1
      have hlimit : g1.limit side = false := Gate.setLimit_limit ..
      have hgates := State.putGate_gates ((s.setGate i g1).postGate i Flag.gateLimitLost) i g1.state (g1.enter .halted)
      have hreport := State.putGate_reported_after (s.setGate i g1) i Flag.gateLimitLost g1.state (g1.enter .halted)
      have htrouble := State.putGate_trouble (s := (s.setGate i g1).postGate i Flag.gateLimitLost) (i := i) (a := g1.state)
        (g := g1.enter .halted) (k := k) (by rw [show (g1.enter .halted).cfg = g1.cfg from rfl, hcfg]; exact hk)
      rw [← heq] at hgates hreport htrouble
      have hset : (s.limitDeparts i side).gates = s.gates.set i (g1.enter .halted) := hgates.trans (s.gates_set_set i _ _)
      obtain ⟨hsame, hother⟩ := State.gate_of_set hset
      refine ⟨_, hexec, ?_⟩
      rw [hsame]
      refine ⟨rfl, ?_, hposition, hreferenced, rfl, rfl, State.reported_of_flags hreport ?_, fun hp hc => htrouble ?_, hother, hframe⟩
      · rw [← hlimit]
        cases side <;> rfl
      · show (Flag.gateLimitLost ||| gateFlags g1.state .halted) &&& _ = _
        generalize g1.state = a
        cases a <;> decide
      · have hsegment : ((s.setGate i g1).postGate i Flag.gateLimitLost).segment k = s.segment k := rfl
        rw [hsegment, hstate]
        simp [Segment.troubledBy, hp, hc]

end Sys2Proof.Machine
end

section
/-! SUPPORT. The commands of the SGC to the gates of a segment: what each makes of a gate's record, one gate after another (R13, R72). -/

namespace Sys2Proof.Machine

/-! ### The records -/

/-- A gate record with manual lowering ended (R72, R74). -/
def Gate.automatic (g : Gate) : Gate := { g with manualLowering := false }

/-- A gate record with attempts, relowering and manual lowering cleared (R72). -/
def Gate.cleared (g : Gate) : Gate := { g with attempts := 0, relowerArmed := false, clearCount := 0, manualLowering := false }

/-- A pausing record that takes the direction DOWN, and acts at once where its pause has elapsed (R68, R72). -/
def Gate.pausedDown (m : Bool) (g : Gate) : Gate :=
  if g.pauseElapsed then
    (if g.closedLimit then (g.pendTo .down).take .closed else if m || g.manualLowering then (g.pendTo .down).lowered else g.pendTo .down)
  else g.pendTo .down

/-- A gate record after the command down; m says that its segment lets it lower (R72). -/
def Gate.downed (m : Bool) (g : Gate) : Gate :=
  match g.state with
  | .unknown => g.automatic.lowered
  | .halted => g.automatic.lowered
  | .opened => g.automatic.lowered
  | .lowering => g.automatic
  | .closed => g.automatic
  | .raising => (g.automatic.pendTo .down).take .pause
  | .pause => g.automatic.pausedDown m
  | .blocked => g.automatic
  | .fault => g.automatic

/-- A gate record after the command up (R72). -/
def Gate.upped (g : Gate) : Gate :=
  match g.state with
  | .unknown => g.cleared.take .raising
  | .halted => g.cleared.take .raising
  | .opened => g.cleared
  | .lowering => (g.cleared.pendTo .up).take .pause
  | .closed => g.cleared.take .raising
  | .raising => g.cleared
  | .pause => if g.pauseElapsed then (g.cleared.pendTo .up).raised else g.cleared.pendTo .up
  | .blocked => g.cleared.raised
  | .fault => g.cleared

/-- A gate record of a segment taken back from REOPENING (R13). -/
def Gate.backed (m : Bool) (g : Gate) : Gate := if g.state = .raising ∨ g.state = .pause then g.downed m else g

/-! ### The commands drive the gate to those records -/

theorem State.mayLower_congr {s u : State} {g g' : Gate} (hs : u.segments = s.segments) (hc : g'.cfg = g.cfg) :
    u.mayLower g' = s.mayLower g := by
  simp [State.mayLower, State.segmentLowers, State.segment, hs, hc]

theorem State.gateDown_drives (s : State) (i : Fin 6) :
    s.Drives i ((s.gate i).downed (s.mayLower (s.gate i))) (s.gateDown i) := by
  set u := s.updGate i Gate.automatic with hu
  have hrewrites : s.Rewrites i (s.gate i).automatic u := ⟨rfl, rfl, rfl, rfl⟩
  have hgate : u.gate i = (s.gate i).automatic := State.setGate_gate_same ..
  have hdown : s.gateDown i = match (s.gate i).state with
      | .unknown => u.lower i
      | .halted => u.lower i
      | .opened => u.lower i
      | .lowering => u
      | .closed => u
      | .raising => u.gatePause i .down
      | .pause => if ((u.updGate i (Gate.pendTo .down)).gate i).pauseElapsed then (u.updGate i (Gate.pendTo .down)).endPause i
          else u.updGate i (Gate.pendTo .down)
      | .blocked => u
      | .fault => u := by
    have hstate : (u.gate i).state = (s.gate i).state := by rw [hgate]; rfl
    rw [← hstate]
    rfl
  rw [hdown]
  unfold Gate.downed
  cases hs : (s.gate i).state with
  | lowering | closed | blocked | fault => exact .rewrite hrewrites
  | unknown | halted | opened =>
    have h := u.lower_drives i
    rw [hgate] at h
    exact .after hrewrites h
  | raising =>
    have h := u.gatePause_drives i .down
    rw [hgate] at h
    exact .after hrewrites h
  | pause =>
    set v := u.updGate i (Gate.pendTo .down) with hv
    have hvgate : v.gate i = (s.gate i).automatic.pendTo .down := by rw [hv, State.updGate_eq, State.setGate_gate_same, hgate]
    have hvrewrites : s.Rewrites i ((s.gate i).automatic.pendTo .down) v := by
      refine ⟨?_, rfl, rfl, rfl⟩
      rw [hv, State.updGate_eq, hgate]
      exact s.gates_set_set i _ _
    have helapsed : (v.gate i).pauseElapsed = (s.gate i).automatic.pauseElapsed := by rw [hvgate]; rfl
    have hmay : v.mayLower (v.gate i) = s.mayLower (s.gate i) := State.mayLower_congr rfl (by rw [hvgate]; rfl)
    dsimp only
    unfold Gate.pausedDown
    rw [helapsed]
    by_cases he : (s.gate i).automatic.pauseElapsed = true
    · rw [if_pos he, if_pos he, State.endPause_down (by rw [hvgate]; rfl), hmay, hvgate]
      refine iteInduction (motive := fun t : State => s.Drives i _ t) (fun hc => ?_) fun hc => ?_
      · rw [if_pos (by exact hc), ← hvgate]
        exact .after (hvgate ▸ hvrewrites) (v.gateTo_drives i _)
      · rw [if_neg (by exact hc)]
        refine iteInduction (motive := fun t : State => s.Drives i _ t) (fun hm => ?_) fun hm => ?_
        · rw [if_pos (by exact hm), ← hvgate]
          exact .after (hvgate ▸ hvrewrites) (v.lower_drives i)
        · rw [if_neg (by exact hm)]
          exact .rewrite hvrewrites
    · rw [if_neg he, if_neg he]
      exact .rewrite hvrewrites

theorem State.gateUp_drives (s : State) (i : Fin 6) : s.Drives i (s.gate i).upped (s.gateUp i) := by
  set u := s.updGate i Gate.cleared with hu
  have hrewrites : s.Rewrites i (s.gate i).cleared u := ⟨rfl, rfl, rfl, rfl⟩
  have hgate : u.gate i = (s.gate i).cleared := State.setGate_gate_same ..
  have hup : s.gateUp i = match (s.gate i).state with
      | .unknown => u.gateTo i .raising
      | .halted => u.gateTo i .raising
      | .opened => u
      | .lowering => u.gatePause i .up
      | .closed => u.gateTo i .raising
      | .raising => u
      | .pause => if ((u.updGate i (Gate.pendTo .up)).gate i).pauseElapsed then (u.updGate i (Gate.pendTo .up)).pauseUp i
          else u.updGate i (Gate.pendTo .up)
      | .blocked => u.pauseUp i
      | .fault => u := by
    have hstate : (u.gate i).state = (s.gate i).state := by rw [hgate]; rfl
    rw [← hstate]
    rfl
  rw [hup]
  unfold Gate.upped
  cases hs : (s.gate i).state with
  | opened | raising | fault => exact .rewrite hrewrites
  | unknown | halted | closed =>
    have h := u.gateTo_drives i .raising
    rw [hgate] at h
    exact .after hrewrites h
  | lowering =>
    have h := u.gatePause_drives i .up
    rw [hgate] at h
    exact .after hrewrites h
  | blocked =>
    have h := u.pauseUp_drives i
    rw [hgate] at h
    exact .after hrewrites h
  | pause =>
    have hvgate : (u.updGate i (Gate.pendTo .up)).gate i = (s.gate i).cleared.pendTo .up := by
      rw [State.updGate_eq, State.setGate_gate_same, hgate]
    have h := State.pauseUp_drives (u.updGate i (Gate.pendTo .up)) i
    rw [hvgate] at h
    have hpause := State.pause_drives h
    rw [hgate] at hpause
    exact .after hrewrites hpause

theorem State.gateBack_drives (s : State) (i : Fin 6) :
    s.Drives i ((s.gate i).backed (s.mayLower (s.gate i))) (s.gateBack i) := by
  unfold State.gateBack Gate.backed
  split
  · exact s.gateDown_drives i
  · exact .refl s i

/-! ### Every gate of a segment, one after another -/

/-- A command that drives one gate after another: each gate named has the record the command makes of it, every other keeps its own,
and only the segments the gates belong to hear of it. -/
theorem foldl_drives {f : State → Fin 6 → State} {F : Gate → Gate} {P : State → Prop} {k : Fin 4}
    (hf : ∀ (s : State) (g : Fin 6), P s → (s.gate g).cfg.segment = some k → s.Drives g (F (s.gate g)) (f s g) ∧ P (f s g)) :
    ∀ (l : List (Fin 6)) (s : State), l.Nodup → P s → (∀ g ∈ l, (s.gate g).cfg.segment = some k) →
      (∀ g ∈ l, (l.foldl f s).gate g = F (s.gate g)) ∧ (∀ g ∉ l, (l.foldl f s).gate g = s.gate g) ∧
        (∀ j : Fin 4, j ≠ k → (l.foldl f s).segment j = s.segment j) ∧ P (l.foldl f s)
  | [], s, _, hP, _ => ⟨fun g hg => absurd hg (by simp), fun _ _ => rfl, fun _ _ => rfl, hP⟩
  | a :: l, s, hl, hP, hk => by
    obtain ⟨ha, hnodup⟩ := List.nodup_cons.1 hl
    obtain ⟨hdrives, hPa⟩ := hf s a hP (hk a (by simp))
    obtain ⟨hsame, hother⟩ := State.gate_of_set hdrives.gates
    have hmem (g : Fin 6) (hg : g ∈ l) : g ≠ a := fun h => ha (h ▸ hg)
    obtain ⟨hin, hout, hsegment, hPl⟩ := foldl_drives hf l (f s a) hnodup hPa fun g hg => by
      rw [hother g (hmem g hg)]
      exact hk g (by simp [hg])
    refine ⟨fun g hg => ?_, fun g hg => ?_, fun j hj => ?_, hPl⟩
    · rw [List.foldl_cons]
      rcases List.mem_cons.1 hg with rfl | hg
      · rw [hout g ha, hsame]
      · rw [hin g hg, hother g (hmem g hg)]
    · obtain ⟨hga, hgl⟩ := not_or.1 (mt List.mem_cons.2 hg)
      rw [List.foldl_cons, hout g hgl, hother g hga]
    · rw [List.foldl_cons, hsegment j hj, hdrives.segment j (by rw [hk a (by simp)]; simpa using hj.symm)]

theorem State.gatesOf_nodup (s : State) (k : Fin 4) : (s.gatesOf k).Nodup := (List.nodup_finRange 6).filter _

theorem State.mem_gatesOf {s : State} {k : Fin 4} {g : Fin 6} : g ∈ s.gatesOf k ↔ (s.gate g).cfg.segment = some k := by
  simp [State.gatesOf]

theorem State.setPosture_takes (s : State) (k : Fin 4) (p : Posture) (ph : Phase) :
    ((s.setPosture k p ph).segment k).posture = p ∧ ((s.setPosture k p ph).segment k).phase = ph := by
  by_cases h : (s.segment k).posture = p ∧ (s.segment k).phase = ph
  · rwa [show s.setPosture k p ph = s from if_pos h]
  · rw [State.setPosture_segment_same h]
    exact ⟨rfl, rfl⟩

/-- A segment that lets its gates lower. -/
def State.lowers (k : Fin 4) (s : State) : Prop :=
  ((s.segment k).posture = .closing ∧ (s.segment k).phase = .lower) ∨ (s.segment k).posture = .closed

/-- No drive of a gate takes a segment out of LOWER and CLOSED. -/
theorem gateStable_lowers (k : Fin 4) : GateStable (State.lowers k) where
  gate hs := hs
  flasher _ hs := hs
  post hs := hs
  completeLower {s j} hs := by
    by_cases hj : k = j
    · subst hj
      unfold State.completeLower
      split
      · exact .inr (State.setPosture_takes ..).1
      · exact hs
    · have h : (s.completeLower j).segment k = s.segment k :=
        iteInduction (motive := fun t : State => t.segment k = s.segment k) (fun _ => State.setPosture_segment_other hj) fun _ => rfl
      unfold State.lowers
      rwa [h]
  completeReopen {s j} hs := by
    by_cases hj : k = j
    · subst hj
      rwa [show s.completeReopen k = s from if_neg fun h => by
        rcases hs with ⟨hp, -⟩ | hp <;> exact absurd (hp.symm.trans h.1) (by decide)]
    · have h : (s.completeReopen j).segment k = s.segment k :=
        iteInduction (motive := fun t : State => t.segment k = s.segment k) (fun _ => State.setPosture_segment_other hj) fun _ => rfl
      unfold State.lowers
      rwa [h]

end Sys2Proof.Machine
end

section
/-! SUPPORT. What the commands of the SGC leave of a gate's record: its configuration, its position and its inputs; and the state each
leaves, by the state it finds (R72). -/

namespace Sys2Proof.Machine

/-! ### Configuration, position and inputs -/

/-- Two records of one gate with the same configuration, position and inputs. -/
structure Gate.SamePlace (g g' : Gate) : Prop where
  cfg : g'.cfg = g.cfg
  position : g'.position = g.position
  referenced : g'.referenced = g.referenced
  openLimit : g'.openLimit = g.openLimit
  closedLimit : g'.closedLimit = g.closedLimit
  presence : g'.presence = g.presence

namespace Gate.SamePlace

variable {f g g' : Gate}

theorem refl (g : Gate) : g.SamePlace g := ⟨rfl, rfl, rfl, rfl, rfl, rfl⟩

theorem trans (h : f.SamePlace g) (h' : g.SamePlace g') : f.SamePlace g' :=
  ⟨h'.cfg.trans h.cfg, h'.position.trans h.position, h'.referenced.trans h.referenced, h'.openLimit.trans h.openLimit,
    h'.closedLimit.trans h.closedLimit, h'.presence.trans h.presence⟩

theorem take (v : GateState) (g : Gate) : g.SamePlace (g.take v) := by
  obtain ⟨hp, hr, ho, hc, hx⟩ := g.take_keeps v
  exact ⟨g.take_cfg v, hp, hr, ho, hc, hx⟩

theorem pendTo (d : Direction) (g : Gate) : g.SamePlace (g.pendTo d) := ⟨rfl, rfl, rfl, rfl, rfl, rfl⟩

theorem automatic (g : Gate) : g.SamePlace g.automatic := ⟨rfl, rfl, rfl, rfl, rfl, rfl⟩

theorem cleared (g : Gate) : g.SamePlace g.cleared := ⟨rfl, rfl, rfl, rfl, rfl, rfl⟩

theorem lowered (g : Gate) : g.SamePlace g.lowered := by
  unfold Gate.lowered
  split
  · exact trans (g := g.reversing) ⟨rfl, rfl, rfl, rfl, rfl, rfl⟩ (take ..)
  · exact take ..

theorem raised (g : Gate) : g.SamePlace g.raised := by
  unfold Gate.raised
  split
  · exact trans (g := { g with relowerArmed := false, clearCount := 0 }) ⟨rfl, rfl, rfl, rfl, rfl, rfl⟩ (take ..)
  · exact take ..

theorem downed (m : Bool) (g : Gate) : g.SamePlace (g.downed m) := by
  have ha := automatic g
  have hpend := ha.trans (pendTo .down g.automatic)
  unfold Gate.downed
  cases g.state with
  | lowering | closed | blocked | fault => exact ha
  | unknown | halted | opened => exact ha.trans (lowered _)
  | raising => exact hpend.trans (take ..)
  | pause =>
    dsimp only
    unfold Gate.pausedDown
    split
    · split
      · exact hpend.trans (take ..)
      · split
        · exact hpend.trans (lowered _)
        · exact hpend
    · exact hpend

theorem upped (g : Gate) : g.SamePlace g.upped := by
  have hc := cleared g
  have hpend := hc.trans (pendTo .up g.cleared)
  unfold Gate.upped
  cases g.state with
  | opened | raising | fault => exact hc
  | unknown | halted | closed => exact hc.trans (take ..)
  | lowering => exact hpend.trans (take ..)
  | blocked => exact hc.trans (raised _)
  | pause =>
    dsimp only
    split
    · exact hpend.trans (raised _)
    · exact hpend

end Gate.SamePlace

/-! ### The states -/

/-- A gate that stands still is lowered by the command down, unless presence reverses it (R69, R72). -/
theorem Gate.downed_still {g : Gate} (m : Bool) (h : g.state = .opened ∨ g.state = .halted ∨ g.state = .unknown) :
    g.downed m = g.automatic.lowered := by
  unfold Gate.downed
  rcases h with h | h | h <;> rw [h]

/-- A gate that is lowering, lowered or stuck stays as it is but for manual lowering. -/
theorem Gate.downed_stays {g : Gate} (m : Bool) (h : g.state = .lowering ∨ g.state = .closed ∨ g.state = .blocked ∨ g.state = .fault) :
    g.downed m = g.automatic := by
  unfold Gate.downed
  rcases h with h | h | h | h <;> rw [h]

theorem Gate.downed_raising {g : Gate} (m : Bool) (h : g.state = .raising) :
    g.downed m = (g.automatic.pendTo .down).enter .pause := by
  unfold Gate.downed
  rw [h]
  exact Gate.take_of_ne (g := g.automatic.pendTo .down) (v := .pause) (by rw [show (g.automatic.pendTo .down).state = g.state from rfl, h]; decide)

theorem Gate.downed_pause {g : Gate} (m : Bool) (h : g.state = .pause) : g.downed m = g.automatic.pausedDown m := by
  unfold Gate.downed
  rw [h]

/-- A gate that stands still and has no presence is driven down. -/
theorem Gate.lowered_state {g : Gate} (h : g.presence = false) : g.lowered.state = .lowering := by
  unfold Gate.lowered
  rw [if_neg (by simp [h])]
  exact Gate.take_state ..

theorem Gate.upped_rises {g : Gate} (h : g.state = .closed ∨ g.state = .halted ∨ g.state = .unknown) :
    g.upped = g.cleared.enter .raising := by
  have hne : g.cleared.state ≠ .raising := by
    show g.state ≠ _
    rcases h with h | h | h <;> simp [h]
  unfold Gate.upped
  rcases h with h | h | h <;> rw [h] <;> exact Gate.take_of_ne hne

theorem Gate.upped_stays {g : Gate} (h : g.state = .opened ∨ g.state = .raising ∨ g.state = .fault) : g.upped = g.cleared := by
  unfold Gate.upped
  rcases h with h | h | h <;> rw [h]

theorem Gate.upped_lowering {g : Gate} (h : g.state = .lowering) : g.upped = (g.cleared.pendTo .up).enter .pause := by
  unfold Gate.upped
  rw [h]
  exact Gate.take_of_ne (g := g.cleared.pendTo .up) (v := .pause) (by rw [show (g.cleared.pendTo .up).state = g.state from rfl, h]; decide)

theorem Gate.upped_pause {g : Gate} (h : g.state = .pause) :
    g.upped = if g.pauseElapsed then (g.cleared.pendTo .up).raised else g.cleared.pendTo .up := by
  unfold Gate.upped
  rw [h]

theorem Gate.upped_blocked {g : Gate} (h : g.state = .blocked) : g.upped = g.cleared.raised := by
  unfold Gate.upped
  rw [h]

theorem Gate.raised_state (g : Gate) : g.raised.state = if g.openLimit then .opened else .raising :=
  (Gate.GoesTo.raised (d := .none)).state

end Sys2Proof.Machine
end

section
/-! PROOF. SET_GATE: the record it writes, the request on a flasher that moves with it, and what the segments make of a gate that joins
or leaves (R2, R73, R76, R77). -/

namespace Sys2Proof.Machine

/-! ### A change of a segment's gates (R2) -/

theorem State.gatesChanged_of_waits {s : State} {k : Fin 4} (h : (s.segment k).phase = .confirm → s.confirmed k = false) :
    s.gatesChanged k = (s.completeLower k).completeReopen k := by
  have hphase : s.evalConfirmPhase k = s := if_neg fun hc => by
    rw [h hc.1] at hc
    exact absurd hc.2 (by decide)
  unfold State.gatesChanged
  rw [hphase]

theorem State.gatesChanged_gates {s : State} {k : Fin 4} (h : (s.segment k).phase = .confirm → s.confirmed k = false) :
    (s.gatesChanged k).gates = s.gates := by
  rw [State.gatesChanged_of_waits h, State.completeReopen_gates, State.completeLower_gates]

theorem State.completeLower_segment_other {s : State} {j k : Fin 4} (h : k ≠ j) : (s.completeLower j).segment k = s.segment k :=
  iteInduction (motive := fun t : State => t.segment k = s.segment k) (fun _ => State.setPosture_segment_other h) fun _ => rfl

theorem State.completeReopen_segment_other {s : State} {j k : Fin 4} (h : k ≠ j) : (s.completeReopen j).segment k = s.segment k :=
  iteInduction (motive := fun t : State => t.segment k = s.segment k) (fun _ => State.setPosture_segment_other h) fun _ => rfl

theorem State.gatesChanged_segment_other {s : State} {j k : Fin 4} (h : (s.segment j).phase = .confirm → s.confirmed j = false)
    (hk : k ≠ j) : (s.gatesChanged j).segment k = s.segment k := by
  rw [State.gatesChanged_of_waits h, State.completeReopen_segment_other hk, State.completeLower_segment_other hk]

/-- A segment that neither lowers nor reopens takes no notice of its gates. -/
theorem State.completions_rest {s : State} {k : Fin 4} (hph : (s.segment k).phase ≠ .lower) (hp : (s.segment k).posture ≠ .reopening) :
    (s.completeLower k).completeReopen k = s := by
  have hlower : s.completeLower k = s := if_neg fun h => hph h.1
  rw [hlower]
  exact if_neg fun h => hp h.1

theorem State.gatesChanged_rest {s : State} {k : Fin 4} (hph : (s.segment k).phase = .noPhase) (hp : (s.segment k).posture ≠ .reopening) :
    s.gatesChanged k = s := by
  rw [State.gatesChanged_of_waits (by simp [hph])]
  exact State.completions_rest (by simp [hph]) hp

/-- A segment in LOWER that has no gate left but CLOSED ones is CLOSED (R10). -/
theorem State.gatesChanged_closes {s : State} {k : Fin 4} (hph : (s.segment k).phase = .lower) (hnil : s.gatesOf k = []) :
    ((s.gatesChanged k).segment k).posture = .closed ∧ ((s.gatesChanged k).segment k).phase = .noPhase := by
  have hlower : s.completeLower k = s.setPosture k .closed .noPhase := if_pos ⟨hph, by simp [hnil]⟩
  obtain ⟨hp, hn⟩ := s.setPosture_takes k .closed .noPhase
  rw [State.gatesChanged_of_waits (by simp [hph]), hlower,
    show (s.setPosture k .closed .noPhase).completeReopen k = s.setPosture k .closed .noPhase from if_neg fun h => by
      rw [hp] at h
      exact absurd h.1 (by decide)]
  exact ⟨hp, hn⟩

/-- A segment in REOPENING that has no gate left is open (R12). -/
theorem State.gatesChanged_reopens {s : State} {k : Fin 4} (hph : (s.segment k).phase = .noPhase) (hp : (s.segment k).posture = .reopening)
    (hnil : s.gatesOf k = []) : ((s.gatesChanged k).segment k).posture = .opened ∨ ((s.gatesChanged k).segment k).posture = .caution := by
  have hlower : s.completeLower k = s := if_neg fun h => by
    rw [hph] at h
    exact absurd h.1 (by decide)
  have hreopen : s.completeReopen k = s.setPosture k (s.openPosture k) .noPhase := if_pos ⟨hp, by simp [hnil]⟩
  rw [State.gatesChanged_of_waits (by simp [hph]), hlower, hreopen, (s.setPosture_takes k _ _).1]
  unfold State.openPosture
  split
  · exact .inr rfl
  · exact .inl rfl

/-- No drive of a gate takes a segment into CONFIRM. -/
theorem gateStable_confirmWaits : GateStable State.confirmWaits := by
  have hset {s : State} {k : Fin 4} {p : Posture} (hs : s.confirmWaits) : (s.setPosture k p .noPhase).confirmWaits := fun j hj => by
    rw [State.confirmed_of_exceptBarriers (s.setPosture_exceptBarriers k p .noPhase)]
    by_cases hjk : j = k
    · rw [hjk, (s.setPosture_takes k p .noPhase).2] at hj
      exact absurd hj (by decide)
    · rw [State.setPosture_segment_other hjk] at hj
      exact hs j hj
  exact
    { gate := fun hs => hs
      flasher := fun _ hs => hs
      post := fun hs => hs
      completeLower := fun hs => iteInduction (fun _ => hset hs) fun _ => hs
      completeReopen := fun hs => iteInduction (fun _ => hset hs) fun _ => hs }

/-- A gate that joins a segment is driven as the segment's posture has it. -/
theorem State.gateJoins_drives (s : State) (k : Fin 4) (i : Fin 6) :
    ∃ g' : Gate, s.Drives i g' (s.gateJoins k i) ∧ (s.gate i).SamePlace g' := by
  unfold State.gateJoins
  dsimp only
  split
  · exact ⟨_, s.gateDown_drives i, .downed _ _⟩
  · split
    · exact ⟨_, s.gateUp_drives i, .upped _⟩
    · exact ⟨_, .refl s i, .refl _⟩

theorem GateStable.gateJoins {P : State → Prop} (h : GateStable P) {s : State} {k : Fin 4} {i : Fin 6} (hs : P s) : P (s.gateJoins k i) := by
  unfold State.gateJoins
  dsimp only
  split
  · exact h.gateDown hs
  · split
    · exact h.gateUp hs
    · exact hs

/-! ### The request on a flasher (R73, R96) -/

theorem State.settleFlasher_gateReq (s : State) (f : Fin 8) : ((s.settleFlasher f).flasher f).gateReq = (s.flasher f).gateReq := by
  unfold State.settleFlasher
  dsimp only
  split
  · rfl
  · rw [State.post_flasher, State.setFlasher_flasher_same, (Flasher.retune_requests ..).1]

theorem State.gateRequest_gateReq (s : State) (f : Fin 8) (i : Fin 6) (c : FlashClass) :
    ((s.gateRequest f i c).flasher f).gateReq[i] = c := by
  unfold State.gateRequest
  simp only [State.settleFlasher_gateReq, State.updFlasher_eq, State.setFlasher_flasher_same]
  simp

theorem State.gateRequest_flasher_other (s : State) {f f' : Fin 8} (i : Fin 6) (c : FlashClass) (h : f' ≠ f) :
    (s.gateRequest f i c).flasher f' = s.flasher f' := by
  rw [State.gateRequest_eq]
  split
  · rw [State.setFlasher_flasher_other _ _ _ _ h]
  · rw [State.post_flasher, State.setFlasher_flasher_other _ _ _ _ h]

theorem State.gateChanged_flashers (s : State) (k : Fin 4) (a b : GateState) : (s.gateChanged k a b).flashers = s.flashers := by
  have hset (u : State) (p : Posture) : (u.setPosture k p .noPhase).flashers = u.flashers :=
    iteInduction (motive := fun t : State => t.flashers = u.flashers) (fun _ => rfl) fun _ => rfl
  have hlower (u : State) : (u.completeLower k).flashers = u.flashers :=
    iteInduction (motive := fun t : State => t.flashers = u.flashers) (fun _ => hset u _) fun _ => rfl
  have hreopen (u : State) : (u.completeReopen k).flashers = u.flashers :=
    iteInduction (motive := fun t : State => t.flashers = u.flashers) (fun _ => hset u _) fun _ => rfl
  refine (hreopen _).trans ((hlower _).trans ?_)
  cases (s.segment k).troubledBy a b <;> rfl

/-- The flasher a configured gate names. -/
def Gate.requestOn (g : Gate) : Option (Fin 8) := if g.configured then g.cfg.flasher else none

/-- A change of flasher takes the gate's request with it. -/
theorem State.moveRequest_flashers (s : State) (i : Fin 6) (old new : Gate) :
    (∀ f : Fin 8, old.requestOn = some f → new.requestOn ≠ some f → ((s.moveRequest i old new).flasher f).gateReq[i] = .none) ∧
      (∀ f : Fin 8, old.requestOn ≠ some f → new.requestOn = some f →
        ((s.moveRequest i old new).flasher f).gateReq[i] = new.state.request) := by
  have hmove : s.moveRequest i old new =
      if old.requestOn = new.requestOn ∧ old.state.request = new.state.request then s
      else
        let u := match old.requestOn with
          | some f => if old.requestOn = new.requestOn then s else s.gateRequest f i .none
          | none => s
        match new.requestOn with
        | some f => u.gateRequest f i new.state.request
        | none => u := rfl
  rw [hmove]
  constructor
  · intro f ho hn
    have hne : old.requestOn ≠ new.requestOn := fun h => hn (h ▸ ho)
    rw [if_neg fun h => hne h.1, ho]
    dsimp only
    rw [if_neg (by rwa [ho] at hne)]
    cases hnew : new.requestOn with
    | none => exact s.gateRequest_gateReq f i .none
    | some f' =>
      dsimp only
      rw [State.gateRequest_flasher_other _ _ _ (fun h => hn (by rw [hnew, h]))]
      exact s.gateRequest_gateReq f i .none
  · intro f ho hn
    have hne : old.requestOn ≠ new.requestOn := fun h => ho (h.trans hn)
    rw [if_neg fun h => hne h.1, hn]
    exact State.gateRequest_gateReq ..

theorem State.moveRequest_leaves (s : State) (i : Fin 6) (old new : Gate) :
    (s.moveRequest i old new).gates = s.gates ∧ (s.moveRequest i old new).segments = s.segments ∧
      (s.moveRequest i old new).exceptBarriers = s.exceptBarriers := by
  have hrequest (u : State) (f : Fin 8) (c : FlashClass) (h : u.gates = s.gates ∧ u.segments = s.segments ∧ u.exceptBarriers = s.exceptBarriers) :
      (u.gateRequest f i c).gates = s.gates ∧ (u.gateRequest f i c).segments = s.segments ∧
        (u.gateRequest f i c).exceptBarriers = s.exceptBarriers :=
    ⟨(State.gateRequest_gates ..).trans h.1, (State.gateRequest_segments ..).trans h.2.1, (State.gateRequest_exceptBarriers ..).trans h.2.2⟩
  have hself : s.gates = s.gates ∧ s.segments = s.segments ∧ s.exceptBarriers = s.exceptBarriers := ⟨rfl, rfl, rfl⟩
  unfold State.moveRequest
  dsimp only
  generalize (if old.configured then old.cfg.flasher else none) = oldReq
  generalize (if new.configured then new.cfg.flasher else none) = newReq
  by_cases hsame : oldReq = newReq ∧ old.state.request = new.state.request
  · rw [if_pos hsame]
    exact hself
  · rw [if_neg hsame]
    cases oldReq with
    | none =>
      cases newReq with
      | none => exact hself
      | some f => exact hrequest s f _ hself
    | some f =>
      cases newReq with
      | none => exact hrequest s f _ hself
      | some f' => exact hrequest _ f' _ (iteInduction (motive := fun u : State => u.gates = s.gates ∧ u.segments = s.segments ∧
          u.exceptBarriers = s.exceptBarriers) (fun _ => hself) fun _ => hrequest s f _ hself)

end Sys2Proof.Machine
end

section
/-! PROOF. SET_GATE, assembled (R76, R77). -/

namespace Sys2Proof.Machine

/-! ### The members of the segments (R2) -/

theorem State.moveMember_exceptBarriers (s : State) (i : Fin 6) (old new : Gate) :
    (s.moveMember i old new).exceptBarriers = s.exceptBarriers := by
  have hchanged (u : State) (k : Fin 4) : (u.gatesChanged k).exceptBarriers = u.exceptBarriers := State.gatesChanged_exceptBarriers ..
  unfold State.moveMember
  cases new.cfg.segment with
  | none =>
    dsimp only
    split
    · rfl
    · split
      · exact hchanged ..
      · rfl
  | some k =>
    have hfirst : (if old.state = new.state then s else s.gateChanged k old.state new.state).exceptBarriers = s.exceptBarriers :=
      iteInduction (motive := fun t : State => t.exceptBarriers = s.exceptBarriers) (fun _ => rfl)
        fun _ => State.gateChanged_exceptBarriers ..
    dsimp only
    split
    · exact hfirst
    · split
      · exact (hchanged ..).trans ((hchanged ..).trans ((State.gateJoins_exceptBarriers ..).trans hfirst))
      · exact (hchanged ..).trans ((State.gateJoins_exceptBarriers ..).trans hfirst)

/-- A gate that keeps its segment and its state. -/
theorem State.moveMember_same {s : State} {i : Fin 6} {old new : Gate} (hseg : old.cfg.segment = new.cfg.segment)
    (hstate : old.state = new.state) : s.moveMember i old new = s := by
  unfold State.moveMember
  dsimp only
  rw [if_pos hseg]
  cases new.cfg.segment with
  | none => rfl
  | some k => exact if_pos hstate

/-- A gate that goes from one segment to another with its state. -/
theorem State.moveMember_between {s : State} {i : Fin 6} {old new : Gate} {k k' : Fin 4} (hold : old.cfg.segment = some k')
    (hnew : new.cfg.segment = some k) (hne : k ≠ k') (hstate : old.state = new.state) :
    s.moveMember i old new = (((s.gateJoins k i).gatesChanged k).gatesChanged k') := by
  unfold State.moveMember
  rw [hold, hnew]
  dsimp only
  rw [if_pos hstate, if_neg (by simpa using hne.symm)]

/-- A gate that becomes configured. -/
theorem State.moveMember_joins {s : State} {i : Fin 6} {old new : Gate} {k : Fin 4} (hold : old.cfg.segment = none)
    (hnew : new.cfg.segment = some k) :
    s.moveMember i old new =
      ((if old.state = new.state then s else s.gateChanged k old.state new.state).gateJoins k i).gatesChanged k := by
  unfold State.moveMember
  rw [hold, hnew]
  dsimp only
  rw [if_neg (by simp)]

/-- A gate that becomes unconfigured. -/
theorem State.moveMember_leaves {s : State} {i : Fin 6} {old new : Gate} {k : Fin 4} (hold : old.cfg.segment = some k)
    (hnew : new.cfg.segment = none) : s.moveMember i old new = s.gatesChanged k := by
  unfold State.moveMember
  rw [hold, hnew]
  dsimp only
  rw [if_neg (by simp)]

/-! ### The effect (R77) -/

/-- What an accepted SET_GATE has written before the segments are told. -/
theorem State.setGateTo_writes (s : State) (i : Fin 6) (cfg : GateConfig) :
    let old := s.gate i
    let new := old.configuredAs cfg
    ∃ u : State, s.setGateTo i cfg = u.moveMember i old new ∧ u.gates = s.gates.set i new ∧ u.segments = s.segments ∧
      u.exceptBarriers = s.exceptBarriers ∧ u.reported (.gate i) Flag.gateConfig ∧
      (∀ f : Fin 8, old.requestOn = some f → new.requestOn ≠ some f → (u.flasher f).gateReq[i] = .none) ∧
      (∀ f : Fin 8, old.requestOn ≠ some f → new.requestOn = some f → (u.flasher f).gateReq[i] = new.state.request) := by
  dsimp only
  set old := s.gate i
  set new := old.configuredAs cfg
  set f := Flag.gateConfig ||| (if old.state = new.state then 0 else gateFlags old.state new.state) with hf
  set v := (s.setGate i new).postGate i f with hv
  obtain ⟨hgates, hsegments, hframe⟩ := v.moveRequest_leaves i old new
  obtain ⟨hleft, hjoined⟩ := v.moveRequest_flashers i old new
  refine ⟨v.moveRequest i old new, rfl, hgates, hsegments, hframe.trans ?_, ?_, hleft, hjoined⟩
  · exact (State.postGate_exceptBarriers ..).trans (State.setGate_exceptBarriers ..)
  · exact (gateStable_reported _ _).moveRequest (State.post_reported_of _ _ (flags_or_left _ (by simp)))

/-- What every accepted SET_GATE leaves, however the segments take it. -/
theorem exec_setGate_accepted {tag gate segment unit flasher : Byte} {travel motionLimit : Half} {i : Fin 6} {seg : Option (Fin 4)}
    {u : Fin 12} {fl : Option (Fin 8)} {s : State} (h : s.listening)
    (hread : s.applyRequest (.setGate tag gate segment unit travel motionLimit flasher) =
      s.acceptGate i { segment := seg, encoder := u, travel := max 100 (min 8000 travel.toNat),
                       motionLimit := max 40 (min 2400 motionLimit.toNat), flasher := fl })
    (hbusy : ¬((s.gate i).busy ∧ ((s.gate i).cfg.segment ≠ seg ∨ (s.gate i).cfg.encoder ≠ u)))
    (hconflict : ¬(seg.isSome ∧ ((s.counter u).cfg.mode ≠ .encoder ∨ s.unitTaken i u))) :
    let cfg : GateConfig := { segment := seg, encoder := u, travel := max 100 (min 8000 travel.toNat),
                              motionLimit := max 40 (min 2400 motionLimit.toNat), flasher := fl }
    let t := s.setGateTo i cfg
    exec (.setGate tag gate segment unit travel motionLimit flasher) s =
        .next (t.answered 0x24 tag .ok (u8 i.val ++ u8 (t.gate i).state.code ++ u16 cfg.travel ++ u16 cfg.motionLimit)) ∧
      t.exceptBarriers = s.exceptBarriers ∧ t.reported (.gate i) Flag.gateConfig := by
  intro cfg t
  obtain ⟨w, heq, -, -, hframe, hrep, -⟩ := s.setGateTo_writes i cfg
  have htframe : t.exceptBarriers = s.exceptBarriers := by
    show (s.setGateTo i cfg).exceptBarriers = _
    rw [heq, State.moveMember_exceptBarriers, hframe]
  refine ⟨?_, htframe, ?_⟩
  · refine exec_accepted (k := .setGate) rfl h (hread.trans ?_) (State.signs_of_exceptBarriers htframe)
      (State.lines_of_exceptBarriers htframe)
    unfold State.acceptGate
    dsimp only
    rw [if_neg hbusy, if_neg hconflict]
  · show (s.setGateTo i cfg).reported _ _
    rw [heq]
    exact (recordStable_reported _ _).toStepStable.moveMember hrep

/-! ### What the segments make of the gate -/

/-- A segment in an open posture, with no phase. -/
def State.atRest (s : State) (k : Fin 4) : Prop :=
  ((s.segment k).posture = .opened ∨ (s.segment k).posture = .caution) ∧ (s.segment k).phase = .noPhase

theorem State.atRest.keeps {s : State} {k : Fin 4} (h : s.atRest k) : s.gatesChanged k = s ∧ ∀ i : Fin 6, s.gateJoins k i = s := by
  obtain ⟨hp, hph⟩ := h
  refine ⟨State.gatesChanged_rest hph (by rcases hp with hp | hp <;> simp [hp]), fun i => ?_⟩
  unfold State.gateJoins
  dsimp only
  rw [if_neg (by rcases hp with hp | hp <;> simp [hp, hph]), if_neg (by rcases hp with hp | hp <;> simp [hp])]

theorem State.atRest_congr {s t : State} {k : Fin 4} (h : t.segment k = s.segment k) : t.atRest k ↔ s.atRest k := by
  simp [State.atRest, h]

/-- A gate goes from segment k' to segment k (R2, R72). -/
theorem State.moveMember_between_leaves {s w : State} {i : Fin 6} {old new : Gate} {k k' : Fin 4} (hg : w.gates = s.gates.set i new)
    (hs : w.segments = s.segments) (hb : w.exceptBarriers = s.exceptBarriers) (hold : old.cfg.segment = some k')
    (hnew : new.cfg.segment = some k) (hne : k ≠ k') (hstate : old.state = new.state) (hwaits : s.confirmWaits) :
    let t := w.moveMember i old new
    (∀ j : Fin 4, j ≠ k → j ≠ k' → t.segment j = s.segment j) ∧
    (∃ g' : Gate, t.gates = s.gates.set i g' ∧ new.SamePlace g' ∧
      (s.atRest k → g' = new ∧ t.segment k = s.segment k) ∧
      ((s.segment k).posture = .closed ∨ (s.segment k).phase = .lower → ∃ m : Bool, g' = new.downed m) ∧
      ((s.segment k).posture = .reopening → (s.segment k).phase = .noPhase → g' = new.upped)) ∧
    (s.atRest k' → t.segment k' = s.segment k') ∧
    ((s.segment k').phase = .lower → s.gatesOf k' = [i] →
      (t.segment k').posture = .closed ∧ (t.segment k').phase = .noPhase) ∧
    ((s.segment k').posture = .reopening → (s.segment k').phase = .noPhase → s.gatesOf k' = [i] →
      (t.segment k').posture = .opened ∨ (t.segment k').posture = .caution) := by
  dsimp only
  rw [State.moveMember_between hold hnew hne hstate]
  obtain ⟨hsame, hother⟩ := State.gate_of_set hg
  have hsegment (j : Fin 4) : w.segment j = s.segment j := congrArg (fun v : Vector Segment 4 => v[j]) hs
  have hwwaits : w.confirmWaits := fun j hj => by
    rw [State.confirmed_of_exceptBarriers hb]
    exact hwaits j (by rwa [← hsegment])
  set v := w.gateJoins k i with hv
  have hvwaits : v.confirmWaits := gateStable_confirmWaits.gateJoins hwwaits
  obtain ⟨g', hdrives, hplace⟩ := w.gateJoins_drives k i
  rw [hsame] at hplace
  have hvother (j : Fin 4) (hj : j ≠ k) : v.segment j = s.segment j := by
    rw [hdrives.segment j (by rw [hsame, hnew]; simpa using hj.symm), hsegment]
  set x := v.gatesChanged k with hx
  have hxgates : x.gates = v.gates := State.gatesChanged_gates (hvwaits k)
  have hxother (j : Fin 4) (hj : j ≠ k) : x.segment j = s.segment j := by
    rw [hx, State.gatesChanged_segment_other (hvwaits k) hj, hvother j hj]
  have hxconfirmed : x.confirmed = s.confirmed := State.confirmed_of_exceptBarriers
    ((State.gatesChanged_exceptBarriers ..).trans ((State.gateJoins_exceptBarriers ..).trans hb))
  have hxwaits : (x.segment k').phase = .confirm → x.confirmed k' = false := by
    rw [hxother k' hne.symm, hxconfirmed]
    exact hwaits k'
  have htk : (x.gatesChanged k').segment k = x.segment k := State.gatesChanged_segment_other hxwaits hne
  have hxset : x.gates = s.gates.set i g' := by
    rw [hxgates, hdrives.gates, hg]
    simp
  have hnil (h : s.gatesOf k' = [i]) : x.gatesOf k' = [] := by
    obtain ⟨hxsame, hxo⟩ := State.gate_of_set hxset
    refine List.filter_eq_nil_iff.2 fun j _ => ?_
    by_cases hj : j = i
    · rw [hj, hxsame, hplace.cfg, hnew]
      simpa using hne
    · have hnot : j ∉ s.gatesOf k' := by rw [h]; simpa using hj
      rw [hxo j hj]
      simpa [State.mem_gatesOf] using hnot
  refine ⟨fun j hjk hjk' => ?_, ⟨g', ?_, hplace, fun hrest => ?_, fun hdown => ?_, fun hp hph => ?_⟩, fun hrest => ?_, fun hph h => ?_,
    fun hp hph h => ?_⟩
  · rw [State.gatesChanged_segment_other hxwaits hjk', hxother j hjk]
  · rw [State.gatesChanged_gates hxwaits, hxset]
  · obtain ⟨hchanged, hjoins⟩ := ((State.atRest_congr (hsegment k)).2 hrest).keeps
    have hvw : v = w := hjoins i
    have hg' := hdrives.gates
    rw [← hv, hvw] at hg'
    refine ⟨?_, ?_⟩
    · rw [← (State.gate_of_set hg').1, hsame]
    · rw [htk, hx, hvw, hchanged, hsegment]
  · have hjoin : w.gateJoins k i = w.gateDown i := if_pos (by rw [hsegment]; exact hdown.symm)
    have h := (w.gateDown_drives i).gates
    rw [← hjoin, hdrives.gates] at h
    have heq := (State.gate_of_set (s := w) (t := w.setGate i g') rfl).1.symm.trans (State.gate_of_set (s := w) (t := w.setGate i g') h).1
    rw [hsame] at heq
    exact ⟨_, heq⟩
  · have hjoin : w.gateJoins k i = w.gateUp i := by
      unfold State.gateJoins
      dsimp only
      rw [hsegment, if_neg (by simp [hp, hph]), if_pos hp]
    have h := (w.gateUp_drives i).gates
    rw [← hjoin, hdrives.gates] at h
    have heq := (State.gate_of_set (s := w) (t := w.setGate i g') rfl).1.symm.trans (State.gate_of_set (s := w) (t := w.setGate i g') h).1
    rwa [hsame] at heq
  · rw [((State.atRest_congr (hxother k' hne.symm)).2 hrest).keeps.1, hxother k' hne.symm]
  · exact State.gatesChanged_closes (by rw [hxother k' hne.symm, hph]) (hnil h)
  · exact State.gatesChanged_reopens (by rw [hxother k' hne.symm, hph]) (by rw [hxother k' hne.symm, hp]) (hnil h)

end Sys2Proof.Machine
end

section
/-! PROOF. SET_GATE by what it changes (R2, R76, R77). -/

namespace Sys2Proof.Machine

/-! ### Records that start up (R79) -/

theorem Gate.configuredAs_kept {g : Gate} {cfg : GateConfig} {k k' : Fin 4} (ho : g.cfg.segment = some k') (hn : cfg.segment = some k) :
    g.configuredAs cfg = { g with cfg := cfg, position :=
      if g.cfg.travel ≠ cfg.travel ∧ g.closedLimit = true ∧ g.state ≠ .fault then (cfg.travel : Int) else g.position } := by
  unfold Gate.configuredAs
  dsimp only
  exact if_pos (by simp [Gate.configured, ho, hn])

theorem Gate.configuredAs_startUp {g : Gate} {cfg : GateConfig} (h : g.cfg.segment = none ∨ cfg.segment = none) :
    g.configuredAs cfg = { g with cfg := cfg }.startUp := by
  unfold Gate.configuredAs
  dsimp only
  exact if_neg (by rcases h with h | h <;> simp [Gate.configured, h])

theorem Gate.configuredAs_cfg (g : Gate) (cfg : GateConfig) : (g.configuredAs cfg).cfg = cfg := by
  unfold Gate.configuredAs
  dsimp only
  split <;> rfl

/-- The record of a gate made configured, by its limit inputs (R77, R79). -/
theorem Gate.startUp_configured {g : Gate} {cfg : GateConfig} (h : cfg.segment ≠ none) :
    let startState : GateState :=
      if g.openLimit then (if g.closedLimit then .fault else .opened) else if g.closedLimit then .closed else .unknown
    let g' := { g with cfg := cfg }.startUp
    g'.state = startState ∧ g'.position = (if startState = .closed then (cfg.travel : Int) else 0) ∧
      (g'.referenced = true ↔ startState = .opened ∨ startState = .closed) ∧
      g'.faultCause = (if startState = .fault then .limitConflict else .none) ∧ g'.attempts = 0 ∧ g'.relowerArmed = false ∧
      g'.manualLowering = false ∧ g'.presence = g.presence := by
  have hc : ({ g with cfg := cfg } : Gate).configured = true := (Gate.configured_iff _).2 h
  unfold Gate.startUp
  simp only [hc, Gate.limitState]
  cases g.openLimit <;> cases g.closedLimit <;> simp

theorem Gate.startUp_unconfigured {g : Gate} {cfg : GateConfig} (h : cfg.segment = none) :
    let g' := { g with cfg := cfg }.startUp
    g'.state = .unknown ∧ g'.position = 0 ∧ g'.referenced = false ∧ g'.faultCause = .none ∧ g'.attempts = 0 := by
  simp [Gate.startUp, Gate.configured, h]

/-! ### A gate that becomes configured or unconfigured -/

/-- A gate made configured in a segment at rest only takes its start-up state. -/
theorem State.moveMember_joins_rest {w : State} {i : Fin 6} {old new : Gate} {k : Fin 4} (hold : old.cfg.segment = none)
    (hnew : new.cfg.segment = some k) (hrest : w.atRest k) :
    (w.moveMember i old new).gates = w.gates ∧ (w.moveMember i old new).segments = w.segments ∧
      (w.moveMember i old new).flashers = w.flashers := by
  rw [State.moveMember_joins hold hnew]
  have hchanged : (w.gateChanged k old.state new.state).gates = w.gates ∧ (w.gateChanged k old.state new.state).segments = w.segments ∧
      (w.gateChanged k old.state new.state).flashers = w.flashers := by
    refine ⟨State.gateChanged_gates .., ?_, State.gateChanged_flashers ..⟩
    obtain ⟨hp, hph⟩ := hrest
    set v := w.postIf ((w.segment k).troubledBy old.state new.state) (.segment k) Flag.segGateTrouble with hv
    have hvs : v.segments = w.segments := by rw [hv]; cases (w.segment k).troubledBy old.state new.state <;> rfl
    have hvk : v.segment k = w.segment k := congrArg (fun x : Vector Segment 4 => x[k]) hvs
    show ((v.completeLower k).completeReopen k).segments = _
    rw [State.completions_rest (by rw [hvk, hph]; decide) (by rw [hvk]; rcases hp with hp | hp <;> simp [hp]), hvs]
  set v := if old.state = new.state then w else w.gateChanged k old.state new.state with hv
  have hvw : v.gates = w.gates ∧ v.segments = w.segments ∧ v.flashers = w.flashers :=
    iteInduction (motive := fun t : State => t.gates = w.gates ∧ t.segments = w.segments ∧ t.flashers = w.flashers)
      (fun _ => ⟨rfl, rfl, rfl⟩) fun _ => hchanged
  have hvk : v.segment k = w.segment k := congrArg (fun x : Vector Segment 4 => x[k]) hvw.2.1
  obtain ⟨hc, hj⟩ := ((State.atRest_congr hvk).2 hrest).keeps
  rwa [hj i, hc]

/-- No drive of a gate takes a segment into CONFIRM. -/
theorem gateStable_noConfirm (k : Fin 4) : GateStable fun s => (s.segment k).phase ≠ .confirm := by
  have hset {s : State} {j : Fin 4} {p : Posture} (hs : (s.segment k).phase ≠ .confirm) :
      ((s.setPosture j p .noPhase).segment k).phase ≠ .confirm := by
    by_cases hk : k = j
    · rw [hk, (s.setPosture_takes j p .noPhase).2]
      decide
    · rwa [State.setPosture_segment_other hk]
  exact
    { gate := fun hs => hs
      flasher := fun _ hs => hs
      post := fun hs => hs
      completeLower := fun hs => iteInduction (motive := fun t : State => (t.segment k).phase ≠ .confirm) (fun _ => hset hs) fun _ => hs
      completeReopen := fun hs => iteInduction (motive := fun t : State => (t.segment k).phase ≠ .confirm) (fun _ => hset hs) fun _ => hs }

/-- A gate made configured in a segment that lowers is commanded down (R2). -/
theorem State.moveMember_joins_lower {w : State} {i : Fin 6} {old new : Gate} {k : Fin 4} (hold : old.cfg.segment = none)
    (hnew : new.cfg.segment = some k) (hgate : w.gate i = new) (hp : (w.segment k).posture = .closing)
    (hph : (w.segment k).phase = .lower) (hstate : new.state = .opened ∨ new.state = .unknown) :
    ∃ m : Bool, (w.moveMember i old new).gates = w.gates.set i (new.downed m) := by
  rw [State.moveMember_joins hold hnew]
  have hmem (u : State) (hu : u.gate i = new) : ((u.gatesOf k).all fun j => (u.gate j).state == .closed) = false := by
    rw [Bool.eq_false_iff]
    intro hall
    have hi : i ∈ u.gatesOf k := State.mem_gatesOf.2 (by rw [hu, hnew])
    have hc := List.all_eq_true.1 hall i hi
    rw [hu] at hc
    rcases hstate with h | h <;> simp [h] at hc
  have hpost (a b : GateState) : (w.gateChanged k a b).gates = w.gates ∧ (w.gateChanged k a b).segments = w.segments := by
    refine ⟨State.gateChanged_gates .., ?_⟩
    set v := w.postIf ((w.segment k).troubledBy a b) (.segment k) Flag.segGateTrouble with hv
    have hvs : v.segments = w.segments := by rw [hv]; cases (w.segment k).troubledBy a b <;> rfl
    have hvg : v.gates = w.gates := by rw [hv]; cases (w.segment k).troubledBy a b <;> rfl
    have hvk : v.segment k = w.segment k := congrArg (fun x : Vector Segment 4 => x[k]) hvs
    have hvi : v.gate i = new := (congrArg (fun x : Vector Gate 6 => x[i]) hvg).trans hgate
    have hlower : v.completeLower k = v := if_neg fun h => by
      rw [hmem v hvi] at h
      exact absurd h.2 (by decide)
    have hreopen : v.completeReopen k = v := if_neg fun h => by
      rw [hvk, hp] at h
      exact absurd h.1 (by decide)
    show ((v.completeLower k).completeReopen k).segments = _
    rw [hlower, hreopen, hvs]
  set v := if old.state = new.state then w else w.gateChanged k old.state new.state with hv
  have hvw : v.gates = w.gates ∧ v.segments = w.segments :=
    iteInduction (motive := fun t : State => t.gates = w.gates ∧ t.segments = w.segments) (fun _ => ⟨rfl, rfl⟩) fun _ => hpost _ _
  have hvk : v.segment k = w.segment k := congrArg (fun x : Vector Segment 4 => x[k]) hvw.2
  have hvi : v.gate i = new := (congrArg (fun x : Vector Gate 6 => x[i]) hvw.1).trans hgate
  have hjoin : v.gateJoins k i = v.gateDown i := if_pos (.inl (by rw [hvk, hph]))
  have hdrives := v.gateDown_drives i
  have hnoConfirm : ((v.gateDown i).segment k).phase ≠ .confirm :=
    (gateStable_noConfirm k).gateDown (by rw [hvk, hph]; decide)
  rw [hvi] at hdrives
  refine ⟨v.mayLower new, ?_⟩
  rw [hjoin, State.gatesChanged_gates fun h => absurd h hnoConfirm, hdrives.gates, hvw.1]

/-! ### SET_GATE -/

theorem gateSegmentOf_of_toNat {b : Byte} {seg : Option (Fin 4)} (h : b.toNat = match seg with | some k => k.val + 1 | none => 0) :
    gateSegmentOf b = some seg := by
  unfold gateSegmentOf
  cases seg with
  | none => rw [if_pos (BitVec.eq_of_toNat_eq h)]
  | some k =>
    have hb : b.toNat = k.val + 1 := h
    rw [if_neg (by rintro rfl; simp at hb), segmentOf_of_toNat hb]
    rfl

/-- What is the same in every accepted SET_GATE, once the gates it leaves are known. -/
theorem State.setGate_frame {s t : State} {i : Fin 6} {g' : Gate} {tag : Byte} {cfg : GateConfig} (hgates : t.gates = s.gates.set i g')
    (hcfg : g'.cfg = cfg) (hframe : t.exceptBarriers = s.exceptBarriers) (hrep : t.reported (.gate i) Flag.gateConfig) :
    let t' := t.answered 0x24 tag .ok (u8 i.val ++ u8 (t.gate i).state.code ++ u16 cfg.travel ++ u16 cfg.motionLimit)
    t'.reported (.gate i) Flag.gateConfig ∧ (t'.gate i).cfg = cfg ∧ (∀ j : Fin 6, j ≠ i → t'.gate j = s.gate j) ∧
      t'.exceptBarriers =
        (s.answered 0x24 tag .ok (u8 i.val ++ u8 (t'.gate i).state.code ++ u16 cfg.travel ++ u16 cfg.motionLimit)).exceptBarriers := by
  obtain ⟨hsame, hother⟩ := State.gate_of_set hgates
  exact ⟨(recordStable_reported _ _).answered hrep, (congrArg Gate.cfg hsame).trans hcfg, hother, State.answered_exceptBarriers hframe ..⟩

/-- Settles O26: by whether the gate keeps its segment, changes it, gains one or loses it. -/
theorem setGateApplies : Obligations.SetGateApplies := by
  unfold Obligations.SetGateApplies
  intro tag gate segment unit flasher travel motionLimit i seg u fl s h hi hseg hu hfl g command cfg busy conflict startState atRest frame
  have hread : s.applyRequest command = s.acceptGate i cfg := by
    show s.applySetGate gate segment unit travel motionLimit flasher = _
    unfold State.applySetGate
    rw [indexOf_of_toNat hi, gateSegmentOf_of_toNat hseg, indexOf_of_toNat hu, flasherOf_of_toNat hfl]
    rfl
  have hbusy : (g.busy ∧ (g.cfg.segment ≠ cfg.segment ∨ g.cfg.encoder ≠ cfg.encoder)) ↔ busy := by
    simp [busy, Gate.busy, cfg, or_assoc]
  have hconflict : (cfg.segment.isSome ∧ ((s.counter cfg.encoder).cfg.mode ≠ .encoder ∨ s.unitTaken i cfg.encoder)) ↔ conflict := by
    simp [conflict, State.unitTaken, cfg, Gate.configured_iff, Option.isSome_iff_ne_none, and_assoc]
  refine ⟨fun hb => exec_refused (k := .setGate) rfl h (hread.trans (if_pos (hbusy.2 hb))), fun hb hc =>
    exec_refused (k := .setGate) rfl h (hread.trans ((if_neg (mt hbusy.1 hb)).trans (if_pos (hconflict.2 hc)))), fun hb hc => ?_⟩
  obtain ⟨hexec, hframe, hrep⟩ := exec_setGate_accepted h hread (mt hbusy.1 hb) (mt hconflict.1 hc)
  obtain ⟨w, heq, hwgates, hwsegments, hwframe, -, hleft, hjoined⟩ := s.setGateTo_writes i cfg
  have hnewcfg : (g.configuredAs cfg).cfg = cfg := g.configuredAs_cfg cfg
  have hwsegment (j : Fin 4) : w.segment j = s.segment j := congrArg (fun v : Vector Segment 4 => v[j]) hwsegments
  have hrequest (x : Gate) (hx : x.cfg.segment ≠ none) : x.requestOn = x.cfg.flasher := if_pos ((Gate.configured_iff x).2 hx)
  have hnorequest (x : Gate) (hx : x.cfg.segment = none) : x.requestOn = none := if_neg (by simp [Gate.configured, hx])
  refine ⟨_, hexec, fun k hk hgk => ?_, fun k k' hk hgk hne hwaits => ?_, fun k hk hgk hst hrest => ?_,
    fun k hk hgk hst hp hph hss hpres => ?_, fun k hk hgk hrest => ?_, fun k hk hgk hgates hph => ?_⟩
  · have hnew := Gate.configuredAs_kept (cfg := cfg) hgk hk
    have hsame : s.setGateTo i cfg = w := heq.trans (State.moveMember_same (by rw [hnewcfg]; exact hgk.trans hk.symm) (by rw [hnew]))
    have hnewreq := hrequest (g.configuredAs cfg) (by rw [hnewcfg]; simp [cfg, hk])
    have holdreq := hrequest g (by simp [hgk])
    rw [hnewcfg] at hnewreq
    rw [← hsame] at hwgates hwsegments hleft hjoined
    refine ⟨State.setGate_frame hwgates hnewcfg hframe hrep, hwsegments, (State.gate_of_set hwgates).1.trans hnew,
      fun f hf hfn => hleft f (holdreq.trans hf) (by rwa [hnewreq]), fun f hf hfn => ?_⟩
    exact (hjoined f (by rwa [holdreq]) (hnewreq.trans hfn)).trans (by rw [hnew])
  · have hnew := Gate.configuredAs_kept (cfg := cfg) hgk hk
    have hbetween := State.moveMember_between_leaves (i := i) hwgates hwsegments hwframe hgk (by rw [hnewcfg]; exact hk) hne
      (by rw [hnew]) hwaits
    dsimp only at hbetween
    rw [← heq] at hbetween
    obtain ⟨hothers, ⟨g', hgates, hplace, hkeep, hdown, hup⟩, hkeep', hcloses, hreopens⟩ := hbetween
    have hg' : (s.setGateTo i cfg).gate i = g' := (State.gate_of_set hgates).1
    have hst' : (g.configuredAs cfg).state = g.state := by rw [hnew]
    rw [hnew] at hplace
    refine ⟨State.setGate_frame hgates (hplace.cfg.trans rfl) hframe hrep, hothers, ?_, ?_, ?_, ?_, ?_, fun hrest => ?_,
      fun hl => ⟨fun hst => ?_, fun hst hpres => ?_⟩, fun hp hph => ⟨fun hst => ?_, fun hst => ?_⟩, hkeep', fun _ => hcloses, hreopens⟩
    · exact (congrArg Gate.openLimit hg').trans hplace.openLimit
    · exact (congrArg Gate.closedLimit hg').trans hplace.closedLimit
    · exact (congrArg Gate.presence hg').trans hplace.presence
    · exact (congrArg Gate.referenced hg').trans hplace.referenced
    · exact (congrArg Gate.position hg').trans hplace.position
    · obtain ⟨hgr, hsegment⟩ := hkeep hrest
      exact ⟨(congrArg Gate.state hg').trans (by rw [hgr, hst']), hsegment⟩
    · obtain ⟨m, hm⟩ := hdown hl
      rw [Gate.downed_stays m (by rw [hst']; exact .inr hst)] at hm
      exact (congrArg Gate.state hg').trans (by rw [hm]; exact hst')
    · obtain ⟨m, hm⟩ := hdown hl
      rw [Gate.downed_still m (by rw [hst']; tauto)] at hm
      exact (congrArg Gate.state hg').trans (by rw [hm]; exact Gate.lowered_state (by rw [hnew]; exact hpres))
    · have hm := hup hp hph
      rw [Gate.upped_stays (by rw [hst']; exact hst.imp id .inr)] at hm
      exact (congrArg Gate.state hg').trans (by rw [hm]; exact hst')
    · have hm := hup hp hph
      rw [Gate.upped_rises (by rw [hst']; exact hst)] at hm
      exact (congrArg Gate.state hg').trans (by rw [hm]; rfl)
  · have hnew := Gate.configuredAs_startUp (g := g) (cfg := cfg) (.inl hgk)
    have hseg' : (g.configuredAs cfg).cfg.segment = some k := by rw [hnewcfg]; exact hk
    obtain ⟨hg', hs', hf'⟩ := State.moveMember_joins_rest (i := i) hgk hseg' ((State.atRest_congr (hwsegment k)).2 hrest)
    rw [← heq] at hg' hs' hf'
    have hgates := hg'.trans hwgates
    have hgate : (s.setGateTo i cfg).gate i = g.configuredAs cfg := (State.gate_of_set hgates).1
    obtain ⟨hstate, hposition, hreferenced, hcause, hattempts, harmed, hmanual, -⟩ := Gate.startUp_configured (g := g) (cfg := cfg)
      (by simp [cfg, hk])
    rw [← hnew, ← hgate] at hstate hposition hreferenced hcause hattempts harmed hmanual
    refine ⟨State.setGate_frame hgates hnewcfg hframe hrep, hs'.trans hwsegments, hstate, hposition, hreferenced, hcause, hattempts,
      harmed, hmanual, fun f hf => ?_⟩
    have hflasher : (s.setGateTo i cfg).flasher f = w.flasher f := congrArg (fun v : Vector Flasher 8 => v[f]) hf'
    have hreq := hjoined f (by rw [hnorequest g hgk]; simp) ((hrequest _ (by rw [hseg']; simp)).trans (by rw [hnewcfg]; exact hf))
    rw [← hflasher] at hreq
    exact hreq.trans (congrArg GateState.request ((congrArg Gate.state hgate).symm.trans hstate))
  · have hnew := Gate.configuredAs_startUp (g := g) (cfg := cfg) (.inl hgk)
    have hseg' : (g.configuredAs cfg).cfg.segment = some k := by rw [hnewcfg]; exact hk
    obtain ⟨hstate, -, -, -, -, -, -, hpresence⟩ := Gate.startUp_configured (g := g) (cfg := cfg) (by simp [cfg, hk])
    rw [← hnew] at hstate hpresence
    have hstill : (g.configuredAs cfg).state = .opened ∨ (g.configuredAs cfg).state = .unknown := by
      rw [hstate]
      exact hss
    obtain ⟨m, hgates⟩ := State.moveMember_joins_lower (i := i) (w := w) hgk hseg' (State.gate_of_set hwgates).1
      (by rw [hwsegment]; exact hp) (by rw [hwsegment]; exact hph) hstill
    rw [← heq, hwgates] at hgates
    have hset : (s.setGateTo i cfg).gates = s.gates.set i ((g.configuredAs cfg).downed m) := by
      rw [hgates]
      simp
    refine ⟨State.setGate_frame hset ((Gate.SamePlace.downed _ _).cfg.trans hnewcfg) hframe hrep, ?_⟩
    refine (congrArg Gate.state (State.gate_of_set hset).1).trans ?_
    rw [Gate.downed_still m (hstill.imp id .inr)]
    exact Gate.lowered_state (hpresence.trans hpres)
  · have hnew := Gate.configuredAs_startUp (g := g) (cfg := cfg) (.inr hk)
    have hmember : s.setGateTo i cfg = w := by
      rw [heq, State.moveMember_leaves hgk (by rw [hnewcfg]; exact hk)]
      exact ((State.atRest_congr (hwsegment k)).2 hrest).keeps.1
    rw [← hmember] at hwgates hwsegments hleft
    have hgate : (s.setGateTo i cfg).gate i = g.configuredAs cfg := (State.gate_of_set hwgates).1
    obtain ⟨hstate, hposition, hreferenced, hcause, hattempts⟩ := Gate.startUp_unconfigured (g := g) (cfg := cfg) hk
    rw [← hnew, ← hgate] at hstate hposition hreferenced hcause hattempts
    exact ⟨State.setGate_frame hwgates hnewcfg hframe hrep, hwsegments, hstate, hposition, hreferenced, hcause, hattempts,
      fun f hf => hleft f ((hrequest g (by simp [hgk])).trans hf) (by rw [hnorequest _ (by rw [hnewcfg]; exact hk)]; simp)⟩
  · have hmember : s.setGateTo i cfg = w.gatesChanged k := heq.trans (State.moveMember_leaves hgk (by rw [hnewcfg]; exact hk))
    have hwph : (w.segment k).phase = .lower := by rw [hwsegment]; exact hph
    have hnil : w.gatesOf k = [] := by
      obtain ⟨hwsame, hwo⟩ := State.gate_of_set hwgates
      refine List.filter_eq_nil_iff.2 fun j _ => ?_
      by_cases hj : j = i
      · rw [hj, hwsame, hnewcfg]
        simp [cfg, hk]
      · have hnot : j ∉ s.gatesOf k := by rw [hgates]; simpa using hj
        rw [hwo j hj]
        simpa [State.mem_gatesOf] using hnot
    have hset : (s.setGateTo i cfg).gates = s.gates.set i (g.configuredAs cfg) := by
      rw [hmember, State.gatesChanged_gates (by simp [hwph]), hwgates]
    have hclosed := State.gatesChanged_closes hwph hnil
    rw [← hmember] at hclosed
    exact ⟨State.setGate_frame hset hnewcfg hframe hrep, hclosed⟩

end Sys2Proof.Machine
end

section
/-! SUPPORT. LOWER entered: every gate of the segment is commanded down, and the segment is CLOSED where that leaves every gate CLOSED
(R9, R10). -/

namespace Sys2Proof.Machine

/-! ### The segment while its gates are commanded down -/

/-- The record of segment i in LOWER, or the CLOSED record it becomes with every gate CLOSED. -/
def State.lowering (s : State) (i : Fin 4) (r : Segment) : Prop :=
  s.segment i = r ∨ (s.segment i = r.withPosture .closed .noPhase ∧ ∀ g ∈ s.gatesOf i, (s.gate g).state = .closed)

theorem State.gatesOf_congr {s t : State} {i : Fin 4} (h : t.gates = s.gates) : t.gatesOf i = s.gatesOf i := by
  simp [State.gatesOf, State.gate, h]

/-- The completion of LOWER closes the segment or leaves it (R10). -/
theorem State.completeLower_lowering {s : State} {i : Fin 4} {r : Segment} (hp : r.posture = .closing) (h : s.segment i = r) : (s.completeLower i).lowering i r := by
  unfold State.completeLower
  rw [h]
  split
  · next hall =>
    refine .inr ⟨?_, fun g hg => ?_⟩
    · rw [State.setPosture_segment_same (by rw [h, hp]; simp), h]
    · have hgates := s.setPosture_gates i .closed .noPhase
      rw [State.gatesOf_congr hgates] at hg
      have hgate : (s.setPosture i .closed .noPhase).gate g = s.gate g := congrArg (fun v : Vector Gate 6 => v[g]) hgates
      rw [hgate]
      exact beq_iff_eq.1 (List.all_eq_true.1 hall.2 g hg)
  · exact .inl h

/-- Neither completion has anything to do in a CLOSED segment. -/
theorem State.completions_closed {s : State} {i : Fin 4} {r : Segment} (h : s.segment i = r.withPosture .closed .noPhase) :
    (s.completeLower i).completeReopen i = s :=
  State.completions_rest (by rw [h]; simp [Segment.withPosture]) (by rw [h]; simp [Segment.withPosture])

theorem State.lowering.completeReopen {s : State} {i : Fin 4} {r : Segment} (hp : r.posture = .closing) (h : s.lowering i r) :
    s.completeReopen i = s := if_neg fun hr => by
  rcases h with h | ⟨h, -⟩
  · rw [h, hp] at hr
    exact absurd hr.1 (by decide)
  · rw [h] at hr
    exact absurd hr.1 (by simp [Segment.withPosture])

theorem State.lowering.completeLower {s : State} {i : Fin 4} {r : Segment} (hp : r.posture = .closing)
    (h : s.lowering i r) : (s.completeLower i).lowering i r := by
  rcases h with h | ⟨h, hall⟩
  · exact State.completeLower_lowering hp h
  · have heq : s.completeLower i = s := if_neg fun hl => by
      rw [h] at hl
      exact absurd hl.1 (by simp [Segment.withPosture])
    rw [heq]
    exact .inr ⟨h, hall⟩

theorem State.lowering.lowers {s : State} {i : Fin 4} {r : Segment} (hp : r.posture = .closing) (hph : r.phase = .lower)
    (h : s.lowering i r) : s.lowers i := by
  rcases h with h | ⟨h, -⟩
  · exact .inl (by rw [h]; exact ⟨hp, hph⟩)
  · exact .inr (by rw [h]; rfl)

theorem State.postIf_leaves (s : State) (c : Bool) (o : Obj) (f : BitVec 16) :
    (s.postIf c o f).segments = s.segments ∧ (s.postIf c o f).gates = s.gates := by cases c <;> exact ⟨rfl, rfl⟩

/-- What the segment makes of a gate's change while it lowers. -/
theorem State.gateChanged_lowering {v : State} {i : Fin 4} {r : Segment} {a b : GateState} (hp : r.posture = .closing)
    (h : v.lowering i r) : (v.gateChanged i a b).lowering i r := by
  obtain ⟨hsegments, hgates⟩ := v.postIf_leaves ((v.segment i).troubledBy a b) (.segment i) Flag.segGateTrouble
  set w := v.postIf ((v.segment i).troubledBy a b) (.segment i) Flag.segGateTrouble with hw
  have hw : w.lowering i r := by
    have hsegment : w.segment i = v.segment i := congrArg (fun x : Vector Segment 4 => x[i]) hsegments
    have hgate (g : Fin 6) : w.gate g = v.gate g := congrArg (fun x : Vector Gate 6 => x[g]) hgates
    unfold State.lowering
    rw [hsegment, State.gatesOf_congr hgates]
    simpa only [hgate, State.lowering] using h
  have hlower := hw.completeLower hp
  show ((w.completeLower i).completeReopen i).lowering i r
  rwa [hlower.completeReopen hp]

/-- A gate commanded down while its segment lowers. -/
theorem State.gateDown_lowering {u : State} {i : Fin 4} {r : Segment} {g : Fin 6} (hp : r.posture = .closing) (hph : r.phase = .lower)
    (h : u.lowering i r) (hk : (u.gate g).cfg.segment = some i) :
    u.Drives g ((u.gate g).downed true) (u.gateDown g) ∧ (u.gateDown g).lowering i r := by
  have hmay : u.mayLower (u.gate g) = true := (State.mayLower_of hk).2 (h.lowers hp hph)
  have hdrives := u.gateDown_drives g
  rw [hmay] at hdrives
  refine ⟨hdrives, ?_⟩
  obtain ⟨hsame, hother⟩ := State.gate_of_set hdrives.gates
  have hcfg (j : Fin 6) : ((u.gateDown g).gate j).cfg = (u.gate j).cfg := by
    by_cases hj : j = g
    · rw [hj, hsame, hdrives.cfg]
    · rw [hother j hj]
  have hgatesOf : (u.gateDown g).gatesOf i = u.gatesOf i := List.filter_congr fun j _ => by rw [hcfg]
  have hclosed (hall : ∀ j ∈ u.gatesOf i, (u.gate j).state = .closed) :
      ∀ j ∈ (u.gateDown g).gatesOf i, ((u.gateDown g).gate j).state = .closed := fun j hj => by
    rw [hgatesOf] at hj
    by_cases hjg : j = g
    · rw [hjg, hsame, Gate.downed_stays true (.inr (.inl (hall g (hjg ▸ hj))))]
      exact hall g (hjg ▸ hj)
    · rw [hother j hjg, hall j hj]
  rcases hdrives.handed with hs | ⟨v, k, a, b, hk', hvgates, hvsegments, ht⟩
  · have hsegment : (u.gateDown g).segment i = u.segment i := congrArg (fun x : Vector Segment 4 => x[i]) hs
    rcases h with h | ⟨h, hall⟩
    · exact .inl (hsegment.trans h)
    · exact .inr ⟨hsegment.trans h, hclosed hall⟩
  · have hki : k = i := Option.some.inj (hk'.symm.trans hk)
    subst hki
    have hvsegment : v.segment k = u.segment k := congrArg (fun x : Vector Segment 4 => x[k]) hvsegments
    have hvgate (j : Fin 6) : v.gate j = (u.gateDown g).gate j := congrArg (fun x : Vector Gate 6 => x[j]) hvgates
    have hv : v.lowering k r := by
      rcases h with h | ⟨h, hall⟩
      · exact .inl (hvsegment.trans h)
      · refine .inr ⟨hvsegment.trans h, fun j hj => ?_⟩
        rw [hvgate]
        exact hclosed hall j (by rwa [State.gatesOf_congr hvgates] at hj)
    rw [ht]
    exact State.gateChanged_lowering hp hv

/-! ### LOWER entered (R10) -/

/-- What the entry of LOWER leaves of the segment, of its gates and of everything else. -/
theorem State.enterLower_leaves (s : State) (i : Fin 4) (h : ¬((s.segment i).posture = .closing ∧ (s.segment i).phase = .lower)) :
    let t := s.enterLower i
    t.lowering i ((s.segment i).withPosture .closing .lower) ∧
      (∀ g ∈ s.gatesOf i, t.gate g = (s.gate g).downed true) ∧ (∀ g : Fin 6, g ∉ s.gatesOf i → t.gate g = s.gate g) ∧
      (∀ j : Fin 4, j ≠ i → t.segment j = s.segment j) := by
  dsimp only
  set r := (s.segment i).withPosture .closing .lower with hr
  set u := s.setPosture i .closing .lower with hu
  have hugates : u.gates = s.gates := s.setPosture_gates ..
  have hugate (g : Fin 6) : u.gate g = s.gate g := congrArg (fun x : Vector Gate 6 => x[g]) hugates
  have hul : u.lowering i r := .inl (State.setPosture_segment_same h)
  obtain ⟨hin, hout, hsegment, hfold⟩ := foldl_drives (f := State.gateDown) (F := Gate.downed true) (P := fun v => v.lowering i r) (k := i)
    (fun v g hv hk => State.gateDown_lowering rfl rfl hv hk) (u.gatesOf i) u (u.gatesOf_nodup i) hul fun g hg => State.mem_gatesOf.1 hg
  have hend : s.enterLower i = ((u.gatesOf i).foldl State.gateDown u).completeLower i := rfl
  have hendgates (g : Fin 6) : (s.enterLower i).gate g = ((u.gatesOf i).foldl State.gateDown u).gate g := by
    rw [hend]
    exact congrArg (fun x : Vector Gate 6 => x[g]) (State.completeLower_gates ..)
  refine ⟨hend ▸ hfold.completeLower rfl, fun g hg => ?_, fun g hg => ?_, fun j hj => ?_⟩
  · rw [hendgates, hin g (by rwa [State.gatesOf_congr hugates]), hugate]
  · rw [hendgates, hout g (by rwa [State.gatesOf_congr hugates]), hugate]
  · rw [hend, State.completeLower_segment_other hj, hsegment j hj, State.setPosture_segment_other hj]

theorem State.lowering.lowered {s : State} {i : Fin 4} {r : Segment} (h : s.lowering i (r.withPosture .closing .lower)) : s.lowered i := by
  rcases h with h | ⟨h, hall⟩
  · exact .inl (by rw [h]; exact ⟨rfl, rfl, rfl⟩)
  · exact .inr (by rw [h]; exact ⟨rfl, rfl, hall⟩)

/-- What LOWER, or the CLOSED that follows at once, keeps of a segment's record. -/
theorem State.lowering.keeps {s : State} {i : Fin 4} {r : Segment} (h : s.lowering i (r.withPosture .closing .lower)) :
    (s.segment i).causes = r.causes ∧ (s.segment i).cfg = r.cfg ∧ (s.segment i).confirmMissing = r.confirmMissing := by
  rcases h with h | ⟨h, -⟩ <;> rw [h] <;> exact ⟨rfl, rfl, rfl⟩

end Sys2Proof.Machine
end

section
/-! PROOF. The ends of CONFIRM and LEAD (R8, R9), and SET_SEGMENT (R17). -/

namespace Sys2Proof.Machine

/-! ### Reports along the way -/

/-- What is posted of a segment before its posture changes joins the report of the change. -/
theorem State.setPosture_reported_after {s : State} {k : Fin 4} {p : Posture} {ph : Phase} (f : BitVec 16)
    (h : ¬((s.segment k).posture = p ∧ (s.segment k).phase = ph)) :
    ((s.post (.segment k) f).setPosture k p ph).reported (.segment k) (f ||| Flag.segPosture) := by
  have hne : ¬((s.segment k).posture = ((s.segment k).withPosture p ph).posture ∧
      (s.segment k).phase = ((s.segment k).withPosture p ph).phase) := h
  have heq : (s.post (.segment k) f).setPosture k p ph = (s.setSegment k ((s.segment k).withPosture p ph)).post (.segment k)
      (f ||| segmentFlags (s.segment k) ((s.segment k).withPosture p ph)) := by
    rw [← State.post_post]
    exact if_neg h
  rw [heq]
  refine State.post_reported_of _ _ ?_
  unfold segmentFlags
  rw [if_neg hne, BitVec.or_assoc, ← BitVec.or_assoc, ← BitVec.or_assoc, BitVec.or_assoc (f ||| Flag.segPosture)]
  exact flags_or_left _ (by simp)

theorem State.enterLower_reported_after {s : State} {i : Fin 4} (f : BitVec 16)
    (h : ¬((s.segment i).posture = .closing ∧ (s.segment i).phase = .lower)) :
    ((s.post (.segment i) f).enterLower i).reported (.segment i) (f ||| Flag.segPosture) := by
  have hP := gateStable_reported (.segment i) (f ||| Flag.segPosture)
  exact hP.completeLower (hP.gatesDown (State.setPosture_reported_after f h))

theorem State.enterLower_reported {s : State} {i : Fin 4} (h : ¬((s.segment i).posture = .closing ∧ (s.segment i).phase = .lower)) :
    (s.enterLower i).reported (.segment i) Flag.segPosture := by
  have hP := gateStable_reported (.segment i) Flag.segPosture
  exact hP.completeLower (hP.gatesDown (State.setPosture_reported h))

/-- What the command to one gate of a segment establishes on finding its record, and the later commands keep. -/
theorem foldl_finds {f : State → Fin 6 → State} {F : Gate → Gate} {P Q : State → Prop} {k : Fin 4}
    (hf : ∀ (s : State) (g : Fin 6), P s → (s.gate g).cfg.segment = some k → s.Drives g (F (s.gate g)) (f s g) ∧ P (f s g))
    (hQ : ∀ (s : State) (g : Fin 6), Q s → Q (f s g)) {g : Fin 6} {x : Gate} (hq : ∀ u : State, P u → u.gate g = x → Q (f u g))
    (l : List (Fin 6)) {s : State} (hl : l.Nodup) (hP : P s) (hk : ∀ j ∈ l, (s.gate j).cfg.segment = some k) (hg : g ∈ l)
    (hx : s.gate g = x) : Q (l.foldl f s) := by
  induction l generalizing s with
  | nil => exact absurd hg (by simp)
  | cons a l ih =>
    obtain ⟨ha, hnodup⟩ := List.nodup_cons.1 hl
    obtain ⟨hdrives, hPa⟩ := hf s a hP (hk a (by simp))
    obtain ⟨-, hother⟩ := State.gate_of_set hdrives.gates
    have hmem (j : Fin 6) (hj : j ∈ l) : j ≠ a := fun h => ha (h ▸ hj)
    rw [List.foldl_cons]
    rcases List.mem_cons.1 hg with rfl | hg
    · exact foldl_keeps (f := f) (fun s j hs => hQ s j hs) l (hq s hP hx)
    · exact ih hnodup hPa (fun j hj => by rw [hother j (hmem j hj)]; exact hk j (by simp [hj])) hg ((hother g (hmem g hg)).trans hx)

/-- A gate that the command down would lower under active presence is reversed, and that is reported (R69). -/
theorem State.gateDown_reversal {u : State} {i : Fin 4} {g : Fin 6} {r : Segment} (hp : r.posture = .closing) (hph : r.phase = .lower)
    (h : u.lowering i r) (hk : (u.gate g).cfg.segment = some i) (hpres : (u.gate g).presence = true)
    (hstate : ((u.gate g).state = .opened ∨ (u.gate g).state = .halted ∨ (u.gate g).state = .unknown) ∨
      ((u.gate g).state = .pause ∧ (u.gate g).pauseCount = 4 ∧ (u.gate g).closedLimit = false)) :
    (u.gateDown g).reported (.gate g) Flag.gateReversal := by
  have hlower (v : State) (hv : (v.gate g).presence = true) : (v.lower g).reported (.gate g) Flag.gateReversal := by
    unfold State.lower
    rw [if_pos hv, State.reverse_eq]
    exact (gateStable_reported _ _).gateTo (State.post_reported ..)
  set v := u.updGate g Gate.automatic with hv
  have hgate : v.gate g = (u.gate g).automatic := State.setGate_gate_same ..
  have hvpres : (v.gate g).presence = true := by rw [hgate]; exact hpres
  have hvstate : (v.gate g).state = (u.gate g).state := by rw [hgate]; rfl
  have hcase : ∀ x : GateState, (u.gate g).state = x → u.gateDown g = match x with
      | .unknown => v.lower g
      | .halted => v.lower g
      | .opened => v.lower g
      | .lowering => v
      | .closed => v
      | .raising => v.gatePause g .down
      | .pause => if ((v.updGate g (Gate.pendTo .down)).gate g).pauseElapsed then (v.updGate g (Gate.pendTo .down)).endPause g
          else v.updGate g (Gate.pendTo .down)
      | .blocked => v
      | .fault => v := by
    rintro x rfl
    rw [← hvstate]
    rfl
  rcases hstate with (hs | hs | hs) | ⟨hs, hcount, hc⟩
  · rw [hcase _ hs]
    exact hlower v hvpres
  · rw [hcase _ hs]
    exact hlower v hvpres
  · rw [hcase _ hs]
    exact hlower v hvpres
  · set w := v.updGate g (Gate.pendTo .down) with hw
    have hwgate : w.gate g = (u.gate g).automatic.pendTo .down := by rw [hw, State.updGate_eq, State.setGate_gate_same, hgate]
    have hmay : w.mayLower (w.gate g) = true :=
      (State.mayLower_of (by rw [hwgate]; exact hk)).2 (show u.lowers i from h.lowers hp hph)
    rw [hcase _ hs]
    dsimp only
    rw [if_pos (by rw [hwgate]; exact beq_iff_eq.2 hcount), State.endPause_down (by rw [hwgate]; rfl), if_neg (by
      rw [hwgate]
      exact Bool.eq_false_iff.1 hc), if_pos (by rw [hmay]; rfl)]
    exact hlower w (by rw [hwgate]; exact hpres)

/-- The reversals of LOWER entered. -/
theorem State.enterLower_reversal {s : State} {i : Fin 4} {g : Fin 6} (h : ¬((s.segment i).posture = .closing ∧ (s.segment i).phase = .lower))
    (hk : g ∈ s.gatesOf i) (hpres : (s.gate g).presence = true)
    (hstate : ((s.gate g).state = .opened ∨ (s.gate g).state = .halted ∨ (s.gate g).state = .unknown) ∨
      ((s.gate g).state = .pause ∧ (s.gate g).pauseCount = 4 ∧ (s.gate g).closedLimit = false)) :
    (s.enterLower i).reported (.gate g) Flag.gateReversal := by
  have hP := gateStable_reported (.gate g) Flag.gateReversal
  set u := s.setPosture i .closing .lower with hu
  have hugates : u.gates = s.gates := s.setPosture_gates ..
  have hugate (j : Fin 6) : u.gate j = s.gate j := congrArg (fun x : Vector Gate 6 => x[j]) hugates
  have hul : u.lowering i ((s.segment i).withPosture .closing .lower) := .inl (State.setPosture_segment_same h)
  have hfold : (u.gatesDown i).reported (.gate g) Flag.gateReversal :=
    foldl_finds (f := State.gateDown) (F := Gate.downed true) (P := fun v => v.lowering i ((s.segment i).withPosture .closing .lower))
      (Q := fun v => v.reported (.gate g) Flag.gateReversal) (k := i) (x := s.gate g)
      (fun v j hv hj => State.gateDown_lowering rfl rfl hv hj) (fun v j hv => hP.gateDown hv)
      (fun v hv hx => State.gateDown_reversal rfl rfl hv (by rw [hx]; exact State.mem_gatesOf.1 hk) (by rwa [hx]) (by rwa [hx]))
      (u.gatesOf i) (u.gatesOf_nodup i) hul (fun j hj => State.mem_gatesOf.1 hj) (by rwa [State.gatesOf_congr hugates]) (hugate g)
  exact hP.completeLower hfold

/-! ### The end of CONFIRM (R9) -/

/-- What the end of CONFIRM leaves, whatever brought it on. -/
theorem State.endConfirm_leaves {s : State} {i : Fin 4} (h : (s.segment i).phase = .confirm) :
    let t := s.endConfirm i
    t.pastConfirm i ∧ (t.segment i).causes = (s.segment i).causes ∧ (t.segment i).cfg = (s.segment i).cfg ∧
      (t.segment i).confirmMissing = (s.segment i).confirmMissing ∧ (∀ j : Fin 4, j ≠ i → t.segment j = s.segment j) := by
  dsimp only
  unfold State.endConfirm
  by_cases hc : (s.segment i).cfg.lead = 0 ∨ (s.segment i).hasPath = true
  · rw [if_pos hc]
    obtain ⟨hlowering, -, -, hother⟩ := s.enterLower_leaves i (by simp [h])
    obtain ⟨hcauses, hcfg, hmissing⟩ := hlowering.keeps
    refine ⟨?_, hcauses, hcfg, hmissing, hother⟩
    have hcond : ((s.enterLower i).segment i).cfg.lead = 0 ∨ ((s.enterLower i).segment i).hasPath = true := by
      rwa [hcfg, Segment.hasPath, hcauses]
    unfold State.pastConfirm
    rw [if_pos hcond]
    exact hlowering.lowered
  · rw [if_neg hc]
    have hset := State.setPosture_segment_same (s := s) (k := i) (p := .closing) (ph := .lead) (by simp [h])
    rw [hset]
    refine ⟨?_, rfl, rfl, rfl, fun j hj => State.setPosture_segment_other hj⟩
    have hcond : ¬(((s.setPosture i .closing .lead).segment i).cfg.lead = 0 ∨ ((s.setPosture i .closing .lead).segment i).hasPath = true) := by
      rwa [hset]
    unfold State.pastConfirm
    rw [if_neg hcond, hset]
    exact ⟨rfl, rfl, rfl⟩

theorem State.endConfirm_reported_after {s : State} {i : Fin 4} (f : BitVec 16) (h : (s.segment i).phase = .confirm) :
    ((s.post (.segment i) f).endConfirm i).reported (.segment i) (f ||| Flag.segPosture) :=
  iteInduction (motive := fun t : State => t.reported (.segment i) (f ||| Flag.segPosture))
    (fun _ => State.enterLower_reported_after f (by simp [h])) fun _ => State.setPosture_reported_after f (by simp [h])

/-! ### CONFIRM_TIMEOUT and LEAD_END -/

/-- CONFIRM ends by timeout, with what was posted of the segment before (R8). -/
theorem State.confirmMissing_leaves {s : State} {i : Fin 4} (h : (s.segment i).phase = .confirm) (f : BitVec 16) :
    let t := ((s.setSegment i { s.segment i with confirmMissing := true }).post (.segment i) f).endConfirm i
    t.pastConfirm i ∧ (t.segment i).causes = (s.segment i).causes ∧ (t.segment i).cfg = (s.segment i).cfg ∧
      (t.segment i).confirmMissing = true ∧ (∀ j : Fin 4, j ≠ i → t.segment j = s.segment j) ∧
      t.reported (.segment i) (f ||| Flag.segPosture) := by
  dsimp only
  set u := s.setSegment i { s.segment i with confirmMissing := true } with hu
  have hsegment : u.segment i = { s.segment i with confirmMissing := true } := State.setSegment_segment_same ..
  have hphase : (u.segment i).phase = .confirm := by rw [hsegment, ← h]
  obtain ⟨hpast, hcauses, hcfg, hmissing, hother⟩ := State.endConfirm_leaves (s := u.post (.segment i) f) hphase
  refine ⟨hpast, hcauses.trans ?_, hcfg.trans ?_, hmissing.trans ?_, fun j hj => (hother j hj).trans ?_,
    State.endConfirm_reported_after _ hphase⟩
  · show (u.segment i).causes = _
    rw [hsegment]
  · show (u.segment i).cfg = _
    rw [hsegment]
  · show (u.segment i).confirmMissing = _
    rw [hsegment]
  · exact State.setSegment_segment_other _ _ _ _ hj

theorem exec_confirmTimeout (i : Fin 4) (s : State) : exec (.confirmTimeout i) s = .next (s.runEvent (.confirmTimeout i)) := rfl

theorem exec_leadEnd (i : Fin 4) (s : State) : exec (.leadEnd i) s = .next (s.runEvent (.leadEnd i)) := rfl

/-- Lowering begun from a standstill or from an elapsed pause, with presence and without (R69). -/
theorem Gate.lowered_cases {x : Gate} (hs : x.state ≠ .lowering) (hb : x.state ≠ .blocked) (hm : x.manualLowering = false) :
    x.lowered.manualLowering = false ∧
      (x.presence = false → x.lowered.state = .lowering ∧ x.lowered.driveDown = true ∧ x.lowered.driveUp = false ∧
        x.lowered.motionTicks = 0) ∧
      (x.presence = true → x.lowered.state = x.reversal ∧ x.lowered.attempts = min 5 (x.attempts + 1)) := by
  by_cases hp : x.presence = true
  · have heq : x.lowered = x.reversed := if_pos hp
    rw [heq]
    refine ⟨?_, fun h => absurd hp (by simp [h]), fun _ => ⟨x.reversed_state, ?_⟩⟩
    · unfold Gate.reversed Gate.take
      split
      · rfl
      · simp [Gate.enter, Gate.reversing]
    · unfold Gate.reversed Gate.take
      split
      · rfl
      · rcases x.reversal_cases with h | h | h <;> simp [Gate.enter, Gate.reversing, h, hb]
  · have heq := Gate.lowered_clear (by simpa using hp) hs
    rw [heq]
    exact ⟨by simp [Gate.enter, hm], fun _ => ⟨rfl, rfl, rfl, rfl⟩, fun h => absurd h hp⟩

/-- What the command down makes of each gate of a segment in LOWER (R68, R69, R72). -/
theorem Gate.downed_cases (a : Gate) :
    let b := a.downed true
    let lowers : Prop :=
      (a.presence = false → b.state = .lowering ∧ b.driveDown = true ∧ b.driveUp = false ∧ b.motionTicks = 0) ∧
        (a.presence = true → b.state = a.reversal ∧ b.attempts = min 5 (a.attempts + 1))
    b.manualLowering = false ∧
      (a.state = .opened ∨ a.state = .halted ∨ a.state = .unknown → lowers) ∧
      (a.state = .lowering ∨ a.state = .closed ∨ a.state = .blocked ∨ a.state = .fault → b = { a with manualLowering := false }) ∧
      (a.state = .raising → b.state = .pause ∧ b.pending = .down ∧ b.pauseCount = 0) ∧
      (a.state = .pause → a.pauseCount ≠ 4 → b = { a with manualLowering := false, pending := .down }) ∧
      (a.state = .pause → a.pauseCount = 4 → (a.closedLimit = true → b.state = .closed) ∧ (a.closedLimit = false → lowers)) := by
  dsimp only
  have hstill (h : a.state = .opened ∨ a.state = .halted ∨ a.state = .unknown) : a.downed true = a.automatic.lowered := Gate.downed_still true h
  have hstays (h : a.state = .lowering ∨ a.state = .closed ∨ a.state = .blocked ∨ a.state = .fault) : a.downed true = a.automatic :=
    Gate.downed_stays true h
  have hraising (h : a.state = .raising) : a.downed true = (a.automatic.pendTo .down).enter .pause := Gate.downed_raising true h
  have hearly (h : a.state = .pause) (hc : a.pauseCount ≠ 4) : a.downed true = a.automatic.pendTo .down := by
    rw [Gate.downed_pause true h]
    exact if_neg (by simpa [Gate.pauseElapsed, Gate.automatic] using hc)
  have hclosed (h : a.state = .pause) (hc : a.pauseCount = 4) (hl : a.closedLimit = true) :
      a.downed true = (a.automatic.pendTo .down).enter .closed := by
    rw [Gate.downed_pause true h, Gate.pausedDown, if_pos (by simpa [Gate.pauseElapsed, Gate.automatic] using hc), if_pos (by exact hl)]
    exact Gate.take_of_ne (g := a.automatic.pendTo .down) (v := .closed) (by
      rw [show (a.automatic.pendTo .down).state = a.state from rfl, h]
      decide)
  have hlowered (h : a.state = .pause) (hc : a.pauseCount = 4) (hl : a.closedLimit = false) :
      a.downed true = (a.automatic.pendTo .down).lowered := by
    rw [Gate.downed_pause true h, Gate.pausedDown, if_pos (by simpa [Gate.pauseElapsed, Gate.automatic] using hc),
      if_neg (by exact Bool.eq_false_iff.1 hl)]
    rfl
  have hmoves (x : Gate) (hx : x = a.automatic ∨ x = a.automatic.pendTo .down) (hs : a.state ≠ .lowering) (hb : a.state ≠ .blocked) :
      x.lowered.manualLowering = false ∧
        (a.presence = false → x.lowered.state = .lowering ∧ x.lowered.driveDown = true ∧ x.lowered.driveUp = false ∧
          x.lowered.motionTicks = 0) ∧
        (a.presence = true → x.lowered.state = a.reversal ∧ x.lowered.attempts = min 5 (a.attempts + 1)) := by
    rcases hx with rfl | rfl
    · exact Gate.lowered_cases (x := a.automatic) hs hb rfl
    · exact Gate.lowered_cases (x := a.automatic.pendTo .down) hs hb rfl
  refine ⟨?_, fun h => ?_, hstays, fun h => ?_, hearly, fun h hc => ⟨fun hl => ?_, fun hl => ?_⟩⟩
  · cases hs : a.state with
    | opened | halted | unknown =>
      rw [hstill (by simp [hs])]
      exact (hmoves _ (.inl rfl) (by simp [hs]) (by simp [hs])).1
    | lowering | closed | blocked | fault =>
      rw [hstays (by simp [hs])]
      rfl
    | raising =>
      rw [hraising hs]
      rfl
    | pause =>
      by_cases hc : a.pauseCount = 4
      · by_cases hl : a.closedLimit = true
        · rw [hclosed hs hc hl]
          rfl
        · rw [hlowered hs hc (by simpa using hl)]
          exact (hmoves _ (.inr rfl) (by simp [hs]) (by simp [hs])).1
      · rw [hearly hs hc]
        rfl
  · rw [hstill h]
    exact (hmoves _ (.inl rfl) (by rcases h with h | h | h <;> simp [h]) (by rcases h with h | h | h <;> simp [h])).2
  · rw [hraising h]
    exact ⟨rfl, rfl, rfl⟩
  · rw [hclosed h hc hl]
    rfl
  · rw [hlowered h hc hl]
    exact (hmoves _ (.inr rfl) (by simp [h]) (by simp [h])).2

/-- Settles O14. -/
theorem closingTimersEndPhases : Obligations.ClosingTimersEndPhases := by
  unfold Obligations.ClosingTimersEndPhases
  refine ⟨fun i s hcalm hd hph hlimit => ?_, fun i s hcalm hd hph hlimit => ?_⟩
  · have happly : State.applyDue { s with due := s.due.erase (.confirmTimeout i) } (.confirmTimeout i) =
        ((State.setSegment { s with due := s.due.erase (.confirmTimeout i) } i { s.segment i with confirmMissing := true }).post
          (.segment i) Flag.segConfirmMissing).endConfirm i := if_pos (by
      show ((s.segment i).phase == .confirm && decide ((s.segment i).confirmLimit ≤ (s.segment i).phaseTimer)) = true
      rw [hph]
      exact decide_eq_true hlimit)
    have hframe := State.timeoutConfirm_exceptBarriers { s with due := s.due.erase (.confirmTimeout i) } i
    have hrun := (State.runEvent_barriers hd rfl (by simp) hcalm hframe).trans happly
    obtain ⟨hpast, hcauses, hcfg, hmissing, hother, hrep⟩ := State.confirmMissing_leaves (s := { s with due := s.due.erase (.confirmTimeout i) })
      (i := i) hph Flag.segConfirmMissing
    exact ⟨_, (exec_confirmTimeout i s).trans (congrArg _ hrun), hmissing, hrep, hpast, hcauses, hcfg, hother,
      (congrArg State.exceptBarriers happly.symm).trans hframe⟩
  · have happly : State.applyDue { s with due := s.due.erase (.leadEnd i) } (.leadEnd i) =
        State.enterLower { s with due := s.due.erase (.leadEnd i) } i := if_pos (by
      show (s.segment i).leadOver = true
      simp [Segment.leadOver, hph, hlimit])
    have hframe := State.enterLower_exceptBarriers { s with due := s.due.erase (.leadEnd i) } i
    have hrun := (State.runEvent_barriers hd rfl (by simp) hcalm (by rw [happly]; exact hframe)).trans happly
    have hne : ¬((s.segment i).posture = .closing ∧ (s.segment i).phase = .lower) := by simp [hph]
    obtain ⟨hlowering, hin, hout, hother⟩ := State.enterLower_leaves { s with due := s.due.erase (.leadEnd i) } i hne
    obtain ⟨hcauses, -, hmissing⟩ := hlowering.keeps
    refine ⟨_, (exec_leadEnd i s).trans (congrArg _ hrun), hlowering.lowered, State.enterLower_reported hne, hcauses, hmissing,
      fun g hg => ?_, hout, hother, hframe⟩
    have hgate := hin g hg
    have hplace := Gate.SamePlace.downed true (s.gate g)
    obtain ⟨hmanual, hstill, hstays, hraising, hearly, helapsed⟩ := (s.gate g).downed_cases
    have hreversal (h : ((s.gate g).state = .opened ∨ (s.gate g).state = .halted ∨ (s.gate g).state = .unknown) ∨
        ((s.gate g).state = .pause ∧ (s.gate g).pauseCount = 4 ∧ (s.gate g).closedLimit = false)) (hpres : (s.gate g).presence = true) :=
      State.enterLower_reversal (s := { s with due := s.due.erase (.leadEnd i) }) hne hg hpres h
    dsimp only
    rw [hgate]
    exact ⟨hplace.cfg, hplace.position, hplace.presence, hmanual,
      fun h => ⟨(hstill h).1, fun hp => ⟨((hstill h).2 hp).1, ((hstill h).2 hp).2, hreversal (.inl h) hp⟩⟩, hstays, hraising, hearly,
      fun h hc => ⟨(helapsed h hc).1, fun hl => ⟨((helapsed h hc).2 hl).1, fun hp =>
        ⟨(((helapsed h hc).2 hl).2 hp).1, (((helapsed h hc).2 hl).2 hp).2, hreversal (.inr ⟨h, hc, hl⟩) hp⟩⟩⟩⟩

end Sys2Proof.Machine
end

section
/-! SUPPORT. Changes of occupancy, DRIFT and UNCERTAIN: the record written, what is reported, and the evaluations they bring on (R6, R14,
R15, R20). -/

namespace Sys2Proof.Machine

/-! ### What a segment's own evaluations leave alone -/

theorem State.setSegment_exceptSegments (s : State) (i : Fin 4) (r : Segment) : (s.setSegment i r).exceptSegments = s.exceptSegments := rfl

theorem State.post_exceptSegments (s : State) (o : Obj) (f : BitVec 16) : (s.post o f).exceptSegments = s.exceptSegments := rfl

theorem State.postIf_exceptSegments (s : State) (c : Bool) (o : Obj) (f : BitVec 16) : (s.postIf c o f).exceptSegments = s.exceptSegments := by
  cases c <;> rfl

theorem State.setPosture_exceptSegments (s : State) (i : Fin 4) (p : Posture) (ph : Phase) :
    (s.setPosture i p ph).exceptSegments = s.exceptSegments :=
  iteInduction (motive := fun t : State => t.exceptSegments = s.exceptSegments) (fun _ => rfl) fun _ => rfl

/-- Gates, flashers and all but segments and reports are as they were. -/
theorem exceptBarriers_of_exceptSegments {s t : State} (h : t.exceptSegments = s.exceptSegments) : t.exceptBarriers = s.exceptBarriers :=
  congrArg (fun v : State => { v with gates := State.reset.gates, flashers := State.reset.flashers }) h

theorem State.gates_of_exceptSegments {s t : State} (h : t.exceptSegments = s.exceptSegments) : t.gates = s.gates := (congrArg State.gates h :)

/-- A condition of CAUTION is a matter of UNCERTAIN, the paths and the notices (R6). -/
theorem State.openPosture_congr {s t : State} {i : Fin 4} (hu : (t.segment i).uncertain = (s.segment i).uncertain)
    (hb : t.exceptBarriers = s.exceptBarriers) : t.openPosture i = s.openPosture i := by
  have hp : t.paths = s.paths := (congrArg State.paths hb :)
  have hn : t.notices = s.notices := (congrArg State.notices hb :)
  simp [State.openPosture, State.cautioned, State.path, State.listedNotices, hu, hp, hn]

/-! ### The two evaluations -/

/-- The open-posture evaluation (R6). -/
theorem State.evalOpen_leaves (s : State) (i : Fin 4) :
    let r := s.segment i
    let t := s.evalOpen i
    (t.segment i).occupancy = r.occupancy ∧ (t.segment i).drift = r.drift ∧ (t.segment i).uncertain = r.uncertain ∧
      (t.segment i).causes = r.causes ∧ (t.segment i).cfg = r.cfg ∧
      (t.segment i).posture = (if r.posture = .opened ∨ r.posture = .caution then s.openPosture i else r.posture) ∧
      (¬(r.posture = .opened ∨ r.posture = .caution) → t = s) ∧
      ((t.segment i).posture ≠ r.posture → t.reported (.segment i) Flag.segPosture) ∧
      ((t.segment i).occupied ≠ r.occupied → t.reported (.segment i) Flag.segOccupied) ∧
      (∀ j : Fin 4, j ≠ i → t.segment j = s.segment j) ∧ t.exceptSegments = s.exceptSegments := by
  dsimp only
  by_cases ho : (s.segment i).posture = .opened ∨ (s.segment i).posture = .caution
  · have heval : s.evalOpen i = s.setPosture i (s.openPosture i) .noPhase := if_pos ho
    rw [heval, if_pos ho]
    by_cases hsame : (s.segment i).posture = s.openPosture i ∧ (s.segment i).phase = .noPhase
    · rw [show s.setPosture i (s.openPosture i) .noPhase = s from if_pos hsame]
      exact ⟨rfl, rfl, rfl, rfl, rfl, hsame.1, fun h => absurd ho h, fun h => absurd rfl h, fun h => absurd rfl h, fun _ _ => rfl, rfl⟩
    · have hset := State.setPosture_segment_same hsame
      refine ⟨by rw [hset]; rfl, by rw [hset]; rfl, by rw [hset]; rfl, by rw [hset]; rfl, by rw [hset]; rfl, by rw [hset]; rfl,
        fun h => absurd ho h, fun _ => State.setPosture_reported hsame, fun hne => ?_, fun j hj => State.setPosture_segment_other hj,
        State.setPosture_exceptSegments ..⟩
      rw [hset] at hne
      have hpost : s.setPosture i (s.openPosture i) .noPhase = (s.setSegment i ((s.segment i).withPosture (s.openPosture i) .noPhase)).post
        (.segment i) (segmentFlags (s.segment i) ((s.segment i).withPosture (s.openPosture i) .noPhase)) := if_neg hsame
      rw [hpost]
      refine State.post_reported_of _ _ (flags_or_left _ (flags_or_right _ ?_))
      rw [if_neg (Ne.symm hne)]
      simp
  · have heval : s.evalOpen i = s := if_neg ho
    rw [heval, if_neg ho]
    exact ⟨rfl, rfl, rfl, rfl, rfl, rfl, fun _ => rfl, fun h => absurd rfl h, fun h => absurd rfl h, fun _ _ => rfl, rfl⟩

/-- OCCUPIED computed again (R14). -/
theorem State.evalOccupied_leaves (s : State) (i : Fin 4) :
    let r := s.segment i
    let t := s.evalOccupied i
    t.segment i = { r with occupied := if r.posture = .closed then r.occupiedNow else r.occupied } ∧
      ((t.segment i).occupied ≠ r.occupied → t.reported (.segment i) Flag.segOccupied) ∧
      (∀ j : Fin 4, j ≠ i → t.segment j = s.segment j) ∧ t.exceptSegments = s.exceptSegments := by
  dsimp only
  by_cases hc : (s.segment i).posture = .closed ∧ (s.segment i).occupied ≠ (s.segment i).occupiedNow
  · have heval : s.evalOccupied i = (s.setSegment i { s.segment i with occupied := (s.segment i).occupiedNow }).postSeg i Flag.segOccupied :=
      if_pos hc
    rw [heval]
    refine ⟨?_, fun _ => State.post_reported .., fun j hj => State.setSegment_segment_other _ _ _ _ hj, rfl⟩
    rw [if_pos hc.1]
    exact State.setSegment_segment_same ..
  · have heval : s.evalOccupied i = s := if_neg hc
    have hkeep : (if (s.segment i).posture = .closed then (s.segment i).occupiedNow else (s.segment i).occupied) = (s.segment i).occupied := by
      split
      · next hp => exact (not_not.1 (not_and.1 hc hp)).symm
      · rfl
    rw [heval, hkeep]
    exact ⟨rfl, fun h => absurd rfl h, fun _ _ => rfl, rfl⟩

/-! ### A count written -/

/-- Two records that differ in occupancy, DRIFT and UNCERTAIN alone. -/
structure Segment.SameButCount (r r' : Segment) : Prop where
  cfg : r'.cfg = r.cfg
  posture : r'.posture = r.posture
  phase : r'.phase = r.phase
  causes : r'.causes = r.causes
  occupied : r'.occupied = r.occupied

theorem countFlags_has (a b : Segment) :
    (a.occupancy ≠ b.occupancy → countFlags a b &&& Flag.segCount = Flag.segCount) ∧
      (a.drift ≠ b.drift → countFlags a b &&& Flag.segDrift = Flag.segDrift) ∧
      (a.uncertain ≠ b.uncertain → countFlags a b &&& Flag.segUncertain = Flag.segUncertain) := by
  unfold countFlags
  refine ⟨fun h => ?_, fun h => ?_, fun h => ?_⟩
  · rw [if_neg h]
    exact flags_or_left _ (flags_or_left _ (by simp))
  · rw [if_neg h]
    exact flags_or_left _ (flags_or_right _ (by simp))
  · rw [if_neg h]
    exact flags_or_right _ (by simp)

/-- What is reported stays reported while a segment is evaluated. -/
theorem State.setCount_keeps {s : State} {i : Fin 4} {r' : Segment} {o : Obj} {f : BitVec 16} (h : s.reported o f) :
    (s.setCount i r').reported o f := by
  have hP := recordStable_reported o f
  unfold State.setCount
  dsimp only
  have hpost : ((s.setSegment i r').postIf (countFlags (s.segment i) r' != 0) (.segment i) (countFlags (s.segment i) r')).reported o f :=
    hP.toStepStable.toGateStable.postIf (hP.setSegment h)
  generalize (s.setSegment i r').postIf (countFlags (s.segment i) r' != 0) (.segment i) (countFlags (s.segment i) r') = u at hpost
  have hocc : (if (s.segment i).occupancy = r'.occupancy ∧ (s.segment i).uncertain = r'.uncertain then u else u.evalOccupied i).reported o f := by
    split
    · exact hpost
    · exact iteInduction (motive := fun t : State => t.reported o f) (fun _ => hP.post (hP.setSegment hpost)) fun _ => hpost
  split
  · exact hocc
  · exact hP.evalOpen hocc

/-- What a count written leaves of the segment, of its reports and of everything else (R6, R14, R15). -/
theorem State.setCount_leaves {s : State} {i : Fin 4} {r' : Segment} (h : (s.segment i).SameButCount r') :
    let r := s.segment i
    let t := s.setCount i r'
    ((t.segment i).occupancy = r'.occupancy ∧ (t.segment i).drift = r'.drift ∧ (t.segment i).uncertain = r'.uncertain ∧
      (t.segment i).causes = r.causes ∧ (t.segment i).cfg = r.cfg) ∧
    ((r.occupancy ≠ r'.occupancy → t.reported (.segment i) Flag.segCount) ∧
      (r.drift ≠ r'.drift → t.reported (.segment i) Flag.segDrift) ∧
      (r.uncertain ≠ r'.uncertain → t.reported (.segment i) Flag.segUncertain)) ∧
    (t.segment i).posture =
      (if (r.posture = .opened ∨ r.posture = .caution) ∧ r.uncertain ≠ r'.uncertain then t.openPosture i else r.posture) ∧
    (r.posture = .closed → r.occupancy ≠ r'.occupancy ∨ r.uncertain ≠ r'.uncertain → (t.segment i).occupied = r'.occupiedNow) ∧
    (r.uncertain = r'.uncertain → (t.segment i).occupied =
      if r.posture = .closed ∧ r.occupancy ≠ r'.occupancy then r'.occupiedNow else r.occupied) ∧
    ((t.segment i).posture ≠ r.posture → t.reported (.segment i) Flag.segPosture) ∧
    ((t.segment i).occupied ≠ r.occupied → t.reported (.segment i) Flag.segOccupied) ∧
    (∀ j : Fin 4, j ≠ i → t.segment j = s.segment j) ∧ t.exceptSegments = s.exceptSegments := by
  dsimp only
  set r := s.segment i with hr
  set f := countFlags r r' with hf
  set u := (s.setSegment i r').postIf (f != 0) (.segment i) f with hu
  have husegment : u.segment i = r' := by
    have h1 : u.segments = (s.setSegment i r').segments := (State.postIf_leaves ..).1
    exact (congrArg (fun x : Vector Segment 4 => x[i]) h1).trans (s.setSegment_segment_same i r')
  have huother (j : Fin 4) (hj : j ≠ i) : u.segment j = s.segment j := by
    have h1 : u.segments = (s.setSegment i r').segments := (State.postIf_leaves ..).1
    exact (congrArg (fun x : Vector Segment 4 => x[j]) h1).trans (s.setSegment_segment_other i r' j hj)
  have huframe : u.exceptSegments = s.exceptSegments := State.postIf_exceptSegments ..
  have hureported (g : BitVec 16) (hg : f &&& g = g) (h0 : g ≠ 0) : u.reported (.segment i) g := by
    have hne : (f != 0) = true := by
      rw [bne_iff_ne]
      intro hz
      rw [hz] at hg
      exact h0 (by simpa using hg.symm)
    rw [hu, hne]
    exact State.post_reported_of _ _ hg
  obtain ⟨hcount, hdrift, huncertain⟩ := countFlags_has r r'
  set v := if r.occupancy = r'.occupancy ∧ r.uncertain = r'.uncertain then u else u.evalOccupied i with hv
  have ht : s.setCount i r' = if r.uncertain = r'.uncertain then v else v.evalOpen i := rfl
  obtain ⟨hvsegment, hvoccupied, hvother, hvframe⟩ : (v.segment i = { r' with occupied :=
        if ¬(r.occupancy = r'.occupancy ∧ r.uncertain = r'.uncertain) ∧ r.posture = .closed then r'.occupiedNow else r'.occupied }) ∧
      ((v.segment i).occupied ≠ r.occupied → v.reported (.segment i) Flag.segOccupied) ∧
      (∀ j : Fin 4, j ≠ i → v.segment j = s.segment j) ∧ v.exceptSegments = s.exceptSegments := by
    by_cases hsame : r.occupancy = r'.occupancy ∧ r.uncertain = r'.uncertain
    · rw [hv, if_pos hsame, husegment, if_neg (by simp [hsame])]
      exact ⟨rfl, fun hne => absurd h.occupied hne, huother, huframe⟩
    · obtain ⟨h1, h2, h3, h4⟩ := u.evalOccupied_leaves i
      rw [husegment, h.posture] at h1
      rw [husegment, h.occupied] at h2
      rw [hv, if_neg hsame]
      refine ⟨h1.trans ?_, h2, fun j hj => (h3 j hj).trans (huother j hj), h4.trans huframe⟩
      simp only [hsame, not_false_iff, true_and, h.posture]
  have hkeeps {g : BitVec 16} (hg : u.reported (.segment i) g) : (s.setCount i r').reported (.segment i) g := by
    have hP := recordStable_reported (.segment i) g
    have hvg : v.reported (.segment i) g :=
      iteInduction (motive := fun t : State => t.reported (.segment i) g) (fun _ => hg) fun _ =>
        iteInduction (motive := fun t : State => t.reported (.segment i) g) (fun _ => hP.post (hP.setSegment hg)) fun _ => hg
    rw [ht]
    exact iteInduction (motive := fun t : State => t.reported (.segment i) g) (fun _ => hvg) fun _ => hP.evalOpen hvg
  have hreports : (r.occupancy ≠ r'.occupancy → (s.setCount i r').reported (.segment i) Flag.segCount) ∧
      (r.drift ≠ r'.drift → (s.setCount i r').reported (.segment i) Flag.segDrift) ∧
      (r.uncertain ≠ r'.uncertain → (s.setCount i r').reported (.segment i) Flag.segUncertain) :=
    ⟨fun hn => hkeeps (hureported _ (hcount hn) (by decide)), fun hn => hkeeps (hureported _ (hdrift hn) (by decide)),
      fun hn => hkeeps (hureported _ (huncertain hn) (by decide))⟩
  have hvpost : (v.segment i).posture = r.posture := by rw [hvsegment]; exact h.posture
  by_cases hun : r.uncertain = r'.uncertain
  · have htv : s.setCount i r' = v := ht.trans (if_pos hun)
    rw [htv] at hreports ⊢
    refine ⟨?_, hreports, ?_, fun hc hor => ?_, fun _ => ?_, fun hne => absurd hvpost hne, hvoccupied, hvother, hvframe⟩
    · rw [hvsegment]
      exact ⟨rfl, rfl, rfl, h.causes, h.cfg⟩
    · rw [hvpost, if_neg (by simp [hun])]
    · rw [hvsegment]
      exact if_pos ⟨fun hs => hor.elim (fun h => h hs.1) fun h => h hs.2, hc⟩
    · rw [hvsegment, ← h.occupied]
      exact if_congr (by simp [hun, and_comm]) rfl rfl
  · have htv : s.setCount i r' = v.evalOpen i := ht.trans (if_neg hun)
    obtain ⟨h1, h2, h3, h4, h5, h6, h7, h8, h9, h10, h11⟩ := v.evalOpen_leaves i
    rw [← htv] at h1 h2 h3 h4 h5 h6 h7 h8 h9 h10 h11
    have hvocc : r.posture = .closed → (v.segment i).occupied = r'.occupiedNow := fun hc => by
      rw [hvsegment]
      exact if_pos ⟨fun hs => hun hs.2, hc⟩
    have hposture : (s.setCount i r').openPosture i = v.openPosture i :=
      State.openPosture_congr h3 (exceptBarriers_of_exceptSegments h11)
    have hclosed (hc : ¬(r.posture = .opened ∨ r.posture = .caution)) : s.setCount i r' = v := h7 (by rwa [hvpost])
    refine ⟨?_, hreports, ?_, fun hc _ => ?_, fun hs => absurd hs hun, fun hne => h8 (by rwa [hvpost]), fun hne => ?_,
      fun j hj => (h10 j hj).trans (hvother j hj), h11.trans hvframe⟩
    · rw [h1, h2, h3, h4, h5, hvsegment]
      exact ⟨rfl, rfl, rfl, h.causes, h.cfg⟩
    · rw [h6, hvpost, hposture]
      exact if_congr (by simp [hun]) rfl rfl
    · rw [hclosed (by simp [hc])]
      exact hvocc hc
    · by_cases ho : r.posture = .opened ∨ r.posture = .caution
      · refine h9 ?_
        rw [hvsegment]
        have hn : ¬(¬(r.occupancy = r'.occupancy ∧ r.uncertain = r'.uncertain) ∧ r.posture = .closed) := fun hx => by
          rcases ho with ho | ho <;> simp [ho] at hx
        rw [if_neg hn]
        rwa [h.occupied]
      · rw [hclosed ho] at hne ⊢
        exact hvoccupied hne

/-- A count that is as it was changes nothing. -/
theorem State.setCount_same (s : State) (i : Fin 4) : s.setCount i (s.segment i) = s := by
  unfold State.setCount
  simp [countFlags, State.postIf]

end Sys2Proof.Machine
end

section
/-! PROOF. SET_SEGMENT and ADJUST_COUNT (R17, R20). -/

namespace Sys2Proof.Machine

theorem State.setTimes_exceptBarriers (s : State) (i : Fin 4) (l c : Nat) : (s.setTimes i l c).exceptBarriers = s.exceptBarriers :=
  (State.endLead_exceptBarriers _ i).trans ((State.timeoutConfirm_exceptBarriers _ i).trans rfl)

/-- A segment that has just gone past CONFIRM does not end LEAD: its timer stands at 0, the lead time does not. -/
theorem State.pastConfirm.endLead {t : State} {i : Fin 4} (h : t.pastConfirm i) : t.endLead i = t := if_neg fun hover => by
  obtain ⟨hphase, htime⟩ : (t.segment i).phase = .lead ∧ (t.segment i).cfg.lead ≤ (t.segment i).phaseTimer := by
    simpa [Segment.leadOver] using hover
  unfold State.pastConfirm at h
  split at h
  · rcases h with h | h <;> simp [h] at hphase
  · rename_i hlead
    exact hlead (.inl (by omega))

/-! ### The two new times (R17) -/

section
variable {s : State} {i : Fin 4} {l c : Nat}

/-- The segment with the new times written, and the report of it. -/
def State.timed (s : State) (i : Fin 4) (l c : Nat) : State := s.setSegment i { s.segment i with cfg := { lead := l, confirm := c } }

theorem State.timed_segment : (s.timed i l c).segment i = { s.segment i with cfg := { lead := l, confirm := c } } :=
  State.setSegment_segment_same ..

theorem State.timed_other {j : Fin 4} (hj : j ≠ i) : (s.timed i l c).segment j = s.segment j := State.setSegment_segment_other _ _ _ _ hj

theorem State.setTimes_eq : s.setTimes i l c = (((s.timed i l c).post (.segment i) Flag.segConfig).timeoutConfirm i).endLead i := rfl

theorem State.timed_confirmOver : (((s.timed i l c).post (.segment i) Flag.segConfig).segment i).confirmOver = true ↔
    (s.segment i).phase = .confirm ∧ (if (s.segment i).pathLimit then 32 else c) ≤ (s.segment i).phaseTimer := by
  show ((s.timed i l c).segment i).confirmOver = true ↔ _
  rw [State.timed_segment]
  simp [Segment.confirmOver, Segment.confirmLimit]

theorem State.timed_leadOver : (((s.timed i l c).post (.segment i) Flag.segConfig).segment i).leadOver = true ↔
    (s.segment i).phase = .lead ∧ l ≤ (s.segment i).phaseTimer := by
  show ((s.timed i l c).segment i).leadOver = true ↔ _
  rw [State.timed_segment]
  simp [Segment.leadOver]

theorem State.setTimes_running (hc : ¬((s.segment i).phase = .confirm ∧ (if (s.segment i).pathLimit then 32 else c) ≤ (s.segment i).phaseTimer))
    (hl : ¬((s.segment i).phase = .lead ∧ l ≤ (s.segment i).phaseTimer)) :
    s.setTimes i l c = (s.timed i l c).post (.segment i) Flag.segConfig := by
  rw [State.setTimes_eq, State.timeoutConfirm, if_neg (mt State.timed_confirmOver.1 hc)]
  exact if_neg (mt State.timed_leadOver.1 hl)

theorem State.setTimes_timedOut (hc : (s.segment i).phase = .confirm ∧ (if (s.segment i).pathLimit then 32 else c) ≤ (s.segment i).phaseTimer) :
    let t := s.setTimes i l c
    t.pastConfirm i ∧ (t.segment i).causes = (s.segment i).causes ∧ (t.segment i).cfg = { lead := l, confirm := c } ∧
      (t.segment i).confirmMissing = true ∧ (∀ j : Fin 4, j ≠ i → t.segment j = s.segment j) ∧
      t.reported (.segment i) (Flag.segConfig ||| Flag.segConfirmMissing ||| Flag.segPosture) := by
  dsimp only
  have hphase : ((s.timed i l c).segment i).phase = .confirm := (congrArg Segment.phase State.timed_segment :).trans hc.1
  obtain ⟨hpast, hcauses, hcfg, hmissing, hother, hrep⟩ := State.confirmMissing_leaves hphase (Flag.segConfig ||| Flag.segConfirmMissing)
  have heq : ((s.timed i l c).post (.segment i) Flag.segConfig).timeoutConfirm i =
      (((s.timed i l c).setSegment i { (s.timed i l c).segment i with confirmMissing := true }).post (.segment i)
        (Flag.segConfig ||| Flag.segConfirmMissing)).endConfirm i := by
    rw [State.timeoutConfirm, if_pos (State.timed_confirmOver.2 hc), ← State.post_post]
    rfl
  rw [State.setTimes_eq, heq, hpast.endLead]
  exact ⟨hpast, hcauses.trans (congrArg Segment.causes State.timed_segment :), hcfg.trans (congrArg Segment.cfg State.timed_segment :), hmissing,
    fun j hj => (hother j hj).trans (State.timed_other hj), hrep⟩

theorem State.setTimes_ended (hl : (s.segment i).phase = .lead ∧ l ≤ (s.segment i).phaseTimer) :
    let t := s.setTimes i l c
    t.lowered i ∧ (t.segment i).causes = (s.segment i).causes ∧ (t.segment i).cfg = { lead := l, confirm := c } ∧
      (t.segment i).confirmMissing = (s.segment i).confirmMissing ∧ (∀ j : Fin 4, j ≠ i → t.segment j = s.segment j) ∧
      t.reported (.segment i) (Flag.segConfig ||| Flag.segPosture) := by
  dsimp only
  have heq : s.setTimes i l c = ((s.timed i l c).post (.segment i) Flag.segConfig).enterLower i := by
    rw [State.setTimes_eq, State.timeoutConfirm, if_neg (mt State.timed_confirmOver.1 fun h => by simp [hl.1] at h)]
    exact if_pos (State.timed_leadOver.2 hl)
  have hne : ¬(((s.timed i l c).segment i).posture = .closing ∧ ((s.timed i l c).segment i).phase = .lower) := by
    rw [State.timed_segment]
    simp [hl.1]
  obtain ⟨hlowering, -, -, hother⟩ := ((s.timed i l c).post (.segment i) Flag.segConfig).enterLower_leaves i hne
  obtain ⟨hcauses, hcfg, hmissing⟩ := hlowering.keeps
  rw [heq]
  exact ⟨hlowering.lowered, hcauses.trans (congrArg Segment.causes State.timed_segment :), hcfg.trans (congrArg Segment.cfg State.timed_segment :),
    hmissing.trans (congrArg Segment.confirmMissing State.timed_segment :), fun j hj => (hother j hj).trans (State.timed_other hj),
    State.enterLower_reported_after Flag.segConfig hne⟩

end

/-! ### ADJUST_COUNT (R20) -/

theorem State.answered_exceptSegments {s t : State} (h : t.exceptSegments = s.exceptSegments) (k tag : Byte) (o : OutcomeCode)
    (d : List Byte) : (t.answered k tag o d).exceptSegments = (s.answered k tag o d).exceptSegments :=
  congrArg (fun v : State => v.answered k tag o d) h

/-- The record ADJUST_COUNT writes. -/
def Segment.adjusted (r : Segment) (k : Nat) : Segment := { r with occupancy := k, drift := false, uncertain := false }

theorem Segment.adjusted_same (r : Segment) (k : Nat) : r.SameButCount (r.adjusted k) := ⟨rfl, rfl, rfl, rfl, rfl⟩

theorem Segment.adjusted_self {r : Segment} (hd : r.drift = false) (hu : r.uncertain = false) : r.adjusted r.occupancy = r := by
  unfold Segment.adjusted
  cases r
  simp_all

/-- Settles O10. -/
theorem segmentSettingsApply : Obligations.SegmentSettingsApply := by
  unfold Obligations.SegmentSettingsApply
  refine ⟨fun tag segment lead confirm i s h hi => ?_, fun tag segment count i s h hi => ?_⟩
  · intro l c r timedOut ended data
    have hl : clampNat 0 4800 lead.toNat = l := by simp only [clampNat, l]; omega
    have hc : clampNat 40 960 confirm.toNat = c := rfl
    have happly : s.applyRequest (.setSegment tag segment lead confirm) = accept data (s.setTimes i l c) := by
      show s.applySetSegment segment lead confirm = _
      rw [State.applySetSegment, segmentOf_of_toNat hi]
      dsimp only
      rw [hl, hc]
      rfl
    have hframe := s.setTimes_exceptBarriers i l c
    have hexec := exec_accepted (k := .setSegment) rfl h happly (State.signs_of_exceptBarriers hframe) (State.lines_of_exceptBarriers hframe)
    refine ⟨fun hn he => ?_, fun hor => ⟨_, hexec, ?_⟩⟩
    · rw [hexec, State.setTimes_running hn he]
      rfl
    · refine hor.elim (fun ht => ?_) fun he => ?_
      · obtain ⟨hpast, hcauses, hcfg, hmissing, hother, hrep⟩ := State.setTimes_timedOut (s := s) (i := i) (l := l) (c := c) ht
        generalize s.setTimes i l c = t at *
        exact ⟨hcfg, hcauses, fun _ => ⟨hpast, hmissing, hrep⟩, fun he => absurd (ht.1.symm.trans he.1) (by decide), hother,
          State.answered_exceptBarriers hframe ..⟩
      · obtain ⟨hlowered, hcauses, hcfg, hmissing, hother, hrep⟩ := State.setTimes_ended (s := s) (i := i) (l := l) (c := c) he
        generalize s.setTimes i l c = t at *
        exact ⟨hcfg, hcauses, fun ht => absurd (ht.1.symm.trans he.1) (by decide), fun _ => ⟨hlowered, hmissing, hrep⟩, hother,
          State.answered_exceptBarriers hframe ..⟩
  · intro k r
    have hk : clampNat 0 999 count.toNat = k := by simp only [clampNat, k]; omega
    have happly : s.applyRequest (.adjustCount tag segment count) = accept (u16 k) (s.setCount i (r.adjusted k)) := by
      show s.applyAdjustCount segment count = _
      rw [State.applyAdjustCount, segmentOf_of_toNat hi]
      dsimp only
      rw [hk]
      rfl
    obtain ⟨⟨hcount, hdrift, huncertain, hcauses, hcfg⟩, ⟨hrcount, hrdrift, hruncertain⟩, hposture, hoccupied, -, hrposture, hroccupied,
      hother, hframe⟩ := State.setCount_leaves (s := s) (r.adjusted_same k)
    have hbarriers := exceptBarriers_of_exceptSegments hframe
    have hexec := exec_accepted (k := .adjustCount) rfl h happly (State.signs_of_exceptBarriers hbarriers)
      (State.lines_of_exceptBarriers hbarriers)
    have hne {b : Bool} (hb : b = true) : b ≠ false := by simp [hb]
    have hiff : r.uncertain ≠ (r.adjusted k).uncertain ↔ r.uncertain = true := by simp [Segment.adjusted]
    have hsame (hk0 : k = r.occupancy) (hd : r.drift = false) (hu : r.uncertain = false) : s.setCount i (r.adjusted k) = s := by
      rw [hk0, Segment.adjusted_self hd hu, State.setCount_same]
    refine ⟨_, hexec, ?_⟩
    generalize s.setCount i (r.adjusted k) = t at *
    refine ⟨hcount, hdrift, huncertain, hcauses, hcfg, fun hn => hrcount (Ne.symm hn), fun hd => hrdrift (hne hd),
      fun hu => hruncertain (hne hu), hposture.trans (if_congr (and_congr_right fun _ => hiff) rfl rfl), fun hp hor => ?_, hrposture,
      hroccupied, fun hk0 hd hu => congrArg (fun v : State => v.answered 0x13 tag .ok (u16 k)) (hsame hk0 hd hu), hother,
      State.answered_exceptSegments hframe ..⟩
    exact (hoccupied hp (hor.imp Ne.symm hiff.2)).trans (Bool.or_false _)

end Sys2Proof.Machine
end

section
/-! PROOF. Loop pairs: what a vehicle that crosses and a loop that is stuck leave of the segments at the boundary (R15, R85 to R89). -/

namespace Sys2Proof.Machine

/-! ### Due events that reach neither signs nor lines -/

theorem State.runEvent_unsigned {s : State} {d : Due} (hd : d ∈ s.due) (hc : d.isChannel = false) (hs : d ≠ .sampling) (hcalm : s.calm)
    (hsigns : (State.applyDue { s with due := s.due.erase d } d).signs = s.signs)
    (hlines : (State.applyDue { s with due := s.due.erase d } d).lines = s.lines) :
    s.runEvent d = State.applyDue { s with due := s.due.erase d } d := by
  have htake : s.takeEvent d = State.applyDue { s with due := s.due.erase d } d := by
    unfold State.takeEvent
    rw [if_neg (by simp [hc]), if_neg hs]
    rfl
  unfold State.runEvent
  rw [if_pos (by simpa using hd), htake]
  exact State.conclude_of_calm _ _ hsigns ((State.calm_of_lines _ _ hlines).2 hcalm)

theorem exec_stuck (u : Fin 12) (s : State) : exec (.stuck u) s = .next (s.runEvent (.stuck u)) := rfl

theorem exec_stuckLeft (u : Fin 12) (s : State) : exec (.stuckLeft u) s = .next (s.runEvent (.stuckLeft u)) := rfl

/-! ### One side of a boundary -/

/-- The record with UNCERTAIN set. -/
def Segment.doubted (r : Segment) : Segment := { r with uncertain := true }

theorem Segment.doubted_same (r : Segment) : r.SameButCount r.doubted := ⟨rfl, rfl, rfl, rfl, rfl⟩

theorem Segment.doubted_self {r : Segment} (h : r.uncertain = true) : r.doubted = r := by
  unfold Segment.doubted
  rw [← h]

theorem State.setCount_frame {s : State} {i : Fin 4} {r' : Segment} (h : (s.segment i).SameButCount r') :
    (∀ j : Fin 4, j ≠ i → (s.setCount i r').segment j = s.segment j) ∧ (s.setCount i r').exceptSegments = s.exceptSegments := by
  obtain ⟨-, -, -, -, -, -, -, hother, hframe⟩ := State.setCount_leaves h
  exact ⟨hother, hframe⟩

/-- The segment a boundary side names. -/
theorem side_cases (side : Fin 5) : side.val = 0 ∨ ∃ k : Fin 4, k.val + 1 = side.val := by
  by_cases h : side.val = 0
  · exact .inl h
  · exact .inr ⟨⟨side.val - 1, by omega⟩, by simp; omega⟩

theorem State.setUncertain_of {s : State} {side : Fin 5} {k : Fin 4} (h : k.val + 1 = side.val) :
    s.setUncertain side = s.setCount k (s.segment k).doubted := by
  obtain rfl : side = ⟨k.val + 1, Nat.succ_lt_succ k.isLt⟩ := Fin.ext h.symm
  exact dif_neg (by simp)

theorem State.moveVehicle_of {s : State} {side : Fin 5} {k : Fin 4} {e : Bool} (h : k.val + 1 = side.val) :
    s.moveVehicle side e = s.setCount k ((s.segment k).moved e) := by
  obtain rfl : side = ⟨k.val + 1, Nat.succ_lt_succ k.isLt⟩ := Fin.ext h.symm
  exact dif_neg (by simp)

theorem State.setUncertain_outside {s : State} {side : Fin 5} (h : side.val = 0) : s.setUncertain side = s := dif_pos h

theorem State.moveVehicle_outside {s : State} {side : Fin 5} {e : Bool} (h : side.val = 0) : s.moveVehicle side e = s := dif_pos h

theorem State.setUncertain_keeps {s : State} {side : Fin 5} {o : Obj} {f : BitVec 16} (h : s.reported o f) :
    (s.setUncertain side).reported o f := by
  rcases side_cases side with h0 | ⟨k, hk⟩
  · rwa [State.setUncertain_outside h0]
  · rw [State.setUncertain_of hk]
    exact State.setCount_keeps h

theorem State.moveVehicle_keeps {s : State} {side : Fin 5} {e : Bool} {o : Obj} {f : BitVec 16} (h : s.reported o f) :
    (s.moveVehicle side e).reported o f := by
  rcases side_cases side with h0 | ⟨k, hk⟩
  · rwa [State.moveVehicle_outside h0]
  · rw [State.moveVehicle_of hk]
    exact State.setCount_keeps h

/-! ### UNCERTAIN of a side (R15, R88) -/

/-- A segment that has become UNCERTAIN, with what that brings on. -/
structure State.Doubted (s t : State) (k : Fin 4) : Prop where
  occupancy : (t.segment k).occupancy = (s.segment k).occupancy
  causes : (t.segment k).causes = (s.segment k).causes
  uncertain : (t.segment k).uncertain = true
  reported : (s.segment k).uncertain = false → t.reported (.segment k) Flag.segUncertain
  caution : (s.segment k).uncertain = false → (s.segment k).posture = .opened →
    (t.segment k).posture = .caution ∧ t.reported (.segment k) Flag.segPosture
  occupied : (s.segment k).uncertain = false → (s.segment k).posture = .closed → (t.segment k).occupied = true

theorem State.openPosture_uncertain {s : State} {i : Fin 4} (h : (s.segment i).uncertain = true) : s.openPosture i = .caution := by
  simp [State.openPosture, State.cautioned, h]

theorem State.setCount_doubts (s : State) (k : Fin 4) : s.Doubted (s.setCount k (s.segment k).doubted) k := by
  by_cases hu : (s.segment k).uncertain = true
  · have heq : s.setCount k (s.segment k).doubted = s := by
      rw [Segment.doubted_self hu, s.setCount_same k]
    rw [heq]
    have hn {p : Prop} (h : (s.segment k).uncertain = false) : p := by simp [hu] at h
    exact ⟨rfl, rfl, hu, hn, hn, hn⟩
  · obtain ⟨⟨hcount, -, huncertain, hcauses, -⟩, ⟨-, -, hreported⟩, hposture, hoccupied, -, hrposture, -⟩ :=
      State.setCount_leaves (s.segment k).doubted_same
    have hcaution := State.openPosture_uncertain huncertain
    refine ⟨hcount, hcauses, huncertain, fun _ => hreported hu, fun _ ho => ?_, fun _ hc => (hoccupied hc (.inr hu)).trans (Bool.or_true _)⟩
    have hbecomes := hposture.trans ((if_pos ⟨.inl ho, hu⟩).trans hcaution)
    exact ⟨hbecomes, hrposture (by rw [hbecomes, ho]; decide)⟩

theorem State.setUncertain_other {s : State} {side : Fin 5} {k : Fin 4} (hk : k.val + 1 ≠ side.val) :
    (s.setUncertain side).segment k = s.segment k := by
  rcases side_cases side with h0 | ⟨j, hj⟩
  · rw [State.setUncertain_outside h0]
  · rw [State.setUncertain_of hj]
    exact (State.setCount_frame (Segment.doubted_same _)).1 k fun h => hk (h ▸ hj)

theorem State.setUncertain_exceptSegments (s : State) (side : Fin 5) : (s.setUncertain side).exceptSegments = s.exceptSegments := by
  rcases side_cases side with h0 | ⟨j, hj⟩
  · rw [State.setUncertain_outside h0]
  · rw [State.setUncertain_of hj]
    exact (State.setCount_frame (Segment.doubted_same _)).2

/-- A segment already doubted stays so when the other side is set. -/
theorem State.Doubted.then {s t : State} {k : Fin 4} (h : s.Doubted t k) (side : Fin 5) : s.Doubted (t.setUncertain side) k := by
  have hsame : (t.setUncertain side).segment k = t.segment k := by
    by_cases hk : k.val + 1 = side.val
    · rw [State.setUncertain_of hk]
      rw [Segment.doubted_self h.uncertain, t.setCount_same k]
    · exact State.setUncertain_other hk
  obtain ⟨hcount, hcauses, huncertain, hreported, hcaution, hoccupied⟩ := h
  refine ⟨?_, ?_, ?_, fun hu => State.setUncertain_keeps (hreported hu), fun hu ho => ⟨?_, State.setUncertain_keeps (hcaution hu ho).2⟩,
    fun hu hc => ?_⟩ <;> rw [hsame]
  · exact hcount
  · exact hcauses
  · exact huncertain
  · exact (hcaution hu ho).1
  · exact hoccupied hu hc

theorem State.Doubted.of_segment {s v t : State} {k : Fin 4} (h : v.Doubted t k) (hs : v.segment k = s.segment k) : s.Doubted t k := by
  obtain ⟨hcount, hcauses, huncertain, hreported, hcaution, hoccupied⟩ := h
  rw [hs] at *
  exact ⟨hcount, hcauses, huncertain, hreported, hcaution, hoccupied⟩

theorem State.setUncertain_sides (s : State) (a b : Fin 5) (k : Fin 4) (hk : k.val + 1 = a.val ∨ k.val + 1 = b.val) :
    s.Doubted ((s.setUncertain a).setUncertain b) k := by
  by_cases ha : k.val + 1 = a.val
  · refine State.Doubted.then ?_ b
    rw [State.setUncertain_of ha]
    exact s.setCount_doubts k
  · rw [State.setUncertain_of (hk.resolve_left ha)]
    exact ((s.setUncertain a).setCount_doubts k).of_segment (State.setUncertain_other ha)

/-- Settles O35. -/
theorem stuckLoopSetsUncertain : Obligations.StuckLoopSetsUncertain := by
  unfold Obligations.StuckLoopSetsUncertain
  intro u src dst s hcalm hcfg c
  refine ⟨fun hd hstuck hticks => ?_, fun hd hstuck hticks => ?_⟩
  · set v : State := (State.setCounter { s with due := s.due.erase (.stuck u) } u
      { c with stuck := true, crossing := .idle, clearTicks := 0 }).post (.counter u) Flag.ctrStuck with hv
    have hbecomes : c.becomesStuck = true := by
      simp only [Counter.becomesStuck, c, hcfg, hstuck] at hticks ⊢
      simpa using hticks
    have happly : State.applyDue { s with due := s.due.erase (.stuck u) } (.stuck u) = (v.setUncertain src).setUncertain dst := by
      show State.becomeStuck { s with due := s.due.erase (.stuck u) } u = _
      unfold State.becomeStuck
      refine (if_pos hbecomes).trans ?_
      show (match c.cfg.boundary with | some (src, dst) => _ | none => _) = _
      rw [hcfg] <;> rfl
    have hframe : ((v.setUncertain src).setUncertain dst).exceptSegments = v.exceptSegments :=
      (State.setUncertain_exceptSegments ..).trans (State.setUncertain_exceptSegments ..)
    have hkeeps : ((v.setUncertain src).setUncertain dst).reported (.counter u) Flag.ctrStuck :=
      State.setUncertain_keeps (State.setUncertain_keeps (State.post_reported ..))
    have hsides := v.setUncertain_sides src dst
    have hothers (k : Fin 4) (h1 : k.val + 1 ≠ src.val) (h2 : k.val + 1 ≠ dst.val) :
        ((v.setUncertain src).setUncertain dst).segment k = v.segment k :=
      (State.setUncertain_other h2).trans (State.setUncertain_other h1)
    generalize (v.setUncertain src).setUncertain dst = t at *
    have hcounters : t.counters = v.counters := (congrArg State.counters hframe :)
    have hrun := State.runEvent_unsigned hd rfl (by simp) hcalm (by rw [happly]; exact (congrArg State.signs hframe :).trans rfl)
      (by rw [happly]; exact (congrArg State.lines hframe :).trans rfl)
    refine ⟨t, (exec_stuck u s).trans (congrArg _ (hrun.trans happly)), hcounters.trans rfl, hkeeps, fun k => ⟨?_, ?_, fun hk => ?_, hothers k⟩,
      (congrArg (fun x : State => { x with counters := s.counters, due := s.due }) hframe).trans rfl⟩
    · by_cases hk : k.val + 1 = src.val ∨ k.val + 1 = dst.val
      · exact (hsides k hk).occupancy
      · exact congrArg Segment.occupancy (hothers k (fun h => hk (.inl h)) fun h => hk (.inr h))
    · by_cases hk : k.val + 1 = src.val ∨ k.val + 1 = dst.val
      · exact (hsides k hk).causes
      · exact congrArg Segment.causes (hothers k (fun h => hk (.inl h)) fun h => hk (.inr h))
    · have h := hsides k hk
      exact ⟨h.uncertain, h.reported, h.caution, h.occupied⟩
  · have hleaves : c.leavesStuck = true := by
      simp [Counter.leavesStuck, c, hcfg, hstuck, hticks]
    have happly : State.applyDue { s with due := s.due.erase (.stuckLeft u) } (.stuckLeft u) =
        (State.setCounter { s with due := s.due.erase (.stuckLeft u) } u
          { c with stuck := false, crossing := .idle, aOnTicks := 0, bOnTicks := 0, clearTicks := 0 }).post (.counter u) Flag.ctrStuck :=
      if_pos hleaves
    rw [exec_stuckLeft, State.runEvent_unsigned hd rfl (by simp) hcalm (by rw [happly]; rfl) (by rw [happly]; rfl), happly]

/-! ### A vehicle that crosses (R86, R87) -/

theorem Segment.moved_same (e : Bool) (r : Segment) : r.SameButCount (r.moved e) := by
  unfold Segment.moved
  split <;> split <;> exact ⟨rfl, rfl, rfl, rfl, rfl⟩

theorem Segment.moved_uncertain (e : Bool) (r : Segment) : (r.moved e).uncertain = r.uncertain := by
  unfold Segment.moved
  split <;> split <;> rfl

theorem Segment.moved_out (r : Segment) :
    (r.moved false).occupancy = r.occupancy - 1 ∧ (r.moved false).drift = (r.drift || r.occupancy == 0) := by
  by_cases h : 0 < r.occupancy
  · have heq : r.moved false = { r with occupancy := r.occupancy - 1 } := if_pos h
    rw [heq]
    exact ⟨rfl, by simp; omega⟩
  · have heq : r.moved false = { r with drift := true } := if_neg h
    rw [heq]
    exact ⟨by simp; omega, by simp; omega⟩

theorem Segment.moved_in (r : Segment) :
    (r.occupancy < 999 → (r.moved true).occupancy = r.occupancy + 1 ∧ (r.moved true).drift = r.drift) ∧
      (r.occupancy = 999 → (r.moved true).occupancy = 999 ∧ (r.moved true).drift = true) := by
  refine ⟨fun h => ?_, fun h => ?_⟩
  · have heq : r.moved true = { r with occupancy := r.occupancy + 1 } := if_pos h
    rw [heq]
    exact ⟨rfl, rfl⟩
  · have hn : ¬r.occupancy < 999 := by omega
    have heq : r.moved true = { r with drift := true } := if_neg hn
    rw [heq]
    exact ⟨h, rfl⟩

/-- A segment that a vehicle has left or entered. -/
structure State.Moves (s t : State) (k : Fin 4) (e : Bool) : Prop where
  occupancy : (t.segment k).occupancy = ((s.segment k).moved e).occupancy
  drift : (t.segment k).drift = ((s.segment k).moved e).drift
  posture : (t.segment k).posture = (s.segment k).posture
  causes : (t.segment k).causes = (s.segment k).causes
  reported : (t.segment k).occupancy ≠ (s.segment k).occupancy → t.reported (.segment k) Flag.segCount
  occupied : (t.segment k).occupied = if (s.segment k).posture = .closed ∧ (t.segment k).occupancy ≠ (s.segment k).occupancy then
    decide (0 < (t.segment k).occupancy) || (s.segment k).uncertain else (s.segment k).occupied

theorem State.moveVehicle_moves {s : State} {side : Fin 5} {k : Fin 4} (e : Bool) (hk : k.val + 1 = side.val) :
    s.Moves (s.moveVehicle side e) k e := by
  have hmoved := (s.segment k).moved_uncertain e
  obtain ⟨⟨hcount, hdrift, -, hcauses, -⟩, ⟨hreported, -⟩, hposture, -, hoccupied, -⟩ :=
    State.setCount_leaves ((s.segment k).moved_same e)
  rw [State.moveVehicle_of hk]
  refine ⟨hcount, hdrift, hposture.trans (if_neg fun h => h.2 hmoved.symm), hcauses, fun hne => hreported ?_, ?_⟩
  · rw [hcount] at hne
    exact Ne.symm hne
  · refine (hoccupied hmoved.symm).trans (if_congr (by rw [hcount, ne_comm]) ?_ rfl)
    rw [Segment.occupiedNow, hmoved, hcount]

theorem State.moveVehicle_other {s : State} {side : Fin 5} {k : Fin 4} {e : Bool} (hk : k.val + 1 ≠ side.val) :
    (s.moveVehicle side e).segment k = s.segment k := by
  rcases side_cases side with h0 | ⟨j, hj⟩
  · rw [State.moveVehicle_outside h0]
  · rw [State.moveVehicle_of hj]
    exact (State.setCount_frame (Segment.moved_same _ _)).1 k fun h => hk (h ▸ hj)

theorem State.moveVehicle_exceptSegments (s : State) (side : Fin 5) (e : Bool) : (s.moveVehicle side e).exceptSegments = s.exceptSegments := by
  rcases side_cases side with h0 | ⟨j, hj⟩
  · rw [State.moveVehicle_outside h0]
  · rw [State.moveVehicle_of hj]
    exact (State.setCount_frame (Segment.moved_same _ _)).2

theorem State.Moves.of_segment {s v t : State} {k : Fin 4} {e : Bool} (h : v.Moves t k e) (hs : v.segment k = s.segment k) : s.Moves t k e := by
  obtain ⟨hcount, hdrift, hposture, hcauses, hreported, hoccupied⟩ := h
  rw [hs] at *
  exact ⟨hcount, hdrift, hposture, hcauses, hreported, hoccupied⟩

theorem State.Moves.then {s t : State} {k : Fin 4} {e e' : Bool} {side : Fin 5} (h : s.Moves t k e) (hk : k.val + 1 ≠ side.val) :
    s.Moves (t.moveVehicle side e') k e := by
  have hsame : (t.moveVehicle side e').segment k = t.segment k := State.moveVehicle_other hk
  obtain ⟨hcount, hdrift, hposture, hcauses, hreported, hoccupied⟩ := h
  refine ⟨?_, ?_, ?_, ?_, fun hne => State.moveVehicle_keeps (hreported ?_), ?_⟩ <;> rw [hsame] at *
  · exact hcount
  · exact hdrift
  · exact hposture
  · exact hcauses
  · exact hne
  · exact hoccupied

theorem State.occupied_unmoved {s t : State} {k : Fin 4} (h : t.segment k = s.segment k) :
    (t.segment k).occupied = if (s.segment k).posture = .closed ∧ (t.segment k).occupancy ≠ (s.segment k).occupancy then
      decide (0 < (t.segment k).occupancy) || (s.segment k).uncertain else (s.segment k).occupied := by
  rw [h]
  exact (if_neg fun h => h.2 rfl).symm

/-! ### The changes of a loop pair (R85) -/

/-- The change of levels is this one single change. -/
def Counter.changes (c : Counter) (a b : Bool) (ch : LoopChange) : Prop :=
  changeOf c.codeA c.codeB a b = some ch ∧ (c.codeA ≠ a ∨ c.codeB ≠ b) ∧ (c.codeA != a && c.codeB != b) = false

section
variable {c : Counter} {a b : Bool}

theorem Counter.changes_aOn (h : c.codeA = false ∧ a = true ∧ c.codeB = b) : c.changes a b .aOn := by
  obtain ⟨ha, rfl, rfl⟩ := h
  simp [Counter.changes, changeOf, ha]

theorem Counter.changes_aOff (h : c.codeA = true ∧ a = false ∧ c.codeB = b) : c.changes a b .aOff := by
  obtain ⟨ha, rfl, rfl⟩ := h
  simp [Counter.changes, changeOf, ha]

theorem Counter.changes_bOn (h : c.codeB = false ∧ b = true ∧ c.codeA = a) : c.changes a b .bOn := by
  obtain ⟨hb, rfl, rfl⟩ := h
  simp [Counter.changes, changeOf, hb]

theorem Counter.changes_bOff (h : c.codeB = true ∧ b = false ∧ c.codeA = a) : c.changes a b .bOff := by
  obtain ⟨hb, rfl, rfl⟩ := h
  simp [Counter.changes, changeOf, hb]

end

/-- The unit with its new code taken. -/
def Counter.coded (c : Counter) (a b : Bool) : Counter := { c with codeA := a, codeB := b }

section
variable {s : State} {u : Fin 12} {a b : Bool} {ch : LoopChange}

theorem State.observe_single (hm : (s.counter u).cfg.mode = .loopPair) (hstuck : (s.counter u).stuck = false)
    (hch : (s.counter u).changes a b ch) : s.observe u a b = (s.setCounter u ((s.counter u).coded a b)).loopChange u ch := by
  obtain ⟨hchange, hne, hsingle⟩ := hch
  rw [State.observe_changed hne, hm]
  refine (if_neg (by simp [hstuck])).trans ((if_neg (by simp [hsingle])).trans ?_)
  rw [hchange]
  rfl

/-- A change that completes no crossing only moves the crossing state. -/
theorem State.loopChange_moves {c : Counter} {v : Crossing} (h : c.crossing.next ch = (v, none)) :
    (s.setCounter u c).loopChange u ch = s.setCounter u { c with crossing := v } := by
  simp only [State.loopChange, State.updCounter, State.setCounter_counter_same, State.setCounter_setCounter, h]

theorem State.loopChange_crosses {c : Counter} {forward : Bool} {src dst : Fin 5} (h : c.crossing.next ch = (.idle, some forward))
    (hb : c.cfg.boundary = some (src, dst)) :
    (s.setCounter u c).loopChange u ch =
      (((s.setCounter u { c with crossing := .idle, count := bumpCount forward c.count }).post (.counter u) Flag.ctrCrossing).moveVehicle
        (if forward then src else dst) false).moveVehicle (if forward then dst else src) true := by
  simp only [State.loopChange, State.updCounter, State.setCounter_counter_same, State.setCounter_setCounter, h, State.cross, hb]
  cases forward <;> rfl

end

theorem State.updCounter_setCounter (s : State) (u : Fin 12) (c : Counter) (f : Counter → Counter) :
    (s.setCounter u c).updCounter u f = s.setCounter u (f c) := by
  rw [State.updCounter, State.setCounter_counter_same, State.setCounter_setCounter]

theorem State.updCounter_post_counter (s : State) (u : Fin 12) (c : Counter) (g : BitVec 16) (f : Counter → Counter) :
    ((s.setCounter u c).post (.counter u) g).updCounter u f = (s.setCounter u (f c)).post (.counter u) g := by
  rw [← State.updCounter_setCounter s u c f]
  rfl

/-- What a completed crossing leaves (R86, R87). -/
theorem State.crossing_leaves (s : State) (u : Fin 12) (c : Counter) (src dst : Fin 5) :
    let v := (s.setCounter u c).post (.counter u) Flag.ctrCrossing
    let t := (v.moveVehicle src false).moveVehicle dst true
    t.counters = s.counters.set u c ∧ t.reported (.counter u) Flag.ctrCrossing ∧
      (∀ k : Fin 4, k.val + 1 = src.val → src ≠ dst → s.Moves t k false) ∧
      (∀ k : Fin 4, k.val + 1 = dst.val → src ≠ dst → s.Moves t k true) ∧
      (∀ k : Fin 4, k.val + 1 ≠ src.val → k.val + 1 ≠ dst.val → t.segment k = s.segment k) ∧
      t.signs = s.signs ∧ t.lines = s.lines ∧ { t.exceptSegments with counters := s.counters } = s.exceptSegments := by
  intro v t
  have hframe : t.exceptSegments = v.exceptSegments := (State.moveVehicle_exceptSegments ..).trans (State.moveVehicle_exceptSegments ..)
  have hkeeps : t.reported (.counter u) Flag.ctrCrossing := State.moveVehicle_keeps (State.moveVehicle_keeps (State.post_reported ..))
  have hout (k : Fin 4) (hk : k.val + 1 = src.val) (hne : src ≠ dst) : v.Moves t k false :=
    (State.moveVehicle_moves false hk).then fun h => hne (Fin.ext (hk.symm.trans h))
  have hin (k : Fin 4) (hk : k.val + 1 = dst.val) (hne : src ≠ dst) : v.Moves t k true :=
    (State.moveVehicle_moves true hk).of_segment (State.moveVehicle_other fun h => hne (Fin.ext (h.symm.trans hk)))
  have hother (k : Fin 4) (h1 : k.val + 1 ≠ src.val) (h2 : k.val + 1 ≠ dst.val) : t.segment k = v.segment k :=
    (State.moveVehicle_other h2).trans (State.moveVehicle_other h1)
  generalize t = t' at *
  exact ⟨(congrArg State.counters hframe :).trans rfl, hkeeps, fun k hk hne => (hout k hk hne).of_segment rfl,
    fun k hk hne => (hin k hk hne).of_segment rfl, fun k h1 h2 => (hother k h1 h2).trans rfl, (congrArg State.signs hframe :).trans rfl,
    (congrArg State.lines hframe :).trans rfl, (congrArg (fun x : State => { x with counters := s.counters }) hframe).trans rfl⟩

/-- Settles O34: the code taken, and then by the unit's state and the change. -/
theorem loopChangeCountsCrossing : Obligations.LoopChangeCountsCrossing := by
  unfold Obligations.LoopChangeCountsCrossing
  intro u a b src dst s hset
  have hc := exec_loopInputChange u a b s
  refine ⟨fun hm => exec_settled hc hset (State.observe_off a b hm) rfl rfl, fun hm ha hb => ?_, fun hm hcfg => ?_⟩
  · subst ha hb
    exact exec_settled hc hset (s.observe_unchanged u) rfl rfl
  · intro c c' aOn aOff bOn bOff moves crosses
    refine ⟨fun hstuck => exec_settled hc hset ?_ rfl rfl, fun hstuck => ?_⟩
    · by_cases hne : c.codeA ≠ a ∨ c.codeB ≠ b
      · rw [State.observe_changed hne, hm]
        exact if_pos hstuck
      · obtain ⟨rfl, rfl⟩ : c.codeA = a ∧ c.codeB = b := by simpa using hne
        exact (s.observe_unchanged u).trans (s.setCounter_self u).symm
    · have hmoves {ch : LoopChange} {v : Crossing} (hch : c.changes a b ch) (hnext : c.crossing.next ch = (v, none)) : moves v :=
        exec_settled hc hset ((State.observe_single hm hstuck hch).trans (State.loopChange_moves (c := c.coded a b) hnext)) rfl rfl
      have hcrosses {ch : LoopChange} {forward : Bool} (hch : c.changes a b ch) (hnext : c.crossing.next ch = (.idle, some forward)) :
          crosses forward (if forward then src else dst) (if forward then dst else src) := by
        have ht := (State.observe_single hm hstuck hch).trans (State.loopChange_crosses (c := c.coded a b) (src := src) (dst := dst) hnext hcfg)
        obtain ⟨hcounters, hreported, hout, hin, hother, hsigns, hlines, hframe⟩ := s.crossing_leaves u
          { c' with crossing := .idle, count := bumpCount forward c.count } (if forward then src else dst) (if forward then dst else src)
        refine ⟨_, exec_settled hc hset ht hsigns hlines, hcounters, hreported, fun k hk hne => ?_, fun k hk hne => ?_, hother,
          fun hne k => ?_, hframe⟩
        · obtain ⟨hcount, hdrift, hposture, hcauses, hrep, -⟩ := hout k hk hne
          obtain ⟨hm1, hm2⟩ := (s.segment k).moved_out
          exact ⟨hcount.trans hm1, hdrift.trans hm2, fun h0 => hrep (by omega), hposture, hcauses⟩
        · obtain ⟨hcount, hdrift, hposture, hcauses, hrep, -⟩ := hin k hk hne
          obtain ⟨hless, hfull⟩ := (s.segment k).moved_in
          refine ⟨fun hl => ?_, fun hf => ?_, hposture, hcauses⟩
          · obtain ⟨hm1, hm2⟩ := hless hl
            exact ⟨hcount.trans hm1, hdrift.trans hm2, hrep (by omega)⟩
          · obtain ⟨hm1, hm2⟩ := hfull hf
            exact ⟨hcount.trans hm1, hdrift.trans hm2⟩
        · by_cases h1 : k.val + 1 = (if forward then src else dst : Fin 5).val
          · exact (hout k h1 hne).occupied
          · by_cases h2 : k.val + 1 = (if forward then dst else src : Fin 5).val
            · exact (hin k h2 hne).occupied
            · exact State.occupied_unmoved (hother k h1 h2)
      refine ⟨fun hx => ⟨fun h => ?_, fun h => ?_, fun h => ?_⟩, fun hx => ⟨fun h => ?_, fun h => ?_, fun h => ?_⟩,
        fun hx => ⟨fun h => ?_, fun h => ?_, fun h => ?_⟩, fun hx => ⟨fun h => ?_, fun h => ?_, fun h => ?_⟩,
        fun hx => ⟨fun h => ?_, fun h => ?_, fun h => ?_⟩, fun hx => ⟨fun h => ?_, fun h => ?_, fun h => ?_⟩,
        fun hx => ⟨fun h => ?_, fun h => ?_, fun h => ?_⟩, fun ha hb => ?_⟩
      · exact hmoves (Counter.changes_aOn h) (by rw [hx]; rfl)
      · exact hmoves (Counter.changes_bOn h) (by rw [hx]; rfl)
      · exact h.elim (fun h => hmoves (Counter.changes_aOff h) (by rw [hx]; rfl)) fun h => hmoves (Counter.changes_bOff h) (by rw [hx]; rfl)
      · exact hmoves (Counter.changes_aOff h) (by rw [hx]; rfl)
      · exact hmoves (Counter.changes_bOn h) (by rw [hx]; rfl)
      · exact h.elim (fun h => hmoves (Counter.changes_aOn h) (by rw [hx]; rfl)) fun h => hmoves (Counter.changes_bOff h) (by rw [hx]; rfl)
      · exact hmoves (Counter.changes_aOff h) (by rw [hx]; rfl)
      · exact hmoves (Counter.changes_bOff h) (by rw [hx]; rfl)
      · exact h.elim (fun h => hmoves (Counter.changes_aOn h) (by rw [hx]; rfl)) fun h => hmoves (Counter.changes_bOn h) (by rw [hx]; rfl)
      · exact hmoves (Counter.changes_aOn h) (by rw [hx]; rfl)
      · exact hcrosses (forward := true) (Counter.changes_bOff h) (by rw [hx]; rfl)
      · exact h.elim (fun h => hmoves (Counter.changes_aOff h) (by rw [hx]; rfl)) fun h => hmoves (Counter.changes_bOn h) (by rw [hx]; rfl)
      · exact hmoves (Counter.changes_aOn h) (by rw [hx]; rfl)
      · exact hmoves (Counter.changes_bOff h) (by rw [hx]; rfl)
      · exact h.elim (fun h => hmoves (Counter.changes_aOff h) (by rw [hx]; rfl)) fun h => hmoves (Counter.changes_bOn h) (by rw [hx]; rfl)
      · exact hmoves (Counter.changes_aOff h) (by rw [hx]; rfl)
      · exact hmoves (Counter.changes_bOff h) (by rw [hx]; rfl)
      · exact h.elim (fun h => hmoves (Counter.changes_aOn h) (by rw [hx]; rfl)) fun h => hmoves (Counter.changes_bOn h) (by rw [hx]; rfl)
      · exact hcrosses (forward := false) (Counter.changes_aOff h) (by rw [hx]; rfl)
      · exact hmoves (Counter.changes_bOn h) (by rw [hx]; rfl)
      · exact h.elim (fun h => hmoves (Counter.changes_aOn h) (by rw [hx]; rfl)) fun h => hmoves (Counter.changes_bOff h) (by rw [hx]; rfl)
      · have ht : s.observe u a b = (s.setCounter u c').loopDouble u := by
          rw [State.observe_changed (.inl ha), hm]
          exact (if_neg (Bool.eq_false_iff.1 hstuck)).trans (if_pos (Bool.and_eq_true_iff.2 ⟨bne_iff_ne.2 ha, bne_iff_ne.2 hb⟩))
        refine exec_settled hc hset (ht.trans ?_) (by split <;> rfl) (by split <;> rfl)
        rw [State.loopDouble, State.illegalChange_setCounter]
        by_cases hi : c.illegal < 255
        · rw [if_pos (show c'.illegal < 255 from hi), if_pos hi, State.updCounter_post_counter]
        · rw [if_neg (show ¬c'.illegal < 255 from hi), if_neg hi, State.updCounter_setCounter]

end Sys2Proof.Machine
end

section
/-! SUPPORT. What the end of a step leaves of a segment that waits for nothing: its record and its gates (R7, R125). -/

namespace Sys2Proof.Machine

/-- Segment i and its gates are as they were, and no gate has changed its segment. -/
structure State.Spares (s t : State) (i : Fin 4) : Prop where
  segment : t.segment i = s.segment i
  cfg : ∀ g : Fin 6, (t.gate g).cfg = (s.gate g).cfg
  gates : ∀ g : Fin 6, (s.gate g).cfg.segment = some i → t.gate g = s.gate g

namespace State.Spares

variable {s t u : State} {i j : Fin 4}

theorem refl (s : State) (i : Fin 4) : s.Spares s i := ⟨rfl, fun _ => rfl, fun _ _ => rfl⟩

theorem trans (h : s.Spares t i) (h' : t.Spares u i) : s.Spares u i :=
  ⟨h'.segment.trans h.segment, fun g => (h'.cfg g).trans (h.cfg g),
    fun g hg => (h'.gates g (by rw [h.cfg g]; exact hg)).trans (h.gates g hg)⟩

theorem of_eq (hs : t.segments = s.segments) (hg : t.gates = s.gates) : s.Spares t i := by
  have hgate (g : Fin 6) : t.gate g = s.gate g := congrArg (fun v : Vector Gate 6 => v[g]) hg
  exact ⟨congrArg (fun v : Vector Segment 4 => v[i]) hs, fun g => congrArg Gate.cfg (hgate g), fun g _ => hgate g⟩

theorem setSegment {r : Segment} (h : i ≠ j) : s.Spares (s.setSegment j r) i :=
  ⟨s.setSegment_segment_other j r i h, fun _ => rfl, fun _ _ => rfl⟩

theorem setPosture {p : Posture} {ph : Phase} (h : i ≠ j) : s.Spares (s.setPosture j p ph) i := by
  have hgate (g : Fin 6) : (s.setPosture j p ph).gate g = s.gate g := congrArg (fun v : Vector Gate 6 => v[g]) (s.setPosture_gates ..)
  exact ⟨State.setPosture_segment_other h, fun g => congrArg Gate.cfg (hgate g), fun g _ => hgate g⟩

theorem gatesOf (h : s.Spares t i) : t.gatesOf i = s.gatesOf i :=
  List.filter_congr fun g _ => by rw [h.cfg g]

theorem enterLower (hi : i ≠ j) (h : ¬((s.segment j).posture = .closing ∧ (s.segment j).phase = .lower)) : s.Spares (s.enterLower j) i := by
  obtain ⟨-, hin, hout, hother⟩ := s.enterLower_leaves j h
  refine ⟨hother i hi, fun g => ?_, fun g hg => hout g fun hm => ?_⟩
  · by_cases hm : g ∈ s.gatesOf j
    · rw [hin g hm]
      exact (Gate.SamePlace.downed true (s.gate g)).cfg
    · rw [hout g hm]
  · rw [State.mem_gatesOf, hg] at hm
    exact hi (Option.some.inj hm)

theorem endConfirm (hi : i ≠ j) (h : (s.segment j).phase = .confirm) : s.Spares (s.endConfirm j) i :=
  iteInduction (motive := fun t : State => s.Spares t i) (fun _ => enterLower hi (by simp [h])) fun _ => setPosture hi

theorem evalConfirmPhase (hi : i ≠ j) : s.Spares (s.evalConfirmPhase j) i :=
  iteInduction (motive := fun t : State => s.Spares t i) (fun h => endConfirm hi h.1) fun _ => refl s i

theorem evalConfirm (hi : i ≠ j) : s.Spares (s.evalConfirm j) i :=
  iteInduction (motive := fun t : State => s.Spares t i) (fun _ => (setSegment hi).trans (of_eq rfl rfl)) fun _ => evalConfirmPhase hi

end State.Spares

/-! ### A segment that waits for nothing -/

/-- An evaluation of confirmation finds nothing to do: confirmation is not met, or CONFIRM is over and CONFIRM_MISSING clear (R7, R8). -/
def Segment.rests (r : Segment) (confirmed : Bool) : Prop :=
  confirmed = false ∨ (r.phase ≠ .confirm ∧ (r.posture = .closing ∨ r.posture = .closed → r.confirmMissing = false))

theorem State.evalConfirm_rests {s : State} {i : Fin 4} (h : (s.segment i).rests (s.confirmed i)) : s.evalConfirm i = s := by
  have hmissing : ¬(((s.segment i).posture = .closing ∨ (s.segment i).posture = .closed) ∧
      (s.segment i).confirmMissing = true ∧ s.confirmed i = true) := fun ⟨hp, hm, hc⟩ => by
    rcases h with h | ⟨-, h⟩
    · simp [h] at hc
    · simp [h hp] at hm
  have hphase : ¬((s.segment i).phase = .confirm ∧ s.confirmed i = true) := fun ⟨hp, hc⟩ => by
    rcases h with h | ⟨h, -⟩
    · simp [h] at hc
    · exact h hp
  exact (if_neg hmissing).trans (if_neg hphase)

theorem State.handSigns_spares {a s : State} {i : Fin 4} (h : (s.segment i).rests (s.confirmed i)) : s.Spares (State.handSigns a s) i := by
  have hstep (u : State) (j : Fin 4) (hu : s.Spares u i ∧ u.confirmed = s.confirmed) :
      s.Spares (State.evalConfirmFor a u j) i ∧ (State.evalConfirmFor a u j).confirmed = s.confirmed := by
    obtain ⟨hspares, hconfirmed⟩ := hu
    have hframe : (State.evalConfirmFor a u j).confirmed = u.confirmed :=
      State.confirmed_of_exceptBarriers (State.evalConfirmFor_exceptBarriers a u j)
    refine ⟨hspares.trans ?_, hframe.trans hconfirmed⟩
    refine iteInduction (motive := fun t : State => u.Spares t i) (fun _ => ?_) fun _ => .refl u i
    by_cases hj : i = j
    · subst hj
      have hrests : (u.segment i).rests (u.confirmed i) := by rwa [hspares.segment, hconfirmed]
      rw [State.evalConfirm_rests hrests]
      exact .refl u i
    · exact .evalConfirm hj
  exact (foldl_keeps (P := fun u => s.Spares u i ∧ u.confirmed = s.confirmed) hstep (List.finRange 4) ⟨.refl s i, rfl⟩).1

/-- What the end of a step leaves of a segment that rests: its record and its gates. -/
theorem State.conclude_spares {a s : State} {i : Fin 4} (h : (s.segment i).rests (s.confirmed i)) : s.Spares (State.conclude a s) i := by
  have hfinish := State.finish_exceptTraffic (State.handSigns a s)
  exact (State.handSigns_spares h).trans (.of_eq (congrArg State.segments hfinish :) (congrArg State.gates hfinish :))

/-! ### What a replanning leaves of the confirmation (R119, R157) -/

/-- The signs keep their configuration, and none confirms that did not. -/
def State.confirmsLess (s t : State) : Prop :=
  ∀ n : Fin 16, (t.sign n).cfg = (s.sign n).cfg ∧ ((t.sign n).confirms = true → (s.sign n).confirms = true)

theorem planStable_confirmsLess (s : State) : PlanStable (State.confirmsLess s) where
  sign {u n g} hg hu m := by
    by_cases hm : m = n
    · subst hm
      rw [State.setSign_sign_same]
      exact ⟨hg.cfg.trans (hu m).1, fun hc => (hu m).2 (hg.confirms hc)⟩
    · rw [State.setSign_sign_other _ _ _ _ hm]
      exact hu m
  line hl hu := hu
  target hu := hu
  post hu := hu
  replanSign {u n} hu := iteInduction (motive := State.confirmsLess s) (fun _ => hu) fun _ m => by
    by_cases hm : m = n
    · subst hm
      exact (congrArg (fun g : Sign => g.cfg = (s.sign m).cfg ∧ (g.confirms = true → (s.sign m).confirms = true))
        (State.setSign_sign_same ..)).mpr (hu m)
    · exact (congrArg (fun g : Sign => g.cfg = (s.sign m).cfg ∧ (g.confirms = true → (s.sign m).confirms = true))
        (State.setSign_sign_other _ _ _ _ hm)).mpr (hu m)

/-- A replanning meets no confirmation that was not met. -/
theorem State.replan_confirmed {s : State} {i : Fin 4} (h : s.confirmed i = false) : s.replan.confirmed i = false := by
  have hless := (planStable_confirmsLess s).replan (s := s) fun n => ⟨rfl, id⟩
  have hadvance : s.replan.advanceOf i = s.advanceOf i := List.filter_congr fun n _ => by
    simp only [Sign.isAdvanceOf, (hless n).1]
  rw [← Bool.not_eq_true] at h ⊢
  refine mt (fun hc => ?_) h
  rw [State.confirmed, hadvance, List.all_eq_true] at hc
  rw [State.confirmed, List.all_eq_true]
  exact fun n hn => (hless n).2 (hc n hn)

/-- A segment that rests before a replanning is left alone by what ends the step. -/
theorem State.replan_concludes {a s : State} {i : Fin 4} (h : (s.segment i).rests (s.confirmed i)) :
    s.Spares (State.conclude a s.replan) i := by
  have hsegments : s.replan.segments = s.segments := (congrArg State.segments s.replan_exceptSigns :)
  have hgates : s.replan.gates = s.gates := (congrArg State.gates s.replan_exceptSigns :)
  have hspares : s.Spares s.replan i := .of_eq hsegments hgates
  refine hspares.trans (State.conclude_spares ?_)
  rw [hspares.segment]
  exact h.imp State.replan_confirmed id

end Sys2Proof.Machine
end

section
/-! SUPPORT. The cause set of a segment as causes come and go, and the entry of REOPENING (R3 to R5, R12, R72). -/

namespace Sys2Proof.Machine

/-! ### The cause set (R3) -/

/-- The segment with its cause set written, and the report of it. -/
def State.withCauses (s : State) (i : Fin 4) (l : List Cause) : State :=
  (s.setSegment i { s.segment i with causes := l }).post (.segment i) Flag.segCauses

section
variable {s : State} {i : Fin 4} {c : Cause} {l : List Cause}

theorem State.withCauses_segment : (s.withCauses i l).segment i = { s.segment i with causes := l } := State.setSegment_segment_same ..

theorem State.withCauses_other {j : Fin 4} (h : j ≠ i) : (s.withCauses i l).segment j = s.segment j := State.setSegment_segment_other _ _ _ _ h

theorem State.withCauses_withCauses {l' : List Cause} : (s.withCauses i l).withCauses i l' = s.withCauses i l' ∨
    ((s.withCauses i l).withCauses i l').segments = (s.withCauses i l').segments :=
  .inr (by simp [State.withCauses, State.setSegment, State.segment, State.post])

theorem State.removeCause_none (h : c ∉ (s.segment i).causes) : s.removeCause i c = s := if_pos (by simpa using h)

theorem State.removeCause_held (h : c ∈ (s.segment i).causes) : s.removeCause i c =
    if (s.segment i).causes.filter (· != c) = [] ∧ ((s.segment i).posture = .closing ∨ (s.segment i).posture = .closed) then
      (s.withCauses i ((s.segment i).causes.filter (· != c))).enterReopening i
    else s.withCauses i ((s.segment i).causes.filter (· != c)) := if_neg (by simpa using h)

theorem State.addCause_held (h : c ∈ (s.segment i).causes) : s.addCause i c = s := if_pos (by simpa using h)

theorem State.addCause_new (h : c ∉ (s.segment i).causes) :
    s.addCause i c = (s.withCauses i (insertCause c (s.segment i).causes)).causeEffect i c (s.segment i).hasPath := if_neg (by simpa using h)

/-- A removal leaves the set without the cause. -/
theorem State.removeCause_causes (s : State) (i : Fin 4) (c : Cause) :
    ((s.removeCause i c).segment i).causes = (s.segment i).causes.filter (· != c) := by
  by_cases h : c ∈ (s.segment i).causes
  · rw [State.removeCause_held h]
    have hset : ((s.withCauses i ((s.segment i).causes.filter (· != c))).segment i).causes = (s.segment i).causes.filter (· != c) :=
      (congrArg Segment.causes State.withCauses_segment :)
    exact iteInduction (motive := fun t : State => (t.segment i).causes = (s.segment i).causes.filter (· != c))
      (fun _ => (postureStable_causes i (· = (s.segment i).causes.filter (· != c))).enterReopening hset) fun _ => hset
  · rw [State.removeCause_none h, List.filter_eq_self.2 fun x hx => by simpa using fun he : x = c => h (he ▸ hx)]

/-- Neither an addition nor a removal reaches the set of another segment. -/
theorem State.removeCause_causes_other {j : Fin 4} (hj : j ≠ i) : ((s.removeCause i c).segment j).causes = (s.segment j).causes := by
  by_cases h : c ∈ (s.segment i).causes
  · rw [State.removeCause_held h]
    have hset : ((s.withCauses i ((s.segment i).causes.filter (· != c))).segment j).causes = (s.segment j).causes :=
      congrArg Segment.causes (State.withCauses_other hj)
    exact iteInduction (motive := fun t : State => (t.segment j).causes = (s.segment j).causes)
      (fun _ => (postureStable_causes j (· = (s.segment j).causes)).enterReopening hset) fun _ => hset
  · rw [State.removeCause_none h]

theorem State.addCause_causes (s : State) (i : Fin 4) (c : Cause) (h : c ∉ (s.segment i).causes) :
    ((s.addCause i c).segment i).causes = insertCause c (s.segment i).causes := by
  rw [State.addCause_new h]
  exact (postureStable_causes i (· = insertCause c (s.segment i).causes)).causeEffect (congrArg Segment.causes State.withCauses_segment :)

theorem State.addCause_causes_other {j : Fin 4} (hj : j ≠ i) : ((s.addCause i c).segment j).causes = (s.segment j).causes := by
  by_cases h : c ∈ (s.segment i).causes
  · rw [State.addCause_held h]
  · rw [State.addCause_new h]
    exact (postureStable_causes j (· = (s.segment j).causes)).causeEffect (congrArg Segment.causes (State.withCauses_other hj))

end

/-! ### The segment while its gates are commanded up (R12) -/

/-- The record of segment i in REOPENING, or the record of posture p it becomes with every gate OPEN. -/
def State.reopens (s : State) (i : Fin 4) (r : Segment) (p : Posture) : Prop :=
  s.openPosture i = p ∧ (s.segment i = r ∨ (s.segment i = r.withPosture p .noPhase ∧ ∀ g ∈ s.gatesOf i, (s.gate g).state = .opened))

section
variable {s t u v : State} {i : Fin 4} {g : Fin 6} {r : Segment} {p : Posture} {a b : GateState}

theorem State.openPosture_ne (s : State) (i : Fin 4) : s.openPosture i ≠ .reopening := by
  unfold State.openPosture
  split <;> simp

theorem State.reopens.uncertain (h : s.reopens i r p) : (s.segment i).uncertain = r.uncertain := by
  rcases h.2 with h | ⟨h, -⟩ <;> rw [h]
  rfl

theorem State.reopens.congr (h : s.reopens i r p) (hs : t.segments = s.segments) (hg : t.gates = s.gates)
    (hb : t.exceptBarriers = s.exceptBarriers) : t.reopens i r p := by
  have hsegment : t.segment i = s.segment i := congrArg (fun x : Vector Segment 4 => x[i]) hs
  have hgate (g : Fin 6) : t.gate g = s.gate g := congrArg (fun x : Vector Gate 6 => x[g]) hg
  refine ⟨(State.openPosture_congr (congrArg Segment.uncertain hsegment) hb).trans h.1, ?_⟩
  rw [hsegment, State.gatesOf_congr hg]
  simpa only [hgate] using h.2

/-- The completion of REOPENING opens the segment or leaves it (R12). -/
theorem State.reopens.completeReopen (hp : r.posture = .reopening) (h : s.reopens i r p) : (s.completeReopen i).reopens i r p := by
  obtain ⟨hopen, hcase⟩ := h
  unfold State.completeReopen
  rcases hcase with h | ⟨h, hall⟩
  · split
    · next hdone =>
      have hgates := s.setPosture_gates i (s.openPosture i) .noPhase
      have hsegment : (s.setPosture i (s.openPosture i) .noPhase).segment i = r.withPosture p .noPhase := by
        rw [State.setPosture_segment_same (by rw [h, hp]; exact fun hx => s.openPosture_ne i hx.1.symm), h, hopen]
      refine ⟨(State.openPosture_congr ?_ (State.setPosture_exceptBarriers ..)).trans hopen, .inr ⟨hsegment, fun g hg => ?_⟩⟩
      · rw [hsegment, h]
        rfl
      · rw [State.gatesOf_congr hgates] at hg
        have hgate : (s.setPosture i (s.openPosture i) .noPhase).gate g = s.gate g := congrArg (fun v : Vector Gate 6 => v[g]) hgates
        rw [hgate]
        exact beq_iff_eq.1 (List.all_eq_true.1 hdone.2 g hg)
    · exact ⟨hopen, .inl h⟩
  · rw [if_neg (by rw [h, ← hopen]; exact fun hx => s.openPosture_ne i hx.1)]
    exact ⟨hopen, .inr ⟨h, hall⟩⟩

theorem State.reopens.completeLower (hph : r.phase = .noPhase) (h : s.reopens i r p) : s.completeLower i = s := if_neg fun hx => by
  rcases h.2 with h | ⟨h, -⟩ <;> rw [h] at hx
  · exact absurd (hx.1.symm.trans hph) (by decide)
  · exact absurd hx.1 (by simp [Segment.withPosture])

/-- What the segment makes of a gate's change while it reopens. -/
theorem State.reopens.gateChanged (hp : r.posture = .reopening) (hph : r.phase = .noPhase) (h : v.reopens i r p) :
    (v.gateChanged i a b).reopens i r p := by
  obtain ⟨hsegments, hgates⟩ := v.postIf_leaves ((v.segment i).troubledBy a b) (.segment i) Flag.segGateTrouble
  have hw := h.congr hsegments hgates (State.postIf_exceptBarriers ..)
  show (((v.postIf ((v.segment i).troubledBy a b) (.segment i) Flag.segGateTrouble).completeLower i).completeReopen i).reopens i r p
  rw [hw.completeLower hph]
  exact hw.completeReopen hp

theorem Gate.upped_opened {x : Gate} (h : x.state = .opened) : x.upped.state = .opened := by
  rw [Gate.upped_stays (.inl h)]
  exact h

/-- A gate commanded up while its segment reopens. -/
theorem State.gateUp_reopens (hp : r.posture = .reopening) (hph : r.phase = .noPhase) (h : u.reopens i r p)
    (hk : (u.gate g).cfg.segment = some i) : u.Drives g (u.gate g).upped (u.gateUp g) ∧ (u.gateUp g).reopens i r p := by
  have hdrives := u.gateUp_drives g
  have hframe := u.gateUp_exceptBarriers g
  refine ⟨hdrives, ?_⟩
  obtain ⟨hsame, hother⟩ := State.gate_of_set hdrives.gates
  have hcfg (j : Fin 6) : ((u.gateUp g).gate j).cfg = (u.gate j).cfg := by
    by_cases hj : j = g
    · rw [hj, hsame, hdrives.cfg]
    · rw [hother j hj]
  have hgatesOf : (u.gateUp g).gatesOf i = u.gatesOf i := List.filter_congr fun j _ => by rw [hcfg]
  have hopened (hall : ∀ j ∈ u.gatesOf i, (u.gate j).state = .opened) :
      ∀ j ∈ (u.gateUp g).gatesOf i, ((u.gateUp g).gate j).state = .opened := fun j hj => by
    rw [hgatesOf] at hj
    by_cases hjg : j = g
    · rw [hjg, hsame, Gate.upped_opened (hall g (hjg ▸ hj))]
    · rw [hother j hjg, hall j hj]
  rcases hdrives.handed with hs | ⟨v, k, a, b, hk', hvgates, hvsegments, ht⟩
  · have hsegment : (u.gateUp g).segment i = u.segment i := congrArg (fun x : Vector Segment 4 => x[i]) hs
    refine ⟨(State.openPosture_congr (congrArg Segment.uncertain hsegment) hframe).trans h.1, h.2.imp hsegment.trans fun ⟨hx, hall⟩ =>
      ⟨hsegment.trans hx, hopened hall⟩⟩
  · have hki : k = i := Option.some.inj (hk'.symm.trans hk)
    subst hki
    have hvsegment : v.segment k = u.segment k := congrArg (fun x : Vector Segment 4 => x[k]) hvsegments
    have hvgate (j : Fin 6) : v.gate j = (u.gateUp g).gate j := congrArg (fun x : Vector Gate 6 => x[j]) hvgates
    have hvframe : v.exceptBarriers = u.exceptBarriers :=
      (State.gateChanged_exceptBarriers ..).symm.trans ((congrArg State.exceptBarriers ht).symm.trans hframe)
    have hv : v.reopens k r p := by
      refine ⟨(State.openPosture_congr (congrArg Segment.uncertain hvsegment) hvframe).trans h.1, h.2.imp hvsegment.trans
        fun ⟨hx, hall⟩ => ⟨hvsegment.trans hx, fun j hj => ?_⟩⟩
      rw [hvgate]
      exact hopened hall j (by rwa [State.gatesOf_congr hvgates] at hj)
    rw [ht]
    exact hv.gateChanged hp hph

end

/-! ### REOPENING entered (R5, R12) -/

section
variable {s : State} {i : Fin 4}

theorem State.enterReopening_started (h : (s.segment i).posture ≠ .reopening) :
    (s.setPosture i .reopening .noPhase).reopens i ((s.segment i).withPosture .reopening .noPhase) (s.openPosture i) := by
  have hsegment := State.setPosture_segment_same (s := s) (k := i) (p := .reopening) (ph := .noPhase) fun hx => h hx.1
  refine ⟨State.openPosture_congr ?_ (State.setPosture_exceptBarriers ..), .inl hsegment⟩
  rw [hsegment]
  rfl

/-- What the entry of REOPENING leaves of the segment, of its gates and of everything else. -/
theorem State.enterReopening_leaves (h : (s.segment i).posture ≠ .reopening) :
    let t := s.enterReopening i
    (t.segment i).causes = (s.segment i).causes ∧ (t.segment i).phase = .noPhase ∧ (t.segment i).occupied = false ∧
      ((t.segment i).posture = if (t.gatesOf i).all fun g => (t.gate g).state == .opened then t.openPosture i else .reopening) ∧
      (∀ g ∈ s.gatesOf i, t.gate g = (s.gate g).upped) ∧ (∀ g : Fin 6, g ∉ s.gatesOf i → t.gate g = s.gate g) ∧
      (∀ j : Fin 4, j ≠ i → t.segment j = s.segment j) ∧ t.reported (.segment i) Flag.segPosture := by
  dsimp only
  set r := (s.segment i).withPosture .reopening .noPhase with hr
  set p := s.openPosture i with hp
  set u := s.setPosture i .reopening .noPhase with hu
  have hugates : u.gates = s.gates := s.setPosture_gates ..
  have hugate (g : Fin 6) : u.gate g = s.gate g := congrArg (fun x : Vector Gate 6 => x[g]) hugates
  obtain ⟨hin, hout, hsegment, hfold⟩ := foldl_drives (f := State.gateUp) (F := Gate.upped) (P := fun v => v.reopens i r p) (k := i)
    (fun v g hv hk => State.gateUp_reopens rfl rfl hv hk) (u.gatesOf i) u (u.gatesOf_nodup i) (State.enterReopening_started h)
    fun g hg => State.mem_gatesOf.1 hg
  have hend : s.enterReopening i = ((u.gatesOf i).foldl State.gateUp u).completeReopen i := rfl
  set w := (u.gatesOf i).foldl State.gateUp u with hw
  have hgates : (s.enterReopening i).gates = w.gates := by rw [hend, State.completeReopen_gates]
  have hgate (g : Fin 6) : (s.enterReopening i).gate g = w.gate g := congrArg (fun x : Vector Gate 6 => x[g]) hgates
  have hdone : (s.enterReopening i).reopens i r p := hend ▸ hfold.completeReopen rfl
  have hposture : ((s.enterReopening i).segment i).posture =
      if ((s.enterReopening i).gatesOf i).all fun g => ((s.enterReopening i).gate g).state == .opened then
        (s.enterReopening i).openPosture i else .reopening := by
    have hall : (((s.enterReopening i).gatesOf i).all fun g => ((s.enterReopening i).gate g).state == .opened) =
        (w.gatesOf i).all fun g => (w.gate g).state == .opened := by
      rw [State.gatesOf_congr hgates]
      simp only [hgate]
    rw [hdone.1]
    split
    · next hopen =>
      rcases hdone.2 with hx | ⟨hx, -⟩
      · rcases hfold.2 with hw' | ⟨hw', -⟩
        · rw [hall] at hopen
          have hset : s.enterReopening i = w.setPosture i (w.openPosture i) .noPhase := by
            rw [hend]
            exact if_pos ⟨by rw [hw']; rfl, hopen⟩
          rw [hset, (State.setPosture_takes ..).1, hfold.1]
        · have hsame : s.enterReopening i = w := by
            rw [hend]
            exact if_neg fun hx => by
              rw [hw', ← hfold.1] at hx
              exact w.openPosture_ne i hx.1
          rw [hsame, hw']
          rfl
      · rw [hx]
        rfl
    · next hnot =>
      rcases hdone.2 with hx | ⟨hx, hall'⟩
      · rw [hx]
        rfl
      · refine absurd ?_ hnot
        exact List.all_eq_true.2 fun g hg => beq_iff_eq.2 (hall' g hg)
  refine ⟨?_, ?_, ?_, hposture, fun g hg => ?_, fun g hg => ?_, fun j hj => ?_, ?_⟩
  · rcases hdone.2 with hx | ⟨hx, -⟩ <;> rw [hx] <;> rfl
  · rcases hdone.2 with hx | ⟨hx, -⟩ <;> rw [hx] <;> rfl
  · rcases hdone.2 with hx | ⟨hx, -⟩ <;> rw [hx]
    · rfl
    · refine if_neg fun hc => ?_
      have : p ≠ .closed := by
        rw [hp]
        unfold State.openPosture
        split <;> simp
      exact this hc
  · rw [hgate, hin g (by rwa [State.gatesOf_congr hugates]), hugate]
  · rw [hgate, hout g (by rwa [State.gatesOf_congr hugates]), hugate]
  · rw [hend, State.completeReopen_segment_other hj, hsegment j hj, State.setPosture_segment_other hj]
  · have hP := gateStable_reported (.segment i) Flag.segPosture
    exact hP.completeReopen (hP.gatesUp (State.setPosture_reported fun hx => h hx.1))

theorem State.gateUp_blocked {v : State} {g : Fin 6} (h : (v.gate g).state = .blocked) :
    v.gateUp g = (v.updGate g Gate.cleared).pauseUp g := by
  set u := v.updGate g Gate.cleared with hu
  have hstate : (u.gate g).state = .blocked := by
    rw [hu, State.updGate_eq, State.setGate_gate_same]
    exact h
  have hcase : ∀ x : GateState, (u.gate g).state = x → v.gateUp g = match x with
      | .unknown => u.gateTo g .raising
      | .halted => u.gateTo g .raising
      | .opened => u
      | .lowering => u.gatePause g .up
      | .closed => u.gateTo g .raising
      | .raising => u
      | .pause => if ((u.updGate g (Gate.pendTo .up)).gate g).pauseElapsed then (u.updGate g (Gate.pendTo .up)).pauseUp g
          else u.updGate g (Gate.pendTo .up)
      | .blocked => u.pauseUp g
      | .fault => u := by
    rintro x rfl
    rfl
  exact hcase _ hstate

/-- A BLOCKED gate that a segment in REOPENING commands up leaves BLOCKED, and that is reported (R71, R72). -/
theorem State.enterReopening_released {g : Fin 6} (h : (s.segment i).posture ≠ .reopening) (hk : g ∈ s.gatesOf i)
    (hb : (s.gate g).state = .blocked) : (s.enterReopening i).reported (.gate g) (Flag.gateState ||| Flag.gateBlocked) := by
  have hP := gateStable_reported (.gate g) (Flag.gateState ||| Flag.gateBlocked)
  set u := s.setPosture i .reopening .noPhase with hu
  have hugates : u.gates = s.gates := s.setPosture_gates ..
  have hugate (j : Fin 6) : u.gate j = s.gate j := congrArg (fun x : Vector Gate 6 => x[j]) hugates
  have hreleased (v : State) (hv : v.gate g = s.gate g) : (v.gateUp g).reported (.gate g) (Flag.gateState ||| Flag.gateBlocked) := by
    have hgate : (v.updGate g Gate.cleared).gate g = (s.gate g).cleared := by rw [State.updGate_eq, State.setGate_gate_same, hv]
    have hstate : ((v.updGate g Gate.cleared).gate g).state = .blocked := by rw [hgate]; exact hb
    have hup : v.gateUp g = (v.updGate g Gate.cleared).pauseUp g := State.gateUp_blocked (by rw [hv]; exact hb)
    rw [hup]
    have hmoves (w : State) (x : GateState) (hw : (w.gate g).state = .blocked) (hx : x = .opened ∨ x = .raising) :
        (w.gateTo g x).reported (.gate g) (Flag.gateState ||| Flag.gateBlocked) := by
      have hne : (w.gate g).state ≠ x := by rw [hw]; rcases hx with rfl | rfl <;> decide
      refine State.reported_of_flags (State.gateTo_reported hne) ?_
      rw [hw]
      rcases hx with rfl | rfl <;> decide
    refine iteInduction (motive := fun t : State => t.reported (.gate g) (Flag.gateState ||| Flag.gateBlocked)) (fun _ => ?_)
      fun _ => hmoves _ _ hstate (.inr rfl)
    refine hmoves _ _ ?_ (.inl rfl)
    rw [State.updGate_eq, State.setGate_gate_same]
    exact hstate
  exact hP.completeReopen (foldl_finds (f := State.gateUp) (F := Gate.upped)
    (P := fun v => v.reopens i ((s.segment i).withPosture .reopening .noPhase) (s.openPosture i))
    (Q := fun v => v.reported (.gate g) (Flag.gateState ||| Flag.gateBlocked)) (k := i) (x := s.gate g)
    (fun v j hv hj => State.gateUp_reopens rfl rfl hv hj) (fun v j hv => hP.gateUp hv) (fun v hv hx => hreleased v hx)
    (u.gatesOf i) (u.gatesOf_nodup i) (State.enterReopening_started h) (fun j hj => State.mem_gatesOf.1 hj)
    (by rwa [State.gatesOf_congr hugates]) (hugate g))

end

end Sys2Proof.Machine
end

section
/-! PROOF. OPEN_SEGMENT: the causes it removes, and the segment left without one (R3, R5, R12, R19). -/

namespace Sys2Proof.Machine

/-! ### What a request that replans leaves -/

section
variable {a s : State} {i : Fin 4} {k tag : Byte} {o : OutcomeCode} {d : List Byte}

/-- A segment that rests before a request replans is left alone by the reply and by what ends the step. -/
theorem State.replan_answered_spares (h : (s.segment i).rests (s.confirmed i)) :
    s.Spares (State.conclude a (s.replan.answered k tag o d)) i := by
  have hsegments : s.replan.segments = s.segments := (congrArg State.segments s.replan_exceptSigns :)
  have hgates : s.replan.gates = s.gates := (congrArg State.gates s.replan_exceptSigns :)
  have hspares : s.Spares (s.replan.answered k tag o d) i := .of_eq hsegments hgates
  have hconfirmed : (s.replan.answered k tag o d).confirmed = s.replan.confirmed := State.confirmed_of_signs rfl
  refine hspares.trans (State.conclude_spares ?_)
  rw [hspares.segment, hconfirmed]
  exact h.imp State.replan_confirmed id

theorem State.replan_answered_exceptOutputs :
    (State.conclude a (s.replan.answered k tag o d)).exceptOutputs = (s.answered k tag o d).exceptOutputs :=
  (State.conclude_exceptOutputs ..).trans (State.answered_exceptOutputs (exceptOutputs_of_exceptSigns s.replan_exceptSigns) ..)

theorem State.replan_answered_reported {x : Obj} {f : BitVec 16} (h : s.reported x f) :
    (State.conclude a (s.replan.answered k tag o d)).reported x f := by
  have hP := recordStable_reported x f
  exact hP.toStepStable.conclude (hP.answered (hP.toStepStable.toPlanStable.replan h))

end

/-! ### The removals (R3) -/

/-- Segment i with its cause set written and reported, and nothing else changed. -/
structure State.Stripped (s : State) (i : Fin 4) (l : List Cause) (u : State) : Prop where
  segment : u.segment i = { s.segment i with causes := l }
  other : ∀ j : Fin 4, j ≠ i → u.segment j = s.segment j
  frame : u.exceptSegments = s.exceptSegments
  reported : u.reported (.segment i) Flag.segCauses

theorem State.withCauses_stripped (s : State) (i : Fin 4) (l : List Cause) : s.Stripped i l (s.withCauses i l) :=
  ⟨State.withCauses_segment, fun _ hj => State.withCauses_other hj, rfl, State.post_reported ..⟩

theorem State.Stripped.trans {s u v : State} {i : Fin 4} {l l' : List Cause} (h : s.Stripped i l u) (h' : u.Stripped i l' v) :
    s.Stripped i l' v :=
  ⟨by rw [h'.segment, h.segment], fun j hj => (h'.other j hj).trans (h.other j hj), h'.frame.trans h.frame, h'.reported⟩

/-- A segment stripped of its last cause reopens where it was CLOSING or CLOSED (R5). -/
def State.reopenIf (u : State) (i : Fin 4) (left : List Cause) (p : Posture) : State :=
  if left = [] ∧ (p = .closing ∨ p = .closed) then u.enterReopening i else u

theorem State.removeCause_strips {s : State} {i : Fin 4} {c : Cause} (h : c ∈ (s.segment i).causes) :
    ∃ u : State, s.Stripped i ((s.segment i).causes.filter (· != c)) u ∧
      s.removeCause i c = u.reopenIf i ((s.segment i).causes.filter (· != c)) (s.segment i).posture :=
  ⟨_, s.withCauses_stripped i _, State.removeCause_held h⟩

theorem State.openPosture_open (s : State) (i : Fin 4) : s.openPosture i = .opened ∨ s.openPosture i = .caution := by
  unfold State.openPosture
  split
  · exact .inr rfl
  · exact .inl rfl

theorem notices_of_exceptOutputs {s t : State} (h : t.exceptOutputs = s.exceptOutputs) : t.notices = s.notices :=
  (congrArg State.notices h :)

/-- A condition of CAUTION reads no more of the device than UNCERTAIN, the paths and the notices (R6). -/
theorem State.openPosture_of_outputs {s t : State} {i : Fin 4} (hu : (t.segment i).uncertain = (s.segment i).uncertain)
    (hp : t.paths = s.paths) (hn : t.notices = s.notices) : t.openPosture i = s.openPosture i := by
  simp [State.openPosture, State.cautioned, State.path, State.listedNotices, hu, hp, hn]

/-- The causes that OPEN_SEGMENT leaves (R19). -/
def openedCauses (l : List Cause) : List Cause := l.filter fun c => c != .manual && c != .restart

theorem openedCauses_eq (l : List Cause) : openedCauses l = (l.filter (· != .manual)).filter (· != .restart) := by
  rw [openedCauses, List.filter_filter]
  exact List.filter_congr fun _ _ => Bool.and_comm _ _

theorem openedCauses_self {l : List Cause} : openedCauses l = l ↔ Cause.manual ∉ l ∧ Cause.restart ∉ l := by
  rw [openedCauses, List.filter_eq_self]
  constructor
  · exact fun h => ⟨fun hm => by simpa using h _ hm, fun hr => by simpa using h _ hr⟩
  · rintro ⟨hm, hr⟩ c hc
    simp only [Bool.and_eq_true, bne_iff_ne]
    exact ⟨fun he => hm (he ▸ hc), fun he => hr (he ▸ hc)⟩

theorem filter_bne_self {l : List Cause} {c : Cause} (h : c ∉ l) : l.filter (· != c) = l :=
  List.filter_eq_self.2 fun x hx => bne_iff_ne.2 fun he : x = c => h (he ▸ hx)

/-- Both removals together, one after the other (R19). -/
theorem State.removeCauses_strip {s : State} {i : Fin 4} (h : openedCauses (s.segment i).causes ≠ (s.segment i).causes) :
    ∃ u : State, s.Stripped i (openedCauses (s.segment i).causes) u ∧
      (s.removeCause i .manual).removeCause i .restart = u.reopenIf i (openedCauses (s.segment i).causes) (s.segment i).posture := by
  have hcauses := s.removeCause_causes i .manual
  by_cases hm : Cause.manual ∈ (s.segment i).causes
  · obtain ⟨u, hu, heq⟩ := State.removeCause_strips hm
    by_cases hr : Cause.restart ∈ (s.segment i).causes
    · have hmem : Cause.restart ∈ (s.segment i).causes.filter (· != .manual) := List.mem_filter.2 ⟨hr, rfl⟩
      have hfirst : s.removeCause i .manual = u := heq.trans (if_neg fun h => List.ne_nil_of_mem hmem h.1)
      have hucauses : (u.segment i).causes = (s.segment i).causes.filter (· != .manual) := congrArg Segment.causes hu.segment
      have huposture : (u.segment i).posture = (s.segment i).posture := (congrArg Segment.posture hu.segment :)
      obtain ⟨v, hv, hsecond⟩ := State.removeCause_strips (s := u) (by rw [hucauses]; exact hmem)
      rw [hucauses, ← openedCauses_eq] at hv
      rw [hucauses, ← openedCauses_eq, huposture] at hsecond
      exact ⟨v, hu.trans hv, by rw [hfirst, hsecond]⟩
    · have hleft : (s.segment i).causes.filter (· != .manual) = openedCauses (s.segment i).causes := by
        rw [openedCauses_eq, filter_bne_self fun hx => hr (List.mem_of_mem_filter hx)]
      rw [hleft] at hu heq hcauses
      refine ⟨u, hu, ?_⟩
      rw [State.removeCause_none, heq]
      rw [hcauses, ← hleft]
      exact fun hx => hr (List.mem_of_mem_filter hx)
  · have hr : Cause.restart ∈ (s.segment i).causes := by
      by_contra hr
      exact h (openedCauses_self.2 ⟨hm, hr⟩)
    rw [State.removeCause_none hm, openedCauses_eq, filter_bne_self hm]
    exact State.removeCause_strips hr

/-! ### The gates commanded up (R72) -/

theorem Gate.upped_cleared (g : Gate) : g.upped.attempts = 0 ∧ g.upped.relowerArmed = false ∧ g.upped.manualLowering = false := by
  have henter (x : Gate) (v : GateState) (hv : v ≠ .closed) (h1 : x.attempts = 0) (h2 : x.relowerArmed = false) (h3 : x.manualLowering = false) :
      (x.enter v).attempts = 0 ∧ (x.enter v).relowerArmed = false ∧ (x.enter v).manualLowering = false := by
    simp [Gate.enter, h1, h2, h3]
  have htake (x : Gate) (v : GateState) (hv : v ≠ .closed) (h1 : x.attempts = 0) (h2 : x.relowerArmed = false) (h3 : x.manualLowering = false) :
      (x.take v).attempts = 0 ∧ (x.take v).relowerArmed = false ∧ (x.take v).manualLowering = false := by
    unfold Gate.take
    split
    · exact ⟨h1, h2, h3⟩
    · exact henter x v hv h1 h2 h3
  have hraised (x : Gate) (h1 : x.attempts = 0) (h2 : x.relowerArmed = false) (h3 : x.manualLowering = false) :
      x.raised.attempts = 0 ∧ x.raised.relowerArmed = false ∧ x.raised.manualLowering = false := by
    unfold Gate.raised
    split
    · exact htake { x with relowerArmed := false, clearCount := 0 } .opened (by decide) h1 rfl h3
    · exact htake x .raising (by decide) h1 h2 h3
  cases hs : g.state with
  | closed | halted | unknown =>
    rw [Gate.upped_rises (by simp [hs])]
    exact henter _ _ (by decide) rfl rfl rfl
  | opened | raising | fault =>
    rw [Gate.upped_stays (by simp [hs])]
    exact ⟨rfl, rfl, rfl⟩
  | lowering =>
    rw [Gate.upped_lowering hs]
    exact henter _ _ (by decide) rfl rfl rfl
  | blocked =>
    rw [Gate.upped_blocked hs]
    exact hraised _ rfl rfl rfl
  | pause =>
    rw [Gate.upped_pause hs]
    split
    · exact hraised _ rfl rfl rfl
    · exact ⟨rfl, rfl, rfl⟩

/-- What the command up makes of each gate of a segment in REOPENING (R68, R72). -/
theorem Gate.upped_cases (a : Gate) :
    let b := a.upped
    (a.state = .closed ∨ a.state = .halted ∨ a.state = .unknown → b.state = .raising) ∧
      (a.state = .lowering → b.state = .pause ∧ b.pending = .up) ∧
      (a.state = .pause → a.pauseCount ≠ 4 → b.state = .pause ∧ b.pending = .up) ∧
      (a.state = .blocked ∨ (a.state = .pause ∧ a.pauseCount = 4) → b.state = if a.openLimit then .opened else .raising) ∧
      (a.state = .opened ∨ a.state = .raising ∨ a.state = .fault → b.state = a.state) := by
  refine ⟨fun h => ?_, fun h => ?_, fun h hc => ?_, fun h => ?_, fun h => ?_⟩
  · rw [Gate.upped_rises h]
    rfl
  · rw [Gate.upped_lowering h]
    exact ⟨rfl, rfl⟩
  · rw [Gate.upped_pause h, if_neg (by simpa [Gate.pauseElapsed] using hc)]
    exact ⟨h, rfl⟩
  · rcases h with h | ⟨h, hc⟩
    · rw [Gate.upped_blocked h]
      exact Gate.raised_state _
    · rw [Gate.upped_pause h, if_pos (by simpa [Gate.pauseElapsed] using hc)]
      exact Gate.raised_state _
  · rw [Gate.upped_stays h]
    rfl

/-! ### The request (R19) -/

theorem exec_openSegment {tag segment : Byte} {i : Fin 4} {s y : State} (h : s.listening) (hi : segment.toNat = i.val + 1)
    (hl : openedCauses (s.segment i).causes ≠ (s.segment i).causes) (hy : (s.removeCause i .manual).removeCause i .restart = y) :
    exec (.openSegment tag segment) s = .next (State.conclude s (y.replan.answered 0x12 tag .ok
      (u8 (y.segment i).causes.length ++ u8 (y.segment i).posture.code))) := by
  have hopen : s.openSegment i = y.replan := by
    rw [← hy]
    refine if_pos ?_
    rw [Bool.or_eq_true, List.contains_iff_mem, List.contains_iff_mem]
    by_contra hn
    exact hl (openedCauses_self.2 (not_or.1 hn))
  have hsegments : y.replan.segments = y.segments := (congrArg State.segments y.replan_exceptSigns :)
  have hsegment : y.replan.segment i = y.segment i := congrArg (fun v : Vector Segment 4 => v[i]) hsegments
  have happly : s.applyRequest (.openSegment tag segment) =
      accept (u8 (y.segment i).causes.length ++ u8 (y.segment i).posture.code) y.replan := by
    show s.applyOpenSegment segment = _
    rw [State.applyOpenSegment, segmentOf_of_toNat hi]
    dsimp only
    rw [hopen, hsegment]
  exact exec_concluded (k := .openSegment) rfl h happly

/-- Settles O12. -/
theorem openSegmentRemovesCauses : Obligations.OpenSegmentRemovesCauses := by
  unfold Obligations.OpenSegmentRemovesCauses
  intro tag segment i s h hi r left
  refine ⟨fun hsame => ?_, fun hleft => ?_⟩
  · have hnone := openedCauses_self.1 hsame
    have hopen : s.openSegment i = s := if_neg (by
      rw [Bool.or_eq_true, List.contains_iff_mem, List.contains_iff_mem]
      exact not_or.2 hnone)
    have happly : s.applyRequest (.openSegment tag segment) = accept (u8 r.causes.length ++ u8 r.posture.code) s := by
      show s.applyOpenSegment segment = _
      rw [State.applyOpenSegment, segmentOf_of_toNat hi]
      dsimp only
      rw [hopen]
    exact exec_accepted (k := .openSegment) rfl h happly rfl rfl
  · obtain ⟨u, hu, heq⟩ := State.removeCauses_strip (s := s) (i := i) hleft
    have huframe := exceptBarriers_of_exceptSegments hu.frame
    have hugates := State.gates_of_exceptSegments hu.frame
    have hugate (g : Fin 6) : u.gate g = s.gate g := congrArg (fun v : Vector Gate 6 => v[g]) hugates
    set y := u.reopenIf i left r.posture with hy
    have hframe : y.exceptOutputs = s.exceptOutputs :=
      (iteInduction (motive := fun t : State => t.exceptOutputs = u.exceptOutputs)
        (fun _ => exceptOutputs_of_exceptBarriers (u.enterReopening_exceptBarriers i)) fun _ => rfl).trans
        (exceptOutputs_of_exceptBarriers huframe)
    have hcauses : (y.segment i).causes = left :=
      iteInduction (motive := fun t : State => (t.segment i).causes = left)
        (fun _ => (postureStable_causes i (· = left)).enterReopening (congrArg Segment.causes hu.segment)) fun _ => congrArg Segment.causes hu.segment
    have hreported : y.reported (.segment i) Flag.segCauses :=
      iteInduction (motive := fun t : State => t.reported (.segment i) Flag.segCauses)
        (fun _ => (recordStable_reported _ _).enterReopening hu.reported) fun _ => hu.reported
    have huposture : (u.segment i).posture = r.posture := (congrArg Segment.posture hu.segment :)
    have hreopen (hc : left = [] ∧ (r.posture = .closing ∨ r.posture = .closed)) : y = u.enterReopening i := if_pos hc
    have hstays (hc : ¬(left = [] ∧ (r.posture = .closing ∨ r.posture = .closed))) : y = u := if_neg hc
    have hnot (hp : r.posture = .closing ∨ r.posture = .closed) : (u.segment i).posture ≠ .reopening := by
      rw [huposture]
      rcases hp with hp | hp <;> simp [hp]
    have hrests (hor : s.confirmSettled i ∨ (left = [] ∧ (r.posture = .closing ∨ r.posture = .closed))) :
        (y.segment i).rests (y.confirmed i) := by
      by_cases hc : left = [] ∧ (r.posture = .closing ∨ r.posture = .closed)
      · obtain ⟨-, hphase, -, hposture, -⟩ := State.enterReopening_leaves (hnot hc.2)
        rw [hreopen hc]
        refine .inr ⟨by rw [hphase]; decide, fun hp => ?_⟩
        rw [hposture] at hp
        split at hp
        · rcases (u.enterReopening i).openPosture_open i with h1 | h1 <;> simp [h1] at hp
        · simp at hp
      · have hconfirmed : u.confirmed = s.confirmed := State.confirmed_of_exceptBarriers huframe
        rw [hstays hc, hconfirmed, hu.segment]
        exact (hor.resolve_right hc).imp id fun hx => ⟨hx.1, fun _ => hx.2⟩
    set d : List Byte := u8 (y.segment i).causes.length ++ u8 (y.segment i).posture.code with hd
    set T := State.conclude s (y.replan.answered 0x12 tag .ok d) with hT
    have houtputs : T.exceptOutputs = (s.answered 0x12 tag .ok d).exceptOutputs :=
      State.replan_answered_exceptOutputs.trans (State.answered_exceptOutputs hframe ..)
    have hTreported {x : Obj} {f : BitVec 16} (hx : y.reported x f) : T.reported x f := State.replan_answered_reported hx
    have hspares (hor : s.confirmSettled i ∨ (left = [] ∧ (r.posture = .closing ∨ r.posture = .closed))) : y.Spares T i :=
      State.replan_answered_spares (hrests hor)
    refine ⟨T, exec_openSegment h hi hleft heq, hTreported hreported, fun hne hset => ?_, fun hnil hp => ?_, fun hor => ?_⟩
    · rw [(hspares (.inl hset)).segment, hstays fun hc => hne hc.1]
      exact hu.segment
    · have hT' := hspares (.inr ⟨hnil, hp⟩)
      obtain ⟨-, hphase, hoccupied, hposture, hin, hout, -, hrep⟩ := State.enterReopening_leaves (hnot hp)
      have hreleased {g : Fin 6} := State.enterReopening_released (g := g) (hnot hp)
      have hugatesOf := State.gatesOf_congr (i := i) hugates
      rw [← hreopen ⟨hnil, hp⟩] at hphase hoccupied hposture hin hout hrep hreleased
      have hgatesOf := hT'.gatesOf
      have hygatesOf : y.gatesOf i = s.gatesOf i := by
        refine (List.filter_congr fun g _ => ?_ : y.gatesOf i = u.gatesOf i).trans hugatesOf
        by_cases hg : g ∈ u.gatesOf i
        · rw [hin g hg, (Gate.SamePlace.upped (u.gate g)).cfg]
        · rw [hout g hg]
      have hgate (g : Fin 6) (hg : g ∈ s.gatesOf i) : T.gate g = (s.gate g).upped := by
        rw [hT'.gates g (State.mem_gatesOf.1 (hygatesOf ▸ hg)), hin g (hugatesOf ▸ hg), hugate]
      have hopened : ((T.gatesOf i).all fun g => (T.gate g).state == .opened) = (y.gatesOf i).all fun g => (y.gate g).state == .opened := by
        rw [hgatesOf]
        rw [Bool.eq_iff_iff, List.all_eq_true, List.all_eq_true]
        exact forall₂_congr fun g hg => by rw [hT'.gates g (State.mem_gatesOf.1 hg)]
      have hopenPosture : T.openPosture i = y.openPosture i :=
        State.openPosture_of_outputs (congrArg Segment.uncertain hT'.segment)
          ((paths_of_exceptOutputs houtputs).trans (paths_of_exceptOutputs hframe).symm)
          ((notices_of_exceptOutputs houtputs).trans (notices_of_exceptOutputs hframe).symm)
      refine ⟨?_, ?_, ?_, hTreported hrep, ?_, fun g hg => ?_⟩
      · rw [hT'.segment, hcauses, hnil]
      · rw [hT'.segment, hphase]
      · rw [hT'.segment, hoccupied]
      · rw [hT'.segment, hposture, hopened, hopenPosture]
      · obtain ⟨hrises, hlowering, hpause, hreleases, hstay⟩ := (s.gate g).upped_cases
        rw [hgate g hg]
        exact ⟨hrises, hlowering, hpause, fun hx => ⟨hreleases hx, fun hb => hTreported (hreleased (hugatesOf ▸ hg) (by rw [hugate]; exact hb))⟩,
          hstay, (s.gate g).upped_cleared⟩
    · rw [(hspares hor).segment, houtputs, hd, hcauses]

end Sys2Proof.Machine
end

section
/-! PROOF. CLOSE_SEGMENT: the cause it adds, the CONFIRM it begins, and the gates it takes back from REOPENING (R3, R4, R7, R13, R18). -/

namespace Sys2Proof.Machine

theorem insertCause_length (c : Cause) (l : List Cause) : (insertCause c l).length = l.length + 1 := by
  induction l with
  | nil => rfl
  | cons d l ih =>
    unfold insertCause
    split
    · rfl
    · simp [ih]

/-! ### CONFIRM begun (R4, R7) -/

section
variable {s t : State} {i : Fin 4}

/-- The record of a segment that begins CONFIRM. -/
def Segment.beginning (r : Segment) : Segment := { r with pathLimit := r.hasPath, confirmMissing := false }

theorem State.beginConfirm_leaves (h : (s.segment i).posture ≠ .closing) :
    let t := s.beginConfirm i
    t.segment i = (s.segment i).beginning.withPosture .closing .confirm ∧ t.gates = s.gates ∧
      (∀ j : Fin 4, j ≠ i → t.segment j = s.segment j) ∧ t.reported (.segment i) Flag.segPosture := by
  dsimp only
  set u := (s.setSegment i (s.segment i).beginning).postIf (s.segment i).confirmMissing (.segment i) Flag.segConfirmMissing with hu
  obtain ⟨hsegments, hgates⟩ := (s.setSegment i (s.segment i).beginning).postIf_leaves (s.segment i).confirmMissing (.segment i)
    Flag.segConfirmMissing
  have husegment : u.segment i = (s.segment i).beginning :=
    (congrArg (fun v : Vector Segment 4 => v[i]) hsegments).trans (s.setSegment_segment_same ..)
  have huother (j : Fin 4) (hj : j ≠ i) : u.segment j = s.segment j :=
    (congrArg (fun v : Vector Segment 4 => v[j]) hsegments).trans (s.setSegment_segment_other _ _ _ hj)
  have hne : ¬((u.segment i).posture = .closing ∧ (u.segment i).phase = .confirm) := by
    rw [husegment]
    exact fun hx => h hx.1
  have heq : s.beginConfirm i = u.setPosture i .closing .confirm := rfl
  rw [heq]
  refine ⟨?_, (u.setPosture_gates ..).trans hgates, fun j hj => (State.setPosture_segment_other hj).trans (huother j hj),
    State.setPosture_reported hne⟩
  rw [State.setPosture_segment_same hne, husegment]

/-- What the first evaluation of confirmation makes of a segment in CONFIRM (R7). -/
theorem State.evalConfirmPhase_leaves (h : (s.segment i).phase = .confirm) :
    let t := s.evalConfirmPhase i
    (t.segment i).causes = (s.segment i).causes ∧ (t.segment i).confirmMissing = (s.segment i).confirmMissing ∧
      (s.confirmed i = true → t.pastConfirm i ∧ (t.segment i).phase ≠ .confirm ∧
        ∀ g : Fin 6, t.gate g = s.gate g ∨ t.gate g = (s.gate g).downed true) ∧
      (s.confirmed i = false → t = s) := by
  dsimp only
  by_cases hc : s.confirmed i = true
  · have heq : s.evalConfirmPhase i = s.endConfirm i := if_pos ⟨h, hc⟩
    obtain ⟨hpast, hcauses, -, hmissing, -⟩ := State.endConfirm_leaves h
    rw [heq]
    refine ⟨hcauses, hmissing, fun _ => ⟨hpast, ?_, fun g => ?_⟩, fun hn => by simp [hn] at hc⟩
    · unfold State.pastConfirm at hpast
      split at hpast
      · rcases hpast with ⟨-, hx, -⟩ | ⟨-, hx, -⟩ <;> rw [hx] <;> decide
      · rw [hpast.2.1]
        decide
    · unfold State.endConfirm
      split
      · obtain ⟨-, hin, hout, -⟩ := s.enterLower_leaves i (by simp [h])
        by_cases hg : g ∈ s.gatesOf i
        · exact .inr (hin g hg)
        · exact .inl (hout g hg)
      · exact .inl (congrArg (fun v : Vector Gate 6 => v[g]) (s.setPosture_gates ..))
  · have heq : s.evalConfirmPhase i = s := if_neg fun hx => hc hx.2
    rw [heq]
    exact ⟨rfl, rfl, fun hx => absurd hx hc, fun _ => rfl⟩

theorem State.pastConfirm.of_spares (h : s.pastConfirm i) (hs : s.Spares t i) : t.pastConfirm i := by
  unfold State.pastConfirm State.lowered at h ⊢
  rw [hs.segment, hs.gatesOf]
  refine (ite_congr rfl (fun _ => ?_) fun _ => rfl).mp h
  refine propext (or_congr_right (and_congr_right fun _ => and_congr_right fun _ => forall₂_congr fun g hg => ?_))
  rw [hs.gates g (State.mem_gatesOf.1 hg)]

end

/-! ### Gates taken back from REOPENING (R13, R68) -/

/-- No drive of a gate changes the record of a segment in CONFIRM. -/
theorem gateStable_confirm {i : Fin 4} {r : Segment} (hp : r.posture = .closing) (hph : r.phase = .confirm) :
    GateStable fun s => s.segment i = r where
  gate hs := hs
  flasher _ hs := hs
  post hs := hs
  completeLower {s j} hs := by
    by_cases hj : i = j
    · subst hj
      have hsame : s.completeLower i = s := if_neg fun h => by simp [hs, hph] at h
      rw [hsame]
      exact hs
    · exact (State.completeLower_segment_other hj).trans hs
  completeReopen {s j} hs := by
    by_cases hj : i = j
    · subst hj
      have hsame : s.completeReopen i = s := if_neg fun h => by simp [hs, hp] at h
      rw [hsame]
      exact hs
    · exact (State.completeReopen_segment_other hj).trans hs

/-- The gates of a segment in CONFIRM, each taken back where it is RAISING or in PAUSE. -/
theorem State.gatesBack_leaves {s : State} {i : Fin 4} (hp : (s.segment i).posture = .closing) (hph : (s.segment i).phase = .confirm) :
    let t := (s.gatesOf i).foldl State.gateBack s
    (∀ g ∈ s.gatesOf i, t.gate g = (s.gate g).backed false) ∧ t.segment i = s.segment i := by
  obtain ⟨hin, -, -, hsame⟩ := foldl_drives (f := State.gateBack) (F := Gate.backed false) (P := fun v => v.segment i = s.segment i) (k := i)
    (fun v g hv hk => by
      have hmay : v.mayLower (v.gate g) = false := by
        rw [← Bool.not_eq_true, State.mayLower_of hk]
        rintro (hx | hx)
        · exact absurd ((hph.symm.trans (congrArg Segment.phase hv.symm)).trans hx.2) (by decide)
        · exact absurd ((hp.symm.trans (congrArg Segment.posture hv.symm)).trans hx) (by decide)
      have hdrives := v.gateBack_drives g
      rw [hmay] at hdrives
      exact ⟨hdrives, (gateStable_confirm hp hph).gateBack hv⟩)
    (s.gatesOf i) s (s.gatesOf_nodup i) rfl fun g hg => State.mem_gatesOf.1 hg
  exact ⟨hin, hsame⟩

theorem Gate.SamePlace.backed (m : Bool) (g : Gate) : g.SamePlace (g.backed m) := by
  unfold Gate.backed
  split
  · exact .downed m g
  · exact .refl g

/-- What the command back makes of each gate while CONFIRM lasts, and what LOWER leaves of it then (R13, R68). -/
theorem Gate.backed_cases (x : Gate) :
    let y := x.backed false
    (x.state = .raising ∨ (x.state = .pause ∧ x.pauseCount ≠ 4) →
        (y.state = .pause ∧ y.pending = .down ∧ y.manualLowering = false) ∧
          (y.downed true).state = .pause ∧ (y.downed true).pending = .down ∧ (y.downed true).manualLowering = false) ∧
      (x.state = .pause → x.pauseCount = 4 →
        (x.closedLimit = true → y.state = .closed) ∧ (x.closedLimit = false → y = { x with pending := .down, manualLowering := false })) ∧
      (x.state ≠ .raising → x.state ≠ .pause → y = x) := by
  have hback (h : x.state = .raising ∨ x.state = .pause) : x.backed false = x.downed false := if_pos h
  have hwaits (z : Gate) (hs : z.state = .pause) (hp : z.pending = .down) (hc : z.pauseCount ≠ 4) (hm : z.manualLowering = false) :
      (z.state = .pause ∧ z.pending = .down ∧ z.manualLowering = false) ∧
        (z.downed true).state = .pause ∧ (z.downed true).pending = .down ∧ (z.downed true).manualLowering = false := by
    have hdown : z.downed true = z.automatic.pendTo .down := by
      rw [Gate.downed_pause true hs]
      exact if_neg (by simpa [Gate.pauseElapsed, Gate.automatic] using hc)
    rw [hdown]
    exact ⟨⟨hs, hp, hm⟩, hs, rfl, rfl⟩
  refine ⟨fun h => ?_, fun h hc => ?_, fun h1 h2 => if_neg (not_or.2 ⟨h1, h2⟩)⟩
  · rcases h with h | ⟨h, hc⟩
    · rw [hback (.inl h), Gate.downed_raising false h]
      exact hwaits _ rfl rfl (by simp [Gate.enter]) rfl
    · rw [hback (.inr h), Gate.downed_pause false h]
      have hpend : x.automatic.pausedDown false = x.automatic.pendTo .down := if_neg (by simpa [Gate.pauseElapsed, Gate.automatic] using hc)
      rw [hpend]
      exact hwaits _ h rfl hc rfl
  · have helapsed : x.automatic.pauseElapsed = true := by simpa [Gate.pauseElapsed, Gate.automatic] using hc
    rw [hback (.inr h), Gate.downed_pause false h, Gate.pausedDown, if_pos helapsed]
    refine ⟨fun hl => ?_, fun hl => ?_⟩
    · rw [if_pos (by exact hl)]
      exact Gate.take_state ..
    · rw [if_neg (by exact Bool.eq_false_iff.1 hl)]
      rfl

/-! ### The cause added (R4, R13) -/

section
variable {u : State} {i : Fin 4} {b : Bool}

/-- MANUAL changes nothing of a segment that is closing or closed already (R4). -/
theorem State.causeEffect_closing (h : (u.segment i).posture = .closing ∨ (u.segment i).posture = .closed) :
    u.causeEffect i .manual b = u := by
  unfold State.causeEffect
  rcases h with h | h <;> rw [h]
  cases (u.segment i).phase <;> simp [Cause.isPath]

theorem State.causeEffect_open (h : (u.segment i).posture = .opened ∨ (u.segment i).posture = .caution) :
    u.causeEffect i .manual b = (u.beginConfirm i).evalConfirmPhase i := by
  unfold State.causeEffect
  rcases h with h | h <;> rw [h]

theorem State.causeEffect_reopening (h : (u.segment i).posture = .reopening) :
    u.causeEffect i .manual b = ((u.gatesOf i).foldl State.gateBack (u.beginConfirm i)).evalConfirmPhase i := by
  unfold State.causeEffect
  rw [h]

/-- What MANUAL makes of a segment that is open, CAUTION or reopening, and of its gates (R4, R7, R13). -/
theorem State.causeEffect_begins (h : (u.segment i).posture = .opened ∨ (u.segment i).posture = .caution ∨ (u.segment i).posture = .reopening) :
    let t := u.causeEffect i .manual b
    (t.segment i).causes = (u.segment i).causes ∧ (t.segment i).confirmMissing = false ∧ t.reported (.segment i) Flag.segPosture ∧
      (u.confirmed i = true → t.pastConfirm i ∧ (t.segment i).phase ≠ .confirm) ∧
      (u.confirmed i = false → (t.segment i).posture = .closing ∧ (t.segment i).phase = .confirm ∧ (t.segment i).phaseTimer = 0) ∧
      ((u.segment i).posture = .reopening → ∀ g ∈ u.gatesOf i,
        (u.confirmed i = false → t.gate g = (u.gate g).backed false) ∧
          (t.gate g = (u.gate g).backed false ∨ t.gate g = ((u.gate g).backed false).downed true)) := by
  dsimp only
  have hne : (u.segment i).posture ≠ .closing := by rcases h with h | h | h <;> simp [h]
  obtain ⟨hsegment, hgates, -, hreported⟩ := State.beginConfirm_leaves hne
  set v := u.beginConfirm i with hv
  have hgate (g : Fin 6) : v.gate g = u.gate g := congrArg (fun x : Vector Gate 6 => x[g]) hgates
  have hvposture : (v.segment i).posture = .closing := by rw [hsegment]; rfl
  have hvphase : (v.segment i).phase = .confirm := by rw [hsegment]; rfl
  obtain ⟨w, heq, hwsegment, hwframe, hwreported, hwgates⟩ : ∃ w : State, u.causeEffect i .manual b = w.evalConfirmPhase i ∧
      w.segment i = v.segment i ∧ w.exceptBarriers = u.exceptBarriers ∧ w.reported (.segment i) Flag.segPosture ∧
      ((u.segment i).posture = .reopening → ∀ g ∈ u.gatesOf i, w.gate g = (u.gate g).backed false) := by
    by_cases hr : (u.segment i).posture = .reopening
    · obtain ⟨hin, hsame⟩ := State.gatesBack_leaves hvposture hvphase
      rw [State.gatesOf_congr hgates] at hin hsame
      refine ⟨_, State.causeEffect_reopening hr, hsame, ?_, foldl_keeps (P := fun t => t.reported (.segment i) Flag.segPosture) (f := State.gateBack) (fun _ _ => (gateStable_reported _ _).gateBack) _ hreported, fun _ g hg => ?_⟩
      · rw [foldl_leaves _ _ State.gateBack_exceptBarriers, State.beginConfirm_exceptBarriers]
      · rw [hin g hg, hgate]
    · refine ⟨v, State.causeEffect_open ?_, rfl, State.beginConfirm_exceptBarriers .., hreported, fun h => absurd h hr⟩
      exact h.imp_right fun h => h.resolve_right hr
  have hwphase : (w.segment i).phase = .confirm := by rw [hwsegment, hvphase]
  have hconfirmed : w.confirmed = u.confirmed := State.confirmed_of_exceptBarriers hwframe
  obtain ⟨hcauses, hmissing, hmet, hwaits⟩ := State.evalConfirmPhase_leaves hwphase
  rw [hconfirmed] at hmet hwaits
  rw [heq]
  refine ⟨?_, ?_, (recordStable_reported _ _).evalConfirmPhase hwreported, fun hc => ?_, fun hc => ?_, fun hr g hg => ⟨fun hc => ?_, ?_⟩⟩
  · rw [hcauses, hwsegment, hsegment]
    rfl
  · rw [hmissing, hwsegment, hsegment]
    rfl
  · exact ⟨(hmet hc).1, (hmet hc).2.1⟩
  · rw [hwaits hc, hwsegment, hsegment]
    exact ⟨rfl, rfl, rfl⟩
  · rw [hwaits hc, hwgates hr g hg]
  · by_cases hc : u.confirmed i = true
    · have hx := (hmet hc).2.2 g
      rwa [hwgates hr g hg] at hx
    · rw [hwaits (by simpa using hc), hwgates hr g hg]
      exact .inl rfl

end

theorem Posture.begins_or_stays (p : Posture) :
    (p = .opened ∨ p = .caution ∨ p = .reopening) ∨ p = .closing ∨ p = .closed := by
  cases p <;> simp

theorem exec_closeSegment {tag segment : Byte} {i : Fin 4} {s y : State} (h : s.listening) (hi : segment.toNat = i.val + 1)
    (hm : Cause.manual ∉ (s.segment i).causes) (hy : s.addCause i .manual = y) :
    exec (.closeSegment tag segment) s = .next (State.conclude s (y.replan.answered 0x11 tag .ok
      (u8 (y.segment i).posture.code ++ u8 (y.segment i).causes.length))) := by
  have hclose : s.closeSegment i = y.replan := by
    rw [← hy]
    refine if_neg ?_
    rwa [List.contains_iff_mem]
  have hsegments : y.replan.segments = y.segments := (congrArg State.segments y.replan_exceptSigns :)
  have hsegment : y.replan.segment i = y.segment i := congrArg (fun v : Vector Segment 4 => v[i]) hsegments
  have happly : s.applyRequest (.closeSegment tag segment) =
      accept (u8 (y.segment i).posture.code ++ u8 (y.segment i).causes.length) y.replan := by
    show s.applyCloseSegment segment = _
    rw [State.applyCloseSegment, segmentOf_of_toNat hi]
    dsimp only
    rw [hclose, hsegment]
  exact exec_concluded (k := .closeSegment) rfl h happly

/-- Settles O11. -/
theorem closeSegmentAddsManual : Obligations.CloseSegmentAddsManual := by
  unfold Obligations.CloseSegmentAddsManual
  intro tag segment i s h hi r
  refine ⟨fun hm => ?_, fun hm => ?_⟩
  · have hclose : s.closeSegment i = s := if_pos (List.contains_iff_mem.2 hm)
    have happly : s.applyRequest (.closeSegment tag segment) = accept (u8 r.posture.code ++ u8 r.causes.length) s := by
      show s.applyCloseSegment segment = _
      rw [State.applyCloseSegment, segmentOf_of_toNat hi]
      dsimp only
      rw [hclose]
    exact exec_accepted (k := .closeSegment) rfl h happly rfl rfl
  · have hu := s.withCauses_stripped i (insertCause .manual r.causes)
    set u := s.withCauses i (insertCause .manual r.causes) with hudef
    have hadd : s.addCause i .manual = u.causeEffect i .manual r.hasPath := State.addCause_new hm
    have huframe := exceptBarriers_of_exceptSegments hu.frame
    have hugates := State.gates_of_exceptSegments hu.frame
    have hugate (g : Fin 6) : u.gate g = s.gate g := congrArg (fun v : Vector Gate 6 => v[g]) hugates
    have huposture : (u.segment i).posture = r.posture := (congrArg Segment.posture hu.segment :)
    have hconfirmed : u.confirmed = s.confirmed := State.confirmed_of_exceptBarriers huframe
    set y := u.causeEffect i .manual r.hasPath with hy
    have hyframe : y.exceptBarriers = s.exceptBarriers := (u.causeEffect_exceptBarriers ..).trans huframe
    have hyconfirmed : y.confirmed = s.confirmed := State.confirmed_of_exceptBarriers hyframe
    have hcauses : (y.segment i).causes = insertCause .manual r.causes :=
      (postureStable_causes i (· = insertCause .manual r.causes)).causeEffect (congrArg Segment.causes hu.segment)
    have hreported : y.reported (.segment i) Flag.segCauses := (recordStable_reported _ _).causeEffect hu.reported
    have hstays (hp : r.posture = .closing ∨ r.posture = .closed) : y = u := State.causeEffect_closing (by rwa [huposture])
    have hbegins (hp : r.posture = .opened ∨ r.posture = .caution ∨ r.posture = .reopening) :=
      State.causeEffect_begins (b := r.hasPath) (by rwa [← huposture] at hp)
    rw [← hy] at hbegins
    rw [hconfirmed, State.gatesOf_congr hugates, huposture] at hbegins
    have hrests (hor : r.posture = .closing ∨ r.posture = .closed → s.confirmSettled i) : (y.segment i).rests (y.confirmed i) := by
      rw [hyconfirmed]
      by_cases hp : r.posture = .closing ∨ r.posture = .closed
      · rw [hstays hp, hu.segment]
        exact (hor hp).imp id fun hx => ⟨hx.1, fun _ => hx.2⟩
      · obtain ⟨-, hmissing, -, hmet, -⟩ := hbegins (r.posture.begins_or_stays.resolve_right hp)
        cases hc : s.confirmed i with
        | false => exact .inl rfl
        | true => exact .inr ⟨(hmet hc).2, fun _ => hmissing⟩
    set d : List Byte := u8 (y.segment i).posture.code ++ u8 (y.segment i).causes.length with hd
    set T := State.conclude s (y.replan.answered 0x11 tag .ok d) with hT
    have houtputs : T.exceptOutputs = (s.answered 0x11 tag .ok d).exceptOutputs :=
      State.replan_answered_exceptOutputs.trans (State.answered_exceptOutputs (exceptOutputs_of_exceptBarriers hyframe) ..)
    have hTreported {x : Obj} {f : BitVec 16} (hx : y.reported x f) : T.reported x f := State.replan_answered_reported hx
    have hspares (hor : r.posture = .closing ∨ r.posture = .closed → s.confirmSettled i) : y.Spares T i :=
      State.replan_answered_spares (hrests hor)
    have hbegun {p : Prop} (hp : r.posture = .opened ∨ r.posture = .caution ∨ r.posture = .reopening) :
        r.posture = .closing ∨ r.posture = .closed → p := fun hq => by
      rcases hq with hq | hq <;> simp [hq] at hp
    refine ⟨T, exec_closeSegment h hi hm hadd, hTreported hreported, fun hp => ?_, fun hp g hg => ?_, fun hp hset => ?_, fun hor => ?_⟩
    · have hT' := hspares (hbegun hp)
      obtain ⟨-, hmissing, hposture, hmet, hwaits, -⟩ := hbegins hp
      refine ⟨by rw [hT'.segment, hcauses], hTreported hposture, by rw [hT'.segment, hmissing], ?_⟩
      split
      · next hc => exact (hmet hc).1.of_spares hT'
      · next hc =>
        rw [hT'.segment]
        exact hwaits (by simpa using hc)
    · have hp' : r.posture = .opened ∨ r.posture = .caution ∨ r.posture = .reopening := .inr (.inr hp)
      have hT' := hspares (hbegun hp')
      obtain ⟨-, -, -, -, -, hgates⟩ := hbegins hp'
      obtain ⟨hback, hcase⟩ := hgates hp g hg
      rw [hugate] at hback hcase
      obtain ⟨hpauses, helapsed, hstill⟩ := (s.gate g).backed_cases
      have hTgate : T.gate g = y.gate g := by
        refine hT'.gates g ?_
        have hcfg : (y.gate g).cfg = (s.gate g).cfg := by
          rcases hcase with hx | hx <;> rw [hx]
          · exact (Gate.SamePlace.backed false _).cfg
          · exact (Gate.SamePlace.downed true _).cfg.trans (Gate.SamePlace.backed false _).cfg
        rw [hcfg]
        exact State.mem_gatesOf.1 hg
      intro x z
      have hz : z = y.gate g := hTgate
      refine ⟨fun hx => ?_, fun hc h1 h2 => ?_, fun hc h1 h2 => ?_⟩
      · rw [hz]
        rcases hcase with hx' | hx' <;> rw [hx']
        · exact (hpauses hx).1
        · exact (hpauses hx).2
      · rw [hz, hback hc]
        exact helapsed h1 h2
      · rw [hz, hback hc]
        exact hstill h1 h2
    · rw [(hspares fun _ => hset).segment, hstays hp]
      exact hu.segment
    · rw [(hspares hor).segment, houtputs, hd, hcauses, insertCause_length]

end Sys2Proof.Machine
end

section
/-! SUPPORT. The notices: what their causes, their entry and their removal leave (R104 to R112). -/

namespace Sys2Proof.Machine

/-! ### The causes of a notice (R110) -/

section
variable {s : State} {i k : Fin 4} {c d : Cause} {x : Notice}

theorem Notice.mem_segmentList : k ∈ x.segmentList ↔ x.segments.getLsbD k.val = true := mem_bitsOf 4 x.segments k

theorem State.addCause_mem_iff (h : c ≠ d) : c ∈ ((s.addCause i d).segment k).causes ↔ c ∈ (s.segment k).causes := by
  by_cases hk : k = i
  · subst hk
    by_cases hd : d ∈ (s.segment k).causes
    · rw [State.addCause_held hd]
    · rw [State.addCause_causes s k d hd, mem_insertCause]
      exact or_iff_right h
  · rw [State.addCause_causes_other hk]

theorem State.removeCause_mem_iff (h : c ≠ d) : c ∈ ((s.removeCause i d).segment k).causes ↔ c ∈ (s.segment k).causes := by
  by_cases hk : k = i
  · subst hk
    rw [State.removeCause_causes, List.mem_filter]
    exact and_iff_left (bne_iff_ne.2 h)
  · rw [State.removeCause_causes_other hk]

/-- The causes of a segment after a notice's cause has been taken from the segments it names. -/
theorem State.dropNotice_causes (s : State) (x : Notice) (k : Fin 4) :
    (x.segments.getLsbD k.val = true →
      ((s.dropNotice x).segment k).causes = (s.segment k).causes.filter (· != .notice x.number)) ∧
      (x.segments.getLsbD k.val = false → ((s.dropNotice x).segment k).causes = (s.segment k).causes) := by
  have hfold (l : List (Fin 4)) : ∀ u : State,
      ((l.foldl (fun s i => s.removeCause i (.notice x.number)) u).segment k).causes =
        if k ∈ l then (u.segment k).causes.filter (· != .notice x.number) else (u.segment k).causes := by
    induction l with
    | nil => exact fun u => rfl
    | cons a l ih =>
      intro u
      rw [List.foldl_cons, ih]
      by_cases ha : k = a
      · subst ha
        rw [State.removeCause_causes, if_pos (List.mem_cons_self : k ∈ k :: l)]
        split
        · rw [List.filter_filter]
          exact List.filter_congr fun _ _ => Bool.and_self _
        · rfl
      · rw [State.removeCause_causes_other ha]
        exact if_congr (by simp [ha]) rfl rfl
  have hdrop := hfold x.segmentList s
  refine ⟨fun hk => hdrop.trans (if_pos (Notice.mem_segmentList.2 hk)), fun hk => hdrop.trans (if_neg fun hm => ?_)⟩
  rw [Notice.mem_segmentList, hk] at hm
  exact absurd hm (by decide)

/-- The causes of a segment after a notice's cause has been given to the segments it names. -/
theorem State.addNotice_causes (s : State) (x : Notice) (k : Fin 4) :
    (x.segments.getLsbD k.val = true → Cause.notice x.number ∈ ((s.addNotice x).segment k).causes) ∧
      (∀ c : Cause, c ≠ .notice x.number → (c ∈ ((s.addNotice x).segment k).causes ↔ c ∈ (s.segment k).causes)) := by
  have hkeeps (l : List (Fin 4)) : ∀ u : State, Cause.notice x.number ∈ (u.segment k).causes →
      Cause.notice x.number ∈ ((l.foldl (fun s i => s.addCause i (.notice x.number)) u).segment k).causes := fun u hu =>
    foldl_keeps (P := fun v => Cause.notice x.number ∈ (v.segment k).causes) (fun v a hv => by
      by_cases ha : k = a
      · subst ha
        exact v.addCause_mem k _
      · rw [State.addCause_causes_other ha]
        exact hv) l hu
  have hadds (l : List (Fin 4)) : ∀ u : State, k ∈ l →
      Cause.notice x.number ∈ ((l.foldl (fun s i => s.addCause i (.notice x.number)) u).segment k).causes := by
    induction l with
    | nil => exact fun u hk => absurd hk (by simp)
    | cons a l ih =>
      intro u hk
      rw [List.foldl_cons]
      rcases List.mem_cons.1 hk with rfl | hk
      · exact hkeeps l _ (u.addCause_mem k _)
      · exact ih _ hk
  refine ⟨fun hk => hadds _ s (Notice.mem_segmentList.2 hk), fun c hc => ?_⟩
  exact foldl_keeps (P := fun v => c ∈ (v.segment k).causes ↔ c ∈ (s.segment k).causes)
    (fun v a hv => (State.addCause_mem_iff hc).trans hv) x.segmentList Iff.rfl

theorem State.dropNotice_mem_iff (h : c ≠ .notice x.number) :
    c ∈ ((s.dropNotice x).segment k).causes ↔ c ∈ (s.segment k).causes :=
  foldl_keeps (P := fun v => c ∈ (v.segment k).causes ↔ c ∈ (s.segment k).causes)
    (fun _ _ hv => (State.removeCause_mem_iff h).trans hv) x.segmentList Iff.rfl

end

/-! ### The state but for its notices -/

/-- The notice list is l, and nothing else has changed but what an event may reach of segments, gates, signs, lines and library. -/
structure State.Lists (s t : State) (l : NoticeList) : Prop where
  notices : t.notices = l
  frame : { t.exceptOutputs with notices := s.notices } = s.exceptOutputs

section
variable {s t u a : State} {l m : NoticeList}

theorem State.Lists.of_outputs (h : t.exceptOutputs = s.exceptOutputs) : s.Lists t s.notices :=
  ⟨notices_of_exceptOutputs h, congrArg (fun v : State => { v with notices := s.notices }) h⟩

theorem State.Lists.trans (h : s.Lists t l) (h' : t.Lists u m) : s.Lists u m :=
  ⟨h'.notices, (congrArg (fun v : State => { v with notices := s.notices }) h'.frame).trans h.frame⟩

theorem State.Lists.outputs (h : s.Lists t l) (h' : u.exceptOutputs = t.exceptOutputs) : s.Lists u l :=
  ⟨(notices_of_exceptOutputs h').trans h.notices, (congrArg (fun v : State => { v with notices := s.notices }) h').trans h.frame⟩

theorem State.Lists.answered (h : s.Lists t l) (k tag : Byte) (o : OutcomeCode) (d : List Byte) :
    { (t.answered k tag o d).exceptOutputs with notices := s.notices } = (s.answered k tag o d).exceptOutputs :=
  congrArg (fun v : State => v.answered k tag o d) h.frame

theorem State.Lists.concluded (h : s.Lists t l) (k tag : Byte) (o : OutcomeCode) (d : List Byte) :
    (State.conclude a (t.answered k tag o d)).notices = l ∧
      { (State.conclude a (t.answered k tag o d)).exceptOutputs with notices := s.notices } = (s.answered k tag o d).exceptOutputs := by
  have houtputs := State.conclude_exceptOutputs a (t.answered k tag o d)
  exact ⟨(notices_of_exceptOutputs houtputs).trans h.notices,
    (congrArg (fun v : State => { v with notices := s.notices }) houtputs).trans (h.answered k tag o d)⟩

end

/-! ### Entry and removal (R110) -/

section
variable {s : State} {i : Fin 24} {x : Notice} {v : NoticeState}

/-- The list after the notice of slot i has been removed with a final state. -/
def NoticeList.removed (l : NoticeList) (i : Fin 24) (x : Notice) (v : NoticeState) : NoticeList :=
  { l with slots := l.slots.set i (some { x with state := v }), order := l.order.filter (· != i) }

theorem State.removeNotice_leaves (s : State) (i : Fin 24) (x : Notice) (v : NoticeState) :
    let t := s.removeNotice i x v
    s.Lists t (s.notices.removed i x v) ∧ t.reported (.notice i) (Flag.noticeState ||| Flag.noticeRemoved) ∧
      ∀ k : Fin 4, (t.segment k).causes = ((if x.state = .inForce then s.dropNotice x else s).segment k).causes := by
  dsimp only
  set u := if x.state = .inForce then s.dropNotice x else s with hu
  have huframe : u.exceptBarriers = s.exceptBarriers :=
    iteInduction (motive := fun t : State => t.exceptBarriers = s.exceptBarriers) (fun _ => s.dropNotice_exceptBarriers x) fun _ => rfl
  have hunotices : u.notices = s.notices := (congrArg State.notices huframe :)
  set w : State := { u with notices := u.notices.removed i x v } with hw
  have ht : s.removeNotice i x v = ((w.post (.notice i) (Flag.noticeState ||| Flag.noticeRemoved)).evalNamed x).replan := rfl
  have hout : (s.removeNotice i x v).exceptOutputs = w.exceptOutputs := by
    rw [ht, exceptOutputs_of_exceptSigns (State.replan_exceptSigns _), exceptOutputs_of_exceptBarriers (State.evalNamed_exceptBarriers _ _)]
    rfl
  have hlists : s.Lists w (s.notices.removed i x v) := by
    refine ⟨by rw [hw, hunotices], ?_⟩
    exact (congrArg (fun t : State => { t with notices := s.notices }) (exceptOutputs_of_exceptBarriers huframe) :)
  refine ⟨hlists.outputs hout, ?_, fun k => ?_⟩
  · have hP := recordStable_reported (.notice i) (Flag.noticeState ||| Flag.noticeRemoved)
    rw [ht]
    exact hP.toStepStable.toPlanStable.replan (foldl_keeps (f := State.evalOpen)
      (P := fun t => t.reported (.notice i) (Flag.noticeState ||| Flag.noticeRemoved)) (fun _ _ => hP.evalOpen) _ (State.post_reported ..))
  · have hP := postureStable_causes k (· = (u.segment k).causes)
    rw [ht]
    exact hP.replan (foldl_keeps (f := State.evalOpen) (P := fun t => (t.segment k).causes = (u.segment k).causes) (fun _ _ => hP.evalOpen) _ rfl)

theorem State.noticeEntered_leaves (s : State) (i : Fin 24) (x : Notice) (f : BitVec 16) :
    let t := s.noticeEntered i x f
    t.exceptOutputs = s.exceptOutputs ∧ t.reported (.notice i) f ∧
      ∀ k : Fin 4, (t.segment k).causes = ((if x.state = .inForce then (s.post (.notice i) f).addNotice x else s).segment k).causes := by
  dsimp only
  set u := if x.state = .inForce then (s.post (.notice i) f).addNotice x else s.post (.notice i) f with hu
  have ht : s.noticeEntered i x f = (u.evalNamed x).replan := rfl
  have huframe : u.exceptBarriers = s.exceptBarriers :=
    iteInduction (motive := fun t : State => t.exceptBarriers = s.exceptBarriers) (fun _ => State.addNotice_exceptBarriers ..) fun _ => rfl
  have hP := recordStable_reported (.notice i) f
  have hureported : u.reported (.notice i) f :=
    iteInduction (motive := fun t : State => t.reported (.notice i) f)
      (fun _ => foldl_keeps (f := fun s j => s.addCause j (.notice x.number)) (P := fun t => t.reported (.notice i) f)
        (fun _ _ => hP.toStepStable.addCause) _ (State.post_reported ..)) fun _ => State.post_reported ..
  refine ⟨?_, ?_, fun k => ?_⟩
  · rw [ht, exceptOutputs_of_exceptSigns (State.replan_exceptSigns _), exceptOutputs_of_exceptBarriers (State.evalNamed_exceptBarriers _ _),
      exceptOutputs_of_exceptBarriers huframe]
  · rw [ht]
    exact hP.toStepStable.toPlanStable.replan (foldl_keeps (f := State.evalOpen) (P := fun t => t.reported (.notice i) f)
      (fun _ _ => hP.evalOpen) _ hureported)
  · have hQ := postureStable_causes k (· = (u.segment k).causes)
    have heval : ((u.evalNamed x).replan.segment k).causes = (u.segment k).causes :=
      hQ.replan (foldl_keeps (f := State.evalOpen) (P := fun t => (t.segment k).causes = (u.segment k).causes) (fun _ _ => hQ.evalOpen) _ rfl)
    rw [ht, heval, hu]
    split <;> rfl

end

end Sys2Proof.Machine
end

section
/-! PROOF. END_NOTICE and SET_LIST_MARGIN (R111, R112). -/

namespace Sys2Proof.Machine

/-! ### The slot of a number (R106) -/

theorem NoticeList.slotOf_none {l : NoticeList} {n : Nat} (h : ∀ (i : Fin 24) (x : Notice), l.slots[i] = some x → x.number ≠ n) :
    l.slotOf n = none := by
  refine List.find?_eq_none.2 fun i _ hi => ?_
  cases hx : l.slots[i] with
  | none => simp [hx] at hi
  | some x => exact h i x hx (by simpa [hx] using hi)

theorem NoticeList.slotOf_unique {l : NoticeList} {n : Nat} {i : Fin 24} {x : Notice} (hx : l.slots[i] = some x) (hn : x.number = n)
    (h : ∀ (j : Fin 24) (y : Notice), j ≠ i → l.slots[j] = some y → y.number ≠ n) : l.slotOf n = some i := by
  cases hs : l.slotOf n with
  | none =>
    have hnone := List.find?_eq_none.1 hs i (List.mem_finRange i)
    simp [hx, hn] at hnone
  | some j =>
    have hj := List.find?_some hs
    by_cases hji : j = i
    · rw [hji]
    · cases hy : l.slots[j] with
      | none => simp [hy] at hj
      | some y => exact absurd (by simpa [hy] using hj) (h j y hji hy)

theorem NoticeState.live_iff (v : NoticeState) : v.live = true ↔ v ≠ .lifted ∧ v ≠ .cancelled := by cases v <;> simp [NoticeState.live]

/-- Settles O41. -/
theorem noticeEndsAndMargin : Obligations.NoticeEndsAndMargin := by
  unfold Obligations.NoticeEndsAndMargin
  refine ⟨fun tag number s h => ⟨fun h0 => ?_, fun h0 hnone => ?_, fun i x h0 hx hn hunique => ?_⟩, fun tag margin s h => ?_⟩
  · exact exec_refused (k := .endNotice) rfl h (if_pos h0)
  · refine exec_refused (k := .endNotice) rfl h ((if_neg h0).trans ?_)
    rw [NoticeList.slotOf_none hnone]
  · intro final
    have hslot : s.notices.slotOf number.toNat = some i := NoticeList.slotOf_unique hx hn hunique
    have happly : s.applyRequest (.endNotice tag number) =
        if x.state.live then accept (u8 i.val ++ u8 x.state.ended.code) (s.removeNotice i x x.state.ended) else refuse .wrongState s := by
      refine (if_neg h0).trans ?_
      rw [hslot]
      dsimp only
      rw [hx]
    refine ⟨fun hdead => ?_, fun h1 h2 => ?_⟩
    · refine exec_refused (k := .endNotice) rfl h (happly.trans (if_neg fun hl => ?_))
      obtain ⟨h1, h2⟩ := (NoticeState.live_iff _).1 hl
      exact hdead.elim h1 h2
    · obtain ⟨hlists, hreported, hcauses⟩ := s.removeNotice_leaves i x final
      obtain ⟨hnotices, hframe⟩ := hlists.concluded (a := s) 0x2D tag .ok (u8 i.val ++ u8 final.code)
      have hP := recordStable_reported (.notice i) (Flag.noticeState ||| Flag.noticeRemoved)
      refine ⟨_, exec_concluded (k := .endNotice) rfl h (happly.trans (if_pos ((NoticeState.live_iff _).2 ⟨h1, h2⟩))), hnotices,
        hP.toStepStable.conclude (hP.answered hreported), fun k => ?_, hframe⟩
      have hkeeps : ((State.conclude s ((s.removeNotice i x final).answered 0x2D tag .ok (u8 i.val ++ u8 final.code))).segment k).causes =
          ((if x.state = .inForce then s.dropNotice x else s).segment k).causes := by
        have hQ := postureStable_causes k (· = ((if x.state = .inForce then s.dropNotice x else s).segment k).causes)
        exact hQ.conclude (hQ.answered (hcauses k))
      obtain ⟨hnamed, hspared⟩ := s.dropNotice_causes x k
      refine ⟨fun hf hk => hkeeps.trans ?_, fun hor => hkeeps.trans ?_⟩
      · rw [if_pos hf]
        exact hnamed hk
      · by_cases hf : x.state = .inForce
        · rw [if_pos hf]
          exact hspared (hor.resolve_left fun hx => hx hf)
        · rw [if_neg hf]
  · intro m near
    have hm : clampNat 0 8 margin.toNat = m := by simp only [clampNat, m]; omega
    set u : State := ({ s with notices := { s.notices with margin := m } }.post .system Flag.listConfig) with hu
    have hcheck := u.checkListMargin_eq
    have happly : s.applyRequest (.setListMargin tag margin) =
        accept (u8 m ++ u8 u.checkListMargin.notices.freeCount ++ u8 (flagBit 0 u.checkListMargin.notices.spent)) u.checkListMargin := by
      show s.applySetListMargin margin = _
      unfold State.applySetListMargin
      dsimp only
      rw [hm]
    have hnotices : u.checkListMargin.notices = { s.notices with margin := m, spent := near } := by
      rw [hcheck]
      cases u.notices.checked.spent && !u.notices.spent <;> rfl
    have hbit : u8 (flagBit 0 near) = u8 (if near then 1 else 0) := by cases near <;> rfl
    have hsame : ({ s.notices with margin := m, spent := near } : NoticeList).freeCount = s.notices.freeCount := rfl
    rw [exec_accepted (k := .setListMargin) rfl h happly (by rw [hcheck]; cases u.notices.checked.spent && !u.notices.spent <;> rfl)
      (by rw [hcheck]; cases u.notices.checked.spent && !u.notices.spent <;> rfl), hnotices, hsame, hbit, hcheck]
    rfl

end Sys2Proof.Machine
end

section
/-! PROOF. POST_NOTICE (R104 to R110, R112). -/

namespace Sys2Proof.Machine

/-! ### The next number (R106) -/

theorem NoticeList.holdsNumber_iff (l : NoticeList) (n : Nat) :
    l.holdsNumber n = true ↔ ∃ (j : Fin 24) (y : Notice), l.slots[j] = some y ∧ y.number = n := by
  rw [NoticeList.holdsNumber, List.any_eq_true]
  refine ⟨fun ⟨j, _, hj⟩ => ?_, fun ⟨j, y, hy, hn⟩ => ⟨j, List.mem_finRange j, by simp [hy, hn]⟩⟩
  cases hy : l.slots[j] with
  | none => simp [hy] at hj
  | some y => exact ⟨j, y, hy, by simpa [hy] using hj⟩

/-- The m-th candidate after the last number assigned: 1 follows 255. -/
def candidate (last m : Nat) : Nat := (last + m) % 255 + 1

theorem numberAfter_candidate (last m : Nat) : numberAfter (candidate last m) = candidate last (m + 1) := by
  unfold numberAfter candidate
  omega

theorem candidate_injective {last j k : Nat} (hj : j < 24) (hk : k < 24) (h : candidate last j = candidate last k) : j = k := by
  unfold candidate at h
  omega

/-- The search goes on over held numbers, and stops at the first that is not held or when its fuel is spent. -/
theorem NoticeList.search_spec (l : NoticeList) (last n j : Nat) :
    ∃ m, j ≤ m ∧ m ≤ j + n ∧ l.search n (candidate last j) = candidate last m ∧
      (∀ k, j ≤ k → k < m → l.holdsNumber (candidate last k) = true) ∧ (m < j + n → l.holdsNumber (candidate last m) = false) := by
  induction n generalizing j with
  | zero => exact ⟨j, le_rfl, le_rfl, rfl, fun k h1 h2 => by omega, fun h => by omega⟩
  | succ n ih =>
    by_cases hj : l.holdsNumber (candidate last j) = true
    · obtain ⟨m, h1, h2, h3, h4, h5⟩ := ih (j + 1)
      refine ⟨m, by omega, by omega, ?_, fun k hk1 hk2 => ?_, fun h => h5 (by omega)⟩
      · rw [← h3, ← numberAfter_candidate]
        exact if_pos hj
      · by_cases hkj : k = j
        · rw [hkj, hj]
        · exact h4 k (by omega) hk2
    · exact ⟨j, le_rfl, by omega, if_neg hj, fun k h1 h2 => by omega, fun _ => by simpa using hj⟩

/-- With a free slot the search ends before its fuel does: at most 23 numbers are held. -/
theorem NoticeList.nextNumber_free {l : NoticeList} {i : Fin 24} (hi : l.slots[i] = none) :
    ∃ m, l.nextNumber = candidate l.lastNumber m ∧ l.holdsNumber (candidate l.lastNumber m) = false ∧
      ∀ k < m, l.holdsNumber (candidate l.lastNumber k) = true := by
  obtain ⟨m, -, hle, heq, hheld, hfree⟩ := l.search_spec l.lastNumber 24 0
  by_cases hm : m < 24
  · exact ⟨m, heq, hfree (by omega), fun k hk => hheld k (by omega) hk⟩
  · exfalso
    have hslot (k : Fin 24) : ∃ j : Fin 24, ∃ y : Notice, l.slots[j] = some y ∧ y.number = candidate l.lastNumber k :=
      (l.holdsNumber_iff _).1 (hheld k (by omega) (by omega))
    choose f hf using hslot
    have hinjective : Function.Injective f := fun a b hab => by
      obtain ⟨y, hy, hny⟩ := hf a
      obtain ⟨z, hz, hnz⟩ := hf b
      rw [hab, hz] at hy
      obtain rfl : z = y := Option.some.inj hy
      exact Fin.ext (candidate_injective a.isLt b.isLt (hny.symm.trans hnz))
    obtain ⟨k, hk⟩ := Finite.injective_iff_surjective.1 hinjective i
    obtain ⟨y, hy, -⟩ := hf k
    rw [hk, hi] at hy
    exact absurd hy (by simp)

/-! ### The slot filled (R105, R108) -/

/-- The list with slot i filled by a new notice, placed last. -/
def NoticeList.filled (l : NoticeList) (i : Fin 24) (x : Notice) : NoticeList :=
  { l with slots := l.slots.set i (some x), order := l.order ++ [i], lastNumber := x.number }

theorem NoticeList.filled_freeCount {l : NoticeList} {i : Fin 24} {x : Notice} (hi : l.slots[i] = none) :
    (l.filled i x).freeCount + 1 = l.freeCount := by
  have hslot (j : Fin 24) : ((l.filled i x).slots[j] == none) = (l.slots[j] == none && j != i) := by
    by_cases hj : j = i
    · subst hj
      simp [NoticeList.filled]
    · have hne : i.val ≠ j.val := fun h => hj (Fin.ext h.symm)
      simp [NoticeList.filled, Vector.getElem_set_ne _ _ hne, hj]
  have hmem : i ∈ (List.finRange 24).filter fun j => l.slots[j] == none :=
    List.mem_filter.2 ⟨List.mem_finRange i, beq_iff_eq.2 hi⟩
  have hnodup : ((List.finRange 24).filter fun j => l.slots[j] == none).Nodup := (List.nodup_finRange 24).filter _
  have herase : ((List.finRange 24).filter fun j => (l.filled i x).slots[j] == none) =
      ((List.finRange 24).filter fun j => l.slots[j] == none).erase i := by
    rw [hnodup.erase_eq_filter, List.filter_filter]
    exact List.filter_congr fun j _ => (hslot j).trans (Bool.and_comm _ _)
  unfold NoticeList.freeCount
  rw [herase, List.length_erase_of_mem hmem]
  have := List.length_pos_of_mem hmem
  omega

theorem NoticeList.freeSlot_first {l : NoticeList} {i : Fin 24} (hi : l.slots[i] = none) (h : ∀ j : Fin 24, j < i → l.slots[j] ≠ none) :
    l.freeSlot = some i := by
  refine List.find?_eq_some_iff_getElem.2 ⟨beq_iff_eq.2 hi, i.val, by simp, by simp, fun j hj => ?_⟩
  have hne : l.slots[(⟨j, by omega⟩ : Fin 24)] ≠ none := h ⟨j, by omega⟩ hj
  have hbeq : (l.slots[(⟨j, by omega⟩ : Fin 24)] == none) = false := beq_eq_false_iff_ne.2 hne
  simpa using hbeq

theorem NoticeList.freeSlot_none {l : NoticeList} (h : ∀ j : Fin 24, l.slots[j] ≠ none) : l.freeSlot = none :=
  List.find?_eq_none.2 fun j _ => by simpa using h j

/-! ### A POSTED notice makes its open segments CAUTION (R6, R110) -/

theorem Notice.segmentList_nodup (x : Notice) : x.segmentList.Nodup := by
  unfold Notice.segmentList bitsOf
  exact (List.nodup_finRange 4).filter _

theorem State.evalNamed_caution {u : State} {x : Notice} {k : Fin 4} (hx : x ∈ u.listedNotices) (hp : x.state = .posted)
    (hk : x.segments.getLsbD k.val = true) (ho : (u.segment k).posture = .opened ∨ (u.segment k).posture = .caution) :
    ((u.evalNamed x).segment k).posture = .caution ∧ ((u.evalNamed x).segment k).phase = .noPhase := by
  have hcaution : u.openPosture k = .caution := (u.openPosture_cases k).1 (.inr (.inr ⟨x, hx, hp, hk⟩))
  refine foldl_establishes (f := State.evalOpen) (n := k)
    (Q := fun v => ((v.segment k).posture = .opened ∨ (v.segment k).posture = .caution) ∧ v.openPosture k = .caution)
    (P := fun v => (v.segment k).posture = .caution ∧ (v.segment k).phase = .noPhase)
    x.segmentList_nodup (Notice.mem_segmentList.2 hk) (fun v j hj hv => ?_) (fun v hv => ?_) (fun v j hj hv => ?_) ⟨ho, hcaution⟩
  · obtain ⟨-, -, -, -, -, -, -, -, -, hother, -⟩ := v.evalOpen_leaves j
    have hsame := hother k (Ne.symm hj)
    exact ⟨by rw [hsame]; exact hv.1,
      (State.openPosture_congr (congrArg Segment.uncertain hsame) (State.evalOpen_exceptBarriers v j)).trans hv.2⟩
  · have heq : v.evalOpen k = v.setPosture k .caution .noPhase := (if_pos hv.1).trans (by rw [hv.2])
    rw [heq]
    exact State.setPosture_takes ..
  · obtain ⟨-, -, -, -, -, -, -, -, -, hother, -⟩ := v.evalOpen_leaves j
    rw [hother k (Ne.symm hj)]
    exact hv

/-! ### The check of the free count (R112) -/

theorem State.checkListMargin_leaves (s : State) :
    s.Lists s.checkListMargin s.notices.checked ∧ s.checkListMargin.segments = s.segments ∧ s.checkListMargin.gates = s.gates ∧
      s.checkListMargin.signs = s.signs ∧
      (s.notices.checked.spent = true → s.notices.spent = false → s.checkListMargin.reported .system Flag.listNearFull) := by
  rw [State.checkListMargin_eq]
  refine ⟨?_, ?_, ?_, ?_, fun h1 h2 => ?_⟩
  · cases s.notices.checked.spent && !s.notices.spent <;> exact ⟨rfl, rfl⟩
  · cases s.notices.checked.spent && !s.notices.spent <;> rfl
  · cases s.notices.checked.spent && !s.notices.spent <;> rfl
  · cases s.notices.checked.spent && !s.notices.spent <;> rfl
  · rw [h1, h2]
    exact State.post_reported ..

theorem State.placeNotice_leaves (s : State) (i : Fin 24) (x : Notice) :
    let t := s.placeNotice i x
    s.Lists t (s.notices.filled i x).checked ∧ t.reported (.notice i) (Flag.noticeNew ||| Flag.noticeState) ∧
      ((s.notices.filled i x).checked.spent = true → s.notices.spent = false → t.reported .system Flag.listNearFull) ∧
      (∀ k : Fin 4, (x.state = .inForce → x.segments.getLsbD k.val = true → Cause.notice x.number ∈ (t.segment k).causes) ∧
        (x.state ≠ .inForce → (t.segment k).causes = (s.segment k).causes) ∧
        (x.state = .posted → x.segments.getLsbD k.val = true → (s.segment k).posture = .opened ∨ (s.segment k).posture = .caution →
          (t.segment k).posture = .caution ∧ (t.segment k).phase = .noPhase)) := by
  dsimp only
  set f := Flag.noticeNew ||| Flag.noticeState with hf
  set u := s.fillSlot i x with hu
  set y := u.noticeEntered i x f with hy
  have hulists : s.Lists u (s.notices.filled i x) := ⟨rfl, rfl⟩
  obtain ⟨hout, hreported, hcauses⟩ := u.noticeEntered_leaves i x f
  have hylists := hulists.outputs hout
  obtain ⟨hchecked, hsegments, -, -, hnear⟩ := y.checkListMargin_leaves
  have hsegment (k : Fin 4) : y.checkListMargin.segment k = y.segment k := congrArg (fun v : Vector Segment 4 => v[k]) hsegments
  have ht : s.placeNotice i x = y.checkListMargin := rfl
  rw [ht]
  rw [hylists.notices] at hchecked hnear
  refine ⟨hylists.trans hchecked, ?_, fun h1 h2 => hnear h1 h2, fun k => ⟨fun hx hk => ?_, fun hx => ?_, fun hx hk ho => ?_⟩⟩
  · have hP := recordStable_reported (.notice i) f
    exact hP.toStepStable.checkListMargin hreported
  · have hc := hcauses k
    rw [hsegment, hc, if_pos hx]
    exact ((u.post (.notice i) f).addNotice_causes x k).1 hk
  · have hc := hcauses k
    rw [hsegment, hc, if_neg hx]
    rfl
  · have hnot : x.state ≠ .inForce := by simp [hx]
    have hlisted : x ∈ (u.post (.notice i) f).listedNotices := by
      refine List.mem_filterMap.2 ⟨i, ?_, ?_⟩
      · show i ∈ s.notices.order ++ [i]
        simp
      · show (s.notices.slots.set i (some x))[i] = some x
        simp
    have heq : y = ((u.post (.notice i) f).evalNamed x).replan := by
      show State.replan (State.evalNamed (if x.state = .inForce then _ else _) x) = _
      rw [if_neg hnot]
      rfl
    have hreplan : y.segments = ((u.post (.notice i) f).evalNamed x).segments := by
      rw [heq]
      exact (congrArg State.segments (State.replan_exceptSigns _) :)
    have hysegment : y.segment k = ((u.post (.notice i) f).evalNamed x).segment k := congrArg (fun v : Vector Segment 4 => v[k]) hreplan
    rw [hsegment, hysegment]
    exact State.evalNamed_caution hlisted hx hk ho

/-! ### The request (R107, R108) -/

/-- The state that a notice with these points has at the clock's second (R104, R109). -/
theorem Notice.firstState_cases {x : Notice} {clock : Option Nat} (hset : x.start ≠ none ∨ x.stop ≠ none → clock ≠ none)
    (hstop : ∀ e n : Nat, x.stop = some e → clock = some n → n < e) :
    (x.start = none ∨ (∃ b n : Nat, x.start = some b ∧ clock = some n ∧ b ≤ n) → x.firstState clock = .inForce) ∧
      (∀ b : Nat, x.start = some b → (¬∃ n : Nat, clock = some n ∧ b ≤ n) →
        ((∃ n : Nat, clock = some n ∧ b - 60 * x.lead ≤ n) → x.firstState clock = .posted) ∧
          ((¬∃ n : Nat, clock = some n ∧ b - 60 * x.lead ≤ n) → x.firstState clock = .pending)) := by
  have htarget (hn : ∀ e : Nat, x.stop = some e → ¬e ≤ clock.getD 0) : x.target (clock.getD 0) = match x.start with
      | none => some .inForce
      | some t => if t ≤ clock.getD 0 then some .inForce else if x.announcePoint t ≤ clock.getD 0 then some .posted else some .pending := by
    refine if_neg ?_
    cases hs : x.stop with
    | none => simp
    | some e => simpa using hn e hs
  have hstop' : ∀ e : Nat, x.stop = some e → ¬e ≤ clock.getD 0 := fun e he => by
    cases hc : clock with
    | none => exact absurd hc (hset (.inr (by simp [he])))
    | some n =>
      have := hstop e n he hc
      simpa using this
  have hstate := htarget hstop'
  unfold Notice.firstState
  rw [hstate]
  refine ⟨fun h => ?_, fun b hb hnot => ?_⟩
  · rcases h with h | ⟨b, n, hb, hc, hle⟩
    · rw [h]
      rfl
    · rw [hb, hc]
      simp [hle]
  · cases hc : clock with
    | none => exact absurd hc (hset (.inl (by simp [hb])))
    | some n =>
      rw [hc] at hnot
      have hlt : ¬b ≤ n := fun h => hnot ⟨n, rfl, h⟩
      rw [hb]
      refine ⟨fun ⟨m, hm, hle⟩ => ?_, fun hn => ?_⟩
      · obtain rfl : n = m := Option.some.inj hm
        simp [hlt, Notice.announcePoint, hle]
      · have hna : ¬b - 60 * x.lead ≤ n := fun h => hn ⟨n, rfl, h⟩
        simp only [Option.getD_some, Notice.announcePoint, hlt, hna, if_false]

theorem secondOf_eq_none {w : Word} : secondOf w = none ↔ w = 0xFFFFFFFF := by
  unfold secondOf
  split <;> simp_all

theorem secondOf_eq_some {w : Word} {n : Nat} : secondOf w = some n ↔ w ≠ 0xFFFFFFFF ∧ w.toNat = n := by
  unfold secondOf
  split <;> simp_all

theorem badEnd_iff (clock : Option Nat) (start stop : Word) :
    badEnd clock (secondOf start) (secondOf stop) = true ↔
      stop ≠ 0xFFFFFFFF ∧ ((start ≠ 0xFFFFFFFF ∧ stop.toNat ≤ start.toNat) ∨ ∃ n : Nat, clock = some n ∧ stop.toNat ≤ n) := by
  by_cases hstop : stop = 0xFFFFFFFF
  · rw [secondOf_eq_none.2 hstop]
    simp [badEnd, hstop]
  · rw [secondOf_eq_some.2 ⟨hstop, rfl⟩]
    by_cases hstart : start = 0xFFFFFFFF
    · rw [secondOf_eq_none.2 hstart]
      cases clock with
      | none => simp [badEnd, hstart]
      | some n => simpa [badEnd, hstart] using fun _ => hstop
    · rw [secondOf_eq_some.2 ⟨hstart, rfl⟩, and_iff_right hstop, and_iff_right hstart]
      cases clock <;> simp [badEnd]

theorem secondPageOf_eq {count : Byte} {second : Half} (hc : count = 1 ∨ count = 2) (h2 : count = 2 → second.toNat < 4096) :
    secondPageOf count second = some (if count = 2 then some (second.setWidth 12) else none) := by
  rcases hc with rfl | rfl
  · rfl
  · have hp := pageOf_of_lt (h2 rfl)
    simp [secondPageOf, hp]

theorem secondPageOf_none {count : Byte} {second : Half} (h : ¬((count = 1 ∨ count = 2) ∧ (count = 2 → second.toNat < 4096))) :
    secondPageOf count second = none := by
  unfold secondPageOf
  split
  · next h1 =>
    subst h1
    exact absurd ⟨.inl rfl, fun h2 => absurd h2 (by decide)⟩ h
  · split
    · next h2 =>
      have hp : pageOf second = none := if_neg fun hp => h ⟨.inr h2, fun _ => hp⟩
      rw [hp]
      rfl
    · rfl

/-- The notice that an accepted POST_NOTICE enters (R108). -/
def State.newNotice (s : State) (reference : Half) (segments : BitVec 4) (first : Page) (second : Option Page)
    (start stop : Option Nat) (lead : Half) : Notice :=
  let x : Notice :=
    { number := s.notices.nextNumber, reference := reference, segments := segments, firstPage := first, secondPage := second,
      start := start, stop := stop, lead := min 1440 lead.toNat, state := .pending }
  { x with state := x.firstState s.tmb.passClock }

theorem State.newNotice_state {s : State} {reference : Half} {segments : BitVec 4} {first : Page} {second : Option Page}
    {start stop : Word} {lead : Half} (hu : ¬((start ≠ 0xFFFFFFFF ∨ stop ≠ 0xFFFFFFFF) ∧ s.tmb.passClock = none))
    (hl : ¬(stop ≠ 0xFFFFFFFF ∧ ((start ≠ 0xFFFFFFFF ∧ stop.toNat ≤ start.toNat) ∨
      ∃ n : Nat, s.tmb.passClock = some n ∧ stop.toNat ≤ n))) :
    let x := s.newNotice reference segments first second (secondOf start) (secondOf stop) lead
    let reached (k : Nat) : Prop := ∃ n : Nat, s.tmb.passClock = some n ∧ k ≤ n
    (start = 0xFFFFFFFF ∨ reached start.toNat → x.state = .inForce) ∧
      (start ≠ 0xFFFFFFFF → ¬reached start.toNat →
        (reached (start.toNat - 60 * min 1440 lead.toNat) → x.state = .posted) ∧
          (¬reached (start.toNat - 60 * min 1440 lead.toNat) → x.state = .pending)) := by
  intro x reached
  set x₀ : Notice := { x with state := .pending } with hx₀
  have hcases := Notice.firstState_cases (x := x₀) (clock := s.tmb.passClock)
    (fun hset hnone => hu ⟨hset.imp (mt secondOf_eq_none.2) (mt secondOf_eq_none.2), hnone⟩)
    (fun e n he hn => by
      obtain ⟨hstop, rfl⟩ := secondOf_eq_some.1 he
      by_contra hle
      exact hl ⟨hstop, .inr ⟨n, hn, by omega⟩⟩)
  obtain ⟨hforce, hwaits⟩ := hcases
  refine ⟨fun h => ?_, fun h hr => ?_⟩
  · by_cases hs : start = 0xFFFFFFFF
    · exact hforce (.inl (secondOf_eq_none.2 hs))
    · obtain ⟨n, hn, hle⟩ := h.resolve_left hs
      exact hforce (.inr ⟨start.toNat, n, secondOf_eq_some.2 ⟨hs, rfl⟩, hn, hle⟩)
  · exact hwaits start.toNat (secondOf_eq_some.2 ⟨h, rfl⟩) hr

theorem State.acceptNotice_free {s : State} {reference : Half} {segments : BitVec 4} {first : Page} {second : Option Page}
    {start stop : Option Nat} {lead : Half} {i : Fin 24} (h1 : ¬((start.isSome ∨ stop.isSome) ∧ s.tmb.passClock = none))
    (h2 : ¬badEnd s.tmb.passClock start stop = true) (h3 : s.notices.freeSlot = some i) :
    let x := s.newNotice reference segments first second start stop lead
    s.acceptNotice reference segments first second start stop lead =
      accept (u8 i.val ++ u8 x.number ++ u8 x.state.code ++ u16 x.lead ++ u8 (s.placeNotice i x).notices.freeCount) (s.placeNotice i x) := by
  have hlead : clampNat 0 1440 lead.toNat = min 1440 lead.toNat := by simp only [clampNat]; omega
  rw [State.acceptNotice, if_neg h1, if_neg h2, h3, State.newNotice, ← hlead]

/-- POST_NOTICE with its fields read (R107). -/
theorem State.applyPostNotice_read {reference : Half} {segments pageCount : Byte} {firstPage secondPage : Half} {start stop : Word}
    {lead : Half} {s : State} (h : 1 ≤ segments.toNat ∧ segments.toNat < 16 ∧ (pageCount = 1 ∨ pageCount = 2) ∧ firstPage.toNat < 4096 ∧
      (pageCount = 2 → secondPage.toNat < 4096)) :
    s.applyPostNotice reference segments pageCount firstPage secondPage start stop lead =
      s.acceptNotice reference (segments.setWidth 4) (firstPage.setWidth 12) (if pageCount = 2 then some (secondPage.setWidth 12) else none)
        (secondOf start) (secondOf stop) lead := by
  obtain ⟨h1, h2, hcount, hfirst, hsecond⟩ := h
  have hsegments : ¬(segments = 0 ∨ 16 ≤ segments.toNat) := by
    rintro (h0 | h0)
    · rw [h0] at h1
      exact absurd h1 (by decide)
    · omega
  rw [State.applyPostNotice, if_neg hsegments, pageOf_of_lt hfirst, secondPageOf_eq hcount hsecond]

theorem State.applyPostNotice_unread {reference : Half} {segments pageCount : Byte} {firstPage secondPage : Half} {start stop : Word}
    {lead : Half} {s : State} (h : ¬(1 ≤ segments.toNat ∧ segments.toNat < 16 ∧ (pageCount = 1 ∨ pageCount = 2) ∧ firstPage.toNat < 4096 ∧
      (pageCount = 2 → secondPage.toNat < 4096))) :
    s.applyPostNotice reference segments pageCount firstPage secondPage start stop lead = refuse .outOfRange s := by
  unfold State.applyPostNotice
  by_cases hsegments : segments = 0 ∨ 16 ≤ segments.toNat
  · exact if_pos hsegments
  · rw [if_neg hsegments]
    obtain ⟨hne, hlt⟩ := not_or.1 hsegments
    have hpos : 1 ≤ segments.toNat := Nat.pos_of_ne_zero fun h0 => hne (BitVec.eq_of_toNat_eq h0)
    by_cases hfirst : firstPage.toNat < 4096
    · rw [secondPageOf_none fun hs => h ⟨hpos, by omega, hs.1, hfirst, hs.2⟩]
      cases pageOf firstPage <;> rfl
    · have hp : pageOf firstPage = none := if_neg hfirst
      rw [hp]

/-- What ends the step leaves a CAUTION segment as it is. -/
theorem State.concluded_caution {a t : State} {k : Fin 4} {kind tag : Byte} {o : OutcomeCode} {d : List Byte}
    (hp : (t.segment k).posture = .caution) (hph : (t.segment k).phase = .noPhase) :
    ((State.conclude a (t.answered kind tag o d)).segment k).posture = .caution := by
  have hspares : (t.answered kind tag o d).Spares (State.conclude a (t.answered kind tag o d)) k := by
    refine State.conclude_spares (.inr ⟨?_, fun hx => ?_⟩)
    · exact ne_of_eq_of_ne hph (by decide)
    · exact absurd hx (not_or.2 ⟨ne_of_eq_of_ne hp (by decide), ne_of_eq_of_ne hp (by decide)⟩)
  exact (congrArg Segment.posture hspares.segment).trans hp

/-- Settles O40. -/
theorem postNoticeApplies : Obligations.PostNoticeApplies := by
  unfold Obligations.PostNoticeApplies
  intro tag segments pageCount reference firstPage secondPage lead start stop s h command absent sound unset late refused held reached minutes
  have hrefused {o : OutcomeCode} (hr : s.applyRequest command = refuse o s) : refused o := exec_refused (k := .postNotice) rfl h hr
  have hunset : ((secondOf start).isSome = true ∨ (secondOf stop).isSome = true) ∧ s.tmb.passClock = none ↔ unset := by
    simp only [← Option.not_isNone, Bool.not_eq_true', ← Bool.not_eq_true, Option.isNone_iff_eq_none, secondOf_eq_none, unset, absent, ne_eq]
  have hlate := badEnd_iff s.tmb.passClock start stop
  have hread (hs : sound) : s.applyRequest command = s.acceptNotice reference (segments.setWidth 4) (firstPage.setWidth 12)
      (if pageCount = 2 then some (secondPage.setWidth 12) else none) (secondOf start) (secondOf stop) lead :=
    State.applyPostNotice_read hs
  refine ⟨fun hs => hrefused (State.applyPostNotice_unread hs), fun hs hu => hrefused ((hread hs).trans (if_pos (hunset.2 hu))),
    fun hs hu hl => hrefused ((hread hs).trans ((if_neg (mt hunset.1 hu)).trans (if_pos (hlate.2 hl)))), fun hs hu hl hfull => hrefused ?_,
    fun hs hu hl i hi hfirst => ?_⟩
  · rw [hread hs, State.acceptNotice, if_neg (mt hunset.1 hu), if_neg (mt hlate.1 hl), NoticeList.freeSlot_none hfull]
  · set x := s.newNotice reference (segments.setWidth 4) (firstPage.setWidth 12)
      (if pageCount = 2 then some (secondPage.setWidth 12) else none) (secondOf start) (secondOf stop) lead with hx
    set t := s.placeNotice i x with ht
    set d : List Byte := u8 i.val ++ u8 x.number ++ u8 x.state.code ++ u16 x.lead ++ u8 t.notices.freeCount with hd
    have happly : s.applyRequest command = accept d t := by
      rw [hread hs, State.acceptNotice_free (mt hunset.1 hu) (mt hlate.1 hl) (NoticeList.freeSlot_first hi hfirst)]
    obtain ⟨hlists, hreported, hnear, hsegments⟩ := s.placeNotice_leaves i x
    obtain ⟨hnotices, hframe⟩ := hlists.concluded (a := s) 0x2C tag .ok d
    set T := State.conclude s (t.answered 0x2C tag .ok d) with hT
    have hexec : exec command s = .next T := exec_concluded (k := .postNotice) rfl h happly
    have hTreported {o : Obj} {f : BitVec 16} (ho : t.reported o f) : T.reported o f := by
      have hP := recordStable_reported o f
      exact hP.toStepStable.conclude (hP.answered ho)
    have hTcauses (k : Fin 4) {Q : List Cause → Prop} (hk : Q (t.segment k).causes) : Q (T.segment k).causes := by
      have hP := postureStable_causes k Q
      exact hP.conclude (hP.answered hk)
    have hfree := NoticeList.filled_freeCount (x := x) hi
    have hTfree : T.notices.freeCount = (s.notices.filled i x).freeCount := by rw [hnotices]; rfl
    obtain ⟨m, hnumber, hnothing, hbefore⟩ := NoticeList.nextNumber_free hi
    obtain ⟨hforce, hwaits⟩ := s.newNotice_state (reference := reference) (segments := segments.setWidth 4) (first := firstPage.setWidth 12)
      (second := if pageCount = 2 then some (secondPage.setWidth 12) else none) (lead := lead) hu hl
    have hTposture (k : Fin 4) (h1 : x.state = .posted) (h2 : x.segments.getLsbD k.val = true)
        (ho : (s.segment k).posture = .opened ∨ (s.segment k).posture = .caution) : (T.segment k).posture = .caution := by
      obtain ⟨hposture, hphase⟩ := (hsegments k).2.2 h1 h2 ho
      exact State.concluded_caution hposture hphase
    have hheld : ¬held x.number := fun hh => by
      have hyes := (s.notices.holdsNumber_iff _).2 hh
      exact Bool.false_ne_true (hnothing.symm.trans ((congrArg s.notices.holdsNumber hnumber.symm).trans hyes))
    have hdata : { T.exceptOutputs with notices := s.notices } = (s.answered 0x2C tag .ok
        (u8 i.val ++ u8 x.number ++ u8 x.state.code ++ u16 minutes ++ u8 T.notices.freeCount)).exceptOutputs := by
      rw [hframe, hd, show t.notices.freeCount = T.notices.freeCount by rw [hnotices, hlists.notices]]
      rfl
    clear_value T
    refine ⟨T, x, hexec, by rw [hnotices]; rfl, by rw [hnotices]; rfl, by rw [hnotices]; rfl, by rw [hnotices]; rfl, rfl, rfl, rfl, rfl, rfl,
      rfl, rfl, ⟨m, hnumber, hheld, fun k hk => (s.notices.holdsNumber_iff _).1 (hbefore k hk)⟩, hforce, hwaits,
      fun k => ⟨fun h1 h2 => hTcauses k ((hsegments k).1 h1 h2), hTposture k,
        fun h1 => hTcauses k (Q := (· = (s.segment k).causes)) ((hsegments k).2.1 h1)⟩, hTreported hreported,
      by rw [hTfree]; exact hfree, ?_, fun h1 h2 => ?_, hdata⟩
    · rw [hTfree, hnotices]
      rfl
    · rw [hnotices] at h1
      exact hTreported (hnear h1 h2)

end Sys2Proof.Machine
end

section
/-! PROOF. The pass clock and the notices it moves (R109, R110, R186). -/

namespace Sys2Proof.Machine

/-! ### The target of an evaluation (R109) -/

/-- The end of a notice is reached at second n. -/
def Notice.endedBy (x : Notice) (n : Nat) : Prop := ∃ e : Nat, x.stop = some e ∧ e ≤ n

/-- The start of a notice, if it has one, is reached at second n. -/
def Notice.begunBy (x : Notice) (n : Nat) : Prop := ∀ b : Nat, x.start = some b → b ≤ n

/-- The announce point of a notice with a start is reached at second n. -/
def Notice.announcedBy (x : Notice) (n : Nat) : Prop := ∀ b : Nat, x.start = some b → b - 60 * x.lead ≤ n

section
variable {x : Notice} {n : Nat}

theorem Notice.target_ended (h : x.endedBy n) : x.target n = none := by
  obtain ⟨e, he, hle⟩ := h
  exact if_pos (by simp [he, hle])

theorem Notice.target_running (h : ¬x.endedBy n) : x.target n = match x.start with
    | none => some .inForce
    | some t => if t ≤ n then some .inForce else if x.announcePoint t ≤ n then some .posted else some .pending := by
  refine if_neg ?_
  cases hs : x.stop with
  | none => simp
  | some e => simpa using fun hle : e ≤ n => h ⟨e, hs, hle⟩

theorem Notice.target_begun (h : ¬x.endedBy n) (hb : x.begunBy n) : x.target n = some .inForce := by
  rw [Notice.target_running h]
  cases hs : x.start with
  | none => rfl
  | some b => exact if_pos (hb b hs)

theorem Notice.target_waiting (h : ¬x.endedBy n) (hb : ¬x.begunBy n) :
    (x.announcedBy n → x.target n = some .posted) ∧ (¬x.announcedBy n → x.target n = some .pending) := by
  rw [Notice.target_running h]
  unfold Notice.begunBy at hb
  unfold Notice.announcedBy
  cases hs : x.start with
  | none => simp [hs] at hb
  | some b =>
    have hlt : ¬b ≤ n := by simpa [hs] using hb
    refine ⟨fun ha => ?_, fun ha => ?_⟩
    · exact (if_neg hlt).trans (if_pos (ha b rfl))
    · exact (if_neg hlt).trans (if_neg (by simpa [Notice.announcePoint] using ha))

end

/-! ### One notice evaluated (R109, R110) -/

/-- The list with the notice of slot i moved to a state. -/
def NoticeList.moved (l : NoticeList) (i : Fin 24) (x : Notice) (v : NoticeState) : NoticeList :=
  { l with slots := l.slots.set i (some { x with state := v }) }

section
variable {s t : State} {i j : Fin 24} {x : Notice} {v : NoticeState} {n : Nat} {k : Fin 4} {c : Cause}

theorem State.noticeTo_leaves (s : State) (i : Fin 24) (x : Notice) (v : NoticeState) :
    let t := s.noticeTo i x v
    s.Lists t (s.notices.moved i x v) ∧ t.reported (.notice i) Flag.noticeState ∧
      (∀ (k : Fin 4) (c : Cause), c ≠ .notice x.number → (c ∈ (t.segment k).causes ↔ c ∈ (s.segment k).causes)) ∧
      (v = .inForce → ∀ k : Fin 4, x.segments.getLsbD k.val = true → Cause.notice x.number ∈ (t.segment k).causes) := by
  dsimp only
  obtain ⟨hout, hreported, hcauses⟩ := (s.setSlot i (some { x with state := v })).noticeEntered_leaves i { x with state := v } Flag.noticeState
  have hlists : s.Lists (s.setSlot i (some { x with state := v })) (s.notices.moved i x v) := ⟨rfl, rfl⟩
  set u := (s.setSlot i (some { x with state := v })).post (.notice i) Flag.noticeState with hu
  refine ⟨hlists.outputs hout, hreported, fun k c hc => ?_, fun hv k hk => ?_⟩
  · have hk := hcauses k
    by_cases hv : v = .inForce
    · rw [if_pos (by exact hv)] at hk
      exact (iff_of_eq (congrArg (c ∈ ·) hk)).trans ((u.addNotice_causes { x with state := v } k).2 c hc)
    · rw [if_neg (by exact hv)] at hk
      exact iff_of_eq (congrArg (c ∈ ·) hk)
  · have hk' := hcauses k
    rw [if_pos (by exact hv)] at hk'
    exact (iff_of_eq (congrArg (Cause.notice x.number ∈ ·) hk')).mpr ((u.addNotice_causes { x with state := v } k).1 hk)

theorem State.removeNotice_causes (s : State) (i : Fin 24) (x : Notice) (v : NoticeState) (k : Fin 4) :
    (∀ c : Cause, c ≠ .notice x.number → (c ∈ ((s.removeNotice i x v).segment k).causes ↔ c ∈ (s.segment k).causes)) ∧
      (x.state = .inForce → x.segments.getLsbD k.val = true → Cause.notice x.number ∉ ((s.removeNotice i x v).segment k).causes) := by
  obtain ⟨-, -, hcauses⟩ := s.removeNotice_leaves i x v
  rw [hcauses k]
  refine ⟨fun c hc => ?_, fun hx hk => ?_⟩
  · split
    · exact State.dropNotice_mem_iff hc
    · exact Iff.rfl
  · rw [if_pos hx, (s.dropNotice_causes x k).1 hk]
    simp

/-- The ways an evaluation goes: nothing to do, a removal with LIFTED, or a move forward (R109). -/
theorem State.evalNotice_cases (n : Nat) (s : State) (i : Fin 24) :
    State.evalNotice n s i = s ∨
      ∃ x : Notice, s.notices.slots[i] = some x ∧
        (State.evalNotice n s i = s.removeNotice i x .lifted ∨ ∃ v : NoticeState, State.evalNotice n s i = s.noticeTo i x v) := by
  unfold State.evalNotice
  cases hx : s.notices.slots[i] with
  | none => exact .inl rfl
  | some x =>
    dsimp only
    split
    · exact .inl rfl
    · split
      · exact .inr ⟨x, rfl, .inl rfl⟩
      · next v _ =>
        split
        · exact .inr ⟨x, rfl, .inr ⟨v, rfl⟩⟩
        · exact .inl rfl

/-- What an evaluation of the notice of slot i leaves of everything else. -/
structure State.Evaluates (s t : State) (i : Fin 24) : Prop where
  slots : ∀ j : Fin 24, j ≠ i → t.notices.slots[j] = s.notices.slots[j]
  order : ∀ j : Fin 24, j ≠ i → (j ∈ t.notices.order ↔ j ∈ s.notices.order)
  number : ∀ y : Notice, t.notices.slots[i] = some y → ∃ x : Notice, s.notices.slots[i] = some x ∧ y.number = x.number
  rest : t.notices.lastNumber = s.notices.lastNumber ∧ t.notices.margin = s.notices.margin ∧ t.notices.spent = s.notices.spent
  frame : { t.exceptOutputs with notices := s.notices } = s.exceptOutputs
  reported : ∀ (o : Obj) (f : BitVec 16), s.reported o f → t.reported o f
  causes : ∀ (k : Fin 4) (c : Cause), (∀ x : Notice, s.notices.slots[i] = some x → c ≠ .notice x.number) →
    (c ∈ (t.segment k).causes ↔ c ∈ (s.segment k).causes)

theorem State.evalNotice_evaluates (n : Nat) (s : State) (i : Fin 24) : s.Evaluates (State.evalNotice n s i) i := by
  have hkeeps (o : Obj) (f : BitVec 16) (h : s.reported o f) : (State.evalNotice n s i).reported o f :=
    (recordStable_reported o f).toStepStable.evalNotice h
  have hset (l : NoticeList) (x : Notice) (v : NoticeState) (j : Fin 24) (hj : j ≠ i) :
      (l.slots.set i (some { x with state := v }))[j] = l.slots[j] := by
    have hne : i.val ≠ j.val := fun h => hj (Fin.ext h.symm)
    simp [Vector.getElem_set_ne _ _ hne]
  have hnumber (l : NoticeList) (x : Notice) (v : NoticeState) (y : Notice)
      (hy : (l.slots.set i (some { x with state := v }))[i] = some y) : y.number = x.number := by
    have hself : (l.slots.set i (some { x with state := v }))[i] = some { x with state := v } := by simp
    rw [← Option.some.inj (hself.symm.trans hy)]
  rcases s.evalNotice_cases n i with h | ⟨x, hx, h | ⟨v, h⟩⟩
  · rw [h]
    exact ⟨fun _ _ => rfl, fun _ _ => Iff.rfl, fun y hy => ⟨y, hy, rfl⟩, ⟨rfl, rfl, rfl⟩, rfl, fun _ _ => id, fun _ _ _ => Iff.rfl⟩
  · obtain ⟨hlists, -, -⟩ := s.removeNotice_leaves i x .lifted
    have hcauses := s.removeNotice_causes i x .lifted
    rw [h] at hkeeps ⊢
    refine ⟨fun j hj => ?_, fun j hj => ?_, fun y hy => ⟨x, hx, ?_⟩, ?_, hlists.frame, hkeeps, fun k c hc => (hcauses k).1 c (hc x hx)⟩
    · rw [hlists.notices]
      exact hset _ x _ j hj
    · rw [hlists.notices]
      show j ∈ s.notices.order.filter (· != i) ↔ _
      rw [List.mem_filter]
      exact and_iff_left (bne_iff_ne.2 hj)
    · rw [hlists.notices] at hy
      exact hnumber _ x _ y hy
    · rw [hlists.notices]
      exact ⟨rfl, rfl, rfl⟩
  · obtain ⟨hlists, -, hcauses, -⟩ := s.noticeTo_leaves i x v
    rw [h] at hkeeps ⊢
    refine ⟨fun j hj => ?_, fun j hj => ?_, fun y hy => ⟨x, hx, ?_⟩, ?_, hlists.frame, hkeeps, fun k c hc => hcauses k c (hc x hx)⟩
    · rw [hlists.notices]
      exact hset _ x _ j hj
    · rw [hlists.notices]
      exact Iff.rfl
    · rw [hlists.notices] at hy
      exact hnumber _ x _ y hy
    · rw [hlists.notices]
      exact ⟨rfl, rfl, rfl⟩

end

/-! ### The notice of a slot, evaluated (R109) -/

/-- What second n has made of the notice x of slot i. -/
structure State.Moved (t : State) (n : Nat) (i : Fin 24) (x : Notice) : Prop where
  dead : x.state.live = false → t.notices.slots[i] = some x
  ended : x.state.live = true → x.endedBy n → t.notices.slots[i] = some { x with state := .lifted } ∧ i ∉ t.notices.order ∧
    t.reported (.notice i) (Flag.noticeState ||| Flag.noticeRemoved) ∧
    (x.state = .inForce → ∀ k : Fin 4, x.segments.getLsbD k.val = true → Cause.notice x.number ∉ (t.segment k).causes)
  listed : x.state.live = true → ¬x.endedBy n → i ∈ t.notices.order
  begun : x.state.live = true → ¬x.endedBy n → x.state ≠ .inForce → x.begunBy n →
    t.notices.slots[i] = some { x with state := .inForce } ∧ t.reported (.notice i) Flag.noticeState ∧
      ∀ k : Fin 4, x.segments.getLsbD k.val = true → Cause.notice x.number ∈ (t.segment k).causes
  announced : ¬x.endedBy n → x.state = .pending → ¬x.begunBy n → x.announcedBy n →
    t.notices.slots[i] = some { x with state := .posted } ∧ t.reported (.notice i) Flag.noticeState
  stays : x.state.live = true → ¬x.endedBy n → x.state = .inForce ∨ ¬x.begunBy n ∧ (x.state = .posted ∨ ¬x.announcedBy n) →
    t.notices.slots[i] = some x

/-- The evaluation of another notice leaves what this one has become. -/
theorem State.Moved.along {s t : State} {n : Nat} {i j : Fin 24} {x : Notice} (h : s.Moved n i x) (he : s.Evaluates t j) (hij : i ≠ j)
    (hnumber : ∀ y : Notice, s.notices.slots[j] = some y → y.number ≠ x.number) : t.Moved n i x := by
  have hslot := he.slots i hij
  have horder := he.order i hij
  have hcause (k : Fin 4) : Cause.notice x.number ∈ (t.segment k).causes ↔ Cause.notice x.number ∈ (s.segment k).causes :=
    he.causes k _ fun y hy hc => hnumber y hy (Cause.notice.inj hc).symm
  obtain ⟨hdead, hended, hlisted, hbegun, hannounced, hstays⟩ := h
  refine ⟨fun hl => hslot.trans (hdead hl), fun hl hn => ?_, fun hl hn => horder.2 (hlisted hl hn), fun hl hn hf hb => ?_,
    fun hn hp hb ha => ?_, fun hl hn hor => hslot.trans (hstays hl hn hor)⟩
  · obtain ⟨h1, h2, h3, h4⟩ := hended hl hn
    exact ⟨hslot.trans h1, mt horder.1 h2, he.reported _ _ h3, fun hf k hk => mt (hcause k).1 (h4 hf k hk)⟩
  · obtain ⟨h1, h2, h3⟩ := hbegun hl hn hf hb
    exact ⟨hslot.trans h1, he.reported _ _ h2, fun k hk => (hcause k).2 (h3 k hk)⟩
  · obtain ⟨h1, h2⟩ := hannounced hn hp hb ha
    exact ⟨hslot.trans h1, he.reported _ _ h2⟩

theorem NoticeState.code_lt_inForce {v : NoticeState} (h : v.live = true) (hf : v ≠ .inForce) : v.code < NoticeState.inForce.code := by
  cases v <;> simp_all [NoticeState.live, NoticeState.code]

/-- The evaluation of the notice itself. -/
theorem State.evalNotice_moved {s : State} {n : Nat} {i : Fin 24} {x : Notice} (hx : s.notices.slots[i] = some x)
    (hi : i ∈ s.notices.order) : (State.evalNotice n s i).Moved n i x := by
  have heval : State.evalNotice n s i = if !x.state.live then s else match x.target n with
      | none => s.removeNotice i x .lifted
      | some v => if x.state.code < v.code then s.noticeTo i x v else s := by
    unfold State.evalNotice
    rw [hx] <;> rfl
  have hset (l : NoticeList) (y : Option Notice) : (l.slots.set i y)[i] = y := by simp
  cases hl : x.state.live with
  | false =>
    have hsame : State.evalNotice n s i = s := heval.trans (if_pos (by simp [hl]))
    rw [hsame]
    have hno {p : Prop} (h : x.state.live = true) : p := by simp [hl] at h
    exact ⟨fun _ => hx, fun h => hno h, fun h => hno h, fun h => hno h, fun _ hp => hno (by rw [hp]; rfl), fun h => hno h⟩
  | true =>
    have hlive : State.evalNotice n s i = match x.target n with
        | none => s.removeNotice i x .lifted
        | some v => if x.state.code < v.code then s.noticeTo i x v else s := heval.trans (if_neg (by simp [hl]))
    have hforward {v : NoticeState} (hv : x.target n = some v) (hlt : x.state.code < v.code) : State.evalNotice n s i = s.noticeTo i x v := by
      rw [hlive, hv]
      exact if_pos hlt
    have hback {v : NoticeState} (hv : x.target n = some v) (hlt : ¬x.state.code < v.code) : State.evalNotice n s i = s := by
      rw [hlive, hv]
      exact if_neg hlt
    by_cases hn : x.endedBy n
    · have hremove : State.evalNotice n s i = s.removeNotice i x .lifted := by rw [hlive, Notice.target_ended hn]
      obtain ⟨hlists, hreported, -⟩ := s.removeNotice_leaves i x .lifted
      have hcauses := s.removeNotice_causes i x .lifted
      rw [hremove]
      refine ⟨fun h => by simp [hl] at h, fun _ _ => ⟨?_, ?_, hreported, fun hf k hk => (hcauses k).2 hf hk⟩, fun _ h => absurd hn h,
        fun _ h => absurd hn h, fun h => absurd hn h, fun _ h => absurd hn h⟩
      · rw [hlists.notices]
        exact hset ..
      · rw [hlists.notices]
        show i ∉ s.notices.order.filter (· != i)
        simp
    · by_cases hf : x.state = .inForce
      · have hsame : State.evalNotice n s i = s := by
          by_cases hb : x.begunBy n
          · exact hback (Notice.target_begun hn hb) (by rw [hf]; decide)
          · obtain ⟨hyes, hno⟩ := Notice.target_waiting hn hb
            by_cases ha : x.announcedBy n
            · exact hback (hyes ha) (by rw [hf]; decide)
            · exact hback (hno ha) (by rw [hf]; decide)
        rw [hsame]
        exact ⟨fun h => by simp [hl] at h, fun _ h => absurd h hn, fun _ _ => hi, fun _ _ h => absurd hf h,
          fun _ hp => by simp [hp] at hf, fun _ _ _ => hx⟩
      · by_cases hb : x.begunBy n
        · obtain ⟨hlists, hreported, -, hcauses⟩ := s.noticeTo_leaves i x .inForce
          rw [hforward (Notice.target_begun hn hb) (NoticeState.code_lt_inForce hl hf)]
          refine ⟨fun h => by simp [hl] at h, fun _ h => absurd h hn, fun _ _ => ?_, fun _ _ _ _ => ⟨?_, hreported, hcauses rfl⟩,
            fun _ _ h => absurd hb h, fun _ _ h => h.elim (fun h => absurd h hf) fun h => absurd hb h.1⟩
          · rw [hlists.notices]
            exact hi
          · rw [hlists.notices]
            exact hset ..
        · obtain ⟨hyes, hno⟩ := Notice.target_waiting hn hb
          by_cases hmove : x.state = .pending ∧ x.announcedBy n
          · obtain ⟨hp, ha⟩ := hmove
            obtain ⟨hlists, hreported, -⟩ := s.noticeTo_leaves i x .posted
            rw [hforward (hyes ha) (by rw [hp]; decide)]
            refine ⟨fun h => by simp [hl] at h, fun _ h => absurd h hn, fun _ _ => ?_, fun _ _ _ h => absurd h hb,
              fun _ _ _ _ => ⟨?_, hreported⟩, fun _ _ h => ?_⟩
            · rw [hlists.notices]
              exact hi
            · rw [hlists.notices]
              exact hset ..
            · rcases h with h | ⟨-, h | h⟩
              · exact absurd h hf
              · simp [hp] at h
              · exact absurd ha h
          · have hsame : State.evalNotice n s i = s := by
              by_cases ha : x.announcedBy n
              · refine hback (hyes ha) ?_
                have hp : x.state ≠ .pending := fun hp => hmove ⟨hp, ha⟩
                cases hs : x.state <;> simp_all [NoticeState.live, NoticeState.code]
              · refine hback (hno ha) ?_
                cases hs : x.state <;> simp [NoticeState.code]
            rw [hsame]
            exact ⟨fun h => by simp [hl] at h, fun _ h => absurd h hn, fun _ _ => hi, fun _ _ _ h => absurd h hb,
              fun _ hp _ ha => absurd ⟨hp, ha⟩ hmove, fun _ _ _ => hx⟩

/-! ### Every live notice evaluated, in list order (R109) -/

/-- No two slots hold one number. -/
def NoticeList.numbered (l : NoticeList) : Prop :=
  ∀ (i j : Fin 24) (x y : Notice), l.slots[i] = some x → l.slots[j] = some y → x.number = y.number → i = j

/-- What the evaluation of the notices at second n leaves. -/
structure State.Evaluated (s t : State) (n : Nat) : Prop where
  rest : t.notices.lastNumber = s.notices.lastNumber ∧ t.notices.margin = s.notices.margin ∧ t.notices.spent = s.notices.spent
  untouched : ∀ i : Fin 24, i ∉ s.notices.order ∨ s.notices.slots[i] = none → t.notices.slots[i] = s.notices.slots[i]
  moved : ∀ i ∈ s.notices.order, ∀ x : Notice, s.notices.slots[i] = some x → t.Moved n i x
  frame : { t.exceptOutputs with notices := s.notices } = s.exceptOutputs

theorem State.evalNotice_none {s : State} {n : Nat} {i : Fin 24} (h : s.notices.slots[i] = none) : State.evalNotice n s i = s := by
  unfold State.evalNotice
  rw [h]

theorem State.evalNotices_evaluated (s : State) (n : Nat) (hnodup : s.notices.order.Nodup) (hnumbered : s.notices.numbered) :
    s.Evaluated (s.evalNotices n) n := by
  refine ⟨?_, fun i hi => ?_, fun i hi x hx => ?_, ?_⟩
  · exact foldl_keeps (f := State.evalNotice n) (P := fun u => u.notices.lastNumber = s.notices.lastNumber ∧
      u.notices.margin = s.notices.margin ∧ u.notices.spent = s.notices.spent) (fun u j hu => by
        obtain ⟨h1, h2, h3⟩ := (u.evalNotice_evaluates n j).rest
        exact ⟨h1.trans hu.1, h2.trans hu.2.1, h3.trans hu.2.2⟩) _ ⟨rfl, rfl, rfl⟩
  · have hfold (l : List (Fin 24)) : ∀ u : State, i ∉ l ∨ u.notices.slots[i] = none →
        (l.foldl (State.evalNotice n) u).notices.slots[i] = u.notices.slots[i] := by
      induction l with
      | nil => exact fun _ _ => rfl
      | cons a l ih =>
        intro u hu
        have hstep : (State.evalNotice n u a).notices.slots[i] = u.notices.slots[i] := by
          by_cases ha : i = a
          · subst ha
            rw [State.evalNotice_none (hu.resolve_left fun h => h List.mem_cons_self)]
          · exact (u.evalNotice_evaluates n a).slots i ha
        rw [List.foldl_cons, ih _ (hu.imp (fun h hm => h (List.mem_cons_of_mem a hm)) hstep.trans), hstep]
    exact hfold _ s hi
  · have hdistinct (u : State) (j : Fin 24) (hu : ∀ m : Fin 24, m ≠ i → ∀ y : Notice, u.notices.slots[m] = some y → y.number ≠ x.number) :
        ∀ m : Fin 24, m ≠ i → ∀ y : Notice, (State.evalNotice n u j).notices.slots[m] = some y → y.number ≠ x.number := fun m hm y hy => by
      by_cases hmj : m = j
      · subst hmj
        obtain ⟨z, hz, hyz⟩ := (u.evalNotice_evaluates n m).number y hy
        rw [hyz]
        exact hu m hm z hz
      · rw [(u.evalNotice_evaluates n j).slots m hmj] at hy
        exact hu m hm y hy
    have hend := foldl_establishes (f := State.evalNotice n) (n := i)
      (Q := fun u => (u.notices.slots[i] = some x ∧ i ∈ u.notices.order) ∧
        ∀ m : Fin 24, m ≠ i → ∀ y : Notice, u.notices.slots[m] = some y → y.number ≠ x.number)
      (P := fun u => u.Moved n i x ∧ ∀ m : Fin 24, m ≠ i → ∀ y : Notice, u.notices.slots[m] = some y → y.number ≠ x.number)
      hnodup hi (fun u m hm hu => ?_) (fun u hu => ⟨State.evalNotice_moved hu.1.1 hu.1.2, hdistinct u i hu.2⟩)
      (fun u m hm hu => ⟨hu.1.along (u.evalNotice_evaluates n m) (Ne.symm hm) (hu.2 m hm), hdistinct u m hu.2⟩)
      (s := s) ⟨⟨hx, hi⟩, fun m hm y hy hyx => hm (hnumbered m i y x hy hx hyx)⟩
    · exact hend.1
    · have he := u.evalNotice_evaluates n m
      exact ⟨⟨(he.slots i (Ne.symm hm)).trans hu.1.1, (he.order i (Ne.symm hm)).2 hu.1.2⟩, hdistinct u m hu.2⟩
  · exact foldl_keeps (f := State.evalNotice n) (P := fun u => { u.exceptOutputs with notices := s.notices } = s.exceptOutputs)
      (fun u j hu => (congrArg (fun v : State => { v with notices := s.notices }) (u.evalNotice_evaluates n j).frame).trans hu) _ rfl

/-! ### The clock (R186) -/

theorem State.Moved.after {t u : State} {n : Nat} {i : Fin 24} {x : Notice} (h : t.Moved n i x) (hn : u.notices = t.notices)
    (hr : ∀ (o : Obj) (f : BitVec 16), t.reported o f → u.reported o f) (hc : ∀ k : Fin 4, (u.segment k).causes = (t.segment k).causes) :
    u.Moved n i x := by
  obtain ⟨hdead, hended, hlisted, hbegun, hannounced, hstays⟩ := h
  rw [← hn] at hdead hended hlisted hbegun hannounced hstays
  refine ⟨hdead, fun hl he => ?_, hlisted, fun hl he hf hb => ?_, fun he hp hb ha => ?_, hstays⟩
  · obtain ⟨h1, h2, h3, h4⟩ := hended hl he
    exact ⟨h1, h2, hr _ _ h3, fun hf k hk => by rw [hc]; exact h4 hf k hk⟩
  · obtain ⟨h1, h2, h3⟩ := hbegun hl he hf hb
    exact ⟨h1, hr _ _ h2, fun k hk => by rw [hc]; exact h3 k hk⟩
  · obtain ⟨h1, h2⟩ := hannounced he hp hb ha
    exact ⟨h1, hr _ _ h2⟩

theorem NoticeState.live_cases (v : NoticeState) : v.live = true ↔ v = .pending ∨ v = .posted ∨ v = .inForce := by
  cases v <;> simp [NoticeState.live]

theorem NoticeState.dead_cases (v : NoticeState) : v.live = false ↔ v = .lifted ∨ v = .cancelled := by
  cases v <;> simp [NoticeState.live]

/-- What SET_CLOCK and a pass-clock second leave when the step has ended. -/
structure State.ClockMoved (s t : State) (n : Nat) : Prop where
  clock : t.tmb = { s.tmb with passClock := some n }
  rest : t.notices.lastNumber = s.notices.lastNumber ∧ t.notices.margin = s.notices.margin ∧ t.notices.spent = s.notices.spent
  untouched : ∀ i : Fin 24, i ∉ s.notices.order ∨ s.notices.slots[i] = none → t.notices.slots[i] = s.notices.slots[i]
  moved : ∀ i ∈ s.notices.order, ∀ x : Notice, s.notices.slots[i] = some x → t.Moved n i x

/-- The notices evaluated at a second just set, and what ends the step. -/
theorem State.clockMoved {s t u : State} {n : Nat} (hnodup : s.notices.order.Nodup) (hnumbered : s.notices.numbered)
    (hu : u = ({ s with tmb := { s.tmb with passClock := some n } } : State).evalNotices n) (hn : t.notices = u.notices) (htmb : t.tmb = u.tmb)
    (hr : ∀ (o : Obj) (f : BitVec 16), u.reported o f → t.reported o f) (hc : ∀ k : Fin 4, (t.segment k).causes = (u.segment k).causes) :
    s.ClockMoved t n := by
  have h := ({ s with tmb := { s.tmb with passClock := some n } } : State).evalNotices_evaluated n hnodup hnumbered
  rw [← hu] at h
  obtain ⟨hrest, huntouched, hmoved, hframe⟩ := h
  exact ⟨htmb.trans (congrArg State.tmb hframe :), by rw [hn]; exact hrest, by rw [hn]; exact huntouched,
    fun i hi x hx => (hmoved i hi x hx).after hn hr hc⟩

theorem tmb_of_exceptOutputs {s t : State} (h : t.exceptOutputs = s.exceptOutputs) : t.tmb = s.tmb := (congrArg State.tmb h :)

theorem State.kept_of_answered {s t : State} {k tag : Byte} {o : OutcomeCode} {d : List Byte}
    (h : t.exceptOutputs = (s.answered k tag o d).exceptOutputs) : t.notices = s.notices ∧ t.tmb = s.tmb :=
  ⟨(congrArg State.notices h :), (congrArg State.tmb h :)⟩

/-- Settles O42. -/
theorem clockMovesNotices : Obligations.ClockMovesNotices := by
  unfold Obligations.ClockMovesNotices
  intro s hcalm hnodup hnumbered evaluated
  have hevaluated {n : Nat} {t : State} (h : s.ClockMoved t n) : evaluated n t := by
    obtain ⟨hclock, ⟨h1, h2, h3⟩, huntouched, hmoved⟩ := h
    refine ⟨hclock, h1, h2, h3, huntouched, fun i hi x hx => ?_⟩
    obtain ⟨hdead, hended, hlisted, hbegun, hannounced, hstays⟩ := hmoved i hi x hx
    refine ⟨fun hd => hdead ((NoticeState.dead_cases _).2 hd), fun hl => ?_⟩
    have hlive := (NoticeState.live_cases _).2 hl
    exact ⟨hended hlive, hlisted hlive, hbegun hlive, hannounced, hstays hlive⟩
  refine ⟨fun tag n hdue hidle => ?_, fun n hd hclock hlt => ?_⟩
  · have h : s.listening := ⟨⟨hcalm, hdue⟩, hidle⟩
    set u := (s.setPassClock n.toNat).evalNotices n.toNat with hu
    have happly (hn : n ≠ 0xFFFFFFFF) : s.applyRequest (.setClock tag n) = accept (bytesBE 4 n) (u.post .system Flag.clockSet) := if_neg hn
    refine ⟨fun hn => exec_refused (k := .setClock) rfl h (if_pos hn), fun hn hnone => ?_, fun hn => ?_⟩
    · have hnothing : u = s.setPassClock n.toNat := by
        rw [hu, State.evalNotices, show (s.setPassClock n.toNat).notices.order = [] from hnone]
        rfl
      refine exec_accepted (k := .setClock) rfl h ((happly hn).trans ?_) rfl rfl
      rw [hnothing]
      rfl
    · set T := State.conclude s ((u.post .system Flag.clockSet).answered 0x03 tag .ok (bytesBE 4 n)) with hT
      have hexec : exec (.setClock tag n) s = .next T := exec_concluded (k := .setClock) rfl h (happly hn)
      have hout : T.exceptOutputs = (u.answered 0x03 tag .ok (bytesBE 4 n)).exceptOutputs := State.conclude_exceptOutputs ..
      have hframe : { u.exceptOutputs with notices := s.notices } = (s.setPassClock n.toNat).exceptOutputs :=
        ((s.setPassClock n.toNat).evalNotices_evaluated n.toNat hnodup hnumbered).frame
      have hreported (o : Obj) (f : BitVec 16) (ho : (u.post .system Flag.clockSet).reported o f) : T.reported o f := by
        have hP := recordStable_reported o f
        exact hP.toStepStable.conclude (hP.answered ho)
      have hcauses (k : Fin 4) : (T.segment k).causes = (u.segment k).causes := by
        have hP := postureStable_causes k (· = (u.segment k).causes)
        exact hP.conclude (hP.answered rfl)
      have hpost (o : Obj) (f : BitVec 16) (ho : u.reported o f) : (u.post .system Flag.clockSet).reported o f :=
        (recordStable_reported o f).post ho
      have hclockSet : T.reported .system Flag.clockSet := hreported _ _ (State.post_reported ..)
      have hkept := State.kept_of_answered hout
      have hmoved : s.ClockMoved T n.toNat := State.clockMoved hnodup hnumbered hu hkept.1
        hkept.2 (fun o f ho => hreported o f (hpost o f ho)) hcauses
      clear_value T
      refine ⟨T, hexec, hevaluated hmoved, hclockSet, ?_⟩
      exact (congrArg (fun v : State => { v with notices := s.notices, tmb := s.tmb }) hout).trans
        (congrArg (fun v : State => ({ v with tmb := s.tmb } : State).answered 0x03 tag .ok (bytesBE 4 n)) hframe)
  · set v : State := { s with due := s.due.erase .second } with hv
    set u := ({ v with tmb := { v.tmb with passClock := some (n + 1) } } : State).evalNotices (n + 1) with hu
    have htake : s.takeEvent .second = u := by
      show v.clockSecond = u
      unfold State.clockSecond
      rw [show v.tmb.passClock = some n from hclock]
      exact if_pos hlt
    set T := State.conclude s u with hT
    have hexec : exec .passClockSecond s = .next T := by
      show Host.Outcome.next (s.runEvent .second) = _
      unfold State.runEvent
      rw [if_pos (by simpa using hd), htake]
    have hout : T.exceptOutputs = u.exceptOutputs := State.conclude_exceptOutputs ..
    have hframe : { u.exceptOutputs with notices := s.notices } =
        ({ v with tmb := { v.tmb with passClock := some (n + 1) } } : State).exceptOutputs :=
      (({ v with tmb := { v.tmb with passClock := some (n + 1) } } : State).evalNotices_evaluated (n + 1) hnodup hnumbered).frame
    have hreported (o : Obj) (f : BitVec 16) (ho : u.reported o f) : T.reported o f := (recordStable_reported o f).toStepStable.conclude ho
    have hcauses (k : Fin 4) : (T.segment k).causes = (u.segment k).causes := (postureStable_causes k (· = (u.segment k).causes)).conclude rfl
    have hmoved : v.ClockMoved T (n + 1) := State.clockMoved hnodup hnumbered hu (notices_of_exceptOutputs hout) (tmb_of_exceptOutputs hout)
      hreported hcauses
    clear_value T
    refine ⟨T, hexec, hevaluated ⟨hmoved.clock, hmoved.rest, hmoved.untouched, hmoved.moved⟩, ?_, ?_⟩
    · exact (due_of_exceptOutputs hout).trans (congrArg State.due hframe :)
    · exact (congrArg (fun x : State => { x with notices := s.notices, tmb := s.tmb, due := s.due }) hout).trans
        (congrArg (fun x : State => { x with tmb := s.tmb, due := s.due }) hframe)

end Sys2Proof.Machine
end

section
/-! SUPPORT. What a recomputation of plans writes into each sign (R119, R120, R122), and SET_CONDITION (R118). -/

namespace Sys2Proof.Machine

/-! ### What retention keeps of one sign and of one line -/

theorem retentionStable_sign (n : Fin 16) (g : Sign) : RetentionStable fun t => g.Retains (t.sign n) where
  sign {s m x} hx hs := by
    rw [State.setSign_sign]
    split
    · next h => subst h; exact hs.trans hx
    · exact hs
  line _ hs := hs
  target hs := hs
  post hs := hs

/-! ### The plan a sign takes (R120) -/

/-- What the plans read of the device beside the signs. -/
def State.planInputs (s : State) : Vector Segment 4 × Vector PathRec 12 × NoticeList := (s.segments, s.paths, s.notices)

/-- A plan follows the inputs and the sign's configuration alone. -/
theorem State.planOf_congr {s t : State} {g h : Sign} (hst : t.planInputs = s.planInputs) (hg : h.cfg = g.cfg) : t.planOf h = s.planOf g := by
  obtain ⟨hsegments, hpaths, hnotices⟩ : t.segments = s.segments ∧ t.paths = s.paths ∧ t.notices = s.notices := by
    simpa [State.planInputs] using hst
  have hpath (p : Fin 12) : t.path p = s.path p := by simp [State.path, hpaths]
  have hsegment (i : Fin 4) : t.segment i = s.segment i := by simp [State.segment, hsegments]
  have hlisted : t.listedNotices = s.listedNotices := by simp [State.listedNotices, hnotices]
  have hwatched : t.watchedSegments h = s.watchedSegments g := by
    unfold State.watchedSegments
    rw [hg]
    cases g.cfg.role with
    | path => cases g.cfg.path <;> simp [hpath]
    | _ => rfl
  have hrelevant : t.relevantPaths h = s.relevantPaths g := by
    unfold State.relevantPaths
    rw [hg, hwatched]
    cases g.cfg.role with
    | path => cases g.cfg.path <;> simp [hpath]
    | _ => simp [hpath]
  simp only [State.planOf, State.noticePages, hwatched, hrelevant, hpath, hsegment, hlisted, hg]
  rfl

theorem planInputs_of_exceptSigns {s t : State} (h : t.exceptSigns = s.exceptSigns) : t.planInputs = s.planInputs :=
  Prod.ext (congrArg State.segments h :) (Prod.ext (congrArg State.paths h :) (congrArg State.notices h :))

theorem now_of_exceptSigns {s t : State} (h : t.exceptSigns = s.exceptSigns) : t.now = s.now :=
  (congrArg State.now h :)

/-- A sign as the recomputation of its plan leaves it. -/
def State.replanned (s : State) (n : Fin 16) : Sign :=
  let g := s.sign n
  let p := s.planOf g
  if !g.configured || (g.planClass == p.1 && g.rotation == p.2) then g
  else Sign.raisePlan s.now false { g with planClass := p.1, rotation := p.2, index := 0, dwellCount := 0 }

theorem State.replanSign_sign (s : State) (n m : Fin 16) : (s.replanSign n).sign m = if n = m then s.replanned n else s.sign m := by
  unfold State.replanSign State.replanned
  dsimp only
  by_cases h : (!(s.sign n).configured || ((s.sign n).planClass == (s.planOf (s.sign n)).1 && (s.sign n).rotation == (s.planOf (s.sign n)).2)) = true
  · simp only [if_pos h]
    split
    · next hm => rw [hm]
    · rfl
  · simp only [if_neg h, State.post_sign, State.setSign_sign]

theorem State.replanned_congr {s t : State} {n : Fin 16} (h : t.exceptSigns = s.exceptSigns) (hn : t.sign n = s.sign n) :
    t.replanned n = s.replanned n := by
  simp only [State.replanned, hn, State.planOf_congr (g := s.sign n) (planInputs_of_exceptSigns h) rfl, now_of_exceptSigns h]

theorem State.replanned_cfg (s : State) (n : Fin 16) : (s.replanned n).cfg = (s.sign n).cfg := by
  unfold State.replanned
  dsimp only
  split <;> rfl

theorem State.replanned_unconfigured {s : State} {n : Fin 16} (h : (s.sign n).cfg.role = .none) : s.replanned n = s.sign n := by
  simp [State.replanned, Sign.configured, h]

theorem State.replanned_plan {s : State} {n : Fin 16} (h : (s.sign n).cfg.role ≠ .none) :
    ((s.replanned n).planClass, (s.replanned n).rotation) = s.planOf (s.sign n) := by
  unfold State.replanned
  dsimp only
  split
  · next hs =>
    obtain ⟨hc, hr⟩ : (s.sign n).planClass = (s.planOf (s.sign n)).1 ∧ (s.sign n).rotation = (s.planOf (s.sign n)).2 := by
      simpa [Sign.configured, h] using hs
    rw [hc, hr]
  · rfl

/-! ### The plans of several signs (R119) -/

theorem foldl_replanSign (ns : List (Fin 16)) (s : State) :
    (ns.foldl State.replanSign s).exceptSigns = s.exceptSigns :=
  foldl_leaves State.exceptSigns _ State.replanSign_exceptSigns _ s

theorem foldl_replanSign_sign {ns : List (Fin 16)} (hns : ns.Nodup) (s : State) (n : Fin 16) :
    (ns.foldl State.replanSign s).sign n = if n ∈ ns then s.replanned n else s.sign n := by
  induction ns generalizing s with
  | nil => rfl
  | cons m ns ih =>
    obtain ⟨hm, hns⟩ := List.nodup_cons.1 hns
    rw [List.foldl_cons, ih hns]
    by_cases hn : n ∈ ns
    · have hne : n ≠ m := fun he => hm (he ▸ hn)
      rw [if_pos hn, if_pos (List.mem_cons_of_mem _ hn)]
      exact State.replanned_congr (State.replanSign_exceptSigns s m) ((State.replanSign_sign s m n).trans (if_neg (Ne.symm hne)))
    · rw [if_neg hn, State.replanSign_sign]
      by_cases hne : n = m
      · subst hne
        rw [if_pos rfl, if_pos List.mem_cons_self]
      · rw [if_neg (Ne.symm hne), if_neg (by simp [hne, hn])]

/-- What a recomputation leaves of each sign: the sign with its plan recomputed, as retention keeps it (R119, R122). -/
theorem State.replanSigns_sign {ns : List (Fin 16)} (hns : ns.Nodup) (s : State) (n : Fin 16) :
    (if n ∈ ns then s.replanned n else s.sign n).Retains ((s.replanSigns ns).sign n) := by
  rw [← foldl_replanSign_sign hns s n]
  unfold State.replanSigns
  dsimp only
  split
  · exact .rfl
  · exact (retentionStable_sign n _).plansReplaced .rfl

/-! ### SET_CONDITION (R118) -/

/-- The configuration of a sign with another condition page. -/
def Sign.withCondition (g : Sign) (p : Option Page) : Sign := { g with cfg := { g.cfg with condition := p } }

theorem State.writeCondition_sign (p : Option Page) (s : State) (n m : Fin 16) :
    (s.writeCondition p n).sign m = if n = m then (s.sign n).withCondition p else s.sign m := by
  unfold State.writeCondition
  rw [State.postIf_sign, State.setSign_sign]
  rfl

theorem State.writeCondition_exceptSigns (p : Option Page) (s : State) (n : Fin 16) :
    (s.writeCondition p n).exceptSigns = s.exceptSigns := by
  simp [State.writeCondition]

theorem foldl_writeCondition_sign (p : Option Page) (ns : List (Fin 16)) (s : State) (n : Fin 16) :
    (ns.foldl (State.writeCondition p) s).sign n = if n ∈ ns then (s.sign n).withCondition p else s.sign n := by
  induction ns generalizing s with
  | nil => rfl
  | cons m ns ih =>
    rw [List.foldl_cons, ih, State.writeCondition_sign]
    by_cases hne : n = m
    · subst hne
      rw [if_pos rfl, if_pos List.mem_cons_self]
      split <;> rfl
    · simp [hne, Ne.symm hne]

theorem State.writeCondition_reported {p : Option Page} {s : State} {n : Fin 16} (h : (s.sign n).cfg.role ≠ .none) :
    (s.writeCondition p n).reported (.sign n) Flag.signConfig := by
  have hc : (s.sign n).configured = true := by simp [Sign.configured, h]
  unfold State.writeCondition
  dsimp only
  rw [hc]
  exact State.post_reported_of _ _ (by decide)

theorem State.setConditions_reported {m : BitVec 16} {p : Option Page} {s : State} {n : Fin 16} (hn : m.getLsbD n.val = true)
    (h : (s.sign n).cfg.role ≠ .none) : (s.setConditions m p).reported (.sign n) Flag.signConfig := by
  refine (recordStable_reported _ _).toStepStable.toPlanStable.replanSigns ?_
  refine foldl_establishes (P := fun t => t.reported (.sign n) Flag.signConfig) (Q := fun t => (t.sign n).cfg.role ≠ .none) (f := State.writeCondition p)
    ((List.nodup_finRange 16).filter _) ((mem_bitsOf 16 m n).2 hn) ?_ ?_ ?_ h
  · intro t k hk ht
    rw [State.writeCondition_sign, if_neg hk]
    exact ht
  · exact fun t ht => State.writeCondition_reported ht
  · exact fun t k _ ht => (recordStable_reported _ _).postIf ((recordStable_reported _ _).setSign ht)

/-- What SET_CONDITION leaves of each sign: the page written into the signs named, with the plan the pass then gives them. -/
theorem State.setConditions_sign (m : BitVec 16) (p : Option Page) (s : State) (n : Fin 16) :
    let u := (bitsOf m).foldl (State.writeCondition p) s
    u.exceptSigns = s.exceptSigns ∧ u.sign n = (if n ∈ bitsOf m then (s.sign n).withCondition p else s.sign n) ∧
      (if n ∈ bitsOf m then u.replanned n else u.sign n).Retains ((s.setConditions m p).sign n) :=
  ⟨foldl_leaves State.exceptSigns _ (State.writeCondition_exceptSigns p) _ s, foldl_writeCondition_sign p _ s n,
    State.replanSigns_sign ((List.nodup_finRange 16).filter _) _ n⟩

theorem State.setConditions_exceptSigns (m : BitVec 16) (p : Option Page) (s : State) :
    (s.setConditions m p).exceptSigns = s.exceptSigns :=
  (State.replanSigns_exceptSigns ..).trans (foldl_leaves State.exceptSigns _ (State.writeCondition_exceptSigns p) _ s)

theorem sign_of_conclude {a t : State} {k tag : Byte} {o : OutcomeCode} {d : List Byte} (n : Fin 16) :
    (State.conclude a (t.answered k tag o d)).sign n = t.sign n := by
  simp only [State.sign, State.conclude_signs]
  rfl

theorem conditionOf_page {page : Half} (h : ¬(4096 ≤ page.toNat ∧ page ≠ 0xFFFF)) :
    conditionOf page = some (if page = 0xFFFF then none else some (page.setWidth 12)) := by
  unfold conditionOf
  split
  · rfl
  · next hp =>
    rw [pageOf_of_lt (by by_contra hc; exact h ⟨by omega, hp⟩)]
    rfl

theorem conditionOf_out {page : Half} (h : 4096 ≤ page.toNat) (hp : page ≠ 0xFFFF) : conditionOf page = none := by
  unfold conditionOf
  rw [if_neg hp, show pageOf page = none from if_neg (by omega)]
  rfl

/-- Settles O46: the pages are written sign by sign, then each sign named has its plan computed from paths, segments and notices
that stand as before. -/
theorem setConditionApplies : Obligations.SetConditionApplies := by
  unfold Obligations.SetConditionApplies
  intro tag signs page s h command bad p
  constructor
  · intro hb
    refine exec_refused (k := .setCondition) rfl h ?_
    change s.applySetCondition signs page = _
    unfold State.applySetCondition
    by_cases hs : signs = 0
    · rw [if_pos hs]
    · obtain ⟨hpage, hne⟩ := hb.resolve_left hs
      rw [if_neg hs, conditionOf_out hpage hne]
  · intro hb
    obtain ⟨hsigns, hpage⟩ := not_or.1 hb
    have hexec := exec_concluded (c := command) (k := .setCondition) (d := u16 signs.toNat ++ u16 page.toNat)
      (t := s.setConditions signs p) rfl h (by
        change s.applySetCondition signs page = _
        unfold State.applySetCondition
        rw [if_neg hsigns, conditionOf_page hpage])
    refine ⟨_, hexec, fun n => ?_, ?_⟩
    · obtain ⟨hu, hsign, hretains⟩ := s.setConditions_sign signs p n
      rw [sign_of_conclude]
      constructor
      · intro hn
        have hmem := (mem_bitsOf 16 signs n).2 hn
        rw [if_pos hmem] at hsign hretains
        have hcfg : ((s.setConditions signs p).sign n).cfg = { (s.sign n).cfg with condition := p } :=
          hretains.cfg.trans ((State.replanned_cfg _ _).trans (congrArg Sign.cfg hsign))
        refine ⟨hcfg, fun hrole => ⟨?_, ?_⟩, fun hrole => ?_⟩
        · have hr := recordStable_reported (.sign n) Flag.signConfig
          exact hr.toStepStable.conclude (hr.answered (State.setConditions_reported hn hrole))
        · rw [hretains.planClass, hretains.rotation, State.replanned_plan (by rw [hsign]; exact hrole)]
          exact State.planOf_congr (planInputs_of_exceptSigns hu) (congrArg Sign.cfg hsign)
        · rw [hretains.planClass, State.replanned_unconfigured (by rw [hsign]; exact hrole), hsign]
          rfl
      · intro hn
        have hmem : n ∉ bitsOf signs := fun hm => by rw [(mem_bitsOf 16 signs n).1 hm] at hn; cases hn
        rw [if_neg hmem] at hsign hretains
        rw [hsign] at hretains
        exact ⟨hretains.cfg, hretains.planClass, hretains.rotation⟩
    · rw [State.conclude_exceptOutputs]
      exact State.answered_exceptOutputs (exceptOutputs_of_exceptSigns (State.setConditions_exceptSigns ..)) ..

end Sys2Proof.Machine
end

section
/-! SUPPORT. Line hold: what a wake and an entry write into a line and its signs, and what the end of a step leaves of both
(R164 to R169). -/

namespace Sys2Proof.Machine

/-! ### What the end of a step leaves of signs and lines (R125, R141) -/

theorem exchangeStable_line (l : Fin 2) (r : Line) : ExchangeStable fun t => r.Exchanges (t.line l) where
  exchange {s m x} hx hs := by
    rw [State.setLine_line]
    split
    · next h =>
      subst h
      unfold Line.Exchanges at *
      rw [hx, hs]
    · exact hs
  lib _ hs := hs
  post hs := hs

theorem lines_of_exceptBarriers {s t : State} (h : t.exceptBarriers = s.exceptBarriers) : t.lines = s.lines :=
  (congrArg State.lines h :)

/-- The end of a step changes a line in its exchange alone. -/
theorem State.conclude_line (a s : State) (l : Fin 2) : (s.line l).Exchanges ((State.conclude a s).line l) := by
  refine (exchangeStable_line l _).finish ?_
  have hlines := lines_of_exceptBarriers (State.handSigns_exceptBarriers a s)
  simp only [State.line, hlines]
  rfl

theorem exchangeStable_exceptSigns (u : State) : ExchangeStable fun t => { t.exceptSigns with lib := u.lib } = { u.exceptSigns with lib := u.lib } where
  exchange _ hs := hs
  lib _ hs := hs
  post hs := hs

/-- Where no sign that changes is handed over, the end of a step changes lines, library and report set alone. -/
theorem State.conclude_exceptSigns {a s : State}
    (h : ∀ n : Fin 16, (s.sign n).cfg = (a.sign n).cfg ∧ (s.sign n).shown = (a.sign n).shown ∧ (s.sign n).service = (a.sign n).service) :
    { (State.conclude a s).exceptSigns with lib := s.lib } = s.exceptSigns := by
  rw [State.conclude, State.handSigns_of_unchanged a s h]
  exact (exchangeStable_exceptSigns s).finish (s := s) rfl

theorem State.runEvent_concluded {s : State} {d : Due} (hd : d ∈ s.due) (hc : d.isChannel = false) (hs : d ≠ .sampling) :
    s.runEvent d = State.conclude s ({ s with due := s.due.erase d }.applyDue d) := by
  have htake : s.takeEvent d = State.applyDue { s with due := s.due.erase d } d := by
    unfold State.takeEvent
    rw [if_neg (by simp [hc]), if_neg hs]
    rfl
  unfold State.runEvent
  rw [if_pos (by simpa using hd), htake]

/-! ### Signs of a line -/

theorem signsOf_nodup (l : Fin 2) : (signsOf l).Nodup := by
  refine List.Nodup.map (fun a b h => ?_) (List.nodup_finRange 8)
  have := congrArg Fin.val h
  simp only [signAt] at this
  exact Fin.ext (by omega)

theorem State.noneIn_iff (s : State) (l : Fin 2) (v : Service) :
    s.noneIn l v = true ↔ ∀ n : Fin 16, n.val / 8 = l.val → (s.sign n).service ≠ v := by
  simp [State.noneIn, mem_signsOf]

/-- A fold that gives each sign of a list the same change. -/
theorem foldl_sign {f : State → Fin 16 → State} {F : Tick → Sign → Sign}
    (hf : ∀ (s : State) (n : Fin 16), f s n = s.setSign n (F s.now (s.sign n))) {ns : List (Fin 16)} (hns : ns.Nodup) (s : State) (n : Fin 16) :
    (ns.foldl f s).sign n = if n ∈ ns then F s.now (s.sign n) else s.sign n := by
  induction ns generalizing s with
  | nil => rfl
  | cons m ns ih =>
    obtain ⟨hm, hns⟩ := List.nodup_cons.1 hns
    rw [List.foldl_cons, ih hns, hf, State.setSign_now, State.setSign_sign]
    by_cases hne : m = n
    · subst hne
      rw [if_neg hm, if_pos rfl, if_pos List.mem_cons_self]
    · simp [hne, Ne.symm hne]

theorem foldl_setSign_lines {f : State → Fin 16 → State} {F : Tick → Sign → Sign}
    (hf : ∀ (s : State) (n : Fin 16), f s n = s.setSign n (F s.now (s.sign n))) (ns : List (Fin 16)) (s : State) :
    (ns.foldl f s).lines = s.lines := foldl_leaves State.lines _ (fun s n => by rw [hf]; rfl) _ s

theorem foldl_setSign_exceptSigns {f : State → Fin 16 → State} {F : Tick → Sign → Sign}
    (hf : ∀ (s : State) (n : Fin 16), f s n = s.setSign n (F s.now (s.sign n))) (ns : List (Fin 16)) (s : State) :
    (ns.foldl f s).exceptSigns = s.exceptSigns := foldl_leaves State.exceptSigns _ (fun s n => by rw [hf, State.setSign_exceptSigns]) _ s

/-! ### The wake of a line (R167, R168) -/

/-- A sign as the wake of its line leaves it. -/
def Sign.woken (now : Tick) (g : Sign) : Sign :=
  { g with holdNeed := none, restoreNeed := if g.service = .held then some (g.restoreNeed.getD now) else g.restoreNeed }

theorem Sign.woken_retains (now : Tick) (g : Sign) : g.Retains (g.woken now) := Sign.retains_of_eq ⟨rfl, rfl, rfl, rfl, rfl, rfl, rfl, rfl⟩

/-- What a wake leaves of signs, line and report set. -/
structure State.Woken (s t : State) (l : Fin 2) (cause : Nat) : Prop where
  sign : ∀ n : Fin 16, t.sign n = if n.val / 8 = l.val then (s.sign n).woken s.now else s.sign n
  line : t.line l = { s.line l with
    state := if s.noneIn l .held then .active else .resuming, wakeCause := cause,
    activeCount := if s.noneIn l .held then 0 else (s.line l).activeCount, arbitrate := true }
  other : ∀ j : Fin 2, j ≠ l → t.line j = s.line j
  wakes : t.reported (.line l) Flag.lineWake
  resumes : s.noneIn l .held = true → t.reported (.line l) Flag.lineHold

theorem State.wake_of_rests {s : State} {l : Fin 2} (h : ¬(s.line l).holds) (cause : Nat) : s.wake l cause = s := if_neg h

/-- The end of a resume where no sign of the line is HELD. -/
theorem State.checkResume_resumes {s : State} {l : Fin 2} (h : (s.line l).state = .resuming) :
    s.checkResume l = if s.noneIn l .held
      then (s.setLine l { s.line l with state := .active, activeCount := 0 }).post (.line l) Flag.lineHold else s := by
  simp [State.checkResume, h]

/-- A line as a wake begins: RESUMING with the cause, the HOLD needs cleared and the HELD signs' restore needs raised. -/
def State.resumed (s : State) (l : Fin 2) (cause : Nat) : State :=
  (signsOf l).foldl State.raiseHeldRestore
    (((signsOf l).foldl State.clearHoldNeed (s.setLine l { s.line l with state := .resuming, wakeCause := cause })).post (.line l)
      Flag.lineWake)

theorem State.wake_eq {s : State} {l : Fin 2} (h : (s.line l).holds) (cause : Nat) :
    s.wake l cause = ((s.resumed l cause).checkResume l).askArbitration l := if_pos h

theorem State.clearHoldNeed_eq (s : State) (n : Fin 16) : s.clearHoldNeed n = s.setSign n { s.sign n with holdNeed := none } := rfl

/-- A sign with the restore need of a wake. -/
def Sign.heldRaised (now : Tick) (g : Sign) : Sign :=
  if g.service = .held then { g with restoreNeed := some (g.restoreNeed.getD now) } else g

theorem State.raiseHeldRestore_heldRaised (s : State) (n : Fin 16) :
    s.raiseHeldRestore n = s.setSign n (Sign.heldRaised s.now (s.sign n)) := rfl

theorem Sign.heldRaised_cleared (now : Tick) (g : Sign) : Sign.heldRaised now { g with holdNeed := none } = g.woken now := by
  unfold Sign.heldRaised Sign.woken
  dsimp only
  split <;> rfl

theorem State.resumed_sign (s : State) (l : Fin 2) (cause : Nat) (n : Fin 16) :
    (s.resumed l cause).sign n = if n.val / 8 = l.val then (s.sign n).woken s.now else s.sign n := by
  have hclear := foldl_sign (F := fun _ g => { g with holdNeed := none }) State.clearHoldNeed_eq (signsOf_nodup l)
    (s.setLine l { s.line l with state := .resuming, wakeCause := cause }) n
  have hnow := now_of_exceptSigns (foldl_setSign_exceptSigns (F := fun _ g => { g with holdNeed := none }) State.clearHoldNeed_eq (signsOf l)
    (s.setLine l { s.line l with state := .resuming, wakeCause := cause }))
  unfold State.resumed
  generalize (signsOf l).foldl State.clearHoldNeed (s.setLine l { s.line l with state := .resuming, wakeCause := cause }) = u at *
  rw [foldl_sign State.raiseHeldRestore_heldRaised (signsOf_nodup l), State.post_sign, State.post_now, hclear, hnow]
  simp only [mem_signsOf, State.setLine_sign, State.setLine_now]
  by_cases hn : n.val / 8 = l.val
  · simp only [if_pos hn, Sign.heldRaised_cleared]
  · simp only [if_neg hn]

theorem State.resumed_line (s : State) (l : Fin 2) (cause : Nat) (j : Fin 2) :
    (s.resumed l cause).line j = if l = j then { s.line l with state := .resuming, wakeCause := cause } else s.line j := by
  have hclear := foldl_setSign_lines (F := fun _ g => { g with holdNeed := none }) State.clearHoldNeed_eq (signsOf l)
    (s.setLine l { s.line l with state := .resuming, wakeCause := cause })
  have hraise := foldl_setSign_lines State.raiseHeldRestore_heldRaised (signsOf l)
    (((signsOf l).foldl State.clearHoldNeed (s.setLine l { s.line l with state := .resuming, wakeCause := cause })).post (.line l) Flag.lineWake)
  rw [State.resumed, State.line, hraise, State.post_lines, hclear]
  exact State.setLine_line ..

theorem State.resumed_wakes (s : State) (l : Fin 2) (cause : Nat) : (s.resumed l cause).reported (.line l) Flag.lineWake := by
  have hkeep := (recordStable_reported (.line l) Flag.lineWake).toStepStable.toRetentionStable
  unfold State.resumed
  generalize (signsOf l).foldl State.clearHoldNeed _ = u
  exact foldl_keeps (P := fun t => t.reported (.line l) Flag.lineWake) (f := State.raiseHeldRestore)
    (fun _ _ hs => hkeep.raiseHeldRestore hs) _ (State.post_reported_of _ _ (by decide))

theorem State.resumed_noneIn (s : State) (l : Fin 2) (cause : Nat) (v : Service) : (s.resumed l cause).noneIn l v = s.noneIn l v := by
  rw [Bool.eq_iff_iff, State.noneIn_iff, State.noneIn_iff]
  refine forall_congr' fun n => forall_congr' fun hn => ?_
  rw [State.resumed_sign, if_pos hn]
  rfl

theorem State.wake_woken {s : State} {l : Fin 2} (h : (s.line l).holds) (cause : Nat) : s.Woken (s.wake l cause) l cause := by
  have hsign := s.resumed_sign l cause
  have hline := s.resumed_line l cause
  have hwakes := s.resumed_wakes l cause
  have hresume := State.checkResume_resumes (s := s.resumed l cause) (l := l) (by rw [hline, if_pos rfl])
  rw [State.resumed_noneIn, hline, if_pos rfl] at hresume
  rw [State.wake_eq h, hresume]
  generalize s.resumed l cause = u at *
  by_cases hn : s.noneIn l .held = true
  · simp only [if_pos hn]
    refine ⟨fun n => hsign n, ?_, fun j hj => ?_, State.post_keeps _ _ _ _ _ hwakes, fun _ => State.post_reported_of _ _ (by decide)⟩
    · simp only [State.askArbitration, State.updLine_eq, State.setLine_line_same, State.post_line, if_pos hn]
    · simp only [State.askArbitration, State.updLine_eq, State.setLine_line_other _ _ _ _ hj, State.post_line, hline,
        if_neg (Ne.symm hj)]
  · simp only [if_neg hn]
    refine ⟨fun n => hsign n, ?_, fun j hj => ?_, hwakes, fun h => absurd h hn⟩
    · simp only [State.askArbitration, State.updLine_eq, State.setLine_line_same, hline, if_true, if_neg hn]
    · simp only [State.askArbitration, State.updLine_eq, State.setLine_line_other _ _ _ _ hj, hline, if_neg (Ne.symm hj)]

end Sys2Proof.Machine
end

section
/-! PROOF. WAKE_LINE, HOLD_ENTRY and HELD_WAKE_AGE (R164, R165, R167 to R169). -/

namespace Sys2Proof.Machine

/-! ### A wake to the end of its step -/

theorem State.noneIn_false_iff (s : State) (l : Fin 2) (v : Service) :
    ¬s.noneIn l v = true ↔ ∃ n : Fin 16, n.val / 8 = l.val ∧ (s.sign n).service = v := by
  rw [State.noneIn_iff]
  push Not
  rfl

theorem State.Woken.answered {s t : State} {l : Fin 2} {cause : Nat} (h : s.Woken t l cause) (k tag : Byte) (o : OutcomeCode)
    (d : List Byte) : s.Woken (t.answered k tag o d) l cause :=
  ⟨h.sign, h.line, h.other, h.wakes, h.resumes⟩

/-- What a wake has left when its step ends. -/
structure State.Wakened (s t : State) (l : Fin 2) (cause : Nat) : Prop where
  cause : (t.line l).wakeCause = cause
  wakes : t.reported (.line l) Flag.lineWake
  resuming : (∃ n : Fin 16, n.val / 8 = l.val ∧ (s.sign n).service = .held) → (t.line l).state = .resuming
  active : ¬(∃ n : Fin 16, n.val / 8 = l.val ∧ (s.sign n).service = .held) →
    (t.line l).state = .active ∧ (t.line l).activeCount = 0 ∧ t.reported (.line l) Flag.lineHold
  here : ∀ n : Fin 16, n.val / 8 = l.val → t.sign n = (s.sign n).woken s.now
  there : ∀ n : Fin 16, ¬n.val / 8 = l.val → t.sign n = s.sign n

/-- The service, the configuration and the displayed record stand over a wake. -/
theorem State.Woken.unchanged {s t : State} {l : Fin 2} {cause : Nat} (h : s.Woken t l cause) (n : Fin 16) :
    (t.sign n).cfg = (s.sign n).cfg ∧ (t.sign n).shown = (s.sign n).shown ∧ (t.sign n).service = (s.sign n).service := by
  rw [h.sign]
  split <;> exact ⟨rfl, rfl, rfl⟩

theorem State.Woken.conclude {a s t : State} {l : Fin 2} {cause : Nat} (h : s.Woken t l cause) : s.Wakened (State.conclude a t) l cause := by
  have hkeep (o : Obj) (f : BitVec 16) (hr : t.reported o f) : (State.conclude a t).reported o f :=
    (recordStable_reported o f).toStepStable.conclude hr
  have hsign (n : Fin 16) : (State.conclude a t).sign n = t.sign n := by rw [State.sign, State.conclude_signs, State.sign]
  have hline := State.conclude_line a t l
  rw [h.line] at hline
  refine ⟨?_, hkeep _ _ h.wakes, fun hheld => ?_, fun hheld => ?_, fun n hn => ?_, fun n hn => ?_⟩
  · rw [hline]
  · rw [hline]
    exact if_neg ((State.noneIn_false_iff s l .held).2 hheld)
  · have hnone : s.noneIn l .held = true := by
      by_contra hc
      exact hheld ((State.noneIn_false_iff s l .held).1 hc)
    rw [hline]
    exact ⟨if_pos hnone, if_pos hnone, hkeep _ _ (h.resumes hnone)⟩
  · rw [hsign, h.sign, if_pos hn]
  · rw [hsign, h.sign, if_neg hn]

/-- The frame of a step to its end, from the frame of what it ends. -/
theorem exceptSigns_concluded {t u v : State} (h : { t.exceptSigns with lib := v.lib } = v.exceptSigns) (hv : v.exceptSigns = u.exceptSigns) :
    { t.exceptSigns with lib := u.lib } = u.exceptSigns := by
  have hlib : v.lib = u.lib := (congrArg State.lib hv :)
  rw [← hlib, h, hv]

/-! ### The entry of hold (R164, R165) -/

/-- A sign as the entry of hold leaves it. -/
def Sign.holdRaised (now : Tick) (g : Sign) : Sign := if g.service = .showing then { g with holdNeed := some now } else g

/-- A line as it enters hold, before its SHOWING signs are looked for. -/
def State.entering (s : State) (l : Fin 2) : State :=
  ((signsOf l).foldl State.raiseHold (s.setLine l { s.line l with state := .holdEntry })).post (.line l) Flag.lineHold

theorem State.enterHold_eq {s : State} {l : Fin 2} (h : s.mayHold l = true) :
    s.enterHold l = ((s.entering l).checkHeld l).askArbitration l := if_pos h

theorem State.raiseHold_eq (s : State) (n : Fin 16) : s.raiseHold n = s.setSign n (Sign.holdRaised s.now (s.sign n)) := rfl

theorem State.entering_sign (s : State) (l : Fin 2) (n : Fin 16) :
    (s.entering l).sign n = if n.val / 8 = l.val then Sign.holdRaised s.now (s.sign n) else s.sign n := by
  unfold State.entering
  rw [State.post_sign, foldl_sign State.raiseHold_eq (signsOf_nodup l)]
  simp only [mem_signsOf, State.setLine_sign, State.setLine_now]

theorem State.entering_line (s : State) (l j : Fin 2) :
    (s.entering l).line j = if l = j then { s.line l with state := .holdEntry } else s.line j := by
  rw [State.entering, State.post_line, State.line, foldl_setSign_lines State.raiseHold_eq]
  exact State.setLine_line ..

theorem State.entering_exceptSigns (s : State) (l : Fin 2) : (s.entering l).exceptSigns = s.exceptSigns := by
  rw [State.entering, State.post_exceptSigns, foldl_setSign_exceptSigns State.raiseHold_eq, State.setLine_exceptSigns]

theorem State.entering_noneIn (s : State) (l : Fin 2) (v : Service) : (s.entering l).noneIn l v = s.noneIn l v := by
  rw [Bool.eq_iff_iff, State.noneIn_iff, State.noneIn_iff]
  refine forall_congr' fun n => forall_congr' fun hn => ?_
  rw [State.entering_sign, if_pos hn]
  unfold Sign.holdRaised
  split <;> rfl

/-- What an entry of hold leaves of signs, line and report set. -/
structure State.Entered (s t : State) (l : Fin 2) : Prop where
  sign : ∀ n : Fin 16, t.sign n = if n.val / 8 = l.val then Sign.holdRaised s.now (s.sign n) else s.sign n
  state : (t.line l).state = if s.noneIn l .showing then .held else .holdEntry
  holds : t.reported (.line l) Flag.lineHold
  frame : t.exceptSigns = s.exceptSigns

theorem State.enterHold_entered {s : State} {l : Fin 2} (h : s.mayHold l = true) : s.Entered (s.enterHold l) l := by
  have hline := s.entering_line l l
  rw [if_pos rfl] at hline
  have hposted : (s.entering l).reported (.line l) Flag.lineHold := State.post_reported_of _ _ (by decide)
  have hheld : (s.entering l).checkHeld l = if s.noneIn l .showing then
      ((s.entering l).setLine l { s.line l with state := .held }).post (.line l) Flag.lineHold else s.entering l := by
    simp only [State.checkHeld, State.entering_noneIn, hline, true_and, State.updLine_eq]
  have hsign := s.entering_sign l
  have hframe := s.entering_exceptSigns l
  rw [State.enterHold_eq h, hheld]
  generalize s.entering l = u at *
  by_cases hn : s.noneIn l .showing = true
  · simp only [if_pos hn]
    refine ⟨hsign, ?_, State.post_keeps _ _ _ _ _ hposted, ?_⟩
    · simp only [State.askArbitration, State.updLine_eq, State.setLine_line_same, State.post_line, if_pos hn]
    · simp only [State.askArbitration, State.updLine_exceptSigns, State.post_exceptSigns, State.setLine_exceptSigns, hframe]
  · simp only [if_neg hn]
    refine ⟨hsign, ?_, hposted, ?_⟩
    · simp only [State.askArbitration, State.updLine_eq, State.setLine_line_same, hline, if_neg hn]
    · simp only [State.askArbitration, State.updLine_exceptSigns, hframe]

/-- The conditions of R164 as a claim states them. -/
theorem State.mayHold_of {s : State} {l : Fin 2} (hstate : (s.line l).state = .active) (hreserve : s.inReserve = true)
    (hcount : (s.line l).activeCount = 80) (hsigns : ∀ n : Fin 16, n.val / 8 = l.val → (s.sign n).planClass ≠ .hazard ∧
      (s.sign n).service ≠ .lapsed ∧ Due.lapsed n ∉ s.due ∧ Due.critical n ∉ s.due ∧
      ∀ c : Candidate, s.candidate n = some c → c.cls = .refresh ∨ c.cls = .poll) : s.mayHold l = true := by
  have howes : s.owesAccounting l = false := by
    simp only [State.owesAccounting, List.any_eq_false, mem_signsOf, Bool.or_eq_true, List.contains_iff_mem]
    intro n hn hdue
    obtain ⟨-, -, hlapsed, hcritical, -⟩ := hsigns n hn
    exact hdue.elim hlapsed hcritical
  have hcontent (c : Candidate) (h : c.cls = .refresh ∨ c.cls = .poll) : c.isContent = false := by
    unfold Candidate.isContent
    rcases h with h | h <;> rw [h] <;> rfl
  have hall : ((signsOf l).all fun n => (s.sign n).planClass != .hazard && (s.sign n).service != .lapsed
      && match s.candidate n with
        | some c => !c.isContent
        | none => true) = true := by
    refine List.all_eq_true.2 fun n hn => ?_
    obtain ⟨hplan, hservice, -, -, hcandidate⟩ := hsigns n ((mem_signsOf l n).1 hn)
    cases hc : s.candidate n with
    | none => simp [hplan, hservice]
    | some c => simp [hplan, hservice, hcontent c (hcandidate c hc)]
  simp only [State.mayHold, hstate, hreserve, hcount, howes, beq_self_eq_true, Bool.not_false, Bool.true_and]
  exact hall

theorem State.mayHold_not {s : State} {l : Fin 2} (h : (s.line l).state ≠ .active ∨ s.inReserve = false ∨ (s.line l).activeCount ≠ 80 ∨
    ∃ n : Fin 16, n.val / 8 = l.val ∧ ((s.sign n).planClass = .hazard ∨ (s.sign n).service = .lapsed)) : ¬s.mayHold l = true := by
  intro hm
  simp only [State.mayHold, Bool.and_eq_true, beq_iff_eq, bne_iff_ne, List.all_eq_true, mem_signsOf] at hm
  obtain ⟨⟨⟨⟨hstate, hreserve⟩, hcount⟩, -⟩, hsigns⟩ := hm
  rcases h with h | h | h | ⟨n, hn, h⟩
  · exact h hstate
  · rw [h] at hreserve; cases hreserve
  · exact h hcount
  · obtain ⟨⟨hplan, hservice⟩, -⟩ := hsigns n hn
    exact h.elim hplan hservice

/-! ### The commands -/

theorem exec_holdEntry (l : Fin 2) (s : State) : exec (.holdEntry l) s = .next (s.runEvent (.holdEntry l)) := rfl

theorem exec_heldWakeAge (l : Fin 2) (s : State) : exec (.heldWakeAge l) s = .next (s.runEvent (.heldWake l)) := rfl

theorem State.applyDue_holdEntry (l : Fin 2) (s : State) : s.applyDue (.holdEntry l) = s.enterHold l := rfl

theorem State.applyDue_heldWake (l : Fin 2) (s : State) : s.applyDue (.heldWake l) = s.heldWake l := rfl

theorem State.heldWake_wakes {s : State} {l : Fin 2} (h : ∃ n : Fin 16, n.val / 8 = l.val ∧ (s.sign n).service = .held ∧
    2 * (8 * (s.sign n).cfg.holdover / (match (s.sign n).band with | .normal => 2 | .cold => 4 | .severe => 4)) ≤
      (s.sign n).ages.oldest) : s.heldWake l = s.wake l 6 := by
  refine if_pos (List.any_eq_true.2 ?_)
  obtain ⟨n, hn, hheld, hage⟩ := h
  refine ⟨n, (mem_signsOf l n).2 hn, ?_⟩
  have hspan : (s.sign n).heldSpan = 8 * (s.sign n).cfg.holdover / (match (s.sign n).band with | .normal => 2 | .cold => 4 | .severe => 4) := by
    unfold Sign.heldSpan
    cases (s.sign n).band <;> rfl
  simp [Sign.wakes, hheld, hspan, hage]

/-- Settles O44: a wake clears every HOLD need of the line and raises a restore need for each HELD sign, an entry raises a HOLD need
for each SHOWING one; neither is handed over, and the arbitration that follows changes the line's exchange alone. -/
theorem holdEntersAndWakes : Obligations.HoldEntersAndWakes := by
  unfold Obligations.HoldEntersAndWakes
  intro l s hcalm here holding held wakes
  have hwakes {cause : Nat} {before u : State} (hw : s.Wakened u l cause) (hu : { u.exceptSigns with lib := s.lib } = before.exceptSigns) :
      wakes cause before u := ⟨hw.cause, hw.wakes, hw.resuming, hw.active, hw.here, hw.there, hu⟩
  refine ⟨fun tag line hdue hidle => ?_, fun hd hhold hage => ?_, fun hd => ⟨fun hstate hreserve hcount hsigns => ?_, fun hno => ?_⟩⟩
  · have h : s.listening := ⟨⟨hcalm, hdue⟩, hidle⟩
    have happly {i : Fin 2} (hl : line.toNat = i.val) :
        s.applyWakeLine line = accept (u8 i.val ++ u8 ((s.wake i 5).line i).state.code) (s.wake i 5) := by
      rw [State.applyWakeLine, indexOf_of_toNat hl]
    refine ⟨fun hl => exec_refused (k := .wakeLine) rfl h ?_, fun hl hrest => ?_, fun hl hhold => ?_⟩
    · change s.applyWakeLine line = _
      rw [State.applyWakeLine, indexOf_of_ge hl]
    · refine exec_accepted (c := .wakeLine tag line) (k := .wakeLine) rfl h ?_ rfl rfl
      have ha := happly hl
      rw [State.wake_of_rests hrest] at ha
      exact ha
    · have hw := State.wake_woken hhold 5
      have hframe := s.wake_exceptSigns l 5
      have hlib : (s.wake l 5).lib = s.lib := (congrArg State.lib hframe :)
      have hexec := exec_concluded (c := .wakeLine tag line) (k := .wakeLine) rfl h (happly hl)
      generalize s.wake l 5 = v at hexec hw hframe hlib
      have hdone := (hw.answered 0x33 tag .ok (u8 l.val ++ u8 (v.line l).state.code)).conclude (a := s)
      have hunchanged := (hw.answered 0x33 tag .ok (u8 l.val ++ u8 (v.line l).state.code)).unchanged
      have hrest := State.conclude_exceptSigns hunchanged
      have hstate : ((State.conclude s (v.answered 0x33 tag .ok (u8 l.val ++ u8 (v.line l).state.code))).line l).state = (v.line l).state := by
        rw [State.conclude_line s (v.answered 0x33 tag .ok (u8 l.val ++ u8 (v.line l).state.code)) l]
        rfl
      replace hexec : exec (.wakeLine tag line) s =
        .next (State.conclude s (v.answered 0x33 tag .ok (u8 l.val ++ u8 (v.line l).state.code))) := hexec
      refine ⟨_, hexec, hwakes hdone ?_⟩
      rw [hstate, ← hlib]
      refine hrest.trans ?_
      exact congrArg (fun u : State => u.answered 0x33 tag .ok (u8 l.val ++ u8 (v.line l).state.code)) hframe
  · rw [exec_heldWakeAge, State.runEvent_concluded hd rfl (by simp), State.applyDue_heldWake,
      State.heldWake_wakes (s := { s with due := s.due.erase (.heldWake l) }) hage]
    have hw := State.wake_woken (s := { s with due := s.due.erase (.heldWake l) }) hhold 6
    have hframe := State.wake_exceptSigns { s with due := s.due.erase (.heldWake l) } l 6
    generalize State.wake { s with due := s.due.erase (.heldWake l) } l 6 = v at hw hframe
    have hdone := hw.conclude (a := s)
    have hrest := State.conclude_exceptSigns (a := s) hw.unchanged
    refine ⟨_, rfl, hwakes ⟨hdone.cause, hdone.wakes, hdone.resuming, hdone.active, hdone.here, hdone.there⟩ ?_⟩
    exact exceptSigns_concluded hrest hframe
  · rw [exec_holdEntry, State.runEvent_concluded hd rfl (by simp), State.applyDue_holdEntry]
    have hmay : State.mayHold { s with due := s.due.erase (.holdEntry l) } l = true := by
      refine State.mayHold_of hstate hreserve hcount fun n hn => ?_
      obtain ⟨hplan, hservice, hlapsed, hcritical, hcandidate⟩ := hsigns n hn
      exact ⟨hplan, hservice, mt List.mem_of_mem_erase hlapsed, mt List.mem_of_mem_erase hcritical, hcandidate⟩
    have hw := State.enterHold_entered hmay
    generalize State.enterHold { s with due := s.due.erase (.holdEntry l) } l = v at hw
    have hsign (n : Fin 16) : v.sign n = if n.val / 8 = l.val then Sign.holdRaised s.now (s.sign n) else s.sign n := hw.sign n
    have hrest := State.conclude_exceptSigns (a := s) (s := v) fun n => by
      rw [hsign]
      unfold Sign.holdRaised
      split
      · split <;> exact ⟨rfl, rfl, rfl⟩
      · exact ⟨rfl, rfl, rfl⟩
    refine ⟨_, rfl, ?_, ?_, fun n => ?_, ?_⟩
    · exact (recordStable_reported _ _).toStepStable.conclude hw.holds
    · rw [State.conclude_line s v l]
      refine hw.state.trans ?_
      by_cases hnone : s.noneIn l .showing = true
      · exact (if_pos hnone).trans (if_neg fun he => (State.noneIn_false_iff s l .showing).2 he hnone).symm
      · exact (if_neg hnone).trans (if_pos ((State.noneIn_false_iff s l .showing).1 hnone)).symm
    · rw [State.sign, State.conclude_signs, ← State.sign, hsign]
      by_cases hn : n.val / 8 = l.val
      · by_cases hs : (s.sign n).service = .showing
        · simp [here, hn, hs, Sign.holdRaised]
        · simp [here, hn, hs, Sign.holdRaised]
      · simp [here, hn]
    · exact exceptSigns_concluded hrest hw.frame
  · have hno' : State.enterHold { s with due := s.due.erase (.holdEntry l) } l = { s with due := s.due.erase (.holdEntry l) } :=
      if_neg (State.mayHold_not (s := { s with due := s.due.erase (.holdEntry l) }) hno)
    have happly : State.applyDue { s with due := s.due.erase (.holdEntry l) } (.holdEntry l) = { s with due := s.due.erase (.holdEntry l) } := hno'
    rw [exec_holdEntry, State.runEvent_unsigned hd rfl (by simp) hcalm (by rw [happly]) (by rw [happly]), happly]

end Sys2Proof.Machine
end

section
/-! SUPPORT. The load of a line: what a service change leaves of signs and line, what a recomputation computes, and what is posted on
the way (R138, R155 to R160, R190). -/

namespace Sys2Proof.Machine

/-! ### What is posted of one object joins in its entry (R190) -/

/-- The entry of an object holds these event flags among its own. -/
def State.noted (s : State) (o : Obj) (f : BitVec 16) : Prop :=
  ∃ e, s.link.reports.find? (fun e => e.obj == o) = some e ∧ e.flags &&& f = f

theorem State.noted.reported {s : State} {o : Obj} {f : BitVec 16} (h : s.noted o f) : s.reported o f := by
  obtain ⟨e, he, hf⟩ := h
  exact ⟨e, List.mem_of_find?_eq_some he, by simpa using List.find?_some he, hf⟩

theorem find?_addReport_same (o : Obj) (f : BitVec 16) (l : List ReportEntry) :
    (addReport o f l).find? (fun e => e.obj == o) =
      some (match l.find? (fun e => e.obj == o) with | some e => { e with flags := e.flags ||| f } | none => { obj := o, flags := f }) := by
  induction l with
  | nil => simp [addReport]
  | cons e rest ih =>
    by_cases he : e.obj = o
    · simp [addReport, he]
    · simp [addReport, he, ih]

theorem find?_addReport_other {o x : Obj} (h : o ≠ x) (f : BitVec 16) (l : List ReportEntry) :
    (addReport o f l).find? (fun e => e.obj == x) = l.find? (fun e => e.obj == x) := by
  induction l with
  | nil => simp [addReport, h]
  | cons e rest ih =>
    by_cases he : e.obj = o
    · simp [addReport, he, h]
    · simp [addReport, he, List.find?_cons, ih]

theorem State.post_noted (s : State) (o : Obj) (f : BitVec 16) : (s.post o f).noted o f := by
  refine ⟨_, find?_addReport_same o f _, ?_⟩
  split
  · rw [BitVec.and_comm, BitVec.or_comm]
    ext i
    simp +contextual
  · simp

/-- What is posted of an object joins what stands in its entry. -/
theorem State.noted.post {s : State} {o : Obj} {f : BitVec 16} (h : s.noted o f) (g : BitVec 16) : (s.post o g).noted o (f ||| g) := by
  obtain ⟨e, he, hf⟩ := h
  refine ⟨_, find?_addReport_same o g _, ?_⟩
  rw [he]
  dsimp only
  rw [← hf]
  ext i
  simp only [BitVec.getElem_and, BitVec.getElem_or]
  cases e.flags[i] <;> cases f[i] <;> cases g[i] <;> rfl

theorem State.noted.of_flags {s : State} {o : Obj} {f g : BitVec 16} (h : s.noted o g) (hf : g &&& f = f) : s.noted o f := by
  obtain ⟨e, he, hg⟩ := h
  exact ⟨e, he, by rw [← hf, ← BitVec.and_assoc, hg]⟩

theorem recordStable_noted (o : Obj) (f : BitVec 16) : RecordStable fun s => s.noted o f where
  follow hs ht := by
    unfold State.noted at *
    rw [ht.reports]
    exact hs
  post {s x g} hs := by
    by_cases hx : x = o
    · subst hx
      exact (hs.post g).of_flags (flags_or_left g (by simp))
    · obtain ⟨e, he, hf⟩ := hs
      exact ⟨e, (find?_addReport_other hx g _).trans he, hf⟩

/-! ### What is off a line stands (R138, R155 to R168) -/

theorem lineStable_off (l : Fin 2) (u : State) :
    LineStable (· = l) fun t => (∀ j : Fin 2, j ≠ l → t.line j = u.line j) ∧ ∀ n : Fin 16, ¬n.val / 8 = l.val → t.sign n = u.sign n where
  sign {s n g} _ hs hl := by
    refine ⟨hs.1, fun m hm => ?_⟩
    rw [State.setSign_sign_other _ _ _ _ fun h => hm (by rw [h]; exact congrArg Fin.val hl)]
    exact hs.2 m hm
  line {s m r} _ hs hl := by
    refine ⟨fun j hj => ?_, hs.2⟩
    rw [State.setLine_line_other _ _ _ _ (hl ▸ hj)]
    exact hs.1 j hj
  post hs := hs

theorem lineStable_line (l : Fin 2) (r : Line) : LineStable (fun _ => True) fun t => r.Retains (t.line l) where
  sign _ hs _ := hs
  line {s m x} hx hs _ := by
    rw [State.setLine_line]
    split
    · next h =>
      subst h
      exact hs.trans hx
    · exact hs
  post hs := hs

/-! ### The change of a sign's service (R138, R157, R158) -/

theorem State.checkHeld_sign (s : State) (l : Fin 2) (n : Fin 16) : (s.checkHeld l).sign n = s.sign n :=
  iteInduction (motive := fun t : State => t.sign n = s.sign n) (fun _ => rfl) fun _ => rfl

theorem State.checkResume_sign (s : State) (l : Fin 2) (n : Fin 16) : (s.checkResume l).sign n = s.sign n :=
  iteInduction (motive := fun t : State => t.sign n = s.sign n) (fun _ => rfl) fun _ => rfl

theorem State.checkHeld_overloaded (s : State) (l : Fin 2) : ((s.checkHeld l).line l).overloaded = (s.line l).overloaded := by
  refine iteInduction (motive := fun t : State => (t.line l).overloaded = (s.line l).overloaded) (fun _ => ?_) fun _ => rfl
  rw [State.post_line, State.updLine_eq, State.setLine_line_same]

theorem State.checkResume_overloaded (s : State) (l : Fin 2) : ((s.checkResume l).line l).overloaded = (s.line l).overloaded := by
  refine iteInduction (motive := fun t : State => (t.line l).overloaded = (s.line l).overloaded) (fun _ => ?_) fun _ => rfl
  rw [State.post_line, State.updLine_eq, State.setLine_line_same]

theorem State.askArbitration_overloaded (s : State) (l : Fin 2) : ((s.askArbitration l).line l).overloaded = (s.line l).overloaded := by
  rw [State.askArbitration, State.updLine_eq, State.setLine_line_same]

/-- A sign of a line that wakes, or that stands. -/
def Sign.Wakes (now : Tick) (a b : Sign) : Prop := b = a ∨ b = a.woken now

theorem Sign.woken_woken (now : Tick) (g : Sign) : (g.woken now).woken now = g.woken now := by
  unfold Sign.woken
  dsimp only
  split <;> simp

theorem Sign.Wakes.trans {now : Tick} {a b c : Sign} (h : a.Wakes now b) (k : b.Wakes now c) : a.Wakes now c := by
  rcases h with rfl | rfl
  · exact k
  · rcases k with rfl | rfl
    · exact .inr rfl
    · exact .inr (Sign.woken_woken now a)

/-- What a wake or none leaves: signs of the line woken or as they were, and OVERLOADED as it was. -/
theorem State.wake_wakes (s : State) (l : Fin 2) (cause : Nat) :
    (∀ n : Fin 16, (s.sign n).Wakes s.now ((s.wake l cause).sign n)) ∧ ((s.wake l cause).line l).overloaded = (s.line l).overloaded := by
  by_cases h : (s.line l).holds
  · have hw := State.wake_woken h cause
    refine ⟨fun n => ?_, by rw [hw.line]⟩
    rw [hw.sign]
    split
    · exact .inr rfl
    · exact .inl rfl
  · rw [State.wake_of_rests h]
    exact ⟨fun _ => .inl rfl, rfl⟩

/-- A sign in a service state that a wake does not touch any more: not HELD, with no HOLD need. -/
theorem Sign.woken_of_released {now : Tick} {g : Sign} (hs : g.service ≠ .held) (hh : g.holdNeed = none) : g.woken now = g := by
  simp [Sign.woken, hs, ← hh]

/-- What a change of a sign's service leaves: the sign's record, the other signs woken or as they were, OVERLOADED as it was, and
the report. -/
structure State.Served (s t : State) (n : Fin 16) (g : Sign) : Prop where
  sign : t.sign n = g
  others : ∀ m : Fin 16, m ≠ n → (s.sign m).Wakes s.now (t.sign m)
  overloaded : (t.line (lineOf n)).overloaded = (s.line (lineOf n)).overloaded
  noted : t.noted (.sign n) Flag.signService

theorem serviceFlags_service (old new : Sign) : serviceFlags old new &&& Flag.signService = Flag.signService := by
  unfold serviceFlags
  rw [BitVec.or_assoc]
  exact flags_or_left _ (by simp)

theorem State.changeService_served {s : State} {n : Fin 16} {v : Service} (hne : (s.sign n).service ≠ v)
    (hv : v = .lapsed ∨ v = .shed) : s.Served (s.changeService n v) n ((s.sign n).withService s.now v) := by
  have hreleased : ((s.sign n).withService s.now v).woken s.now = (s.sign n).withService s.now v := by
    rcases hv with rfl | rfl <;> exact Sign.woken_of_released (by simp [Sign.withService]) rfl
  generalize hg : (s.sign n).withService s.now v = g at *
  set u := (s.setSign n g).post (.sign n) (serviceFlags (s.sign n) g) with hu
  have husign (m : Fin 16) : u.sign m = if n = m then g else s.sign m := State.setSign_sign s n g m
  have hunoted : u.noted (.sign n) Flag.signService := (State.post_noted _ _ _).of_flags (serviceFlags_service _ _)
  have huover : (u.line (lineOf n)).overloaded = (s.line (lineOf n)).overloaded := rfl
  have hunow : u.now = s.now := rfl
  have hchange : s.changeService n v =
      ((if v = .lapsed ∧ (s.sign n).restoreNeed = none then u.restoreRaised n else u).checkHeld (lineOf n)).checkResume (lineOf n) := by
    rw [hu, ← hg]
    exact if_neg hne
  clear_value u
  have hserved : s.Served u n g :=
    ⟨(husign n).trans (if_pos rfl), fun m hm => .inl ((husign m).trans (if_neg (Ne.symm hm))), huover, hunoted⟩
  have hraised : s.Served (u.restoreRaised n) n g := by
    obtain ⟨hsign, hover⟩ := u.wake_wakes (lineOf n) 3
    rw [hunow] at hsign
    refine ⟨?_, fun m hm => (hserved.others m hm).trans (hsign m), ?_, ?_⟩
    · have h := hsign n
      rw [hserved.sign] at h
      exact h.elim id fun h => h.trans hreleased
    · rw [State.restoreRaised, State.askArbitration_overloaded, hover, huover]
    · exact (recordStable_noted _ _).toStepStable.toRetentionStable.restoreRaised hunoted
  have hcase : s.Served (if v = .lapsed ∧ (s.sign n).restoreNeed = none then u.restoreRaised n else u) n g := by
    split
    · exact hraised
    · exact hserved
  rw [hchange]
  generalize (if v = .lapsed ∧ (s.sign n).restoreNeed = none then u.restoreRaised n else u) = w at hcase
  refine ⟨?_, fun m hm => ?_, ?_, ?_⟩
  · rw [State.checkResume_sign, State.checkHeld_sign, hcase.sign]
  · rw [State.checkResume_sign, State.checkHeld_sign]
    exact hcase.others m hm
  · rw [State.checkResume_overloaded, State.checkHeld_overloaded, hcase.overloaded]
  · have hkeep := (recordStable_noted (.sign n) Flag.signService).toStepStable.toRetentionStable
    exact hkeep.checkResume (hkeep.checkHeld hcase.noted)

theorem State.shedSign_served {s : State} {n : Fin 16} (h : (s.sign n).maySheds = true) :
    s.Served (s.shedSign n) n ((s.sign n).withService s.now .shed) ∧
      (s.shedSign n).noted (.sign n) (Flag.signService ||| Flag.signShed) := by
  have hne : (s.sign n).service ≠ .shed := by
    intro hs
    simp [Sign.maySheds, Sign.counted, hs] at h
  have hserved := State.changeService_served hne (.inr rfl)
  have hnoted := hserved.noted.post Flag.signShed
  unfold State.shedSign
  generalize s.changeService n .shed = u at *
  refine ⟨⟨hserved.sign, hserved.others, ?_, hnoted.of_flags (flags_or_left _ (by simp))⟩, hnoted⟩
  rw [State.askArbitration_overloaded]
  exact hserved.overloaded

theorem State.restoreSign_served {s : State} {n : Fin 16} (h : (s.sign n).service = .shed) :
    s.Served (s.restoreSign n) n ((s.sign n).withService s.now .lapsed) ∧
      (s.restoreSign n).noted (.sign n) (Flag.signService ||| Flag.signShed) := by
  have hserved := State.changeService_served (s := s) (n := n) (v := .lapsed) (by rw [h]; decide) (.inl rfl)
  have hnoted := hserved.noted.post Flag.signShed
  unfold State.restoreSign
  generalize s.changeService n .lapsed = u at *
  exact ⟨⟨hserved.sign, hserved.others, hserved.overloaded, hnoted.of_flags (flags_or_left _ (by simp))⟩, hnoted⟩

/-! ### The sums of a line (R155, R166) -/

theorem foldl_add_eq_sum {α : Type} (f : α → Nat) (l : List α) (k : Nat) : l.foldl (fun t a => t + f a) k = k + (l.map f).sum := by
  induction l generalizing k with
  | nil => rfl
  | cons a l ih => rw [List.foldl_cons, ih, List.map_cons, List.sum_cons, Nat.add_assoc]

theorem State.shareSum_eq (s : State) (l : Fin 2) : s.shareSum l = ((signsOf l).map fun n => (s.sign n).share).sum :=
  (foldl_add_eq_sum (fun n => (s.sign n).share) _ 0).trans (Nat.zero_add _)

theorem State.heldSum_eq (s : State) (l : Fin 2) : s.heldSum l = if (s.line l).state = .active then 0
    else ((signsOf l).map fun n => if (s.sign n).service = .held then (s.sign n).heldShare else 0).sum := by
  unfold State.heldSum
  split
  · rfl
  · rw [← Nat.zero_add (List.sum _), ← foldl_add_eq_sum]
    congr 1
    funext t n
    split <;> simp

theorem Sign.fullShare_eq (g : Sign) : g.fullShare = g.shareIfCounted := by
  unfold Sign.fullShare Sign.shareIfCounted ceilDiv
  cases g.granularity <;> rfl

/-- The share of each sign of a line, summed as the claims do. -/
theorem State.sharesOf_eq (s : State) (l : Fin 2) (keep : Fin 16 → Bool) :
    s.sharesOf l keep = ((signsOf l).map fun n => if keep n = true then (s.sign n).share else 0).sum := by
  unfold State.sharesOf
  congr 1
  refine List.map_congr_left fun n _ => ?_
  have hshare : (s.sign n).share = if (s.sign n).service = .showing ∨ (s.sign n).service = .lapsed then (s.sign n).shareIfCounted else 0 := by
    rw [← Sign.fullShare_eq]
    exact if_congr (Sign.counted_iff _) rfl rfl
  rw [hshare]
  exact ite_and ..

theorem State.loadOf_eq (s : State) (l : Fin 2) (sum : Nat) : s.loadOf l sum = s.thousandths l sum := rfl

theorem State.thousandths_mono {s : State} {l : Fin 2} {a b : Nat} (h : a ≤ b) : s.thousandths l a ≤ s.thousandths l b :=
  Nat.div_le_div_right (by omega)

theorem State.mayBeShed_eq (s : State) (n : Fin 16) : s.mayBeShed n = (s.sign n).maySheds := by
  unfold State.mayBeShed Sign.maySheds Sign.counted
  cases (s.sign n).planClass <;> rfl

theorem State.mayBeRestored_eq (s : State) (n : Fin 16) :
    s.mayBeRestored n = ((s.sign n).service == .shed && !s.heldShed (s.sign n)) := rfl

/-! ### A recomputation (R156, R160) -/

/-- The load of the line is computed from its counted signs, and a load of 700 or less is not OVERLOADED. -/
structure State.LoadKnown (s : State) (l : Fin 2) : Prop where
  sum : (s.line l).sum = s.shareSum l
  load : (s.line l).load = s.loadOf l (s.line l).sum
  light : (s.line l).load ≤ 700 → (s.line l).overloaded = false

/-- OVERLOADED stands between two states, or its change is reported. -/
def State.Overloads (s t : State) (l : Fin 2) : Prop :=
  (t.line l).overloaded = (s.line l).overloaded ∨ t.noted (.line l) Flag.lineOverloaded

theorem State.setOverloaded_line (s : State) (l : Fin 2) (v : Bool) :
    (s.setOverloaded l v).line l = { s.line l with overloaded := v } := by
  unfold State.setOverloaded
  split
  · next h => rw [← h]
  · rw [State.post_line, State.updLine_eq, State.setLine_line_same]

theorem State.setOverloaded_signs (s : State) (l : Fin 2) (v : Bool) : (s.setOverloaded l v).signs = s.signs :=
  iteInduction (motive := fun t : State => t.signs = s.signs) (fun _ => rfl) fun _ => rfl

theorem State.setOverloaded_overloads (s : State) (l : Fin 2) (v : Bool) : s.Overloads (s.setOverloaded l v) l :=
  iteInduction (motive := fun t : State => s.Overloads t l) (fun _ => .inl rfl) fun _ => .inr (State.post_noted _ _ _)

theorem State.Overloads.trans {s t u : State} {l : Fin 2} (h : s.Overloads t l) (k : t.Overloads u l)
    (hkeep : t.noted (.line l) Flag.lineOverloaded → u.noted (.line l) Flag.lineOverloaded) : s.Overloads u l := by
  rcases k with k | k
  · exact h.elim (fun h => .inl (k.trans h)) fun h => .inr (hkeep h)
  · exact .inr k

theorem State.shareSum_congr {s t : State} (h : t.signs = s.signs) (l : Fin 2) : t.shareSum l = s.shareSum l := by
  simp only [State.shareSum, State.sign, h]

/-- What a recomputation leaves. -/
structure State.Recomputed (s t : State) (l : Fin 2) : Prop where
  signs : t.signs = s.signs
  known : t.LoadKnown l
  cfg : (t.line l).cfg = (s.line l).cfg
  overloads : s.Overloads t l

theorem State.recompute_recomputed (s : State) (l : Fin 2) : s.Recomputed (s.recompute l) l := by
  set u := s.setLine l { s.line l with sum := s.shareSum l, load := s.loadOf l (s.shareSum l) } with hu
  have hline : u.line l = { s.line l with sum := s.shareSum l, load := s.loadOf l (s.shareSum l) } := State.setLine_line_same ..
  have hsigns : u.signs = s.signs := rfl
  have hsum (t : State) (ht : t.signs = u.signs) : t.shareSum l = s.shareSum l := State.shareSum_congr (ht.trans hsigns) l
  have hrecompute : s.recompute l = if (u.line l).load ≤ 700 then u.setOverloaded l false else u := rfl
  clear_value u
  rw [hrecompute]
  by_cases hload : (u.line l).load ≤ 700
  · rw [if_pos hload]
    have hover := u.setOverloaded_line l false
    refine ⟨(State.setOverloaded_signs ..).trans hsigns, ⟨?_, ?_, fun _ => ?_⟩, ?_, ?_⟩
    · rw [hsum _ (State.setOverloaded_signs ..), hover, hline]
    · rw [State.loadOf, hover, hline]
      rfl
    · rw [hover]
    · rw [hover, hline]
    · exact State.Overloads.trans (.inl (by rw [hline])) (State.setOverloaded_overloads ..)
        fun h => (recordStable_noted _ _).toStepStable.toRetentionStable.setOverloaded h
  · rw [if_neg hload]
    refine ⟨hsigns, ⟨?_, ?_, fun h => absurd h hload⟩, ?_, .inl ?_⟩
    · rw [hsum u rfl, hline]
    · rw [State.loadOf, hline]
      rfl
    · rw [hline]
    · rw [hline]

end Sys2Proof.Machine
end

section
/-! PROOF. A recomputation of the load with the shedding and the restoring that follow it (R155 to R160, R166). -/

namespace Sys2Proof.Machine

/-! ### The first sign of a line, by ascending and by descending address -/

theorem signsOf_sorted (l : Fin 2) : (signsOf l).Pairwise (· < ·) := by
  unfold signsOf
  refine List.Pairwise.map _ (fun a b h => ?_) (List.pairwise_lt_finRange 8)
  simp only [signAt, Fin.lt_def] at *
  omega

/-- The lowest sign of a line with a property. -/
theorem find?_signsOf {l : Fin 2} {p : Fin 16 → Bool} {n : Fin 16} (h : (signsOf l).find? p = some n) :
    n.val / 8 = l.val ∧ p n = true ∧ ∀ m : Fin 16, m.val / 8 = l.val → m < n → p m = false := by
  obtain ⟨hp, as, bs, hl, has⟩ := List.find?_eq_some_iff_append.1 h
  have hsorted := signsOf_sorted l
  refine ⟨(mem_signsOf l n).1 (List.mem_of_find?_eq_some h), hp, fun m hm hlt => ?_⟩
  rw [hl, List.pairwise_append] at hsorted
  obtain ⟨-, hrest, -⟩ := hsorted
  have hmem : m ∈ as ++ n :: bs := hl ▸ (mem_signsOf l m).2 hm
  rcases List.mem_append.1 hmem with hmem | hmem
  · simpa using has m hmem
  · rcases List.mem_cons.1 hmem with rfl | hmem
    · exact absurd hlt (lt_irrefl _)
    · exact absurd ((List.pairwise_cons.1 hrest).1 m hmem) (not_lt_of_gt hlt)

/-- The highest sign of a line with a property. -/
theorem find?_signsOf_reverse {l : Fin 2} {p : Fin 16 → Bool} {n : Fin 16} (h : (signsOf l).reverse.find? p = some n) :
    n.val / 8 = l.val ∧ p n = true ∧ ∀ m : Fin 16, m.val / 8 = l.val → n < m → p m = false := by
  obtain ⟨hp, as, bs, hl, has⟩ := List.find?_eq_some_iff_append.1 h
  have hsorted : (signsOf l).reverse.Pairwise (· > ·) := List.pairwise_reverse.2 (signsOf_sorted l)
  refine ⟨(mem_signsOf l n).1 (List.mem_reverse.1 (List.mem_of_find?_eq_some h)), hp, fun m hm hlt => ?_⟩
  rw [hl, List.pairwise_append] at hsorted
  obtain ⟨-, hrest, -⟩ := hsorted
  have hmem : m ∈ as ++ n :: bs := hl ▸ List.mem_reverse.2 ((mem_signsOf l m).2 hm)
  rcases List.mem_append.1 hmem with hmem | hmem
  · simpa using has m hmem
  · rcases List.mem_cons.1 hmem with rfl | hmem
    · exact absurd hlt (lt_irrefl _)
    · exact absurd ((List.pairwise_cons.1 hrest).1 m hmem) (not_lt_of_gt hlt)

theorem find?_signsOf_none {l : Fin 2} {p : Fin 16 → Bool} (h : (signsOf l).find? p = none) {n : Fin 16} (hn : n.val / 8 = l.val) :
    p n = false := by
  simpa using List.find?_eq_none.1 h n ((mem_signsOf l n).2 hn)

/-- A sum over the signs of a line in which one sign weighs more. -/
theorem sum_signsOf_add {l : Fin 2} {f g : Fin 16 → Nat} {n : Fin 16} {x : Nat} (hn : n.val / 8 = l.val) (hx : g n = f n + x)
    (hg : ∀ m : Fin 16, m.val / 8 = l.val → m ≠ n → g m = f m) : ((signsOf l).map g).sum = ((signsOf l).map f).sum + x := by
  have key : ∀ ns : List (Fin 16), ns.Nodup → (∀ m ∈ ns, m ≠ n → g m = f m) →
      (ns.map g).sum = (ns.map f).sum + if n ∈ ns then x else 0 := by
    intro ns hns hrest
    induction ns with
    | nil => rfl
    | cons m ns ih =>
      obtain ⟨hm, hns⟩ := List.nodup_cons.1 hns
      rw [List.map_cons, List.map_cons, List.sum_cons, List.sum_cons, ih hns fun k hk => hrest k (List.mem_cons_of_mem _ hk)]
      by_cases hmn : m = n
      · subst hmn
        rw [if_neg hm, if_pos List.mem_cons_self, hx]
        omega
      · rw [hrest m List.mem_cons_self hmn]
        simp only [List.mem_cons, Ne.symm hmn, false_or]
        omega
  rw [key _ (signsOf_nodup l) fun m hm => hg m ((mem_signsOf l m).1 hm), if_pos ((mem_signsOf l n).2 hn)]

theorem sum_signsOf_le {l : Fin 2} {f g : Fin 16 → Nat} (h : ∀ m : Fin 16, m.val / 8 = l.val → f m ≤ g m) :
    ((signsOf l).map f).sum ≤ ((signsOf l).map g).sum :=
  List.sum_le_sum fun m hm => h m ((mem_signsOf l m).1 hm)

theorem sum_signsOf_congr {l : Fin 2} {f g : Fin 16 → Nat} (h : ∀ m : Fin 16, m.val / 8 = l.val → f m = g m) :
    ((signsOf l).map f).sum = ((signsOf l).map g).sum :=
  congrArg List.sum (List.map_congr_left fun m hm => h m ((mem_signsOf l m).1 hm))

/-! ### Shedding (R157) -/

/-- The signs of a line that shedding takes once it has come down to the address c. -/
def State.cut (s : State) (l : Fin 2) (c : Nat) (m : Fin 16) : Prop := m.val / 8 = l.val ∧ (s.sign m).maySheds = true ∧ c ≤ m.val

theorem Sign.counted_of_maySheds {g : Sign} (h : g.maySheds = true) : g.counted = true := by
  simp only [Sign.maySheds, Bool.and_eq_true] at h
  exact h.1.1

theorem Sign.service_of_maySheds {g : Sign} (h : g.maySheds = true) : g.service ≠ .shed ∧ g.service ≠ .held := by
  have hc := Sign.counted_of_maySheds h
  constructor <;> intro hs <;> simp [Sign.counted, hs] at hc

/-- A shed sign counts no longer. -/
theorem Sign.share_of_shed {g : Sign} (h : g.service = .shed) : g.share = 0 := by simp [Sign.share, Sign.counted, h]

theorem Sign.maySheds_of_shed {g : Sign} (h : g.service = .shed) : g.maySheds = false := by simp [Sign.maySheds, Sign.counted, h]

/-- A line on which shedding has come down to the address c. -/
structure State.Shedding (s u : State) (l : Fin 2) (c : Nat) : Prop where
  taken : ∀ m : Fin 16, s.cut l c m → u.sign m = (s.sign m).withService s.now .shed
  rest : ∀ m : Fin 16, ¬s.cut l c m → (s.sign m).Wakes s.now (u.sign m)
  known : u.LoadKnown l
  cfg : (u.line l).cfg = (s.line l).cfg
  heavy : ∀ m : Fin 16, s.cut l c m → 700 < s.thousandths l (s.sharesOf l fun k => decide (k ≤ m) || !s.mayBeShed k)
  noted : ∀ m : Fin 16, s.cut l c m → u.noted (.sign m) (Flag.signService ||| Flag.signShed)
  overloads : s.Overloads u l
  frame : u.exceptSigns = s.exceptSigns

theorem Sign.Wakes.keeps {now : Tick} {a b : Sign} (h : a.Wakes now b) : b.service = a.service ∧ b.share = a.share ∧ b.maySheds = a.maySheds ∧
    b.fullShare = a.fullShare ∧ b.cfg = a.cfg ∧ b.planClass = a.planClass := by
  rcases h with rfl | rfl <;> exact ⟨rfl, rfl, rfl, rfl, rfl, rfl⟩

theorem thousandths_congr {s u : State} {l : Fin 2} (h : (u.line l).cfg = (s.line l).cfg) (x : Nat) : u.thousandths l x = s.thousandths l x := by
  rw [State.thousandths, State.thousandths, h]

/-- The first computation, before any sign is shed. -/
theorem State.recompute_shedding (s : State) (l : Fin 2) : s.Shedding (s.recompute l) l (8 * l.val + 8) := by
  have h := s.recompute_recomputed l
  have hnone (m : Fin 16) : ¬s.cut l (8 * l.val + 8) m := by
    rintro ⟨hm, -, hc⟩
    omega
  refine ⟨fun m hm => absurd hm (hnone m), fun m _ => .inl ?_, h.known, h.cfg, fun m hm => absurd hm (hnone m),
    fun m hm => absurd hm (hnone m), h.overloads, s.recompute_exceptSigns l⟩
  rw [State.sign, h.signs, State.sign]

/-- The next sign that shedding takes. -/
theorem State.Shedding.step {s u : State} {l : Fin 2} {c : Nat} {n : Fin 16} (h : s.Shedding u l c) (hload : 700 < (u.line l).load)
    (hn : u.shedNext l = some n) : n.val < c ∧ s.Shedding ((u.shedSign n).recompute l) l n.val := by
  obtain ⟨hhere, hmay, hhighest⟩ := find?_signsOf_reverse hn
  have hnow : u.now = s.now := now_of_exceptSigns h.frame
  have hfree : ¬s.cut l c n := by
    intro hc
    rw [h.taken n hc, Sign.maySheds_of_shed rfl] at hmay
    cases hmay
  obtain ⟨hservice, hshare, hsheds, -, -, -⟩ := (h.rest n hfree).keeps
  rw [hsheds] at hmay
  have hlt : n.val < c := by
    by_contra hc
    exact hfree ⟨hhere, hmay, by omega⟩
  have hcut (m : Fin 16) : s.cut l n.val m ↔ s.cut l c m ∨ m = n := by
    constructor
    · rintro ⟨hm, hmm, hnm⟩
      by_cases hmc : s.cut l c m
      · exact .inl hmc
      · refine .inr (Fin.ext ?_)
        by_contra hne
        have hu := hhighest m hm (by rw [Fin.lt_def]; omega)
        rw [(h.rest m hmc).keeps.2.2.1, hmm] at hu
        cases hu
    · rintro (⟨hm, hmm, hcm⟩ | rfl)
      · exact ⟨hm, hmm, by omega⟩
      · exact ⟨hhere, hmay, le_refl _⟩
  have hkeep (k : Fin 16) (hk : k.val / 8 = l.val) : (decide (k ≤ n) || !s.mayBeShed k) = true ↔ ¬s.cut l c k := by
    rw [State.mayBeShed_eq, Bool.or_eq_true, decide_eq_true_iff, Bool.not_eq_true']
    constructor
    · rintro (hkn | hkf) ⟨-, hkm, hck⟩
      · rw [Fin.le_def] at hkn; omega
      · rw [hkm] at hkf; cases hkf
    · intro hkc
      by_cases hkn : k ≤ n
      · exact .inl hkn
      · have hu := hhighest k hk (not_le.1 hkn)
        rw [(h.rest k hkc).keeps.2.2.1] at hu
        exact .inr hu
  have hsum : u.shareSum l = s.sharesOf l fun k => decide (k ≤ n) || !s.mayBeShed k := by
    rw [State.shareSum_eq, State.sharesOf_eq]
    refine sum_signsOf_congr fun k hk => ?_
    by_cases hkc : s.cut l c k
    · rw [h.taken k hkc, Sign.share_of_shed rfl, if_neg fun hh => (hkeep k hk).1 hh hkc]
    · rw [(h.rest k hkc).keeps.2.1, if_pos ((hkeep k hk).2 hkc)]
  have hheavy : 700 < s.thousandths l (s.sharesOf l fun k => decide (k ≤ n) || !s.mayBeShed k) := by
    rw [← hsum, ← thousandths_congr h.cfg, ← State.loadOf_eq, ← h.known.sum, ← h.known.load]
    exact hload
  obtain ⟨hserved, hnoted⟩ := State.shedSign_served (s := u) (n := n) (by rw [hsheds]; exact hmay)
  have hline : lineOf n = l := Fin.ext hhere
  have hstable (o : Obj) (f : BitVec 16) := (recordStable_noted o f).toStepStable.toRetentionStable
  have hoffline : (u.sign n).service ≠ .offline := by rw [hservice]; exact Sign.not_offline_of_maySheds hmay
  have hshedcfg : ((u.shedSign n).line l).cfg = (u.line l).cfg := ((lineStable_line l (u.line l)).shedSign hoffline .rfl trivial).cfg
  have hshednoted {o : Obj} {f : BitVec 16} (hu : u.noted o f) : (u.shedSign n).noted o f := (hstable o f).shedSign hoffline hu
  have hshedframe := u.shedSign_exceptSigns n
  have hr := (u.shedSign n).recompute_recomputed l
  have hrframe := (u.shedSign n).recompute_exceptSigns l
  have hrnoted {o : Obj} {f : BitVec 16} (hu : (u.shedSign n).noted o f) : ((u.shedSign n).recompute l).noted o f := (hstable o f).recompute hu
  generalize (u.shedSign n).recompute l = w at *
  generalize u.shedSign n = v at *
  have hsign (m : Fin 16) : w.sign m = v.sign m := by rw [State.sign, hr.signs, State.sign]
  have hshed : (u.sign n).withService u.now .shed = (s.sign n).withService s.now .shed := by
    rw [hnow]
    rcases h.rest n hfree with he | he
    · rw [he]
    · rw [he]
      have hs := (Sign.service_of_maySheds hmay).2
      simp [Sign.withService, Sign.woken, hs]
  refine ⟨hlt, fun m hm => ?_, fun m hm => ?_, hr.known, (hr.cfg.trans hshedcfg).trans h.cfg, fun m hm => ?_, fun m hm => ?_, ?_,
    (hrframe.trans hshedframe).trans h.frame⟩
  · rw [hsign]
    by_cases hmn : m = n
    · rw [hmn, hserved.sign, hshed]
    · have hmc := ((hcut m).1 hm).resolve_right hmn
      rcases hserved.others m hmn with he | he
      · rw [he, h.taken m hmc]
      · rw [he, h.taken m hmc]
        exact Sign.woken_of_released (by simp [Sign.withService]) rfl
  · rw [hsign]
    have hmn : m ≠ n := fun he => hm ((hcut m).2 (.inr he))
    have hmc : ¬s.cut l c m := fun hc => hm ((hcut m).2 (.inl hc))
    exact (h.rest m hmc).trans (hnow ▸ hserved.others m hmn)
  · rcases (hcut m).1 hm with hmc | rfl
    · exact h.heavy m hmc
    · exact hheavy
  · rcases (hcut m).1 hm with hmc | rfl
    · exact hrnoted (hshednoted (h.noted m hmc))
    · exact hrnoted hnoted
  · have hshedover : u.Overloads v l := .inl (hline ▸ hserved.overloaded)
    exact (h.overloads.trans hshedover hshednoted).trans hr.overloads hrnoted

/-- Shedding to its end: the load is 700 or less, or no sign is left to shed. -/
theorem State.Shedding.ends {s : State} {l : Fin 2} (k : Nat) : ∀ {u : State} {c : Nat}, s.Shedding u l c → c ≤ 8 * l.val + k →
    ∃ c, s.Shedding (State.shedWhile k l u) l c ∧ (700 < ((State.shedWhile k l u).line l).load →
      ∀ m : Fin 16, m.val / 8 = l.val → ((State.shedWhile k l u).sign m).maySheds = false) := by
  induction k with
  | zero =>
    intro u c h hc
    refine ⟨c, h, fun _ m hm => ?_⟩
    change (u.sign m).maySheds = false
    by_cases hmc : s.cut l c m
    · rw [h.taken m hmc, Sign.maySheds_of_shed rfl]
    · rw [(h.rest m hmc).keeps.2.2.1, ← Bool.not_eq_true]
      exact fun hmm => hmc ⟨hm, hmm, by omega⟩
  | succ k ih =>
    intro u c h hc
    by_cases hload : (u.line l).load ≤ 700
    · have hend : State.shedWhile (k + 1) l u = u := if_pos hload
      rw [hend]
      exact ⟨c, h, fun hl => absurd hload (by omega)⟩
    · cases hn : u.shedNext l with
      | none =>
        have hend : State.shedWhile (k + 1) l u = u := by
          rw [State.shedWhile, if_neg hload, hn]
        rw [hend]
        refine ⟨c, h, fun _ m hm => ?_⟩
        simpa using List.find?_eq_none.1 hn m (List.mem_reverse.2 ((mem_signsOf l m).2 hm))
      | some n =>
        have hstep : State.shedWhile (k + 1) l u = State.shedWhile k l ((u.shedSign n).recompute l) := by
          rw [State.shedWhile, if_neg hload, hn]
        obtain ⟨hlt, hnext⟩ := h.step (by omega) hn
        rw [hstep]
        exact ih hnext (by omega)

/-- A line whose load is settled as far as shedding goes. -/
structure State.ShedSettled (t : State) (l : Fin 2) : Prop where
  overloaded : (t.line l).overloaded = decide (700 < (t.line l).load)
  none : 700 < (t.line l).load → ∀ m : Fin 16, m.val / 8 = l.val → (t.sign m).maySheds = false

theorem State.recomputeShed_sheds (s : State) (l : Fin 2) :
    ∃ c, s.Shedding (s.recomputeShed l) l c ∧ (s.recomputeShed l).ShedSettled l := by
  obtain ⟨c, h, hnone⟩ := State.Shedding.ends 8 (s.recompute_shedding l) (le_refl _)
  have heq : s.recomputeShed l = if ((State.shedWhile 8 l (s.recompute l)).line l).load ≤ 700 then State.shedWhile 8 l (s.recompute l)
    else (State.shedWhile 8 l (s.recompute l)).setOverloaded l true := rfl
  rw [heq]
  generalize State.shedWhile 8 l (s.recompute l) = u at *
  by_cases hload : (u.line l).load ≤ 700
  · rw [if_pos hload]
    exact ⟨c, h, by rw [h.known.light hload]; simp [hload], hnone⟩
  · rw [if_neg hload]
    have hline := u.setOverloaded_line l true
    have hsigns := u.setOverloaded_signs l true
    have hsign (m : Fin 16) : (u.setOverloaded l true).sign m = u.sign m := by rw [State.sign, hsigns, State.sign]
    have hkeep {o : Obj} {f : BitVec 16} (hu : u.noted o f) : (u.setOverloaded l true).noted o f :=
      (recordStable_noted o f).toStepStable.toRetentionStable.setOverloaded hu
    refine ⟨c, ⟨fun m hm => ?_, fun m hm => ?_, ⟨?_, ?_, fun hl => absurd hl ?_⟩, ?_, h.heavy, fun m hm => hkeep (h.noted m hm), ?_, ?_⟩, ?_, fun hl m hm => ?_⟩
    · rw [hsign, h.taken m hm]
    · rw [hsign]; exact h.rest m hm
    · rw [State.shareSum_congr hsigns, hline]; exact h.known.sum
    · rw [State.loadOf, hline]; exact h.known.load
    · rw [hline]; exact hload
    · rw [hline]; exact h.cfg
    · exact h.overloads.trans (State.setOverloaded_overloads ..) hkeep
    · rw [State.setOverloaded_exceptSigns]; exact h.frame
    · rw [hline]; simp; omega
    · rw [hsign]
      rw [hline] at hl
      exact hnone hl m hm

end Sys2Proof.Machine
end

section
/-! PROOF. The restoring that follows the shedding, and the settled load (R155 to R160, R166). -/

namespace Sys2Proof.Machine

/-! ### Restoring (R158, R159) -/

/-- The signs of a line that restoring takes once it has come up to the address d. -/
def State.lift (s : State) (l : Fin 2) (d : Nat) (m : Fin 16) : Prop := m.val / 8 = l.val ∧ s.mayBeRestored m = true ∧ m.val < d

theorem State.service_of_mayBeRestored {s : State} {m : Fin 16} (h : s.mayBeRestored m = true) : (s.sign m).service = .shed := by
  rw [State.mayBeRestored_eq, Bool.and_eq_true, beq_iff_eq] at h
  exact h.1

theorem State.lift_not_cut {s : State} {l : Fin 2} {c d : Nat} {m : Fin 16} (h : s.lift l d m) : ¬s.cut l c m := fun hc =>
  (Sign.service_of_maySheds hc.2.1).1 (State.service_of_mayBeRestored h.2.1)

/-- A line on which shedding has come down to c and restoring up to d. -/
structure State.Restoring (s v : State) (l : Fin 2) (c d : Nat) : Prop where
  taken : ∀ m : Fin 16, s.cut l c m → v.sign m = (s.sign m).withService s.now .shed
  lifted : ∀ m : Fin 16, s.lift l d m → v.sign m = (s.sign m).withService s.now .lapsed
  rest : ∀ m : Fin 16, ¬s.cut l c m → ¬s.lift l d m → (s.sign m).Wakes s.now (v.sign m)
  known : v.LoadKnown l
  settled : v.ShedSettled l
  cfg : (v.line l).cfg = (s.line l).cfg
  heavy : ∀ m : Fin 16, s.cut l c m → 700 < s.thousandths l (s.sharesOf l fun k => decide (k ≤ m) || !s.mayBeShed k)
  light : ∀ m : Fin 16, s.lift l d m → (v.line l).load ≤ 500
  noted : ∀ m : Fin 16, s.cut l c m ∨ s.lift l d m → v.noted (.sign m) (Flag.signService ||| Flag.signShed)
  overloads : s.Overloads v l
  frame : v.exceptSigns = s.exceptSigns

theorem State.recomputeShed_restoring (s : State) (l : Fin 2) : ∃ c, s.Restoring (s.recomputeShed l) l c (8 * l.val) := by
  obtain ⟨c, h, hsettled⟩ := s.recomputeShed_sheds l
  have hnone (m : Fin 16) : ¬s.lift l (8 * l.val) m := by
    rintro ⟨hm, -, hd⟩
    omega
  exact ⟨c, h.taken, fun m hm => absurd hm (hnone m), fun m hm _ => h.rest m hm, h.known, hsettled, h.cfg, h.heavy,
    fun m hm => absurd hm (hnone m), fun m hm => h.noted m (hm.resolve_right (hnone m)), h.overloads, h.frame⟩

theorem inReserve_of_exceptSigns {s t : State} (h : t.exceptSigns = s.exceptSigns) : t.inReserve = s.inReserve :=
  (congrArg State.inReserve h :)

/-- A light load is only computed. -/
theorem State.recomputeShed_light {s : State} {l : Fin 2} (h : ((s.recompute l).line l).load ≤ 700) : s.recomputeShed l = s.recompute l := by
  have hwhile : State.shedWhile 8 l (s.recompute l) = s.recompute l := if_pos h
  unfold State.recomputeShed
  rw [hwhile]
  exact if_pos h

section Phase

variable {s v : State} {l : Fin 2} {c d : Nat} (h : s.Restoring v l c d) (hreserve : ∀ n : Fin 16, n.val / 8 = l.val → s.reserveSheds n = false)
include h

theorem State.Restoring.mayBeRestored_rest {m : Fin 16} (hc : ¬s.cut l c m) (hd : ¬s.lift l d m) : v.mayBeRestored m = s.mayBeRestored m := by
  obtain ⟨hservice, -, -, -, hcfg, hplan⟩ := (h.rest m hc hd).keeps
  unfold State.mayBeRestored
  rw [inReserve_of_exceptSigns h.frame, hservice, hcfg, hplan]

/-- A restored sign is not restored again. -/
theorem State.Restoring.mayBeRestored_lifted {m : Fin 16} (hd : s.lift l d m) : v.mayBeRestored m = false := by
  rw [State.mayBeRestored, h.lifted m hd]
  rfl

include hreserve in
/-- Each sign shed for the load may be restored. -/
theorem State.Restoring.mayBeRestored_cut {m : Fin 16} (hc : s.cut l c m) : v.mayBeRestored m = true := by
  have hmay := hc.2.1
  have hr := hreserve m hc.1
  have hcounted := Sign.counted_of_maySheds hmay
  have hsheddable : (s.sign m).cfg.sheddable = true := by
    simp only [Sign.maySheds, Bool.and_eq_true] at hmay
    exact hmay.1.2
  have hplan : ((s.sign m).withService s.now .shed).planClass = (s.sign m).planClass ∧
      ((s.sign m).withService s.now .shed).cfg = (s.sign m).cfg := by
    simp [Sign.withService, (Sign.service_of_maySheds hmay).2]
  rw [State.mayBeRestored, h.taken m hc, hplan.1, hplan.2, inReserve_of_exceptSigns h.frame]
  simp only [State.reserveSheds, hcounted, hsheddable, Bool.and_true] at hr ⊢
  rw [hr]
  rfl

include hreserve in
/-- The lowest sign shed for the load stays shed: with it the load would be above 700 again. -/
theorem State.Restoring.cut_blocks {n : Fin 16} (hn : n.val / 8 = l.val) (hlow : ∀ m : Fin 16, m.val / 8 = l.val → m < n → v.mayBeRestored m = false)
    (hc : s.cut l c n) (x : Nat) : 700 < v.loadOf l ((v.line l).sum + x + (v.sign n).fullShare) := by
  have hmay := hc.2.1
  have hfull : (v.sign n).fullShare = (s.sign n).fullShare := by
    rw [h.taken n hc]
    simp [Sign.withService, (Sign.service_of_maySheds hmay).2, Sign.fullShare]
  have hle : s.sharesOf l (fun k => decide (k ≤ n) || !s.mayBeShed k) ≤ v.shareSum l + (s.sign n).fullShare := by
    rw [State.sharesOf_eq, State.shareSum_eq,
      ← sum_signsOf_add (g := fun k => (v.sign k).share + if k = n then (s.sign n).fullShare else 0) hn (by simp) fun m _ hm => by simp [hm]]
    refine sum_signsOf_le fun k hk => ?_
    by_cases hkc : s.cut l c k
    · have hnk : n ≤ k := by
        by_contra hlt
        have := hlow k hk (not_le.1 hlt)
        rw [h.mayBeRestored_cut hreserve hkc] at this
        cases this
      by_cases hkn : k = n
      · subst hkn
        have : (s.sign k).share ≤ (s.sign k).fullShare := by
          unfold Sign.share
          split <;> omega
        simp only [le_refl, decide_true, Bool.true_or, if_true]
        omega
      · have hnot : ¬k ≤ n := fun hle => hkn (le_antisymm hle hnk)
        simp [hnot, State.mayBeShed_eq, hkc.2.1]
    · by_cases hkd : s.lift l d k
      · have hzero := Sign.share_of_shed (State.service_of_mayBeRestored hkd.2.1)
        rw [hzero]
        simp
      · rw [(h.rest k hkc hkd).keeps.2.1]
        split <;> simp
  rw [State.loadOf_eq, thousandths_congr h.cfg, hfull, h.known.sum]
  exact lt_of_lt_of_le (h.heavy n hc) (State.thousandths_mono (by omega))

include hreserve in
/-- The next sign that restoring takes. -/
theorem State.Restoring.step {n : Fin 16} (hn : (signsOf l).find? (fun n => (v.sign n).service == .shed && !v.heldShed (v.sign n)) = some n)
    (hload : v.loadOf l ((v.line l).sum + v.heldSum l + (v.sign n).fullShare) ≤ 500) :
    d ≤ n.val ∧ s.Restoring ((v.restoreSign n).recomputeShed l) l c (n.val + 1) := by
  obtain ⟨hhere, hmay, hlow⟩ := find?_signsOf hn
  have hfree : ¬s.cut l c n := fun hc => absurd (h.cut_blocks hreserve hhere hlow hc (v.heldSum l)) (by omega)
  have hnew : ¬s.lift l d n := fun hd => by
    have := h.mayBeRestored_lifted hd
    rw [State.mayBeRestored_eq, hmay] at this
    cases this
  have hnow : v.now = s.now := now_of_exceptSigns h.frame
  have hsmay : s.mayBeRestored n = true := by rw [← h.mayBeRestored_rest hfree hnew, State.mayBeRestored_eq]; exact hmay
  have hdn : d ≤ n.val := by
    by_contra hlt
    exact hnew ⟨hhere, hsmay, by omega⟩
  have hlift (m : Fin 16) : s.lift l (n.val + 1) m ↔ s.lift l d m ∨ m = n := by
    constructor
    · rintro ⟨hm, hmm, hmn⟩
      by_cases hd : s.lift l d m
      · exact .inl hd
      · refine .inr (Fin.ext ?_)
        by_contra hne
        have hv := hlow m hm (by rw [Fin.lt_def]; omega)
        have hfreem : ¬s.cut l c m := fun hc => (Sign.service_of_maySheds hc.2.1).1 (State.service_of_mayBeRestored hmm)
        rw [← State.mayBeRestored_eq, h.mayBeRestored_rest hfreem hd, hmm] at hv
        cases hv
    · rintro (⟨hm, hmm, hmd⟩ | rfl)
      · exact ⟨hm, hmm, by omega⟩
      · exact ⟨hhere, hsmay, Nat.lt_succ_self _⟩
  have hservice : (s.sign n).service = .shed := State.service_of_mayBeRestored hsmay
  have hvservice : (v.sign n).service = .shed := (h.rest n hfree hnew).keeps.1.trans hservice
  have hrecord : (v.sign n).withService v.now .lapsed = (s.sign n).withService s.now .lapsed := by
    rw [hnow]
    rcases h.rest n hfree hnew with he | he
    · rw [he]
    · rw [he]
      simp [Sign.withService, Sign.woken, hservice]
  obtain ⟨hserved, hnoted⟩ := State.restoreSign_served (s := v) (n := n) hvservice
  have hline : lineOf n = l := Fin.ext hhere
  have hstable (o : Obj) (f : BitVec 16) := (recordStable_noted o f).toStepStable.toRetentionStable
  have hcfg : ((v.restoreSign n).line l).cfg = (v.line l).cfg := ((lineStable_line l (v.line l)).restoreSign .rfl trivial).cfg
  have hkeep {o : Obj} {f : BitVec 16} (hu : v.noted o f) : (v.restoreSign n).noted o f := (hstable o f).restoreSign hu
  have hsum : (v.restoreSign n).shareSum l = v.shareSum l + (v.sign n).fullShare := by
    rw [State.shareSum_eq, State.shareSum_eq]
    refine sum_signsOf_add hhere ?_ fun m _ hm => (hserved.others m hm).keeps.2.1
    rw [hserved.sign, Sign.share_of_shed hvservice]
    simp [Sign.withService, hvservice, Sign.share, Sign.counted, Sign.fullShare]
  have hr := (v.restoreSign n).recompute_recomputed l
  have hwload : (((v.restoreSign n).recompute l).line l).load ≤ 500 := by
    rw [hr.known.load, hr.known.sum, State.shareSum_congr hr.signs, hsum, State.loadOf_eq, thousandths_congr (hr.cfg.trans hcfg), ← h.known.sum]
    refine le_trans (State.thousandths_mono ?_) hload
    omega
  rw [State.recomputeShed_light (by omega : (((v.restoreSign n).recompute l).line l).load ≤ 700)]
  have hframe := v.restoreSign_exceptSigns n
  have hrframe := (v.restoreSign n).recompute_exceptSigns l
  have hrkeep {o : Obj} {f : BitVec 16} (hu : (v.restoreSign n).noted o f) : ((v.restoreSign n).recompute l).noted o f := (hstable o f).recompute hu
  generalize (v.restoreSign n).recompute l = w at *
  generalize v.restoreSign n = u at *
  have hsign (m : Fin 16) : w.sign m = u.sign m := by rw [State.sign, hr.signs, State.sign]
  have hreleased (m : Fin 16) {x : Service} (hm : m ≠ n) (hx : v.sign m = (s.sign m).withService s.now x) (hc : x = .lapsed ∨ x = .shed) :
      w.sign m = (s.sign m).withService s.now x := by
    rw [hsign]
    rcases hserved.others m hm with he | he
    · rw [he, hx]
    · rw [he, hx]
      rcases hc with rfl | rfl <;> exact Sign.woken_of_released (by simp [Sign.withService]) rfl
  refine ⟨hdn, fun m hm => ?_, fun m hm => ?_, fun m hm hm' => ?_, hr.known, ⟨?_, fun hl => absurd hl (by omega)⟩, (hr.cfg.trans hcfg).trans h.cfg,
    h.heavy, fun _ _ => hwload, fun m hm => ?_, ?_, (hrframe.trans hframe).trans h.frame⟩
  · exact hreleased m (fun he => hfree (he ▸ hm)) (h.taken m hm) (.inr rfl)
  · rcases (hlift m).1 hm with hd | rfl
    · exact hreleased m (fun he => hnew (he ▸ hd)) (h.lifted m hd) (.inl rfl)
    · rw [hsign, hserved.sign, hrecord]
  · rw [hsign]
    have hmn : m ≠ n := fun he => hm' ((hlift m).2 (.inr he))
    exact (h.rest m hm fun hd => hm' ((hlift m).2 (.inl hd))).trans (hnow ▸ hserved.others m hmn)
  · rw [hr.known.light (by omega)]
    simp; omega
  · rcases hm with hm | hm
    · exact hrkeep (hkeep (h.noted m (.inl hm)))
    · rcases (hlift m).1 hm with hd | rfl
      · exact hrkeep (hkeep (h.noted m (.inr hd)))
      · exact hrkeep hnoted
  · exact (h.overloads.trans (.inl (hline ▸ hserved.overloaded)) hkeep).trans hr.overloads hrkeep

end Phase

/-- Restoring to its end: the lowest sign that may be restored would bring the load above 500. -/
theorem State.Restoring.ends {s : State} {l : Fin 2} {c : Nat} (hreserve : ∀ n : Fin 16, n.val / 8 = l.val → s.reserveSheds n = false) (k : Nat) :
    ∀ {v : State} {d : Nat}, s.Restoring v l c d → 8 * l.val + 8 ≤ d + k → ∃ d, s.Restoring (State.restoreWhile k l v) l c d ∧
      ∀ n : Fin 16, n.val / 8 = l.val → (State.restoreWhile k l v).mayBeRestored n = true →
        (∀ m : Fin 16, m.val / 8 = l.val → m < n → (State.restoreWhile k l v).mayBeRestored m = false) →
        500 < (State.restoreWhile k l v).loadOf l (((State.restoreWhile k l v).line l).sum + (State.restoreWhile k l v).heldSum l +
          ((State.restoreWhile k l v).sign n).fullShare) := by
  induction k with
  | zero =>
    intro v d h hd
    refine ⟨d, h, fun n hn hmay hlow => ?_⟩
    change 500 < v.loadOf l ((v.line l).sum + v.heldSum l + (v.sign n).fullShare)
    by_cases hc : s.cut l c n
    · have hblocks := h.cut_blocks hreserve hn hlow hc (v.heldSum l)
      omega
    · have hmay : v.mayBeRestored n = true := hmay
      by_cases hl : s.lift l d n
      · rw [h.mayBeRestored_lifted hl] at hmay
        cases hmay
      · rw [h.mayBeRestored_rest hc hl] at hmay
        exact (hl ⟨hn, hmay, by omega⟩).elim
  | succ k ih =>
    intro v d h hd
    cases hn : (signsOf l).find? (fun n => (v.sign n).service == .shed && !v.heldShed (v.sign n)) with
    | none =>
      have hend : State.restoreWhile (k + 1) l v = v := by rw [State.restoreWhile, hn]
      rw [hend]
      refine ⟨d, h, fun n hhere hmay => ?_⟩
      rw [State.mayBeRestored_eq, find?_signsOf_none hn hhere] at hmay
      cases hmay
    | some n =>
      by_cases hload : v.loadOf l ((v.line l).sum + v.heldSum l + (v.sign n).fullShare) ≤ 500
      · have hstep : State.restoreWhile (k + 1) l v = State.restoreWhile k l ((v.restoreSign n).recomputeShed l) := by
          rw [State.restoreWhile, hn]
          exact if_pos hload
        obtain ⟨hdn, hnext⟩ := h.step hreserve hn hload
        rw [hstep]
        exact ih hnext (by omega)
      · have hend : State.restoreWhile (k + 1) l v = v := by
          rw [State.restoreWhile, hn]
          exact if_neg hload
        rw [hend]
        refine ⟨d, h, fun m hm hmay hlow => ?_⟩
        obtain ⟨hhere, hnmay, hnlow⟩ := find?_signsOf hn
        have hmn : m = n := by
          rcases lt_trichotomy m n with hlt | he | hlt
          · rw [State.mayBeRestored_eq, hnlow m hm hlt] at hmay; cases hmay
          · exact he
          · have := hlow n hhere hlt
            rw [State.mayBeRestored_eq, hnmay] at this; cases this
        rw [hmn]
        omega

/-- What a settling of the load leaves, with the addresses to which shedding and restoring have come. -/
theorem State.settleLoad_settles {s : State} {l : Fin 2} (hreserve : ∀ n : Fin 16, n.val / 8 = l.val → s.reserveSheds n = false) :
    ∃ c d, s.Restoring (s.settleLoad l) l c d ∧ (s.settleLoad l).loadSettled l := by
  obtain ⟨c, h⟩ := s.recomputeShed_restoring l
  obtain ⟨d, hd, hlow⟩ := h.ends hreserve 8 (le_refl _)
  have heq : s.settleLoad l = State.restoreWhile 8 l (s.recomputeShed l) := rfl
  rw [heq]
  generalize State.restoreWhile 8 l (s.recomputeShed l) = t at *
  refine ⟨c, d, hd, ?_, hd.known.load, hd.settled.overloaded, fun hl n hn => ?_, fun n hn hmay hm => ?_⟩
  · rw [hd.known.sum, State.sharesOf_eq, State.shareSum_eq]
    rfl
  · rw [State.mayBeShed_eq]
    exact hd.settled.none hl n hn
  · have := hlow n hn hmay hm
    rw [State.heldSum_eq, Sign.fullShare_eq] at this
    exact this

/-! ### The settled load, record by record -/

/-- Settles O51: shedding takes the signs that may be shed from the highest address down to one address, restoring the shed ones from
the lowest up to another, and the lowest sign shed blocks the restoring above it. -/
theorem loadShedsAndRestores : Obligations.LoadShedsAndRestores := by
  unfold Obligations.LoadShedsAndRestores
  intro l s hreserve t here shed restored
  obtain ⟨c, d, h, hsettled⟩ := State.settleLoad_settles hreserve
  have hline : (s.line l).Retains (t.line l) := (lineStable_line l (s.line l)).settleLoad .rfl trivial
  obtain ⟨hother, -⟩ := (lineStable_off l s).settleLoad (s := s) ⟨fun _ _ => rfl, fun _ _ => rfl⟩ rfl
  have hoff : ∀ n : Fin 16, ¬n.val / 8 = l.val → t.sign n = s.sign n :=
    ((lineStable_off l s).settleLoad (s := s) ⟨fun _ _ => rfl, fun _ _ => rfl⟩ rfl).2
  have hother : ∀ j : Fin 2, j ≠ l → t.line j = s.line j := hother
  have h : s.Restoring t l c d := h
  have hsettled : t.loadSettled l := hsettled
  clear_value t
  have hshed (n : Fin 16) : shed n ↔ s.cut l c n := by
    constructor
    · rintro ⟨hsh, hns⟩
      by_contra hc
      by_cases hd : s.lift l d n
      · exact hns (State.service_of_mayBeRestored hd.2.1)
      · exact hns ((h.rest n hc hd).keeps.1 ▸ hsh)
    · intro hc
      refine ⟨?_, (Sign.service_of_maySheds hc.2.1).1⟩
      rw [h.taken n hc]
      rfl
  have hrestored (n : Fin 16) : restored n ↔ s.lift l d n := by
    constructor
    · rintro ⟨hns, hsh⟩
      by_contra hd
      by_cases hc : s.cut l c n
      · exact (Sign.service_of_maySheds hc.2.1).1 hsh
      · exact hns ((h.rest n hc hd).keeps.1.trans hsh)
    · intro hd
      refine ⟨?_, State.service_of_mayBeRestored hd.2.1⟩
      rw [h.lifted n hd]
      exact fun he => by cases he
  refine ⟨hsettled, h.frame, hother, hline.cfg, hline.inFlight, fun hne => ?_, fun n => ⟨fun hns hnr => ?_, fun hs => ?_, fun hn hmay hhigh hload => ?_,
    fun hr => ?_⟩⟩
  · exact (h.overloads.resolve_left (Ne.symm hne)).reported
  · have hw := h.rest n (mt (hshed n).2 hns) (mt (hrestored n).2 hnr)
    refine ⟨?_, fun hk => ?_⟩
    · rcases hw with he | he <;> rw [he] <;> rfl
    · by_cases hn : here n
      · have hns := hk.resolve_left (fun hh => hh hn)
        rcases hw with he | he
        · rw [he]
        · rw [he]
          exact if_neg hns
      · rw [hoff n hn]
  · obtain ⟨hn, hmay, hcn⟩ := (hshed n).1 hs
    refine ⟨hn, (State.mayBeShed_eq s n).trans hmay, h.heavy n ⟨hn, hmay, hcn⟩, fun m hm hlt hmm => (hshed m).2 ⟨hm, ?_, ?_⟩, ?_,
      (h.noted n (.inl ⟨hn, hmay, hcn⟩)).reported⟩
    · rw [← State.mayBeShed_eq]; exact hmm
    · rw [Fin.lt_def] at hlt; omega
    · rw [h.taken n ⟨hn, hmay, hcn⟩, Sign.withService, if_neg (Sign.service_of_maySheds hmay).2]
  · refine (hshed n).2 ?_
    by_contra hc
    have hmay' : (s.sign n).maySheds = true := by rw [← State.mayBeShed_eq]; exact hmay
    have hnone (m : Fin 16) : ¬s.cut l c m := by
      rintro ⟨hm, hmm, hcm⟩
      by_cases hlt : n < m
      · have := hhigh m hm hlt
        rw [State.mayBeShed_eq, hmm] at this
        cases this
      · exact hc ⟨hn, hmay', le_trans hcm (not_lt.1 hlt)⟩
    have hle : s.sharesOf l (fun _ => true) ≤ t.shareSum l := by
      rw [State.sharesOf_eq, State.shareSum_eq]
      refine sum_signsOf_le fun k hk => ?_
      by_cases hd : s.lift l d k
      · rw [Sign.share_of_shed (State.service_of_mayBeRestored hd.2.1)]
        simp
      · rw [(h.rest k (hnone k) hd).keeps.2.1]
        simp
    have hheavy : 700 < (t.line l).load := by
      rw [h.known.load, h.known.sum, State.loadOf_eq, thousandths_congr h.cfg]
      exact lt_of_lt_of_le hload (State.thousandths_mono hle)
    have hfree := h.settled.none hheavy n hn
    have hd : ¬s.lift l d n := fun hd => (Sign.service_of_maySheds hmay').1 (State.service_of_mayBeRestored hd.2.1)
    rw [(h.rest n (hnone n) hd).keeps.2.2.1, hmay'] at hfree
    cases hfree
  · obtain ⟨hn, hmay, hdn⟩ := (hrestored n).1 hr
    refine ⟨hn, hmay, h.light n ⟨hn, hmay, hdn⟩, fun m hm hlt hmm => (hrestored m).2 ⟨hm, hmm, ?_⟩, ?_, (h.noted n (.inr ⟨hn, hmay, hdn⟩)).reported⟩
    · rw [Fin.lt_def] at hlt; omega
    · have hheld : (s.sign n).service ≠ .held := by rw [State.service_of_mayBeRestored hmay]; decide
      rw [h.lifted n ⟨hn, hmay, hdn⟩, Sign.withService, if_neg hheld]

end Sys2Proof.Machine
end

section
/-! PROOF. The reserve posture: flashers, reserve shed, wakes and the load of both lines (R16, R97, R156, R159, R167). -/

namespace Sys2Proof.Machine

/-! ### Flashers that run their effective class (R97, R99) -/

/-- Every flasher runs its effective class. -/
def State.followed (s : State) : Prop := ∀ i : Fin 8, (s.flasher i).running = (s.flasher i).effective s.inReserve

theorem State.followed_of_eq {s t : State} (hf : t.flashers = s.flashers) (hr : t.inReserve = s.inReserve) (h : s.followed) : t.followed := by
  intro i
  simp only [State.flasher, hf, hr]
  exact h i

theorem State.settleFlasher_follows (s : State) (i : Fin 8) :
    ((s.settleFlasher i).flasher i).running = ((s.settleFlasher i).flasher i).effective (s.settleFlasher i).inReserve := by
  unfold State.settleFlasher
  dsimp only
  split
  · next h => exact h.symm
  · obtain ⟨hgate, hpath⟩ := (s.flasher i).retune_requests s.patterns ((s.flasher i).effective s.inReserve)
    rw [State.post_flasher, State.setFlasher_flasher_same, Flasher.retune_running, Flasher.effective_congr _ hgate hpath]
    rfl

theorem State.settleFlasher_other (s : State) {i j : Fin 8} (h : j ≠ i) :
    (s.settleFlasher i).flasher j = s.flasher j ∧ (s.settleFlasher i).inReserve = s.inReserve := by
  refine ⟨?_, ?_⟩
  · refine iteInduction (motive := fun t : State => t.flasher j = s.flasher j) (fun _ => rfl) fun _ => ?_
    rw [State.post_flasher, State.setFlasher_flasher_other _ _ _ _ h]
  · exact iteInduction (motive := fun t : State => t.inReserve = s.inReserve) (fun _ => rfl) fun _ => rfl

theorem State.settleFlashers_followed (s : State) : s.settleFlashers.followed := fun i =>
  foldl_establishes (Q := fun _ => True) (P := fun t => (t.flasher i).running = (t.flasher i).effective t.inReserve) (f := State.settleFlasher)
    (List.nodup_finRange 8) (List.mem_finRange i) (fun _ _ _ _ => trivial) (fun t _ => t.settleFlasher_follows i)
    (fun t j hj ht => by
      obtain ⟨hflasher, hreserve⟩ := t.settleFlasher_other (Ne.symm hj)
      rw [hflasher, hreserve]
      exact ht) trivial

theorem State.gateRequest_followed {s : State} {i : Fin 8} {g : Fin 6} {c : FlashClass} (h : s.followed) : (s.gateRequest i g c).followed := by
  intro j
  by_cases hj : j = i
  · subst hj
    exact State.settleFlasher_follows _ j
  · obtain ⟨hflasher, hreserve⟩ := (s.updFlasher i fun f => { f with gateReq := f.gateReq.set g c }).settleFlasher_other hj
    rw [State.gateRequest, hflasher, hreserve, State.updFlasher_eq, State.setFlasher_flasher_other _ _ _ _ hj]
    exact h j

theorem State.setPosture_followed {s : State} {i : Fin 4} {p : Posture} {ph : Phase} (h : s.followed) : (s.setPosture i p ph).followed :=
  iteInduction (motive := State.followed) (fun _ => h) fun _ => h

theorem driveStable_followed : DriveStable State.followed where
  gate h := h
  request h := State.gateRequest_followed h
  post h := h
  completeLower h := iteInduction (motive := State.followed) (fun _ => State.setPosture_followed h) fun _ => h
  completeReopen h := iteInduction (motive := State.followed) (fun _ => State.setPosture_followed h) fun _ => h

theorem State.evalConfirm_followed {s : State} {i : Fin 4} (h : s.followed) : (s.evalConfirm i).followed := by
  have hlower : (s.enterLower i).followed :=
    driveStable_followed.completeLower (driveStable_followed.gatesDown (State.setPosture_followed h))
  have hend : (s.endConfirm i).followed := iteInduction (motive := State.followed) (fun _ => hlower) fun _ => State.setPosture_followed h
  have hphase : (s.evalConfirmPhase i).followed := by
    unfold State.evalConfirmPhase
    split
    · exact hend
    · exact h
  have hclear (r : Segment) : ((s.setSegment i r).postSeg i Flag.segConfirmMissing).followed := State.followed_of_eq rfl rfl h
  unfold State.evalConfirm
  dsimp only
  split
  · exact hclear _
  · exact hphase

theorem followed_of_exceptTraffic {s t : State} (ht : t.exceptTraffic = s.exceptTraffic) (h : s.followed) : t.followed :=
  State.followed_of_eq (congrArg State.flashers ht :) (congrArg State.inReserve ht :) h

theorem State.handSigns_followed {a s : State} (h : s.followed) : (State.handSigns a s).followed := by
  refine foldl_keeps (P := State.followed) (f := State.evalConfirmFor a) (fun s i hs => ?_) _ h
  unfold State.evalConfirmFor
  split
  · exact State.evalConfirm_followed hs
  · exact hs

theorem State.conclude_followed {a s : State} (h : s.followed) : (State.conclude a s).followed :=
  followed_of_exceptTraffic (State.finish_exceptTraffic _) (State.handSigns_followed h)

theorem inReserve_of_exceptOutputs {s t : State} (h : t.exceptOutputs = s.exceptOutputs) : t.inReserve = s.inReserve :=
  (congrArg State.inReserve h :)

/-! ### The reserve shed (R159) -/

theorem State.reserveSheds_keeps {s t : State} {m : Fin 16} (hw : (s.sign m).Wakes s.now (t.sign m)) (hr : t.inReserve = s.inReserve) :
    t.reserveSheds m = s.reserveSheds m := by
  obtain ⟨hservice, -, -, -, hcfg, hplan⟩ := hw.keeps
  unfold State.reserveSheds Sign.counted
  rw [hr, hservice, hcfg, hplan]

theorem State.maySheds_of_reserveSheds {s : State} {n : Fin 16} (h : s.reserveSheds n = true) : (s.sign n).maySheds = true := by
  simp only [State.reserveSheds, Bool.and_eq_true, beq_iff_eq] at h
  obtain ⟨⟨⟨-, hcounted⟩, hsheddable⟩, hplan⟩ := h
  simp [Sign.maySheds, hcounted, hsheddable, hplan, PlanClass.isProtected]

theorem State.reserveShedOne_keeps (s : State) (n : Fin 16) {m : Fin 16} (hm : s.reserveSheds m = false) :
    (s.reserveShedOne n).reserveSheds m = false := by
  unfold State.reserveShedOne
  split
  · next hn =>
    have hne : m ≠ n := fun he => by rw [he, hn] at hm; cases hm
    obtain ⟨hserved, -⟩ := State.shedSign_served (State.maySheds_of_reserveSheds hn)
    rw [State.reserveSheds_keeps (hserved.others m hne) (inReserve_of_exceptSigns (s.shedSign_exceptSigns n))]
    exact hm
  · exact hm

theorem State.reserveShedOne_takes (s : State) (n : Fin 16) : (s.reserveShedOne n).reserveSheds n = false := by
  unfold State.reserveShedOne
  split
  · next hn =>
    obtain ⟨hserved, -⟩ := State.shedSign_served (State.maySheds_of_reserveSheds hn)
    rw [State.reserveSheds, hserved.sign]
    simp [Sign.withService, Sign.counted]
  · next hn => simpa using hn

/-- After the reserve shed of a line it takes none of the line's signs any more. -/
theorem State.reserveShed_free (s : State) (l : Fin 2) {m : Fin 16} (hm : m.val / 8 = l.val) : (s.reserveShed l).reserveSheds m = false :=
  foldl_establishes (Q := fun _ => True) (P := fun t => t.reserveSheds m = false) (f := State.reserveShedOne)
    (List.nodup_reverse.2 (signsOf_nodup l)) (List.mem_reverse.2 ((mem_signsOf l m).2 hm)) (fun _ _ _ _ => trivial)
    (fun t _ => t.reserveShedOne_takes m) (fun t k _ ht => t.reserveShedOne_keeps k ht) trivial

/-- A settling of the load restores none that the reserve shed takes. -/
theorem State.Restoring.reserveFree {s v : State} {l : Fin 2} {c d : Nat} (h : s.Restoring v l c d)
    (hreserve : ∀ n : Fin 16, n.val / 8 = l.val → s.reserveSheds n = false) {n : Fin 16} (hn : n.val / 8 = l.val) : v.reserveSheds n = false := by
  have hr := inReserve_of_exceptSigns h.frame
  by_cases hc : s.cut l c n
  · rw [State.reserveSheds, h.taken n hc]
    simp [Sign.withService, Sign.counted]
  · by_cases hd : s.lift l d n
    · have hmay := hd.2.1
      have hservice := State.service_of_mayBeRestored hmay
      simp only [State.mayBeRestored_eq, State.heldShed, hservice, beq_self_eq_true, Bool.true_and, Bool.not_eq_true'] at hmay
      rw [State.reserveSheds, h.lifted n hd, hr]
      have hplan : ((s.sign n).withService s.now .lapsed).cfg = (s.sign n).cfg ∧
          ((s.sign n).withService s.now .lapsed).planClass = (s.sign n).planClass := by
        simp [Sign.withService, hservice]
      rw [hplan.1, hplan.2]
      revert hmay
      cases s.inReserve <;> cases (s.sign n).cfg.sheddable <;> simp +contextual
    · rw [State.reserveSheds_keeps (h.rest n hc hd) hr]
      exact hreserve n hn

/-! ### One line at a change of the posture -/

/-- A claim about a settled load reads the line's load and its signs alone. -/
theorem State.loadSettled_congr {s t : State} {l : Fin 2} (hline : (s.line l).Exchanges (t.line l))
    (hsigns : ∀ n : Fin 16, n.val / 8 = l.val → t.sign n = s.sign n) (hr : t.inReserve = s.inReserve) (h : s.loadSettled l) : t.loadSettled l := by
  have hcfg : (t.line l).cfg = (s.line l).cfg := by rw [hline]
  have hstate : (t.line l).state = (s.line l).state := by rw [hline]
  have hsum : (t.line l).sum = (s.line l).sum := by rw [hline]
  have hload : (t.line l).load = (s.line l).load := by rw [hline]
  have hover : (t.line l).overloaded = (s.line l).overloaded := by rw [hline]
  have hsigns' (n : Fin 16) (hn : n ∈ signsOf l) : t.sign n = s.sign n := hsigns n ((mem_signsOf l n).1 hn)
  have hshares : t.sharesOf l (fun _ => true) = s.sharesOf l fun _ => true := by
    simp only [State.sharesOf]
    exact congrArg List.sum (List.map_congr_left fun n hn => by rw [hsigns' n hn])
  have hheld : ((signsOf l).map fun n => if (t.sign n).service = .held then (t.sign n).heldShare else 0) =
      (signsOf l).map fun n => if (s.sign n).service = .held then (s.sign n).heldShare else 0 :=
    List.map_congr_left fun n hn => by rw [hsigns' n hn]
  have hthousandths (x : Nat) := thousandths_congr (s := s) (u := t) (l := l) hcfg x
  have hmay (n : Fin 16) (hn : n.val / 8 = l.val) : t.mayBeShed n = s.mayBeShed n := by rw [State.mayBeShed, hsigns n hn, State.mayBeShed]
  have hres (n : Fin 16) (hn : n.val / 8 = l.val) : t.mayBeRestored n = s.mayBeRestored n := by
    rw [State.mayBeRestored, hsigns n hn, hr, State.mayBeRestored]
  obtain ⟨h1, h2, h3, h4, h5⟩ := h
  refine ⟨?_, ?_, ?_, fun hl n hn => ?_, fun n hn hm hlow => ?_⟩
  · rw [hsum, hshares]; exact h1
  · rw [hload, hsum, hthousandths]; exact h2
  · rw [hover, hload]; exact h3
  · rw [hmay n hn]
    exact h4 (hload ▸ hl) n hn
  · have := h5 n hn (hres n hn ▸ hm) fun m hmh hlt => hres m hmh ▸ hlow m hmh hlt
    rw [hthousandths, hsum, hstate, hheld, hsigns n hn]
    exact this

/-- What a change of the posture leaves of one line. -/
structure State.PowerTaken (s t : State) (l : Fin 2) : Prop where
  settled : t.loadSettled l
  free : ∀ n : Fin 16, n.val / 8 = l.val → t.reserveSheds n = false
  wakes : t.inReserve = false → (s.line l).holds → (t.line l).wakeCause = 4 ∧ ¬(t.line l).holds ∧ t.reported (.line l) Flag.lineWake

theorem State.PowerTaken.of_exchange {s t u : State} {l : Fin 2} (h : s.PowerTaken t l) (hline : (t.line l).Exchanges (u.line l))
    (hsigns : ∀ n : Fin 16, n.val / 8 = l.val → u.sign n = t.sign n) (hr : u.inReserve = t.inReserve)
    (hkeep : t.reported (.line l) Flag.lineWake → u.reported (.line l) Flag.lineWake) : s.PowerTaken u l where
  settled := State.loadSettled_congr hline hsigns hr h.settled
  free n hn := by
    rw [State.reserveSheds, hsigns n hn, hr]
    exact h.free n hn
  wakes hu hs := by
    obtain ⟨hcause, hholds, hreported⟩ := h.wakes (hr ▸ hu) hs
    refine ⟨by rw [hline]; exact hcause, ?_, hkeep hreported⟩
    rw [hline]
    exact hholds

theorem State.lineReserve_takes (s : State) (l : Fin 2) : s.PowerTaken (s.lineReserve l) l := by
  have hstart (u : State) (hu : ∀ n : Fin 16, n.val / 8 = l.val → u.reserveSheds n = false)
      (hw : u.inReserve = false → (s.line l).holds → (u.line l).wakeCause = 4 ∧ ¬(u.line l).holds ∧ u.reported (.line l) Flag.lineWake) :
      s.PowerTaken (u.settleLoad l) l := by
    obtain ⟨c, d, h, hsettled⟩ := State.settleLoad_settles hu
    have hline : (u.line l).Retains ((u.settleLoad l).line l) := (lineStable_line l (u.line l)).settleLoad .rfl trivial
    refine ⟨hsettled, fun n hn => h.reserveFree hu hn, fun hr hs => ?_⟩
    obtain ⟨hcause, hholds, hreported⟩ := hw (inReserve_of_exceptSigns h.frame ▸ hr) hs
    obtain ⟨hawake, hsame⟩ := hline.awake hholds
    exact ⟨hsame.trans hcause, hawake, (recordStable_reported _ _).toStepStable.toRetentionStable.settleLoad hreported⟩
  by_cases hr : s.inReserve = true
  · have heq : s.lineReserve l = (s.reserveShed l).settleLoad l := congrArg (fun u : State => u.settleLoad l) (if_pos hr)
    rw [heq]
    refine hstart _ (fun n hn => s.reserveShed_free l hn) fun hf => ?_
    rw [inReserve_of_exceptSigns (s.reserveShed_exceptSigns l), hr] at hf
    cases hf
  · have heq : s.lineReserve l = (s.wake l 4).settleLoad l := congrArg (fun u : State => u.settleLoad l) (if_neg hr)
    rw [heq]
    have hmains : (s.wake l 4).inReserve = false := (inReserve_of_exceptSigns (s.wake_exceptSigns l 4)).trans (by simpa using hr)
    refine hstart _ (fun n _ => ?_) fun _ hs => ?_
    · rw [State.reserveSheds, hmains]
      rfl
    · have hw := State.wake_woken hs 4
      refine ⟨by rw [hw.line], ?_, hw.wakes⟩
      rw [hw.line]
      simp only [Line.holds]
      split <;> simp

theorem State.lineReserve_exceptSigns (s : State) (l : Fin 2) : (s.lineReserve l).exceptSigns = s.exceptSigns := by
  unfold State.lineReserve
  split <;> simp

theorem State.lineReserve_other (s : State) {l j : Fin 2} (hj : j ≠ l) :
    (s.lineReserve l).line j = s.line j ∧ ∀ n : Fin 16, n.val / 8 = j.val → (s.lineReserve l).sign n = s.sign n := by
  obtain ⟨hline, hsign⟩ := (lineStable_off l s).lineReserve (s := s) ⟨fun _ _ => rfl, fun _ _ => rfl⟩ rfl
  exact ⟨hline j hj, fun n hn => hsign n fun he => hj (Fin.ext (hn.symm.trans he))⟩

/-! ### The change of the posture and its end -/

/-- What the end of a step changes leaves of what a change of the posture has taken. -/
theorem State.PowerTaken.conclude {a s t : State} {l : Fin 2} (h : s.PowerTaken t l) : s.PowerTaken (State.conclude a t) l :=
  h.of_exchange (State.conclude_line a t l) (fun n _ => by rw [State.sign, State.conclude_signs, State.sign])
    (inReserve_of_exceptOutputs (State.conclude_exceptOutputs a t)) (recordStable_reported _ _).toStepStable.conclude

/-- What a change of the posture leaves, over both lines. -/
structure State.Powered (s t : State) : Prop where
  reported : t.reported .system Flag.reserveChanged
  followed : t.followed
  lines : ∀ l : Fin 2, s.PowerTaken t l

theorem State.Powered.answered {s t : State} (h : s.Powered t) (k tag : Byte) (o : OutcomeCode) (d : List Byte) :
    s.Powered (t.answered k tag o d) :=
  ⟨h.reported, h.followed, fun l => (h.lines l).of_exchange rfl (fun _ _ => rfl) rfl id⟩

theorem State.Powered.conclude {a s t : State} (h : s.Powered t) : s.Powered (State.conclude a t) :=
  ⟨(recordStable_reported _ _).toStepStable.conclude h.reported, State.conclude_followed h.followed, fun l => (h.lines l).conclude⟩

/-- The device with its reserve request and its supply as given. -/
def State.withPower (s : State) (request low : Bool) : State := { s with reserveRequest := request, supplyLow := low }

theorem State.setPower_same {s : State} {request low : Bool} (h : (request || low) = s.inReserve) :
    s.setPower request low = s.withPower request low := if_pos h

theorem State.setPower_powered {s : State} {request low : Bool} (h : (request || low) ≠ s.inReserve) :
    s.Powered (s.setPower request low) ∧ (s.setPower request low).exceptOutputs = (s.withPower request low).exceptOutputs := by
  set v := ((s.withPower request low).post .system Flag.reserveChanged).settleFlashers with hv
  have heq : s.setPower request low = (v.lineReserve 0).lineReserve 1 := if_neg h
  have hreported : v.reported .system Flag.reserveChanged :=
    (recordStable_reported _ _).toStepStable.toGateStable.settleFlashers (State.post_reported_of _ _ (by decide))
  have hfollowed : v.followed := State.settleFlashers_followed _
  have hbarriers : v.exceptBarriers = (s.withPower request low).exceptBarriers :=
    (State.settleFlashers_exceptBarriers _).trans (State.post_exceptBarriers ..)
  have hvlines (l : Fin 2) : v.line l = s.line l := by
    have := lines_of_exceptBarriers hbarriers
    simp only [State.line, this]
    rfl
  rw [heq]
  clear_value v
  have h0 := v.lineReserve_takes 0
  have h1 := (v.lineReserve 0).lineReserve_takes 1
  obtain ⟨hkeep, -⟩ := v.lineReserve_other (l := 0) (j := 1) (by decide)
  obtain ⟨hkeep', hsigns'⟩ := (v.lineReserve 0).lineReserve_other (l := 1) (j := 0) (by decide)
  have hframe0 := v.lineReserve_exceptSigns 0
  have hframe1 := (v.lineReserve 0).lineReserve_exceptSigns 1
  have hrep0 : (v.lineReserve 0).reported .system Flag.reserveChanged :=
    (recordStable_reported _ _).toStepStable.toRetentionStable.lineReserve hreported
  have hrep1 : ((v.lineReserve 0).lineReserve 1).reported .system Flag.reserveChanged :=
    (recordStable_reported _ _).toStepStable.toRetentionStable.lineReserve hrep0
  have hwake : (v.lineReserve 0).reported (.line 0) Flag.lineWake → ((v.lineReserve 0).lineReserve 1).reported (.line 0) Flag.lineWake :=
    (recordStable_reported _ _).toStepStable.toRetentionStable.lineReserve
  generalize (v.lineReserve 0).lineReserve 1 = t at *
  generalize v.lineReserve 0 = u at *
  have hframe := hframe1.trans hframe0
  refine ⟨⟨hrep1, ?_, fun l => ?_⟩, (exceptOutputs_of_exceptSigns hframe).trans (exceptOutputs_of_exceptBarriers hbarriers)⟩
  · exact State.followed_of_eq (congrArg State.flashers hframe :) (inReserve_of_exceptSigns hframe) hfollowed
  · have hl : l = 0 ∨ l = 1 := by omega
    rcases hl with rfl | rfl
    · have h0' := h0.of_exchange (u := t) (by rw [hkeep']; rfl) hsigns' (inReserve_of_exceptSigns hframe1) hwake
      exact ⟨h0'.settled, h0'.free, fun hr hs => h0'.wakes hr (by rwa [hvlines])⟩
    · exact ⟨h1.settled, h1.free, fun hr hs => h1.wakes hr (by rwa [hkeep, hvlines])⟩

/-- A line that does not hold is active or resuming. -/
theorem Line.awake_state {r : Line} (h : ¬r.holds) : r.state = .active ∨ r.state = .resuming := by
  unfold Line.holds at h
  cases hs : r.state with
  | active => exact .inl rfl
  | resuming => exact .inr rfl
  | holdEntry => exact absurd (.inl hs) h
  | held => exact absurd (.inr hs) h

theorem u8_flagBit (v : Bool) : u8 (flagBit 0 v) = [if v then 1 else 0] := by cases v <;> rfl

theorem boolOf_ge {b : Byte} (h : 2 ≤ b.toNat) : boolOf b = none := by
  have h0 : b ≠ 0 := by rintro rfl; exact absurd h (by decide)
  have h1 : b ≠ 1 := by rintro rfl; exact absurd h (by decide)
  exact (if_neg h0).trans (if_neg h1)

theorem boolOf_lt {b : Byte} (h : b.toNat < 2) : boolOf b = some (b == 1) := by
  refine boolOf_of_toNat ?_
  have h01 : b = 0 ∨ b = 1 := by
    rcases (by omega : b.toNat = 0 ∨ b.toNat = 1) with h | h
    · exact .inl (BitVec.eq_of_toNat_eq h)
    · exact .inr (BitVec.eq_of_toNat_eq h)
  rcases h01 with rfl | rfl <;> rfl

/-- Settles O15: a change that keeps the posture is written alone; a change of posture settles every flasher, then each line with its
reserve shed or its wake. -/
theorem reservePostureFollows : Obligations.ReservePostureFollows := by
  unfold Obligations.ReservePostureFollows
  intro tag on v s h changed
  have hchanged {before t : State} (hp : s.Powered t) (hframe : t.exceptOutputs = before.exceptOutputs) : changed before t := by
    refine ⟨hp.reported, hp.followed, fun hr n hn => ?_, fun l => ⟨(hp.lines l).settled, fun hr hs => ?_⟩, hframe⟩
    · obtain ⟨hcounted, hsheddable, hplan⟩ := hn
      have := (hp.lines (lineOf n)).free n rfl
      rw [State.reserveSheds, hr, hcounted, hsheddable, hplan] at this
      cases this
    · obtain ⟨hcause, hholds, hreported⟩ := (hp.lines l).wakes hr hs
      exact ⟨hcause, hreported, Line.awake_state hholds⟩
  refine ⟨fun hidle hon => ?_, fun hidle hon => ⟨fun hsame => ?_, fun hne => ?_⟩, fun hsame => ?_, fun hne => ?_⟩
  · refine exec_refused (k := .setReserve) rfl ⟨h, hidle⟩ ?_
    change s.applySetReserve on = _
    rw [State.applySetReserve, boolOf_ge hon]
  · refine exec_accepted (c := .setReserve tag on) (k := .setReserve) (t := s.withPower (on == 1) s.supplyLow) rfl ⟨h, hidle⟩ ?_ rfl rfl
    change s.applySetReserve on = _
    rw [State.applySetReserve, boolOf_lt hon]
    dsimp only
    rw [State.setPower_same hsame, u8_flagBit]
    rfl
  · obtain ⟨hp, hframe⟩ := State.setPower_powered hne
    have happly : s.applySetReserve on = accept (u8 (flagBit 0 (s.setPower (on == 1) s.supplyLow).inReserve)) (s.setPower (on == 1) s.supplyLow) := by
      rw [State.applySetReserve, boolOf_lt hon]
    have hexec := exec_concluded (c := .setReserve tag on) (k := .setReserve) rfl ⟨h, hidle⟩ happly
    have hr : (s.setPower (on == 1) s.supplyLow).inReserve = (on == 1 || s.supplyLow) := inReserve_of_exceptOutputs hframe
    rw [hr, u8_flagBit] at hexec
    generalize s.setPower (on == 1) s.supplyLow = t at *
    refine ⟨_, hexec, hchanged (hp.answered _ _ _ _).conclude ?_⟩
    rw [State.conclude_exceptOutputs]
    exact State.answered_exceptOutputs hframe ..
  · refine exec_settled (f := fun s => s.setPower s.reserveRequest v) rfl h (State.setPower_same hsame) rfl rfl
  · obtain ⟨hp, hframe⟩ := State.setPower_powered hne
    have hexec : exec (.supplyLowChange v) s = .next (State.conclude s (s.setPower s.reserveRequest v)) := by
      have hc : exec (.supplyLowChange v) s = .next (s.command fun s => s.setPower s.reserveRequest v) := rfl
      rw [hc, State.command_of_nil _ _ h.2]
    refine ⟨_, hexec, hchanged hp.conclude ?_⟩
    rw [State.conclude_exceptOutputs]
    exact hframe

end Sys2Proof.Machine
end

section
/-! PROOF. SET_LINE: the settings, the target, the bands and the load (R143, R148, R153 to R156). -/

namespace Sys2Proof.Machine

/-! ### What retention keeps of a sign, with its band, and of a line's settings -/

theorem lineStable_sign (n : Fin 16) (g : Sign) : LineStable (fun _ => True) fun t => g.Keeps (t.sign n) where
  sign {s m x} hx hs _ := by
    rw [State.setSign_sign]
    split
    · next h => subst h; exact hs.trans hx
    · exact hs
  line _ hs _ := hs
  post hs := hs

theorem retentionStable_lineCfg (l : Fin 2) (c : LineConfig) : RetentionStable fun t => (t.line l).cfg = c where
  sign _ hs := hs
  line {s m r} hr hs := by
    rw [State.setLine_line]
    split
    · next h => subst h; exact hr.cfg.trans hs
    · exact hs
  target {s m g} hs := by
    rw [State.setLine_line]
    split
    · next h => subst h; exact hs
    · exact hs
  post hs := hs

/-! ### A load that is computed and told (R155, R156, R160) -/

/-- The load of the line is computed from its counted signs, and OVERLOADED says whether it is above 700. -/
structure State.LoadExact (t : State) (l : Fin 2) : Prop where
  known : t.LoadKnown l
  overloaded : (t.line l).overloaded = decide (700 < (t.line l).load)

theorem State.LoadExact.of_same {s t : State} {l : Fin 2} (h : s.LoadExact l) (hload : (t.line l).load = (s.line l).load)
    (hsum : (t.line l).sum = (s.line l).sum) (hover : (t.line l).overloaded = (s.line l).overloaded) (hcfg : (t.line l).cfg = (s.line l).cfg)
    (hsigns : ∀ n : Fin 16, n.val / 8 = l.val → (t.sign n).share = (s.sign n).share) : t.LoadExact l := by
  have hshares : t.shareSum l = s.shareSum l := by
    rw [State.shareSum_eq, State.shareSum_eq]
    exact sum_signsOf_congr hsigns
  refine ⟨⟨?_, ?_, ?_⟩, ?_⟩
  · rw [hsum, hshares]; exact h.known.sum
  · rw [hload, hsum, State.loadOf, hcfg]; exact h.known.load
  · rw [hload, hover]; exact h.known.light
  · rw [hload, hover]; exact h.overloaded

theorem State.recomputeShed_exact (s : State) (l : Fin 2) : (s.recomputeShed l).LoadExact l := by
  obtain ⟨c, h, hsettled⟩ := s.recomputeShed_sheds l
  exact ⟨h.known, hsettled.overloaded⟩

/-- A settling of the load ends with the load computed and told, whatever it finds. -/
theorem State.settleLoad_exact (s : State) (l : Fin 2) : (s.settleLoad l).LoadExact l := by
  have key (k : Nat) : ∀ {v : State}, v.LoadExact l → (State.restoreWhile k l v).LoadExact l := by
    induction k with
    | zero => exact fun h => h
    | succ k ih =>
      intro v h
      unfold State.restoreWhile
      split
      · exact h
      · split
        · exact ih (State.recomputeShed_exact _ l)
        · exact h
  exact key 8 (s.recomputeShed_exact l)

/-! ### The target (R153, R154) -/

theorem State.retarget_same {s : State} {l : Fin 2} (h : (s.line l).target = s.targetOf l) : s.retarget l = s := if_pos h

theorem State.retarget_changed {s : State} {l : Fin 2} (h : (s.line l).target ≠ s.targetOf l) :
    s.retarget l = ((s.setLine l { s.line l with target := s.targetOf l }).post (.line l) Flag.lineTarget).adoptSigns l (signsOf l) := if_neg h

theorem State.retarget_target (s : State) (l : Fin 2) : ((s.retarget l).line l).target = s.targetOf l := by
  by_cases h : (s.line l).target = s.targetOf l
  · rw [State.retarget_same h, h]
  · rw [State.retarget_changed h]
    have hline := (lineStable_line l { s.line l with target := s.targetOf l }).adoptSigns (l := l) (ns := signsOf l)
      (s := (s.setLine l { s.line l with target := s.targetOf l }).post (.line l) Flag.lineTarget)
      (by rw [State.post_line, State.setLine_line_same]; exact .rfl) trivial fun _ _ => trivial
    exact hline.target

theorem State.retarget_reported {s : State} {l : Fin 2} (h : (s.line l).target ≠ s.targetOf l) : (s.retarget l).reported (.line l) Flag.lineTarget := by
  rw [State.retarget_changed h]
  exact (recordStable_reported _ _).toStepStable.toRetentionStable.adoptSigns (State.post_reported_of _ _ (by decide))

theorem State.adoptSigns_exact {s : State} {l : Fin 2} {ns : List (Fin 16)} (h : s.LoadExact l) : (s.adoptSigns l ns).LoadExact l := by
  unfold State.adoptSigns
  split
  · exact State.settleLoad_exact _ l
  · exact h

theorem State.retarget_exact {s : State} {l : Fin 2} (h : s.LoadExact l) : (s.retarget l).LoadExact l := by
  by_cases ht : (s.line l).target = s.targetOf l
  · rw [State.retarget_same ht]; exact h
  · rw [State.retarget_changed ht]
    refine State.adoptSigns_exact ?_
    have hline : ((s.setLine l { s.line l with target := s.targetOf l }).post (.line l) Flag.lineTarget).line l =
        { s.line l with target := s.targetOf l } := (State.post_line ..).trans (State.setLine_line_same ..)
    exact h.of_same (by rw [hline]) (by rw [hline]) (by rw [hline]) (by rw [hline]) fun _ _ => rfl

theorem State.retarget_sign (s : State) (l : Fin 2) (n : Fin 16) : (s.sign n).Keeps ((s.retarget l).sign n) := by
  refine (lineStable_sign n (s.sign n)).retarget (fun hu => ?_) .rfl trivial
  exact hu

/-! ### The bands (R148) -/

theorem State.setBand_same {s : State} {n : Fin 16} {b : Band} (h : (s.sign n).band = b) : s.setBand n b = s := if_pos h

theorem State.setBand_changed {s : State} {n : Fin 16} {b : Band} (h : (s.sign n).band ≠ b) :
    s.setBand n b = ((s.setSign n { s.sign n with band := b }).post (.sign n) Flag.signBand).lapsePointChanged n := if_neg h

theorem State.setBand_band (s : State) (n m : Fin 16) (b : Band) :
    ((s.setBand n b).sign m).band = if n = m then b else (s.sign m).band := by
  by_cases h : (s.sign n).band = b
  · rw [State.setBand_same h]
    split
    · next hm => rw [← hm, h]
    · rfl
  · have hkeeps := (lineStable_sign m (if n = m then { s.sign n with band := b } else s.sign m)).lapsePointChanged (n := n)
      (s := (s.setSign n { s.sign n with band := b }).post (.sign n) Flag.signBand)
      (by rw [State.post_sign, State.setSign_sign]; exact .rfl) trivial
    rw [State.setBand_changed h, hkeeps.band]
    split <;> rfl

theorem State.lapsePointChanged_exact (s : State) (n : Fin 16) : (s.lapsePointChanged n).LoadExact (lineOf n) := by
  unfold State.lapsePointChanged
  exact State.settleLoad_exact _ _

theorem State.setBand_exact {s : State} {l : Fin 2} {n : Fin 16} {b : Band} (hn : lineOf n = l) (h : s.LoadExact l) : (s.setBand n b).LoadExact l := by
  by_cases hb : (s.sign n).band = b
  · rw [State.setBand_same hb]; exact h
  · rw [State.setBand_changed hb, ← hn]
    exact State.lapsePointChanged_exact _ n

theorem State.setBands_exact {s : State} {l : Fin 2} {b : Band} (h : s.LoadExact l) : (s.setBands l b).LoadExact l :=
  foldl_keeps_mem (P := fun t => t.LoadExact l) (fun _ _ hn hs => State.setBand_exact (lineOf_of_mem hn) hs) h

theorem State.setBands_band (s : State) {l : Fin 2} (b : Band) {n : Fin 16} (hn : n.val / 8 = l.val) : ((s.setBands l b).sign n).band = b :=
  foldl_establishes (Q := fun _ => True) (P := fun t => (t.sign n).band = b) (f := fun t m => t.setBand m b) (signsOf_nodup l)
    ((mem_signsOf l n).2 hn) (fun _ _ _ _ => trivial) (fun t _ => by rw [State.setBand_band, if_pos rfl])
    (fun t m hm ht => by rw [State.setBand_band, if_neg hm]; exact ht) trivial

/-! ### The settings (R143) -/

/-- A line with its settings written and reported. -/
def State.withLine (s : State) (l : Fin 2) (cfg : LineConfig) : State :=
  (s.setLine l { s.line l with cfg := cfg }).post (.line l) Flag.lineConfig

/-- A line with its settings written, its load computed where the baud is another, and its target set. -/
def State.lineTargeted (s : State) (l : Fin 2) (cfg : LineConfig) : State :=
  (if (s.line l).cfg.baud = cfg.baud then s.withLine l cfg else (s.withLine l cfg).settleLoad l).retarget l

theorem State.setLineTo_eq (s : State) (l : Fin 2) (cfg : LineConfig) : s.setLineTo l cfg =
    match cfg.bandMode.band with
    | some b => (s.lineTargeted l cfg).setBands l b
    | none => s.lineTargeted l cfg := rfl

/-- A property that retention keeps holds when SET_LINE is done, if it holds when the settings are written. -/
theorem RetentionStable.setLineTo {P : State → Prop} (h : RetentionStable P) {s : State} {l : Fin 2} {cfg : LineConfig}
    (hs : P (s.withLine l cfg)) : P (s.setLineTo l cfg) := by
  have htargeted : P (s.lineTargeted l cfg) := h.retarget (iteInduction (fun _ => hs) fun _ => h.settleLoad hs)
  rw [State.setLineTo_eq]
  split
  · exact h.setBands htargeted
  · exact htargeted

/-- What SET_LINE leaves of target, bands and load. -/
structure State.LineSet (s t : State) (l : Fin 2) (cfg : LineConfig) : Prop where
  settings : (t.line l).cfg = cfg
  config : t.reported (.line l) Flag.lineConfig
  target : (t.line l).target = (s.withLine l cfg).targetOf l
  targeted : (t.line l).target ≠ (s.line l).target → t.reported (.line l) Flag.lineTarget
  sign : ∀ n : Fin 16, (s.sign n).Retains (t.sign n)
  other : (∀ j : Fin 2, j ≠ l → (t.line j).cfg = (s.line j).cfg) ∧ ∀ n : Fin 16, n.val / 8 ≠ l.val → t.sign n = s.sign n
  band : ∀ n : Fin 16, n.val / 8 = l.val → (t.sign n).band = cfg.bandMode.band.getD (s.sign n).band
  load : (s.line l).cfg.baud ≠ cfg.baud → t.LoadExact l
  frame : t.exceptSigns = s.exceptSigns

/-- The target reads the line's policy and its signs' configurations and plans. -/
theorem State.targetOf_congr {s t : State} {l : Fin 2} (hl : (t.line l).cfg.policy = (s.line l).cfg.policy)
    (hs : ∀ n : Fin 16, (s.sign n).Retains (t.sign n)) : t.targetOf l = s.targetOf l := by
  unfold State.targetOf
  rw [hl]
  simp only [Sign.configured, fun n => (hs n).cfg, fun n => (hs n).planClass] <;> rfl

theorem State.withLine_line (s : State) (l : Fin 2) (cfg : LineConfig) : (s.withLine l cfg).line l = { s.line l with cfg := cfg } :=
  (State.post_line ..).trans (State.setLine_line_same ..)

theorem State.setLineTo_frame (s : State) (l : Fin 2) (cfg : LineConfig) : (s.setLineTo l cfg).exceptSigns = s.exceptSigns := by
  have htargeted : (s.lineTargeted l cfg).exceptSigns = s.exceptSigns := by
    unfold State.lineTargeted
    rw [State.retarget_exceptSigns]
    split
    · exact (State.post_exceptSigns ..).trans (State.setLine_exceptSigns ..)
    · exact (State.settleLoad_exceptSigns ..).trans ((State.post_exceptSigns ..).trans (State.setLine_exceptSigns ..))
  rw [State.setLineTo_eq]
  split
  · exact (foldl_leaves State.exceptSigns _ (fun t n => t.setBand_exceptSigns n _) _ _).trans htargeted
  · exact htargeted

theorem State.lineTargeted_target (s : State) (l : Fin 2) (cfg : LineConfig) :
    ((s.lineTargeted l cfg).line l).target = (s.withLine l cfg).targetOf l ∧
      (((s.lineTargeted l cfg).line l).target ≠ (s.line l).target → (s.lineTargeted l cfg).reported (.line l) Flag.lineTarget) ∧
      (∀ n : Fin 16, (s.sign n).Keeps ((s.lineTargeted l cfg).sign n)) ∧
      ((s.line l).cfg.baud ≠ cfg.baud → (s.lineTargeted l cfg).LoadExact l) := by
  have hw := s.withLine_line l cfg
  have hline := (lineStable_line l ((s.withLine l cfg).line l)).settleLoad (l := l) .rfl trivial
  have hsign (n : Fin 16) := (lineStable_sign n (s.sign n)).settleLoad (s := s.withLine l cfg) (l := l) .rfl trivial
  have hexact := (s.withLine l cfg).settleLoad_exact l
  have hwsign (n : Fin 16) : (s.withLine l cfg).sign n = s.sign n := rfl
  unfold State.lineTargeted
  have key (u : State) (hl : ((s.withLine l cfg).line l).Retains (u.line l)) (hs : ∀ n : Fin 16, (s.sign n).Keeps (u.sign n)) :
      ((u.retarget l).line l).target = (s.withLine l cfg).targetOf l ∧
        (((u.retarget l).line l).target ≠ (s.line l).target → (u.retarget l).reported (.line l) Flag.lineTarget) ∧
        ∀ n : Fin 16, (s.sign n).Keeps ((u.retarget l).sign n) := by
    have htarget : u.targetOf l = (s.withLine l cfg).targetOf l := by
      refine State.targetOf_congr (by rw [hl.cfg]) fun n => ?_
      rw [hwsign]
      exact (hs n).toRetains
    refine ⟨(u.retarget_target l).trans htarget, fun hne => State.retarget_reported ?_, fun n => (hs n).trans (u.retarget_sign l n)⟩
    rw [State.retarget_target] at hne
    have hold : (u.line l).target = (s.line l).target := by rw [hl.target, hw]
    exact fun he => hne (he.symm.trans hold)
  by_cases hb : (s.line l).cfg.baud = cfg.baud
  · rw [if_pos hb]
    obtain ⟨h1, h2, h3⟩ := key _ .rfl fun n => by rw [hwsign]; exact .rfl
    exact ⟨h1, h2, h3, fun hne => absurd hb hne⟩
  · rw [if_neg hb]
    obtain ⟨h1, h2, h3⟩ := key _ hline hsign
    exact ⟨h1, h2, h3, fun _ => State.retarget_exact hexact⟩

/-- The other line and its signs stand. -/
theorem State.lineTargeted_off (s : State) (l : Fin 2) (cfg : LineConfig) : (∀ j : Fin 2, j ≠ l → (s.lineTargeted l cfg).line j = s.line j) ∧
    ∀ n : Fin 16, ¬n.val / 8 = l.val → (s.lineTargeted l cfg).sign n = s.sign n := by
  have hoff := lineStable_off l s
  have hstart : (∀ j : Fin 2, j ≠ l → (s.withLine l cfg).line j = s.line j) ∧
      ∀ n : Fin 16, ¬n.val / 8 = l.val → (s.withLine l cfg).sign n = s.sign n :=
    ⟨fun j hj => (State.post_line ..).trans (State.setLine_line_other _ _ _ _ hj), fun _ _ => rfl⟩
  have htarget {u : State} {g : Granularity} (hu : (∀ j : Fin 2, j ≠ l → u.line j = s.line j) ∧ ∀ n : Fin 16, ¬n.val / 8 = l.val → u.sign n = s.sign n) :
      (∀ j : Fin 2, j ≠ l → (u.updLine l fun r => { r with target := g }).line j = s.line j) ∧
        ∀ n : Fin 16, ¬n.val / 8 = l.val → (u.updLine l fun r => { r with target := g }).sign n = s.sign n := by
    refine ⟨fun j hj => ?_, hu.2⟩
    rw [State.updLine_eq, State.setLine_line_other _ _ _ _ hj]
    exact hu.1 j hj
  unfold State.lineTargeted
  split
  · exact hoff.retarget htarget hstart rfl
  · exact hoff.retarget htarget (hoff.settleLoad hstart rfl) rfl

theorem State.setBands_off {s t : State} {l : Fin 2} (b : Band) (h : (∀ j : Fin 2, j ≠ l → t.line j = s.line j) ∧
    ∀ n : Fin 16, ¬n.val / 8 = l.val → t.sign n = s.sign n) :
    (∀ j : Fin 2, j ≠ l → (t.setBands l b).line j = s.line j) ∧ ∀ n : Fin 16, ¬n.val / 8 = l.val → (t.setBands l b).sign n = s.sign n := by
  refine (lineStable_off l s).setBands (fun {u m c} hu hm => ⟨hu.1, fun n hn => ?_⟩) h rfl
  rw [State.updSign_eq, State.setSign_sign_other _ _ _ _ fun he => hn (by rw [he]; exact congrArg Fin.val hm)]
  exact hu.2 n hn

theorem State.setLineTo_set (s : State) (l : Fin 2) (cfg : LineConfig) : s.LineSet (s.setLineTo l cfg) l cfg := by
  obtain ⟨htarget, htargeted, hkeeps, hexact⟩ := s.lineTargeted_target l cfg
  have hoff := s.lineTargeted_off l cfg
  have hframe := s.setLineTo_frame l cfg
  have hcfg := (retentionStable_lineCfg l cfg).setLineTo (s := s) (l := l) (by rw [State.withLine_line])
  have hconfig := (recordStable_reported (.line l) Flag.lineConfig).toStepStable.toRetentionStable.setLineTo (s := s) (l := l) (cfg := cfg)
    (State.post_reported_of _ _ (by decide))
  have hsign (n : Fin 16) := (retentionStable_sign n (s.sign n)).setLineTo (s := s) (l := l) (cfg := cfg) .rfl
  have hline (b : Band) := (lineStable_line l ((s.lineTargeted l cfg).line l)).setBands (l := l) (b := b) (fun hu _ => hu) .rfl trivial
  have hoffb (b : Band) := State.setBands_off b hoff
  have hkeep (b : Band) : (s.lineTargeted l cfg).reported (.line l) Flag.lineTarget →
      ((s.lineTargeted l cfg).setBands l b).reported (.line l) Flag.lineTarget :=
    (recordStable_reported _ _).toStepStable.toRetentionStable.setBands
  have hband (b : Band) (n : Fin 16) (hn : n.val / 8 = l.val) := (s.lineTargeted l cfg).setBands_band b hn
  have hbexact (b : Band) (h : (s.lineTargeted l cfg).LoadExact l) := State.setBands_exact (b := b) h
  have heq := s.setLineTo_eq l cfg
  generalize s.setLineTo l cfg = t at *
  generalize s.lineTargeted l cfg = u at *
  cases hb : cfg.bandMode.band with
  | none =>
    rw [hb] at heq
    have hthe : t = u := heq
    rw [hthe] at hcfg hconfig hsign hframe ⊢
    have hlines (j : Fin 2) (hj : j ≠ l) : (u.line j).cfg = (s.line j).cfg := by rw [hoff.1 j hj]
    have hbands (n : Fin 16) (_ : n.val / 8 = l.val) : (u.sign n).band = cfg.bandMode.band.getD (s.sign n).band := by
      rw [hb]
      exact (hkeeps n).band
    exact { settings := hcfg, config := hconfig, target := htarget, targeted := htargeted, sign := hsign, other := ⟨hlines, hoff.2⟩,
            band := hbands, load := hexact, frame := hframe }
  | some b =>
    rw [hb] at heq
    have hthe : t = u.setBands l b := heq
    rw [hthe] at hcfg hconfig hsign hframe ⊢
    have hlines (j : Fin 2) (hj : j ≠ l) : ((u.setBands l b).line j).cfg = (s.line j).cfg := by rw [(hoffb b).1 j hj]
    have hbands (n : Fin 16) (hn : n.val / 8 = l.val) : ((u.setBands l b).sign n).band = cfg.bandMode.band.getD (s.sign n).band := by
      rw [hb]
      exact hband b n hn
    have htold (hne : ((u.setBands l b).line l).target ≠ (s.line l).target) : (u.setBands l b).reported (.line l) Flag.lineTarget := by
      rw [(hline b).target] at hne
      exact hkeep b (htargeted hne)
    exact { settings := hcfg, config := hconfig, target := (hline b).target.trans htarget, targeted := htold, sign := hsign,
            other := ⟨hlines, (hoffb b).2⟩, band := hbands, load := fun hne => hbexact b (hexact hne), frame := hframe }

/-! ### The request (R143) -/

theorem State.answered_line (t : State) (k tag : Byte) (o : OutcomeCode) (d : List Byte) (l : Fin 2) : (t.answered k tag o d).line l = t.line l := rfl

theorem line_of_conclude (a t : State) (k tag : Byte) (o : OutcomeCode) (d : List Byte) (l : Fin 2) :
    (t.line l).Exchanges ((State.conclude a (t.answered k tag o d)).line l) := by
  have h := State.conclude_line a (t.answered k tag o d) l
  rwa [State.answered_line] at h

theorem Line.Exchanges.cfg {a b : Line} (h : a.Exchanges b) : b.cfg = a.cfg := (congrArg Line.cfg h :)
theorem Line.Exchanges.target {a b : Line} (h : a.Exchanges b) : b.target = a.target := (congrArg Line.target h :)
theorem Line.Exchanges.sum {a b : Line} (h : a.Exchanges b) : b.sum = a.sum := (congrArg Line.sum h :)
theorem Line.Exchanges.load {a b : Line} (h : a.Exchanges b) : b.load = a.load := (congrArg Line.load h :)
theorem Line.Exchanges.overloaded {a b : Line} (h : a.Exchanges b) : b.overloaded = a.overloaded := (congrArg Line.overloaded h :)

theorem State.reported_concluded {a t : State} {o : Obj} {f : BitVec 16} (h : t.reported o f) (k tag : Byte) (c : OutcomeCode) (d : List Byte) :
    (State.conclude a (t.answered k tag c d)).reported o f :=
  (recordStable_reported o f).toStepStable.conclude ((recordStable_reported o f).answered h)

theorem baudOf_rate {h : Half} {b : Baud} (hb : h.toNat = b.rate) : baudOf h = some b := by
  unfold baudOf
  cases b <;> simp [hb, Baud.rate]

theorem baudOf_out {h : Half} (hb : h.toNat ≠ 9600 ∧ h.toNat ≠ 19200 ∧ h.toNat ≠ 38400 ∧ h.toNat ≠ 57600) : baudOf h = none := by
  obtain ⟨h1, h2, h3, h4⟩ := hb
  unfold baudOf
  rw [if_neg h1, if_neg h2, if_neg h3, if_neg h4]

theorem policyOf_code {b : Byte} {p : Policy} (h : b.toNat = p.code) : policyOf b = some p := by
  unfold policyOf
  rw [h]
  cases p <;> rfl

theorem policyOf_out {b : Byte} (h : 4 ≤ b.toNat) : policyOf b = none := by
  unfold policyOf
  split <;> simp_all

theorem bandModeOf_code {b : Byte} {m : BandMode} (h : b.toNat = m.code) : bandModeOf b = some m := by
  unfold bandModeOf
  rw [h]
  cases m <;> rfl

theorem bandModeOf_out {b : Byte} (h : 4 ≤ b.toNat) : bandModeOf b = none := by
  unfold bandModeOf
  split <;> simp_all

theorem Sign.share_eq (g : Sign) : g.share = if g.service = .showing ∨ g.service = .lapsed then g.shareIfCounted else 0 := by
  rw [← Sign.fullShare_eq]
  exact if_congr (Sign.counted_iff _) rfl rfl

/-- An ADAPTIVE line takes QUARTER while a configured sign of it has a protected plan (R153). -/
theorem State.targetOf_adaptive {s : State} {l : Fin 2} (h : (s.line l).cfg.policy = .adaptive) :
    s.targetOf l = if ∃ n : Fin 16, n.val / 8 = l.val ∧ (s.sign n).cfg.role ≠ .none ∧
        ((s.sign n).planClass = .hazard ∨ (s.sign n).planClass = .closure ∨ (s.sign n).planClass = .caution) then .quarter else .full := by
  have hprot (c : PlanClass) : c.isProtected = true ↔ c = .hazard ∨ c = .closure ∨ c = .caution := by cases c <;> decide
  unfold State.targetOf
  rw [h]
  refine if_congr ?_ rfl rfl
  simp [List.any_eq_true, mem_signsOf, Sign.configured, hprot]

theorem State.applySetLine_out {line policy bandMode : Byte} {baud : Half} {s : State} (h : 2 ≤ line.toNat ∨ 4 ≤ policy.toNat ∨ 4 ≤ bandMode.toNat ∨
    (baud.toNat ≠ 9600 ∧ baud.toNat ≠ 19200 ∧ baud.toNat ≠ 38400 ∧ baud.toNat ≠ 57600)) :
    s.applySetLine line baud policy bandMode = refuse .outOfRange s := by
  unfold State.applySetLine
  split
  · next hline hbaud hpolicy hmode =>
    rcases h with h | h | h | h
    · rw [indexOf_of_ge h] at hline; cases hline
    · rw [policyOf_out h] at hpolicy; cases hpolicy
    · rw [bandModeOf_out h] at hmode; cases hmode
    · rw [baudOf_out h] at hbaud; cases hbaud
  · rfl

theorem State.applySetLine_in {line policy bandMode : Byte} {baud : Half} {s : State} {l : Fin 2} {b : Baud} {p : Policy} {m : BandMode}
    (hl : line.toNat = l.val) (hb : baud.toNat = b.rate) (hp : policy.toNat = p.code) (hm : bandMode.toNat = m.code) :
    s.applySetLine line baud policy bandMode =
      accept (u8 l.val ++ u16 b.rate ++ u8 p.code ++ u8 m.code) (s.setLineTo l { baud := b, policy := p, bandMode := m }) := by
  unfold State.applySetLine
  rw [indexOf_of_toNat hl, baudOf_rate hb, policyOf_code hp, bandModeOf_code hm]

/-- Settles O43: the settings are written and told, then the load, the target and the bands follow, each of which keeps what was
settled before it. -/
theorem setLineApplies : Obligations.SetLineApplies := by
  unfold Obligations.SetLineApplies
  intro tag line policy bandMode baud s h command
  refine ⟨fun hbad => exec_refused (k := .setLine) rfl h (State.applySetLine_out hbad), fun l b p m hl hb hp hm => ?_⟩
  intro cycleBits share guarded
  have hshare (g : Sign) : g.share = share g := by
    rw [Sign.share_eq]
    change _ = if _ then (8000 * cycleBits g.granularity + g.dueSpan - 1) / g.dueSpan else 0
    unfold Sign.shareIfCounted
    cases g.granularity <;> rfl
  have hexec := exec_concluded (c := command) (k := .setLine) rfl h (State.applySetLine_in (s := s) hl hb hp hm)
  have hset := s.setLineTo_set l { baud := b, policy := p, bandMode := m }
  generalize s.setLineTo l { baud := b, policy := p, bandMode := m } = v at *
  have hlines := line_of_conclude s v 0x30 tag .ok (u8 l.val ++ u16 b.rate ++ u8 p.code ++ u8 m.code)
  have hsign (n : Fin 16) := sign_of_conclude (a := s) (t := v) (k := 0x30) (tag := tag) (o := .ok)
    (d := u8 l.val ++ u16 b.rate ++ u8 p.code ++ u8 m.code) n
  have htold {o : Obj} {f : BitVec 16} (hr : v.reported o f) := State.reported_concluded (a := s) hr 0x30 tag .ok
    (u8 l.val ++ u16 b.rate ++ u8 p.code ++ u8 m.code)
  have hframe : (State.conclude s (v.answered 0x30 tag .ok (u8 l.val ++ u16 b.rate ++ u8 p.code ++ u8 m.code))).exceptOutputs =
      (s.answered 0x30 tag .ok (u8 l.val ++ u16 b.rate ++ u8 p.code ++ u8 m.code)).exceptOutputs := by
    rw [State.conclude_exceptOutputs]
    exact State.answered_exceptOutputs (exceptOutputs_of_exceptSigns hset.frame) ..
  have hnext : exec command s = .next (State.conclude s (v.answered 0x30 tag .ok (u8 l.val ++ u16 b.rate ++ u8 p.code ++ u8 m.code))) := hexec
  generalize State.conclude s (v.answered 0x30 tag .ok (u8 l.val ++ u16 b.rate ++ u8 p.code ++ u8 m.code)) = t at hnext hlines hsign htold hframe
  have hline := hlines l
  have htarget : (t.line l).target = (s.withLine l { baud := b, policy := p, bandMode := m }).targetOf l := hline.target.trans hset.target
  have hpolicy : ((s.withLine l { baud := b, policy := p, bandMode := m }).line l).cfg.policy = p := by rw [State.withLine_line]
  have hfixed {g : Granularity} (hg : (s.withLine l { baud := b, policy := p, bandMode := m }).targetOf l = g) : (t.line l).target = g :=
    htarget.trans hg
  have hcfg : (t.line l).cfg = { baud := b, policy := p, bandMode := m } := hline.cfg.trans hset.settings
  refine ⟨t, hnext, hcfg, htold hset.config, fun hp => hfixed ?_, fun hp => hfixed ?_, fun hp => hfixed ?_,
    fun hp => ⟨fun hg => hfixed ?_, fun hg => hfixed ?_⟩, fun hne => ?_, fun n => ?_, fun hne => ?_, fun j hj => ?_, hframe⟩
  · rw [State.targetOf, hpolicy, hp]
  · rw [State.targetOf, hpolicy, hp]
  · rw [State.targetOf, hpolicy, hp]
  · exact (State.targetOf_adaptive (hpolicy.trans hp)).trans (if_pos hg)
  · exact (State.targetOf_adaptive (hpolicy.trans hp)).trans (if_neg hg)
  · exact htold (hset.targeted (by rwa [hline.target] at hne))
  · rw [hsign]
    refine ⟨(hset.sign n).cfg, (hset.sign n).planClass, hset.other.2 n, fun hn => ?_⟩
    rw [hset.band n hn]
    exact ⟨fun hm => by rw [hm]; rfl, fun hm => by rw [hm]; rfl, fun hm => by rw [hm]; rfl, fun hm => by rw [hm]; rfl⟩
  · obtain ⟨hknown, hover⟩ := hset.load hne
    have hsum : ((signsOf l).map fun n => share (t.sign n)).sum = ((signsOf l).map fun n => (v.sign n).share).sum := by
      simp only [hsign, hshare]
    refine ⟨?_, ?_, ?_⟩
    · rw [hsum, hline.sum, hknown.sum, State.shareSum_eq]
    · rw [hline.load, hline.sum, hknown.load, State.loadOf, hset.settings]
      rfl
    · rw [hline.overloaded, hline.load, hover]
  · exact (hlines j).cfg.trans (hset.other.1 j hj)

end Sys2Proof.Machine
end

section
/-! SUPPORT. A sign that shedding and restoring do not take: what waking, load and adoption on its line leave of it (R154 to R159, R167). -/

namespace Sys2Proof.Machine

/-! ### Conditions on a sign that waking, shedding and restoring respect -/

/-- A condition on a sign that neither shedding nor restoring takes, and that a wake of its line at the tick keeps. -/
structure Steady (now : Tick) (Q : Sign → Prop) : Prop where
  maySheds : ∀ {g : Sign}, Q g → g.maySheds = false
  shed : ∀ {g : Sign}, Q g → g.service ≠ .shed
  woken : ∀ {g : Sign}, Q g → Q (g.woken now)

/-- A sign meets a condition, at the tick given. -/
def State.stays (t : State) (n : Fin 16) (now : Tick) (Q : Sign → Prop) : Prop := t.now = now ∧ Q (t.sign n)

theorem State.stays_of_eq {s t : State} {n : Fin 16} {now : Tick} {Q : Sign → Prop} (hnow : t.now = s.now) (hsign : t.sign n = s.sign n)
    (hs : s.stays n now Q) : t.stays n now Q := ⟨hnow.trans hs.1, hsign ▸ hs.2⟩

namespace Steady

variable {now : Tick} {Q : Sign → Prop} (h : Steady now Q) {s : State} {n : Fin 16}

theorem post {o : Obj} {f : BitVec 16} (hs : s.stays n now Q) : (s.post o f).stays n now Q := hs

theorem setLine {l : Fin 2} {r : Line} (hs : s.stays n now Q) : (s.setLine l r).stays n now Q := hs

theorem askArbitration {l : Fin 2} (hs : s.stays n now Q) : (s.askArbitration l).stays n now Q := hs

theorem setOther {m : Fin 16} {g : Sign} (hm : m ≠ n) (hs : s.stays n now Q) : (s.setSign m g).stays n now Q :=
  State.stays_of_eq (s := s) rfl (State.setSign_sign_other _ _ _ _ (Ne.symm hm)) hs

theorem checkHeld {l : Fin 2} (hs : s.stays n now Q) : (s.checkHeld l).stays n now Q :=
  iteInduction (motive := fun t : State => t.stays n now Q) (fun _ => hs) fun _ => hs

theorem checkResume {l : Fin 2} (hs : s.stays n now Q) : (s.checkResume l).stays n now Q :=
  iteInduction (motive := fun t : State => t.stays n now Q) (fun _ => hs) fun _ => hs

theorem setOverloaded {l : Fin 2} {v : Bool} (hs : s.stays n now Q) : (s.setOverloaded l v).stays n now Q :=
  State.stays_of_eq (now_of_exceptSigns (s.setOverloaded_exceptSigns l v)) (by rw [State.sign, State.setOverloaded_signs, State.sign]) hs

theorem recompute {l : Fin 2} (hs : s.stays n now Q) : (s.recompute l).stays n now Q :=
  State.stays_of_eq (now_of_exceptSigns (s.recompute_exceptSigns l))
    (by rw [State.sign, (s.recompute_recomputed l).signs, State.sign]) hs

include h

theorem wakes {a b : Sign} (hw : a.Wakes now b) (ha : Q a) : Q b := by
  rcases hw with rfl | rfl
  · exact ha
  · exact h.woken ha

theorem wake {l : Fin 2} {c : Nat} (hs : s.stays n now Q) : (s.wake l c).stays n now Q := by
  obtain ⟨hnow, hq⟩ := hs
  exact ⟨(now_of_exceptSigns (s.wake_exceptSigns l c)).trans hnow, h.wakes (hnow ▸ (s.wake_wakes l c).1 n) hq⟩

theorem restoreRaised {m : Fin 16} (hs : s.stays n now Q) : (s.restoreRaised m).stays n now Q := askArbitration (h.wake hs)

theorem needRaised {m : Fin 16} {c : Nat} (hs : s.stays n now Q) : (s.needRaised m c).stays n now Q := askArbitration (h.wake hs)

theorem planRaised {m : Fin 16} (hs : s.stays n now Q) : (s.planRaised m).stays n now Q := h.needRaised hs

/-- A change of another sign's service. -/
theorem changeOther {m : Fin 16} {v : Service} (hm : m ≠ n) (hs : s.stays n now Q) : (s.changeService m v).stays n now Q := by
  unfold State.changeService
  dsimp only
  split
  · exact hs
  · have hset : ((s.setSign m ((s.sign m).withService s.now v)).post (.sign m) (serviceFlags (s.sign m) ((s.sign m).withService s.now v))).stays
        n now Q := setOther hm hs
    split
    · exact checkResume (checkHeld (h.restoreRaised hset))
    · exact checkResume (checkHeld hset)

theorem shedSign {m : Fin 16} (hmay : (s.sign m).maySheds = true) (hs : s.stays n now Q) : (s.shedSign m).stays n now Q := by
  have hm : m ≠ n := by
    rintro rfl
    rw [h.maySheds hs.2] at hmay
    cases hmay
  exact askArbitration (post (h.changeOther hm hs))

theorem restoreSign {m : Fin 16} (hshed : (s.sign m).service = .shed) (hs : s.stays n now Q) : (s.restoreSign m).stays n now Q := by
  have hm : m ≠ n := by
    rintro rfl
    exact h.shed hs.2 hshed
  exact post (h.changeOther hm hs)

theorem shedWhile {k : Nat} {l : Fin 2} (hs : s.stays n now Q) : (State.shedWhile k l s).stays n now Q := by
  induction k generalizing s with
  | zero => exact hs
  | succ k ih =>
    unfold State.shedWhile
    split
    · exact hs
    · split
      · exact hs
      · next hnext => exact ih (recompute (h.shedSign (find?_signsOf_reverse hnext).2.1 hs))

theorem recomputeShed {l : Fin 2} (hs : s.stays n now Q) : (s.recomputeShed l).stays n now Q := by
  have hwhile := h.shedWhile (k := 8) (l := l) (recompute (l := l) hs)
  unfold State.recomputeShed
  dsimp only
  split
  · exact hwhile
  · exact setOverloaded hwhile

theorem restoreWhile {k : Nat} {l : Fin 2} (hs : s.stays n now Q) : (State.restoreWhile k l s).stays n now Q := by
  induction k generalizing s with
  | zero => exact hs
  | succ k ih =>
    unfold State.restoreWhile
    split
    · exact hs
    · next hnext =>
      split
      · refine ih (h.recomputeShed (h.restoreSign ?_ hs))
        have hfound := (find?_signsOf hnext).2.1
        rw [Bool.and_eq_true, beq_iff_eq] at hfound
        exact hfound.1
      · exact hs

theorem settleLoad {l : Fin 2} (hs : s.stays n now Q) : (s.settleLoad l).stays n now Q := h.restoreWhile (h.recomputeShed hs)

theorem reserveShed {l : Fin 2} (hs : s.stays n now Q) : (s.reserveShed l).stays n now Q := by
  refine foldl_keeps (P := fun t => t.stays n now Q) (f := State.reserveShedOne) (fun t m ht => ?_) _ hs
  unfold State.reserveShedOne
  split
  · next hm => exact h.shedSign (State.maySheds_of_reserveSheds hm) ht
  · exact ht

theorem reserveSettle {l : Fin 2} (hs : s.stays n now Q) : (s.reserveSettle l).stays n now Q := by
  unfold State.reserveSettle
  split
  · exact h.settleLoad (h.reserveShed hs)
  · exact hs

theorem settleCounted {m : Fin 16} {g : Sign} (hs : s.stays n now Q) : (s.settleCounted m g).stays n now Q := by
  unfold State.settleCounted
  split
  · exact hs
  · split
    · exact h.settleLoad (h.reserveShed hs)
    · exact hs

theorem enterOther {m : Fin 16} {v : Service} (hm : m ≠ n) (hs : s.stays n now Q) : (s.enterService m v).stays n now Q :=
  h.settleCounted (h.changeOther hm hs)

theorem restoreProtected {m : Fin 16} (hs : s.stays n now Q) : (s.restoreProtected m).stays n now Q := by
  unfold State.restoreProtected
  split
  · next hc => exact h.settleLoad (h.restoreSign hc.1 hs)
  · exact hs

/-! #### Conditions that an adoption keeps too (R153, R154) -/

section Adoption

variable (hadopt : ∀ {g : Sign} {t : Granularity}, Q g → Q (g.adopt now t))
include hadopt

theorem adoptSigns {l : Fin 2} {ns : List (Fin 16)} (hs : s.stays n now Q) : (s.adoptSigns l ns).stays n now Q := by
  have hone (t : State) (m : Fin 16) (ht : t.stays n now Q) : (t.adoptOne m).stays n now Q := by
    unfold State.adoptOne
    split
    · by_cases hm : m = n
      · subst hm
        refine ⟨ht.1, ?_⟩
        rw [State.post_sign, State.updSign_eq, State.setSign_sign_same, ht.1]
        exact hadopt ht.2
      · exact setOther hm ht
    · exact ht
  unfold State.adoptSigns
  split
  · exact h.settleLoad (foldl_keeps (P := fun t => t.stays n now Q) hone _ hs)
  · exact hs

theorem retarget {l : Fin 2} (hs : s.stays n now Q) : (s.retarget l).stays n now Q := by
  unfold State.retarget
  split
  · exact hs
  · exact h.adoptSigns hadopt (post (setLine hs))

theorem settleLinePlans {l : Fin 2} (hs : s.stays n now Q) : (s.settleLinePlans l).stays n now Q := h.reserveSettle (h.retarget hadopt hs)

theorem plansReplaced {ns : List (Fin 16)} (hs : s.stays n now Q) : (s.plansReplaced ns).stays n now Q := by
  have hraised : (ns.foldl State.planRaised (ns.foldl State.restoreProtected s)).stays n now Q :=
    foldl_keeps (P := fun t => t.stays n now Q) (fun _ _ => h.planRaised) _
      (foldl_keeps (P := fun t => t.stays n now Q) (fun _ _ => h.restoreProtected) _ hs)
  unfold State.plansReplaced
  dsimp only
  generalize ns.foldl State.planRaised _ = u at hraised
  split <;> split
  · exact h.settleLinePlans hadopt (h.settleLinePlans hadopt hraised)
  · exact h.settleLinePlans hadopt hraised
  · exact h.settleLinePlans hadopt hraised
  · exact hraised

/-- A recomputation of plans, where a new plan for the sign keeps the condition too. -/
theorem replanSigns {ns : List (Fin 16)} (hns : ns.Nodup) (hplan : Q (s.sign n) → Q (s.replanned n)) (hs : s.stays n now Q) :
    (s.replanSigns ns).stays n now Q := by
  have hfold : (ns.foldl State.replanSign s).stays n now Q := by
    refine ⟨(now_of_exceptSigns (foldl_replanSign ns s)).trans hs.1, ?_⟩
    rw [foldl_replanSign_sign hns]
    split
    · exact hplan hs.2
    · exact hs.2
  unfold State.replanSigns
  dsimp only
  split
  · exact hfold
  · exact h.plansReplaced hadopt hfold

end Adoption

end Steady

/-! ### A sign that enters a service state (R138) -/

/-- A change to another service state than LAPSED writes the sign and leaves every other sign. -/
theorem State.changeService_signs {s : State} {n : Fin 16} {v : Service} (hne : (s.sign n).service ≠ v) (hv : v ≠ .lapsed) :
    (s.changeService n v).signs = s.signs.set n ((s.sign n).withService s.now v) := by
  have hcheck (u : State) (l : Fin 2) : ((u.checkHeld l).checkResume l).signs = u.signs := by
    unfold State.checkHeld State.checkResume
    split <;> split <;> rfl
  unfold State.changeService
  dsimp only
  rw [if_neg hne, if_neg fun hh => hv hh.1, hcheck]
  rfl

end Sys2Proof.Machine
end

section
/-! PROOF. SET_SIGN: the configuration, the service state that follows the role, and the plan (R116, R117, R119, R138). -/

namespace Sys2Proof.Machine

/-! ### The configuration that SET_SIGN leaves (R117) -/

/-- What SET_SIGN writes, field by field. -/
structure SignConfig.SetTo (old cfg : SignConfig) (r m p : Byte) (h : Half) (b d : Byte) : Prop where
  condition : cfg.condition = old.condition
  role : cfg.role = if r = 0 then .none else if r = 1 then .advance else if r = 2 then .path else .info
  segments : cfg.segments = if r = 1 ∨ r = 3 then m.setWidth 4 else 0
  path : cfg.path.map Fin.val = if r = 2 then some p.toNat else none
  holdover : cfg.holdover = if r = 0 then old.holdover else max 16 (min 1020 h.toNat) / 4 * 4
  dwell : cfg.dwell = if r = 0 then old.dwell else max 16 (min 240 d.toNat)
  sheddable : cfg.sheddable = (r == 3 && b == 1)

theorem role_cases {b : Byte} (h : b.toNat < 4) : b = 0 ∨ b = 1 ∨ b = 2 ∨ b = 3 := by
  bv_omega

theorem signConfigOf_in (old : SignConfig) {role segments path sheddable dwell : Byte} {holdover : Half} (hrole : role.toNat < 4)
    (hsegments : role = 1 ∨ role = 3 → ¬(segments = 0 ∨ 16 ≤ segments.toNat)) (hpath : role = 2 → path.toNat < 12)
    (hsheddable : role = 3 → sheddable.toNat < 2) :
    ∃ cfg, signConfigOf old role segments path holdover sheddable dwell = some cfg ∧ old.SetTo cfg role segments path holdover sheddable dwell := by
  unfold signConfigOf
  dsimp only
  rcases role_cases hrole with rfl | rfl | rfl | rfl
  · exact ⟨_, rfl, rfl, rfl, rfl, rfl, rfl, rfl, rfl⟩
  · rw [if_neg (hsegments (.inl rfl))]
    exact ⟨_, rfl, rfl, rfl, rfl, rfl, rfl, rfl, rfl⟩
  · rw [show indexOf 12 path = some ⟨path.toNat, hpath rfl⟩ from indexOf_of_toNat rfl]
    exact ⟨_, rfl, rfl, rfl, rfl, rfl, rfl, rfl, rfl⟩
  · rw [if_neg (hsegments (.inr rfl)), boolOf_lt (hsheddable rfl)]
    exact ⟨_, rfl, rfl, rfl, rfl, rfl, rfl, rfl, rfl⟩

theorem roleOf_out {b : Byte} (h : 4 ≤ b.toNat) : roleOf b = none := by
  unfold roleOf
  split <;> simp_all

theorem signConfigOf_out (old : SignConfig) {role segments path sheddable dwell : Byte} {holdover : Half}
    (h : 4 ≤ role.toNat ∨ ((role = 1 ∨ role = 3) ∧ (segments = 0 ∨ 16 ≤ segments.toNat)) ∨ (role = 2 ∧ 12 ≤ path.toNat) ∨
      (role = 3 ∧ 2 ≤ sheddable.toNat)) : signConfigOf old role segments path holdover sheddable dwell = none := by
  unfold signConfigOf
  dsimp only
  rcases h with h | ⟨rfl | rfl, h⟩ | ⟨rfl, h⟩ | ⟨rfl, h⟩
  · rw [roleOf_out h]
  · rw [if_pos h]
    rfl
  · rw [if_pos h]
    rfl
  · rw [indexOf_of_ge h]
    rfl
  · rw [boolOf_ge h]
    by_cases hs : segments = 0 ∨ 16 ≤ segments.toNat
    · rw [if_pos hs]
      rfl
    · rw [if_neg hs]
      rfl

/-! ### What a change of one sign's service leaves of the others (R138) -/

theorem State.changeService_other (s : State) {n m : Fin 16} (v : Service) (hm : m ≠ n) : (s.sign m).Retains ((s.changeService n v).sign m) := by
  have hstable := retentionStable_sign m (s.sign m)
  unfold State.changeService
  dsimp only
  split
  · exact .rfl
  · have hset : (s.sign m).Retains (((s.setSign n ((s.sign n).withService s.now v)).post (.sign n)
        (serviceFlags (s.sign n) ((s.sign n).withService s.now v))).sign m) := by
      rw [State.post_sign, State.setSign_sign_other _ _ _ _ hm]
      exact .rfl
    split
    · exact hstable.checkResume (hstable.checkHeld (hstable.restoreRaised hset))
    · exact hstable.checkResume (hstable.checkHeld hset)

theorem State.unconfigureSign_eq (s : State) (n : Fin 16) : s.unconfigureSign n =
    (((s.enterService n .absent).updSign n fun g =>
      { g with planClass := .blank, rotation := [], index := 0, dwellCount := 0, need := .none, shown := Displayed.unknown }).postIf
        (clearedFlags (s.sign n) != 0) (.sign n) (clearedFlags (s.sign n))).retarget (lineOf n) := rfl

theorem State.followRole_other (s : State) {n m : Fin 16} (was : Bool) (hm : m ≠ n) : (s.sign m).Retains ((s.followRole n was).sign m) := by
  have hstable := retentionStable_sign m (s.sign m)
  unfold State.followRole
  split
  · rw [State.unconfigureSign_eq]
    refine hstable.retarget (hstable.postIf ?_)
    rw [State.updSign_eq, State.setSign_sign_other _ _ _ _ hm]
    exact hstable.settleCounted (s.changeService_other _ hm)
  · exact hstable.configureSign .rfl
  · exact hstable.restoreUnsheddable .rfl
  · exact .rfl

theorem State.followRole_exceptSigns (s : State) (n : Fin 16) (was : Bool) : (s.followRole n was).exceptSigns = s.exceptSigns := by
  unfold State.followRole
  split
  · simp [State.unconfigureSign_eq]
  · unfold State.configureSign
    split <;> simp
  · unfold State.restoreUnsheddable
    split <;> simp
  · rfl

/-- A sign that stays or becomes configured keeps its configuration and its plan. -/
theorem State.followRole_retains {s : State} {n : Fin 16} {was : Bool} (h : (s.sign n).configured = true) :
    (s.sign n).Retains ((s.followRole n was).sign n) := by
  have hstable := retentionStable_sign n (s.sign n)
  unfold State.followRole
  rw [h]
  cases was
  · exact hstable.configureSign .rfl
  · exact hstable.restoreUnsheddable .rfl

/-! ### A sign that leaves ABSENT (R117, R138) -/

namespace Steady

variable {now : Tick} {Q : Sign → Prop} (h : Steady now Q) (hrelapse : ∀ {g : Sign}, Q g → Q g.relapse)
  (hidle : ∀ {g : Sign}, Q g → g.counted = false ∧ g.service ≠ .held) {s : State} {n : Fin 16}
include h hrelapse hidle

/-- A change of the lapse point of a sign whose retention does not run. -/
theorem lapsePointChanged (hs : s.stays n now Q) : (s.lapsePointChanged n).stays n now Q := by
  have hset : (s.updSign n Sign.relapse).stays n now Q := by
    refine ⟨hs.1, ?_⟩
    rw [State.updSign_eq, State.setSign_sign_same]
    exact hrelapse hs.2
  have hlapse {u : State} (hu : u.stays n now Q) : u.checkLapse n = u := by
    obtain ⟨hcounted, hheld⟩ := hidle hu.2
    refine if_neg fun hc => ?_
    rcases hc.1 with hc | hc
    · simp [Sign.counted, hc] at hcounted
    · exact hheld hc
  have hcritical {u : State} (hu : u.stays n now Q) : u.checkCritical n = u :=
    if_neg fun hc => by rw [(hidle hu.2).1] at hc; cases hc.1
  unfold State.lapsePointChanged
  dsimp only
  generalize s.updSign n Sign.relapse = u at hset
  have hif (p : Prop) [Decidable p] : (if p then u.checkLapse n else u) = u := by
    rw [hlapse hset]
    exact ite_id u
  rw [hif, hcritical hset]
  split
  · exact h.settleLoad hset
  · exact h.settleLoad (h.reserveShed hset)

theorem setBand {b : Band} (hband : ∀ {g : Sign}, Q g → Q { g with band := b }) (hs : s.stays n now Q) : (s.setBand n b).stays n now Q := by
  unfold State.setBand
  split
  · exact hs
  · refine h.lapsePointChanged hrelapse hidle ⟨hs.1, ?_⟩
    rw [State.post_sign, State.updSign_eq, State.setSign_sign_same]
    exact hband hs.2

end Steady

/-- A sign that is ABSENT, with its restore need. -/
def Sign.awaits (r : Option Tick) (g : Sign) : Prop := g.service = .absent ∧ g.restoreNeed = r

theorem Sign.awaits_idle {r : Option Tick} {g : Sign} (h : g.awaits r) : g.counted = false ∧ g.service ≠ .held := by
  simp [Sign.counted, h.1]

theorem Sign.relapse_service (g : Sign) : g.relapse.service = g.service ∧ g.relapse.restoreNeed = g.restoreNeed := by
  unfold Sign.relapse Sign.rederive
  split <;> exact ⟨rfl, rfl⟩

theorem Sign.awaits_relapse {r : Option Tick} {g : Sign} (h : g.awaits r) : g.relapse.awaits r := by
  obtain ⟨hservice, hneed⟩ := g.relapse_service
  exact ⟨hservice.trans h.1, hneed.trans h.2⟩

theorem steady_awaits (now : Tick) (r : Option Tick) : Steady now (Sign.awaits r) where
  maySheds h := by simp [Sign.maySheds, (Sign.awaits_idle h).1]
  shed h := by rw [h.1]; decide
  woken h := by
    refine ⟨h.1, ?_⟩
    rw [Sign.woken, if_neg (by rw [h.1]; decide)]
    exact h.2

/-- A sign that cannot be shed and has lapsed, with its restore need. -/
structure Sign.Lapsed (r : Tick) (g : Sign) : Prop where
  service : g.service = .lapsed
  restoreNeed : g.restoreNeed = some r
  confirmed : g.shown.confirmed = false
  sheddable : g.cfg.sheddable = false

theorem steady_lapsed (now r : Tick) : Steady now (Sign.Lapsed r) where
  maySheds h := by simp [Sign.maySheds, h.sheddable]
  shed h := by rw [h.service]; decide
  woken h := by
    refine ⟨h.service, ?_, h.confirmed, h.sheddable⟩
    rw [Sign.woken, if_neg (by rw [h.service]; decide)]
    exact h.restoreNeed

/-- A sign that becomes configured is LAPSED with a restore need. -/
theorem State.configureSign_lapses {s : State} {n : Fin 16} {r : Option Tick} (h : (s.sign n).awaits r) (hs : (s.sign n).cfg.sheddable = false) :
    (s.configureSign n).stays n s.now (Sign.Lapsed (r.getD s.now)) ∧ (s.configureSign n).noted (.sign n) Flag.signService := by
  have key {u : State} (hu : u.stays n s.now (Sign.awaits r)) (hcfg : (u.sign n).cfg.sheddable = false) :
      (u.enterService n .lapsed).stays n s.now (Sign.Lapsed (r.getD s.now)) ∧ (u.enterService n .lapsed).noted (.sign n) Flag.signService := by
    obtain ⟨hnow, hservice, hneed⟩ := hu
    have hserved := State.changeService_served (s := u) (n := n) (v := .lapsed) (by rw [hservice]; decide) (.inl rfl)
    have hlapsed : ((u.sign n).withService u.now .lapsed).Lapsed (r.getD s.now) := by
      constructor <;> simp [Sign.withService, hservice, hneed, hcfg, hnow]
    have hchanged : (u.changeService n .lapsed).stays n s.now (Sign.Lapsed (r.getD s.now)) := by
      refine ⟨(now_of_exceptSigns (u.changeService_exceptSigns n .lapsed)).trans hnow, ?_⟩
      rw [hserved.sign]
      exact hlapsed
    exact ⟨(steady_lapsed _ _).settleCounted hchanged, (recordStable_noted _ _).toStepStable.toRetentionStable.settleCounted hserved.noted⟩
  have hstart : s.stays n s.now (Sign.awaits r) := ⟨rfl, h⟩
  unfold State.configureSign
  split
  · refine key ((steady_awaits _ _).setBand Sign.awaits_relapse Sign.awaits_idle id hstart) ?_
    rw [((retentionStable_sign n (s.sign n)).setBand .rfl).cfg]
    exact hs
  · exact key hstart hs

/-! ### A sign that becomes unconfigured (R117) -/

/-- A sign that is not configured: ABSENT, plan BLANK, no need, and nothing known of what it shows. -/
structure Sign.Cleared (cfg : SignConfig) (free : Prop) (g : Sign) : Prop where
  cfg : g.cfg = cfg
  service : g.service = .absent
  planClass : g.planClass = .blank
  rotation : g.rotation = []
  need : g.need = .none
  shown : g.shown = { page := none, cls := .blank, confirmed := false, fallback := false }
  restoreNeed : free → g.restoreNeed = none

theorem steady_cleared (now : Tick) (cfg : SignConfig) (free : Prop) : Steady now (Sign.Cleared cfg free) where
  maySheds h := by simp [Sign.maySheds, Sign.counted, h.service]
  shed h := by rw [h.service]; decide
  woken {g} h := by
    have hw : g.woken now = { g with holdNeed := none } := by
      unfold Sign.woken
      simp [h.service]
    rw [hw]
    exact ⟨h.cfg, h.service, h.planClass, h.rotation, h.need, h.shown, h.restoreNeed⟩

theorem Sign.Cleared.adopt {cfg : SignConfig} {free : Prop} {g : Sign} {now : Tick} {t : Granularity} (h : g.Cleared cfg free) :
    (g.adopt now t).Cleared cfg free :=
  ⟨h.cfg, h.service, h.planClass, h.rotation, h.need, h.shown, h.restoreNeed⟩

/-- A sign as it is ABSENT, with what a wake leaves of its needs. -/
structure Sign.Absent (cfg : SignConfig) (free : Prop) (g : Sign) : Prop where
  cfg : g.cfg = cfg
  service : g.service = .absent
  restoreNeed : free → g.restoreNeed = none

theorem steady_absent (now : Tick) (cfg : SignConfig) (free : Prop) : Steady now (Sign.Absent cfg free) where
  maySheds h := by simp [Sign.maySheds, Sign.counted, h.service]
  shed h := by rw [h.service]; decide
  woken {g} h := by
    have hw : g.woken now = { g with holdNeed := none } := by
      unfold Sign.woken
      simp [h.service]
    rw [hw]
    exact ⟨h.cfg, h.service, h.restoreNeed⟩

theorem State.enterService_absent (s : State) (n : Fin 16) :
    (s.enterService n .absent).stays n s.now (Sign.Absent (s.sign n).cfg ((s.sign n).service ≠ .absent)) := by
  refine (steady_absent _ _ _).settleCounted ⟨now_of_exceptSigns (s.changeService_exceptSigns n .absent), ?_⟩
  by_cases hs : (s.sign n).service = .absent
  · have hsame : s.changeService n .absent = s := if_pos hs
    rw [hsame]
    exact ⟨rfl, hs, fun hh => absurd hs hh⟩
  · have hset : (s.changeService n .absent).sign n = (s.sign n).withService s.now .absent := by
      rw [State.sign, State.changeService_signs hs (by decide)]
      simp
    rw [hset]
    constructor
    · unfold Sign.withService
      split <;> rfl
    · rfl
    · exact fun _ => rfl

theorem State.unconfigureSign_clears (s : State) (n : Fin 16) :
    (s.unconfigureSign n).stays n s.now (Sign.Cleared (s.sign n).cfg ((s.sign n).service ≠ .absent)) := by
  have habsent := s.enterService_absent n
  rw [State.unconfigureSign_eq]
  generalize s.enterService n .absent = u at *
  obtain ⟨hnow, hsign⟩ := habsent
  refine (steady_cleared _ _ _).retarget Sign.Cleared.adopt ⟨?_, ?_⟩
  · rw [now_of_exceptSigns (State.postIf_exceptSigns ..)]
    exact hnow
  · rw [State.postIf_sign, State.updSign_eq, State.setSign_sign_same]
    exact ⟨hsign.cfg, hsign.service, rfl, rfl, rfl, rfl, hsign.restoreNeed⟩

/-! ### The whole request (R117, R119, R159) -/

/-- A sign with its configuration written and reported. -/
def State.signWritten (s : State) (n : Fin 16) (cfg : SignConfig) : State :=
  (s.setSign n { s.sign n with cfg := cfg }).post (.sign n) Flag.signConfig

/-- A sign with its configuration written, and its lapse point where the holdover is another. -/
def State.signRanged (s : State) (n : Fin 16) (cfg : SignConfig) : State :=
  if (s.sign n).cfg.holdover = cfg.holdover then s.signWritten n cfg else (s.signWritten n cfg).lapsePointChanged n

/-- A sign with its configuration written and its service state following its role. -/
def State.signRoled (s : State) (n : Fin 16) (cfg : SignConfig) : State := (s.signRanged n cfg).followRole n (s.sign n).configured

theorem State.setSignTo_eq (s : State) (n : Fin 16) (cfg : SignConfig) :
    s.setSignTo n cfg = ((s.signRoled n cfg).replanSigns [n]).reserveSettle (lineOf n) := rfl

theorem State.signWritten_sign (s : State) (n : Fin 16) (cfg : SignConfig) (m : Fin 16) :
    (s.signWritten n cfg).sign m = if n = m then { s.sign n with cfg := cfg } else s.sign m := by
  unfold State.signWritten
  rw [State.post_sign, State.setSign_sign]

theorem State.signRanged_sign (s : State) (n : Fin 16) (cfg : SignConfig) (m : Fin 16) :
    (if n = m then { s.sign n with cfg := cfg } else s.sign m).Retains ((s.signRanged n cfg).sign m) := by
  have hstart := s.signWritten_sign n cfg m
  unfold State.signRanged
  generalize s.signWritten n cfg = u at *
  rw [← hstart]
  split
  · exact .rfl
  · exact (retentionStable_sign m (u.sign m)).lapsePointChanged .rfl

theorem State.signRanged_exceptSigns (s : State) (n : Fin 16) (cfg : SignConfig) : (s.signRanged n cfg).exceptSigns = s.exceptSigns := by
  have hstart : (s.signWritten n cfg).exceptSigns = s.exceptSigns := (State.post_exceptSigns ..).trans (State.setSign_exceptSigns ..)
  unfold State.signRanged
  split
  · exact hstart
  · exact (State.lapsePointChanged_exceptSigns ..).trans hstart

/-- An ABSENT sign is ABSENT still when its configuration is written. -/
theorem State.signRanged_awaits {s : State} {n : Fin 16} (h : (s.sign n).service = .absent) (cfg : SignConfig) :
    (s.signRanged n cfg).stays n s.now (Sign.awaits (s.sign n).restoreNeed) := by
  have hstart : (s.signWritten n cfg).stays n s.now (Sign.awaits (s.sign n).restoreNeed) := by
    refine ⟨rfl, ?_⟩
    rw [State.signWritten_sign, if_pos rfl]
    exact ⟨h, rfl⟩
  unfold State.signRanged
  split
  · exact hstart
  · exact (steady_awaits _ _).lapsePointChanged Sign.awaits_relapse Sign.awaits_idle hstart

theorem State.signRoled_exceptSigns (s : State) (n : Fin 16) (cfg : SignConfig) : (s.signRoled n cfg).exceptSigns = s.exceptSigns :=
  (State.followRole_exceptSigns ..).trans (s.signRanged_exceptSigns n cfg)

theorem State.setSignTo_exceptSigns (s : State) (n : Fin 16) (cfg : SignConfig) : (s.setSignTo n cfg).exceptSigns = s.exceptSigns := by
  rw [State.setSignTo_eq, State.reserveSettle_exceptSigns, State.replanSigns_exceptSigns, State.signRoled_exceptSigns]

theorem State.setSignTo_reported (s : State) (n : Fin 16) (cfg : SignConfig) : (s.setSignTo n cfg).reported (.sign n) Flag.signConfig :=
  (recordStable_reported _ _).toDisplayStable.setSignTo_of_written (State.post_reported_of _ _ (by decide))

/-- What a recomputation of the sign's plan and the reserve shed after it leave of each sign. -/
theorem State.setSignTo_retains (s : State) (n : Fin 16) (cfg : SignConfig) (m : Fin 16) :
    (if m = n then (s.signRoled n cfg).replanned n else (s.signRoled n cfg).sign m).Retains ((s.setSignTo n cfg).sign m) := by
  have hplan := State.replanSigns_sign (ns := [n]) (List.nodup_singleton n) (s.signRoled n cfg) m
  rw [State.setSignTo_eq]
  generalize (s.signRoled n cfg).replanSigns [n] = u at *
  have hsettled : (u.sign m).Retains ((u.reserveSettle (lineOf n)).sign m) := (retentionStable_sign m (u.sign m)).reserveSettle .rfl
  simp only [List.mem_singleton] at hplan
  by_cases hm : m = n
  · subst hm
    rw [if_pos rfl] at hplan ⊢
    exact hplan.trans hsettled
  · rw [if_neg hm] at hplan ⊢
    exact hplan.trans hsettled

/-- What SET_SIGN leaves of the other signs. -/
theorem State.setSignTo_other (s : State) {n m : Fin 16} (cfg : SignConfig) (hm : m ≠ n) : (s.sign m).Retains ((s.setSignTo n cfg).sign m) := by
  have hranged := s.signRanged_sign n cfg m
  have hretains := s.setSignTo_retains n cfg m
  rw [if_neg (Ne.symm hm)] at hranged
  rw [if_neg hm] at hretains
  exact (hranged.trans (State.followRole_other _ _ hm)).trans hretains

theorem State.signRanged_cfg (s : State) (n : Fin 16) (cfg : SignConfig) : ((s.signRanged n cfg).sign n).cfg = cfg := by
  have h := (s.signRanged_sign n cfg n).cfg
  rwa [if_pos rfl] at h

/-- A sign with a role keeps its configuration and takes the plan that the pass gives it. -/
theorem State.setSignTo_configured {s : State} {n : Fin 16} {cfg : SignConfig} (h : cfg.role ≠ .none) :
    ((s.setSignTo n cfg).sign n).cfg = cfg ∧ (((s.setSignTo n cfg).sign n).planClass, ((s.setSignTo n cfg).sign n).rotation) =
      s.planOf { s.sign n with cfg := cfg } := by
  have hranged := s.signRanged_cfg n cfg
  have hconfigured : ((s.signRanged n cfg).sign n).configured = true := by simp [Sign.configured, hranged, h]
  have hcfg : ((s.signRoled n cfg).sign n).cfg = cfg := ((State.followRole_retains hconfigured).cfg).trans hranged
  have hretains := s.setSignTo_retains n cfg n
  have hframe := s.signRoled_exceptSigns n cfg
  rw [if_pos rfl] at hretains
  generalize s.signRoled n cfg = u at *
  refine ⟨hretains.cfg.trans ((State.replanned_cfg _ _).trans hcfg), ?_⟩
  rw [hretains.planClass, hretains.rotation, State.replanned_plan (by rw [hcfg]; exact h)]
  exact State.planOf_congr (planInputs_of_exceptSigns hframe) hcfg

theorem Sign.Lapsed.adopt {r : Tick} {g : Sign} {now : Tick} {t : Granularity} (h : g.Lapsed r) : (g.adopt now t).Lapsed r :=
  ⟨h.service, h.restoreNeed, h.confirmed, h.sheddable⟩

theorem Sign.Lapsed.replanned {r : Tick} {s : State} {n : Fin 16} (h : (s.sign n).Lapsed r) : (s.replanned n).Lapsed r := by
  unfold State.replanned
  dsimp only
  split
  · exact h
  · exact ⟨h.service, h.restoreNeed, h.confirmed, h.sheddable⟩

/-- A sign that leaves ABSENT and cannot be shed is LAPSED with a restore need. -/
theorem State.setSignTo_lapses {s : State} {n : Fin 16} {cfg : SignConfig} (h : cfg.role ≠ .none) (hrole : (s.sign n).cfg.role = .none)
    (hservice : (s.sign n).service = .absent) (hshed : cfg.sheddable = false) :
    ((s.setSignTo n cfg).sign n).Lapsed ((s.sign n).restoreNeed.getD s.now) ∧ (s.setSignTo n cfg).reported (.sign n) Flag.signService := by
  have hawaits := State.signRanged_awaits hservice cfg
  have hranged := s.signRanged_cfg n cfg
  have hroled : s.signRoled n cfg = (s.signRanged n cfg).configureSign n := by
    have hwas : (s.sign n).configured = false := by simp [Sign.configured, hrole]
    have hnow : ((s.signRanged n cfg).sign n).configured = true := by simp [Sign.configured, hranged, h]
    unfold State.signRoled State.followRole
    rw [hwas, hnow]
  have hlapses := State.configureSign_lapses hawaits.2 (by rw [hranged]; exact hshed)
  rw [hawaits.1, ← hroled] at hlapses
  obtain ⟨hlapsed, hnoted⟩ := hlapses
  rw [State.setSignTo_eq]
  have hsteady := steady_lapsed s.now ((s.sign n).restoreNeed.getD s.now)
  generalize s.signRoled n cfg = u at *
  refine ⟨(hsteady.reserveSettle (hsteady.replanSigns Sign.Lapsed.adopt (List.nodup_singleton n) Sign.Lapsed.replanned hlapsed)).2, ?_⟩
  have hplan := (recordStable_reported (.sign n) Flag.signService).toStepStable.toPlanStable
  exact hplan.toRetentionStable.reserveSettle (hplan.replanSigns hnoted.reported)

theorem Sign.Cleared.replanned {cfg : SignConfig} {free : Prop} {s : State} {n : Fin 16} (hrole : cfg.role = .none)
    (h : (s.sign n).Cleared cfg free) : (s.replanned n).Cleared cfg free := by
  rw [State.replanned_unconfigured (by rw [h.cfg, hrole])]
  exact h

/-- A sign without a role any more is cleared. -/
theorem State.setSignTo_clears {s : State} {n : Fin 16} {cfg : SignConfig} (h : cfg.role = .none) (hrole : (s.sign n).cfg.role ≠ .none)
    (hholdover : cfg.holdover = (s.sign n).cfg.holdover) : ((s.setSignTo n cfg).sign n).Cleared cfg ((s.sign n).service ≠ .absent) := by
  have hranged := s.signRanged_cfg n cfg
  have hsame : s.signRanged n cfg = s.signWritten n cfg := if_pos hholdover.symm
  have hservice : ((s.signRanged n cfg).sign n).service = (s.sign n).service := by
    rw [hsame, State.signWritten_sign, if_pos rfl]
  have hroled : s.signRoled n cfg = (s.signRanged n cfg).unconfigureSign n := by
    have hwas : (s.sign n).configured = true := by simp [Sign.configured, hrole]
    have hnow : ((s.signRanged n cfg).sign n).configured = false := by simp [Sign.configured, hranged, h]
    unfold State.signRoled State.followRole
    rw [hwas, hnow]
  have hclears := (s.signRanged n cfg).unconfigureSign_clears n
  rw [hranged, hservice, ← hroled] at hclears
  rw [State.setSignTo_eq]
  have hsteady := steady_cleared (s.signRanged n cfg).now cfg ((s.sign n).service ≠ .absent)
  generalize s.signRoled n cfg = u at *
  exact (hsteady.reserveSettle (hsteady.replanSigns Sign.Cleared.adopt (List.nodup_singleton n) (Sign.Cleared.replanned h) hclears)).2

/-- The configuration that SET_SIGN leaves, whatever the role before and after it. -/
theorem State.setSignTo_cfg {s : State} {n : Fin 16} {cfg : SignConfig} (hholdover : cfg.role = .none → cfg.holdover = (s.sign n).cfg.holdover) :
    ((s.setSignTo n cfg).sign n).cfg = cfg := by
  by_cases h : cfg.role = .none
  · by_cases hrole : (s.sign n).cfg.role = .none
    · have hranged := s.signRanged_cfg n cfg
      have hroled : s.signRoled n cfg = s.signRanged n cfg := by
        have hwas : (s.sign n).configured = false := by simp [Sign.configured, hrole]
        have hnow : ((s.signRanged n cfg).sign n).configured = false := by simp [Sign.configured, hranged, h]
        unfold State.signRoled State.followRole
        rw [hwas, hnow]
      have hretains := s.setSignTo_retains n cfg n
      rw [if_pos rfl, hroled] at hretains
      exact hretains.cfg.trans ((State.replanned_cfg _ _).trans hranged)
    · exact (State.setSignTo_clears h hrole (hholdover h)).cfg
  · exact (State.setSignTo_configured h).1

/-- Settles O45: the configuration is written field by field; the service state follows the role, and the plan the configuration. -/
theorem setSignApplies : Obligations.SetSignApplies := by
  unfold Obligations.SetSignApplies
  intro tag sign role segments path sheddable dwell holdover s h command badSegments bad
  constructor
  · intro hbad
    refine exec_refused (k := .setSign) rfl h ?_
    change s.applySetSign sign role segments path holdover sheddable dwell = _
    unfold State.applySetSign
    rcases hbad with hsign | hbad
    · rw [indexOf_of_ge hsign]
    · split
      · rfl
      · rw [signConfigOf_out _ hbad]
  · intro hgood n hn g
    have hrole : role.toNat < 4 := by
      by_contra hr
      exact hgood (.inr (.inl (by omega)))
    obtain ⟨cfg, hcfg, hset⟩ := signConfigOf_in g.cfg (role := role) (segments := segments) (path := path) (sheddable := sheddable)
      (dwell := dwell) (holdover := holdover) hrole (fun hr hs => hgood (.inr (.inr (.inl ⟨hr, hs⟩))))
      (fun hr => by by_contra hp; exact hgood (.inr (.inr (.inr (.inl ⟨hr, by omega⟩)))))
      (fun hr => by by_contra hb; exact hgood (.inr (.inr (.inr (.inr ⟨hr, by omega⟩)))))
    have hexec := exec_concluded (c := command) (k := .setSign)
      (d := u8 n.val ++ u8 cfg.role.code ++ u16 cfg.holdover ++ u8 cfg.dwell ++ u8 (if cfg.sheddable then 1 else 0))
      (t := s.setSignTo n cfg) rfl h (by
        change s.applySetSign sign role segments path holdover sheddable dwell = _
        unfold State.applySetSign
        rw [indexOf_of_toNat hn]
        dsimp only
        rw [hcfg]
        rfl)
    have hnone : role = 0 ↔ cfg.role = .none := by
      rw [hset.role]
      split
      · next h0 => simp [h0]
      · next h0 =>
        refine ⟨fun hc => absurd hc h0, fun hc => ?_⟩
        split at hc
        · cases hc
        · split at hc <;> cases hc
    have hholdover (hr : cfg.role = .none) : cfg.holdover = (s.sign n).cfg.holdover := by
      rw [hset.holdover, if_pos (hnone.2 hr)]
    have hfinal := State.setSignTo_cfg hholdover
    have hconfig := s.setSignTo_reported n cfg
    have hframe := s.setSignTo_exceptSigns n cfg
    have hplan := State.setSignTo_configured (s := s) (n := n) (cfg := cfg)
    have hlapses := State.setSignTo_lapses (s := s) (n := n) (cfg := cfg)
    have hclears := State.setSignTo_clears (s := s) (n := n) (cfg := cfg)
    have hother {m : Fin 16} (hm : m ≠ n) := s.setSignTo_other cfg hm
    have hnext : exec command s = .next (State.conclude s ((s.setSignTo n cfg).answered 0x31 tag .ok
      (u8 n.val ++ u8 cfg.role.code ++ u16 cfg.holdover ++ u8 cfg.dwell ++ u8 (if cfg.sheddable then 1 else 0)))) := hexec
    clear hexec
    generalize s.setSignTo n cfg = v at *
    refine ⟨_, cfg, hnext, ?_⟩
    simp only [sign_of_conclude]
    refine ⟨hfinal, hset.condition, hset.role, hset.segments, hset.path, hset.holdover, hset.dwell, hset.sheddable,
      State.reported_concluded hconfig .., fun hr => (hplan fun hc => hr (hnone.2 hc)).2, fun hr hwas hs hshed => ?_, fun hr hwas => ?_,
      fun m hm => ?_, ?_⟩
    · obtain ⟨hlapsed, hreported⟩ := hlapses (fun hc => hr (hnone.2 hc)) hwas hs hshed
      exact ⟨hlapsed.service, hlapsed.restoreNeed, hlapsed.confirmed, State.reported_concluded hreported ..⟩
    · have hc := hclears (hnone.1 hr) hwas (hholdover (hnone.1 hr))
      exact ⟨hc.service, hc.planClass, hc.rotation, hc.need, hc.restoreNeed, hc.shown⟩
    · have ho := hother hm
      exact ⟨ho.cfg, ho.planClass, by rw [ho.shown]⟩
    · rw [State.conclude_exceptOutputs]
      exact State.answered_exceptOutputs (exceptOutputs_of_exceptSigns hframe) ..

end Sys2Proof.Machine
end

section
/-! PROOF. What a sign's timers bring on: rotation, polls, refreshes, the critical age and the lapse (R123, R139, R150, R157 to R160). -/

namespace Sys2Proof.Machine

/-! ### A need raised for a sign (R141, R167) -/

/-- What a need written for one sign of a line leaves, once it has woken the line and had it arbitrate. -/
structure State.NeedRaised (s t : State) (n : Fin 16) (g : Sign) (cause : Nat) : Prop where
  signs : ¬(s.line (lineOf n)).holds → t.signs = s.signs.set n g
  sign : (s.line (lineOf n)).holds → t.sign n = { g with holdNeed := none }
  wakes : (s.line (lineOf n)).holds → (t.line (lineOf n)).wakeCause = cause ∧ t.reported (.line (lineOf n)) Flag.lineWake
  unchanged : ∀ m : Fin 16, (t.sign m).cfg = (s.sign m).cfg ∧ (t.sign m).shown = (s.sign m).shown ∧ (t.sign m).service = (s.sign m).service
  frame : t.exceptSigns = s.exceptSigns

theorem State.setSign_needRaised {s : State} {n : Fin 16} {g : Sign} (cause : Nat) (hheld : g.service ≠ .held)
    (hkeep : g.cfg = (s.sign n).cfg ∧ g.shown = (s.sign n).shown ∧ g.service = (s.sign n).service) :
    s.NeedRaised (((s.setSign n g).wake (lineOf n) cause).askArbitration (lineOf n)) n g cause := by
  have hset (m : Fin 16) : (s.setSign n g).sign m = if n = m then g else s.sign m := State.setSign_sign ..
  have hsame (m : Fin 16) : ((s.setSign n g).sign m).cfg = (s.sign m).cfg ∧ ((s.setSign n g).sign m).shown = (s.sign m).shown ∧
      ((s.setSign n g).sign m).service = (s.sign m).service := by
    rw [hset]
    split
    · next hm => subst hm; exact hkeep
    · exact ⟨rfl, rfl, rfl⟩
  have hframe : (((s.setSign n g).wake (lineOf n) cause).askArbitration (lineOf n)).exceptSigns = s.exceptSigns := by simp
  have hhere : n.val / 8 = (lineOf n).val := rfl
  by_cases hholds : (s.line (lineOf n)).holds
  · have hw := State.wake_woken (s := s.setSign n g) (l := lineOf n) hholds cause
    generalize (s.setSign n g).wake (lineOf n) cause = u at *
    refine ⟨fun hn => absurd hholds hn, fun _ => ?_, fun _ => ⟨?_, hw.wakes⟩, fun m => ?_, hframe⟩
    · change u.sign n = _
      rw [hw.sign, if_pos hhere, hset, if_pos rfl, Sign.woken, if_neg hheld]
    · rw [State.askArbitration, State.updLine_eq, State.setLine_line_same, hw.line]
    · obtain ⟨h1, h2, h3⟩ := hw.unchanged m
      obtain ⟨k1, k2, k3⟩ := hsame m
      exact ⟨h1.trans k1, h2.trans k2, h3.trans k3⟩
  · have hrest : (s.setSign n g).wake (lineOf n) cause = s.setSign n g :=
      State.wake_of_rests (s := s.setSign n g) hholds cause
    rw [hrest] at hframe ⊢
    have hsigns : (s.setSign n g).signs = s.signs.set n g := rfl
    generalize s.setSign n g = u at *
    exact ⟨fun _ => (u.askArbitration_signs _).trans hsigns, fun hh => absurd hh hholds, fun hh => absurd hh hholds,
      fun m => by rw [State.askArbitration_sign]; exact hsame m, hframe⟩

/-- A change of one sign that keeps its configuration, its service and what it shows, with the end of its step. -/
theorem State.conclude_frame {a t : State} {d : Due} (hsign : ∀ m : Fin 16, (t.sign m).cfg = (a.sign m).cfg ∧
    (t.sign m).shown = (a.sign m).shown ∧ (t.sign m).service = (a.sign m).service)
    (hframe : t.exceptSigns = ({ a with due := a.due.erase d } : State).exceptSigns) :
    { (State.conclude a t).exceptSigns with lib := a.lib, due := a.due.erase d } = { a.exceptSigns with due := a.due.erase d } ∧
      (State.conclude a t).due = a.due.erase d := by
  have hrest := exceptSigns_concluded (State.conclude_exceptSigns hsign) hframe
  generalize State.conclude a t = u at *
  have hdue : u.due = a.due.erase d := (congrArg State.due hrest :)
  refine ⟨?_, hdue⟩
  have h := congrArg (fun x : State => { x with due := a.due.erase d }) hrest
  exact h

/-- What an event that raises a need for one sign leaves at the end of its step. -/
theorem State.runEvent_raised {s : State} {d : Due} {n : Fin 16} {g : Sign} {cause : Nat} (hd : d ∈ s.due) (hc : d.isChannel = false)
    (hs : d ≠ .sampling) (hheld : g.service ≠ .held)
    (hkeep : g.cfg = (s.sign n).cfg ∧ g.shown = (s.sign n).shown ∧ g.service = (s.sign n).service)
    (happly : State.applyDue { s with due := s.due.erase d } d =
      ((State.setSign { s with due := s.due.erase d } n g).wake (lineOf n) cause).askArbitration (lineOf n)) :
    ({ (s.runEvent d).exceptSigns with lib := s.lib, due := s.due.erase d } = { s.exceptSigns with due := s.due.erase d } ∧
      (s.runEvent d).due = s.due.erase d) ∧
    (¬(s.line (lineOf n)).holds → (s.runEvent d).signs = s.signs.set n g) ∧
    ((s.line (lineOf n)).holds → (s.runEvent d).sign n = { g with holdNeed := none } ∧
      ((s.runEvent d).line (lineOf n)).wakeCause = cause ∧ (s.runEvent d).reported (.line (lineOf n)) Flag.lineWake) := by
  have hraised := State.setSign_needRaised (s := { s with due := s.due.erase d }) (n := n) (g := g) cause hheld hkeep
  rw [State.runEvent_concluded hd hc hs, happly]
  generalize ((State.setSign { s with due := s.due.erase d } n g).wake (lineOf n) cause).askArbitration (lineOf n) = v at *
  have hframe := State.conclude_frame (a := s) hraised.unchanged hraised.frame
  have hsigns := State.conclude_signs s v
  have hsign : (State.conclude s v).sign n = v.sign n := by rw [State.sign, hsigns, State.sign]
  have hline : ((State.conclude s v).line (lineOf n)).wakeCause = (v.line (lineOf n)).wakeCause := by rw [State.conclude_line s v (lineOf n)]
  have hkeeps : v.reported (.line (lineOf n)) Flag.lineWake → (State.conclude s v).reported (.line (lineOf n)) Flag.lineWake :=
    (recordStable_reported _ _).toStepStable.conclude
  generalize State.conclude s v = t at *
  refine ⟨hframe, fun hh => hsigns.trans (hraised.signs hh), fun hh => ?_⟩
  obtain ⟨hcause, hwake⟩ := hraised.wakes hh
  exact ⟨hsign.trans (hraised.sign hh), hline.trans hcause, hkeeps hwake⟩

/-- What an event that writes one sign and has its line arbitrate, or not, leaves at the end of its step. -/
theorem State.runEvent_written {s : State} {d : Due} {n : Fin 16} {g : Sign} (hd : d ∈ s.due) (hc : d.isChannel = false)
    (hs : d ≠ .sampling) (hkeep : g.cfg = (s.sign n).cfg ∧ g.shown = (s.sign n).shown ∧ g.service = (s.sign n).service)
    (hsigns : (State.applyDue { s with due := s.due.erase d } d).signs = s.signs.set n g)
    (hframe : (State.applyDue { s with due := s.due.erase d } d).exceptSigns = ({ s with due := s.due.erase d } : State).exceptSigns) :
    ({ (s.runEvent d).exceptSigns with lib := s.lib, due := s.due.erase d } = { s.exceptSigns with due := s.due.erase d } ∧
      (s.runEvent d).due = s.due.erase d) ∧ (s.runEvent d).signs = s.signs.set n g := by
  rw [State.runEvent_concluded hd hc hs]
  generalize State.applyDue { s with due := s.due.erase d } d = v at *
  refine ⟨State.conclude_frame (a := s) (fun m => ?_) hframe, (State.conclude_signs s v).trans hsigns⟩
  have hsign : v.sign m = if n = m then g else s.sign m := by
    rw [State.sign, hsigns]
    exact State.setSign_sign s n g m
  rw [hsign]
  split
  · next hm => subst hm; exact hkeep
  · exact ⟨rfl, rfl, rfl⟩

theorem exec_rotationStep (n : Fin 16) (s : State) : exec (.rotationStep n) s = .next (s.runEvent (.rotation n)) := rfl
theorem exec_pollDue (n : Fin 16) (s : State) : exec (.pollDue n) s = .next (s.runEvent (.poll n)) := rfl
theorem exec_refreshDue (n : Fin 16) (s : State) : exec (.refreshDue n) s = .next (s.runEvent (.refresh n)) := rfl
theorem exec_signLapsed (n : Fin 16) (s : State) : exec (.signLapsed n) s = .next (s.runEvent (.lapsed n)) := rfl
theorem exec_criticalPoint (n : Fin 16) (s : State) : exec (.criticalPoint n) s = .next (s.runEvent (.critical n)) := rfl

theorem Sign.counted_of {g : Sign} (h : g.service = .showing ∨ g.service = .lapsed) : g.counted = true := (Sign.counted_iff g).2 h

theorem Sign.not_held_of {g : Sign} (h : g.service = .showing ∨ g.service = .lapsed) : g.service ≠ .held := by
  rcases h with h | h <;> rw [h] <;> decide

theorem State.rotationStep_raises {s : State} {n : Fin 16} (hs : (s.sign n).service = .showing ∨ (s.sign n).service = .lapsed)
    (hpages : 1 < (s.sign n).rotation.length) (hdwell : (s.sign n).cfg.dwell ≤ (s.sign n).dwellCount) :
    s.rotationStep n = ((s.setSign n (Sign.stepRotation s.now (s.sign n))).wake (lineOf n) 2).askArbitration (lineOf n) :=
  if_pos (by simp [Sign.rotates, Sign.counted_of hs, hpages, hdwell])

theorem State.checkCritical_raises {s : State} {n : Fin 16} (hs : (s.sign n).service = .showing ∨ (s.sign n).service = .lapsed)
    (hneed : (s.sign n).restoreNeed = none) (hage : (s.sign n).critical ≤ (s.sign n).ages.oldest) :
    s.checkCritical n = ((s.setSign n { s.sign n with restoreNeed := some s.now }).wake (lineOf n) 3).askArbitration (lineOf n) := by
  have hcritical : s.checkCritical n = s.raiseRestore n := if_pos ⟨Sign.counted_of hs, hage⟩
  rw [hcritical]
  exact if_neg (by simp [hneed])

theorem State.pollDue_raises {s : State} {n : Fin 16} (hneed : (s.sign n).pollNeed = none)
    (hcount : ((s.sign n).service = .blank ∨ (s.sign n).service = .shed) ∧ 480 ≤ (s.sign n).pollCount ∨
      (s.sign n).service = .offline ∧ 80 ≤ (s.sign n).pollCount) :
    s.pollDue n = (s.setSign n { s.sign n with pollNeed := some s.now }).askArbitration (lineOf n) := by
  refine if_pos ?_
  rcases hcount with ⟨h | h, hc⟩ | ⟨h, hc⟩ <;> simp [Sign.pollFalls, Service.pollInterval, h, hc, hneed]

theorem State.refreshDue_falls {s : State} {n : Fin 16} (hs : (s.sign n).service = .showing ∨ (s.sign n).service = .lapsed)
    (htimer : (s.sign n).slotTimer = 0) : (s.refreshDue n).signs = s.signs.set n (Sign.refreshFalls s.now (s.sign n)) ∧
      (s.refreshDue n).exceptSigns = s.exceptSigns := by
  have hset : s.refreshDue n = if (s.sign n).owed = 0 ∧ ((s.updSign n (Sign.refreshFalls s.now)).sign n).owed ≠ 0
      then (s.updSign n (Sign.refreshFalls s.now)).askArbitration (lineOf n) else s.updSign n (Sign.refreshFalls s.now) :=
    if_pos ⟨Sign.counted_of hs, htimer⟩
  rw [hset]
  split
  · exact ⟨State.askArbitration_signs .., by simp⟩
  · exact ⟨rfl, by simp⟩

/-! ### SIGN_LAPSED (R138, R150, R156 to R159) -/

/-- A sign whose slot timer is lowered by one, with the refresh that then falls due. -/
def Sign.slotLowered (now : Tick) (g : Sign) : Sign :=
  if g.slotTimer - 1 = 0 then Sign.refreshFalls now { g with slotTimer := g.slotTimer - 1 } else { g with slotTimer := g.slotTimer - 1 }

/-- A sign as it lapses: one that was HELD has its slot timer lowered. -/
def Sign.lapsing (now : Tick) (g : Sign) : Sign :=
  if g.service = .held then (g.withService now .lapsed).slotLowered now else g.withService now .lapsed

theorem Sign.slotLowered_keeps (now : Tick) (g : Sign) : g.Keeps (g.slotLowered now) ∧ (g.slotLowered now).service = g.service ∧
    (g.slotLowered now).restoreNeed = g.restoreNeed ∧ (g.slotLowered now).holdNeed = g.holdNeed ∧ (g.slotLowered now).shown = g.shown ∧
    (g.slotLowered now).lapsePoint = g.lapsePoint ∧ (g.slotLowered now).ages = g.ages ∧ (g.slotLowered now).slotPeriod = g.slotPeriod := by
  unfold Sign.slotLowered Sign.refreshFalls
  split
  · split <;> exact ⟨Sign.keeps_of_eq (by simp) rfl rfl id, rfl, rfl, rfl, rfl, rfl, rfl, rfl⟩
  · exact ⟨Sign.keeps_of_eq (by simp) rfl rfl id, rfl, rfl, rfl, rfl, rfl, rfl, rfl⟩

theorem Sign.withService_lapsed (now : Tick) (g : Sign) : (g.withService now .lapsed).service = .lapsed ∧
    (g.withService now .lapsed).restoreNeed = some (g.restoreNeed.getD now) ∧ (g.withService now .lapsed).holdNeed = none ∧
    (g.withService now .lapsed).shown = { g.shown with confirmed := false } ∧
    (g.withService now .lapsed).ages = Ages.all (g.withService now .lapsed).lapsePoint := by
  by_cases h : g.service = .held <;> simp [Sign.withService, h, Sign.derive]

/-- A sign that lapses: its service, its restore need, its ages and what it shows. -/
theorem Sign.lapsing_record (now : Tick) (g : Sign) : g.Keeps (g.lapsing now) ∧ (g.lapsing now).service = .lapsed ∧
    (g.lapsing now).restoreNeed = some (g.restoreNeed.getD now) ∧ (g.lapsing now).holdNeed = none ∧
    (g.lapsing now).shown = { g.shown with confirmed := false } ∧ (g.lapsing now).ages = Ages.all (g.lapsing now).lapsePoint := by
  have hkeeps := Sign.withService_keeps now .lapsed g (.inl rfl)
  obtain ⟨hservice, hneed, hhold, hshown, hages⟩ := Sign.withService_lapsed now g
  unfold Sign.lapsing
  split
  · obtain ⟨k1, k2, k3, k4, k5, k6, k7, -⟩ := Sign.slotLowered_keeps now (g.withService now .lapsed)
    exact ⟨hkeeps.trans k1, k2.trans hservice, k3.trans hneed, k4.trans hhold, k5.trans hshown, by rw [k7, k6, hages]⟩
  · exact ⟨hkeeps, hservice, hneed, hhold, hshown, hages⟩

theorem State.lowerSlot_signs {s : State} {n : Fin 16} (h : (s.sign n).service = .lapsed) :
    (s.lowerSlot n).sign n = (s.sign n).slotLowered s.now ∧ (s.lowerSlot n).exceptSigns = s.exceptSigns := by
  have hset : (s.updSign n fun g => { g with slotTimer := g.slotTimer - 1 }).sign n = { s.sign n with slotTimer := (s.sign n).slotTimer - 1 } := by
    rw [State.updSign_eq, State.setSign_sign_same]
  have hframe : (s.updSign n fun g => { g with slotTimer := g.slotTimer - 1 }).exceptSigns = s.exceptSigns := by simp
  have hnow : (s.updSign n fun g => { g with slotTimer := g.slotTimer - 1 }).now = s.now := rfl
  unfold State.lowerSlot
  generalize s.updSign n (fun g => { g with slotTimer := g.slotTimer - 1 }) = u at *
  have hlapsed : (u.sign n).service = .lapsed := by rw [hset]; exact h
  have hlow : Sign.slotLowered s.now (s.sign n) = if (u.sign n).slotTimer = 0 then Sign.refreshFalls u.now (u.sign n) else u.sign n := by
    rw [hset, hnow]
    rfl
  rw [hlow]
  by_cases ht : (u.sign n).slotTimer = 0
  · obtain ⟨hsigns, hf⟩ := State.refreshDue_falls (.inr hlapsed) ht
    rw [if_pos ht]
    refine ⟨?_, hf.trans hframe⟩
    rw [State.sign, hsigns]
    exact State.setSign_sign_same ..
  · have hsame : u.refreshDue n = u := if_neg fun hc => ht hc.2
    rw [hsame, if_neg ht]
    exact ⟨rfl, hframe⟩

/-- What a lapse leaves before the load is settled. -/
structure State.Lapsing (s u : State) (n : Fin 16) : Prop where
  sign : u.sign n = (s.sign n).lapsing s.now
  noted : u.noted (.sign n) (Flag.signLapsed ||| Flag.signService)
  frame : u.exceptSigns = s.exceptSigns

theorem State.signLapses_lapsing {s : State} {n : Fin 16} (hs : (s.sign n).service = .showing ∨ (s.sign n).service = .held)
    (hage : (s.sign n).lapsePoint ≤ (s.sign n).ages.oldest) :
    ∃ u, s.Lapsing u n ∧ s.signLapses n = u.settleCounted n (s.sign n) := by
  have hne : (s.sign n).service ≠ .lapsed := by rcases hs with h | h <;> rw [h] <;> decide
  have hserved := State.changeService_served hne (.inl rfl)
  have hcheck : s.checkLapse n = (s.changeService n .lapsed).post (.sign n) Flag.signLapsed := if_pos ⟨hs, hage⟩
  have hnoted := (hserved.noted.post Flag.signLapsed).of_flags (f := Flag.signLapsed ||| Flag.signService) (by decide)
  have hframe : (s.checkLapse n).exceptSigns = s.exceptSigns := State.checkLapse_exceptSigns ..
  have hsign : (s.checkLapse n).sign n = (s.sign n).withService s.now .lapsed := by
    rw [hcheck, State.post_sign, hserved.sign]
  rw [← hcheck] at hnoted
  unfold State.signLapses
  dsimp only
  generalize s.checkLapse n = w at *
  have hlapsed : (w.sign n).service = .lapsed := by
    rw [hsign]
    exact (Sign.withService_lapsed _ _).1
  obtain ⟨hlow, hlowframe⟩ := State.lowerSlot_signs hlapsed
  have hlownoted := (recordStable_noted (.sign n) (Flag.signLapsed ||| Flag.signService)).toStepStable.toRetentionStable.lowerSlot (n := n) hnoted
  have hnow := now_of_exceptSigns hframe
  refine ⟨_, ?_, rfl⟩
  by_cases hheld : (s.sign n).service = .held
  · rw [if_pos ⟨hheld, hlapsed⟩]
    refine ⟨?_, hlownoted, hlowframe.trans hframe⟩
    rw [hlow, hsign, hnow]
    exact (if_pos hheld).symm
  · rw [if_neg fun hc => hheld hc.1]
    refine ⟨?_, hnoted, hframe⟩
    rw [hsign]
    exact (if_neg hheld).symm

/-! ### A sign through the reserve shed and the settling of the load (R156 to R159) -/

/-- A sign that a wake of its line leaves as it is. -/
def Sign.released (now : Tick) (g : Sign) : Prop := g.woken now = g

theorem Sign.Wakes.of_released {now : Tick} {a b : Sign} (h : a.Wakes now b) (ha : a.released now) : b = a := h.elim id fun hb => hb.trans ha

theorem Sign.withService_shed_released (now : Tick) (g : Sign) : (g.withService now .shed).released now :=
  Sign.woken_of_released (by simp [Sign.withService]) (by simp [Sign.withService])

theorem steady_eq {now : Tick} {a : Sign} (ha : a.released now) (hmay : a.maySheds = false) (hshed : a.service ≠ .shed) :
    Steady now (fun g => g = a) where
  maySheds h := by rw [h]; exact hmay
  shed h := by rw [h]; exact hshed
  woken h := by rw [h]; exact ha

/-- The reserve shed takes a sign of the line, or leaves it. -/
theorem State.reserveShed_takes {s : State} {n : Fin 16} (ha : (s.sign n).released s.now) :
    (s.reserveSheds n = true → ((s.reserveShed (lineOf n)).sign n = (s.sign n).withService s.now .shed) ∧
      (s.reserveShed (lineOf n)).noted (.sign n) (Flag.signService ||| Flag.signShed)) ∧
    (s.reserveSheds n = false → (s.reserveShed (lineOf n)).sign n = s.sign n) := by
  have hother {t : State} {m : Fin 16} {g : Sign} (hm : m ≠ n) (hg : g.released s.now) (ht : t.sign n = g ∧ t.now = s.now ∧ t.inReserve = s.inReserve) :
      (t.reserveShedOne m).sign n = g ∧ (t.reserveShedOne m).now = s.now ∧ (t.reserveShedOne m).inReserve = s.inReserve := by
    obtain ⟨hsign, hnow, hres⟩ := ht
    unfold State.reserveShedOne
    split
    · next hmay =>
      obtain ⟨hserved, -⟩ := State.shedSign_served (State.maySheds_of_reserveSheds hmay)
      have hframe := t.shedSign_exceptSigns m
      have hwakes := hserved.others n (Ne.symm hm)
      rw [hsign, hnow] at hwakes
      exact ⟨hwakes.of_released hg, (now_of_exceptSigns hframe).trans hnow, (inReserve_of_exceptSigns hframe).trans hres⟩
    · exact ⟨hsign, hnow, hres⟩
  have hsame {t : State} (ht : t.sign n = s.sign n ∧ t.now = s.now ∧ t.inReserve = s.inReserve) : t.reserveSheds n = s.reserveSheds n := by
    rw [State.reserveSheds, ht.1, ht.2.2]
    rfl
  have hstable := (recordStable_noted (.sign n) (Flag.signService ||| Flag.signShed)).toStepStable.toRetentionStable
  constructor
  · intro hr
    have h := foldl_establishes (f := State.reserveShedOne) (n := n) (l := (signsOf (lineOf n)).reverse)
      (Q := fun t => t.sign n = s.sign n ∧ t.now = s.now ∧ t.inReserve = s.inReserve)
      (P := fun t => (t.sign n = (s.sign n).withService s.now .shed ∧ t.now = s.now ∧ t.inReserve = s.inReserve) ∧
        t.noted (.sign n) (Flag.signService ||| Flag.signShed))
      (List.nodup_reverse.2 (signsOf_nodup _)) (List.mem_reverse.2 ((mem_signsOf _ n).2 rfl))
      (fun t m hm ht => hother hm ha ht)
      (fun t ht => ?_) (fun t m hm ht => ⟨hother hm (Sign.withService_shed_released ..) ht.1, hstable.reserveShedOne ht.2⟩) (s := s) ⟨rfl, rfl, rfl⟩
    · exact ⟨h.1.1, h.2⟩
    · have hmay : t.reserveSheds n = true := (hsame ht).trans hr
      have hone : t.reserveShedOne n = t.shedSign n := if_pos hmay
      obtain ⟨hserved, hnoted⟩ := State.shedSign_served (State.maySheds_of_reserveSheds hmay)
      have hframe := t.shedSign_exceptSigns n
      rw [hone]
      refine ⟨⟨?_, (now_of_exceptSigns hframe).trans ht.2.1, (inReserve_of_exceptSigns hframe).trans ht.2.2⟩, hnoted⟩
      rw [hserved.sign, ht.1, ht.2.1]
  · intro hr
    refine (foldl_keeps (P := fun t => t.sign n = s.sign n ∧ t.now = s.now ∧ t.inReserve = s.inReserve) (f := State.reserveShedOne)
      (fun t m ht => ?_) _ ⟨rfl, rfl, rfl⟩).1
    by_cases hm : m = n
    · subst hm
      have hone : t.reserveShedOne m = t := if_neg (by rw [hsame ht, hr]; decide)
      rw [hone]
      exact ht
    · exact hother hm ha ht

/-- What the reserve shed and a settling of the load leave of a sign that was not SHED. -/
theorem State.shedSettle_sign {s t : State} {n : Fin 16} (ha : (s.sign n).released s.now) (hshed : (s.sign n).service ≠ .shed)
    (ht : t = (s.reserveShed (lineOf n)).settleLoad (lineOf n)) : (t.sign n = s.sign n ∧ s.reserveSheds n = false) ∨ (t.sign n = (s.sign n).withService s.now .shed ∧ (s.sign n).maySheds = true ∧
      t.noted (.sign n) (Flag.signService ||| Flag.signShed)) := by
  obtain ⟨htaken, hleft⟩ := State.reserveShed_takes ha
  have hfree {m : Fin 16} (hm : m.val / 8 = (lineOf n).val) := s.reserveShed_free (lineOf n) hm
  have hframe := s.reserveShed_exceptSigns (lineOf n)
  have hstable := (recordStable_noted (.sign n) (Flag.signService ||| Flag.signShed)).toStepStable.toRetentionStable
  generalize s.reserveShed (lineOf n) = v at *
  have hnow : v.now = s.now := now_of_exceptSigns hframe
  have hres : v.inReserve = s.inReserve := inReserve_of_exceptSigns hframe
  obtain ⟨c, d, h, -⟩ := State.settleLoad_settles (s := v) (l := lineOf n) fun m hm => hfree hm
  have hkeeps := hstable.settleLoad (s := v) (l := lineOf n)
  rw [← ht] at h hkeeps
  cases hr : s.reserveSheds n with
  | true =>
    obtain ⟨hsign, hnoted⟩ := htaken hr
    have hmay := State.maySheds_of_reserveSheds hr
    have hservice : (v.sign n).service = .shed := by rw [hsign]; simp [Sign.withService]
    have hcut : ¬v.cut (lineOf n) c n := fun hc => by
      have := hc.2.1
      rw [Sign.maySheds_of_shed hservice] at this
      cases this
    have hlift : ¬v.lift (lineOf n) d n := by
      intro hl
      have hm := hl.2.1
      have hcfg : (v.sign n).cfg = (s.sign n).cfg ∧ (v.sign n).planClass = (s.sign n).planClass := by
        rw [hsign]
        simp [Sign.withService, (Sign.service_of_maySheds hmay).2]
      simp only [State.reserveSheds, Bool.and_eq_true, beq_iff_eq] at hr
      obtain ⟨⟨⟨hr1, hr2⟩, hr3⟩, hr4⟩ := hr
      rw [State.mayBeRestored_eq] at hm
      simp [State.heldShed, hcfg.1, hcfg.2, hres, hr1, hr3, hr4] at hm
    refine .inr ⟨?_, hmay, hkeeps hnoted⟩
    refine ((h.rest n hcut hlift).of_released ?_).trans hsign
    rw [hsign, hnow]
    exact Sign.withService_shed_released ..
  | false =>
    have hsign := hleft hr
    by_cases hcut : v.cut (lineOf n) c n
    · refine .inr ⟨?_, ?_, h.noted n (.inl hcut)⟩
      · rw [h.taken n hcut, hsign, hnow]
      · rw [← hsign]
        exact hcut.2.1
    · have hlift : ¬v.lift (lineOf n) d n := fun hl => hshed (hsign ▸ State.service_of_mayBeRestored hl.2.1)
      refine .inl ⟨((h.rest n hcut hlift).of_released ?_).trans hsign, rfl⟩
      rw [hsign, hnow]
      exact ha

/-- A lapse to its end: the sign is LAPSED, or SHED where shedding takes it. -/
theorem State.signLapses_takes {s : State} {n : Fin 16} (hs : (s.sign n).service = .showing ∨ (s.sign n).service = .held)
    (hage : (s.sign n).lapsePoint ≤ (s.sign n).ages.oldest) :
    (s.signLapses n).exceptSigns = s.exceptSigns ∧ (s.signLapses n).reported (.sign n) (Flag.signLapsed ||| Flag.signService) ∧
      (((s.signLapses n).sign n = (s.sign n).lapsing s.now ∧
          ¬(s.inReserve = true ∧ (s.sign n).cfg.sheddable = true ∧ (s.sign n).planClass = .condition)) ∨
        ((s.signLapses n).sign n = ((s.sign n).lapsing s.now).withService s.now .shed ∧ ((s.sign n).lapsing s.now).maySheds = true ∧
          (s.signLapses n).noted (.sign n) (Flag.signService ||| Flag.signShed))) := by
  obtain ⟨u, hu, hsettle⟩ := State.signLapses_lapsing hs hage
  obtain ⟨hkeeps, hservice, -, hhold, -⟩ := Sign.lapsing_record s.now (s.sign n)
  have hnow := now_of_exceptSigns hu.frame
  have hres := inReserve_of_exceptSigns hu.frame
  have hne : ¬(s.sign n).service = (u.sign n).service := by
    rw [hu.sign, hservice]
    rcases hs with h | h <;> rw [h] <;> decide
  have hcounted : ((s.sign n).counted || (u.sign n).counted) = true := by
    rw [hu.sign, Bool.or_eq_true]
    exact .inr (Sign.counted_of (.inr hservice))
  have heq : u.settleCounted n (s.sign n) = (u.reserveShed (lineOf n)).settleLoad (lineOf n) := by
    unfold State.settleCounted
    rw [if_neg hne, if_pos hcounted]
  rw [heq] at hsettle
  have hreleased : (u.sign n).released u.now := by
    rw [hu.sign]
    exact Sign.woken_of_released (by rw [hservice]; decide) hhold
  have hframe : (s.signLapses n).exceptSigns = s.exceptSigns := by
    rw [hsettle, State.settleLoad_exceptSigns, State.reserveShed_exceptSigns, hu.frame]
  have hkeep := (recordStable_noted (.sign n) (Flag.signLapsed ||| Flag.signService)).toStepStable.toRetentionStable
  have hnoted : (s.signLapses n).noted (.sign n) (Flag.signLapsed ||| Flag.signService) := by
    rw [hsettle]
    exact hkeep.settleLoad (hkeep.reserveShed hu.noted)
  have hsign := State.shedSettle_sign hreleased (by rw [hu.sign, hservice]; decide) hsettle
  refine ⟨hframe, hnoted.reported, ?_⟩
  generalize s.signLapses n = t at *
  rw [hu.sign, hnow] at hsign
  refine hsign.imp (fun ⟨ht, hr⟩ => ⟨ht, fun ⟨h1, h2, h3⟩ => ?_⟩) id
  rw [State.reserveSheds, hu.sign, hres, h1, Sign.counted_of (.inr hservice), hkeeps.cfg, h2, hkeeps.planClass, h3] at hr
  cases hr

theorem exceptOutputs_due {s t : State} {d : List Due} (h : t.exceptSigns = ({ s with due := d } : State).exceptSigns) :
    t.due = d ∧ { t.exceptOutputs with due := s.due } = s.exceptOutputs := by
  refine ⟨(congrArg State.due h :), ?_⟩
  have hout := exceptOutputs_of_exceptSigns h
  exact (congrArg (fun x : State => { x with due := s.due }) hout :)

/-- The retention record of a sign that lapses (R138, R150, R152). -/
theorem Sign.lapsing_retention (now : Tick) (g : Sign) (hs : g.service = .showing ∨ g.service = .held) :
    (g.lapsing now).lapsePoint =
      (if g.service = .held then 8 * g.cfg.holdover / (match g.band with | .normal => 1 | .cold => 2 | .severe => 4) else g.lapsePoint) ∧
    (let frames : Nat := match g.granularity with | .full => 1 | .half => 2 | .quarter => 4
     let period := (g.lapsing now).lapsePoint / 2 / frames
     let timer := min g.slotTimer period - 1
     (g.service = .showing → (g.lapsing now).slotTimer = g.slotTimer ∧ (g.lapsing now).owed = g.owed) ∧
     (g.service = .held → (g.lapsing now).slotPeriod = period ∧ (g.lapsing now).slotTimer = (if timer = 0 then period else timer) ∧
       (g.lapsing now).owed = (if timer = 0 then if g.shown.page = none then 0 else min (g.owed + 1) frames else g.owed))) := by
  rcases hs with h | h
  · simp [Sign.lapsing, Sign.withService, h]
  · have hdivisor : g.band.divisor = match g.band with | .normal => 1 | .cold => 2 | .severe => 4 := rfl
    have hframes : g.granularity.frames = match g.granularity with | .full => 1 | .half => 2 | .quarter => 4 := rfl
    rw [← hdivisor, ← hframes]
    have hset : g.withService now .lapsed = { g with
        service := .lapsed, holdNeed := none, restoreNeed := some (g.restoreNeed.getD now), pollCount := 0, pollNeed := none, shedNeed := none,
        lapsePoint := g.derive.lapsePoint, dueSpan := g.derive.dueSpan, critical := g.derive.critical, slotPeriod := g.derive.slotPeriod,
        slotTimer := min g.slotTimer g.derive.slotPeriod, ages := Ages.all g.derive.lapsePoint, shown := { g.shown with confirmed := false } } := by
      simp [Sign.withService, h, Sign.derive]
    have hlapsing : g.lapsing now = (g.withService now .lapsed).slotLowered now := if_pos h
    rw [hlapsing, hset]
    unfold Sign.slotLowered Sign.refreshFalls
    simp only [h, if_true, Sign.derive]
    split
    · split <;> simp
    · simp

/-- SIGN_LAPSED to the end of its step. -/
theorem State.runEvent_lapsed {s : State} {n : Fin 16} (hd : Due.lapsed n ∈ s.due)
    (hs : (s.sign n).service = .showing ∨ (s.sign n).service = .held) (hage : (s.sign n).lapsePoint ≤ (s.sign n).ages.oldest) :
    (s.runEvent (.lapsed n)).due = s.due.erase (.lapsed n) ∧ { (s.runEvent (.lapsed n)).exceptOutputs with due := s.due } = s.exceptOutputs ∧
      (s.runEvent (.lapsed n)).reported (.sign n) (Flag.signLapsed ||| Flag.signService) ∧
      (((s.runEvent (.lapsed n)).sign n = (s.sign n).lapsing s.now ∧
          ¬(s.inReserve = true ∧ (s.sign n).cfg.sheddable = true ∧ (s.sign n).planClass = .condition)) ∨
        ((s.runEvent (.lapsed n)).sign n = ((s.sign n).lapsing s.now).withService s.now .shed ∧ ((s.sign n).lapsing s.now).maySheds = true ∧
          (s.runEvent (.lapsed n)).reported (.sign n) Flag.signShed)) := by
  have htakes := State.signLapses_takes (s := { s with due := s.due.erase (.lapsed n) }) hs hage
  have happly : State.applyDue { s with due := s.due.erase (.lapsed n) } (.lapsed n) =
      State.signLapses { s with due := s.due.erase (.lapsed n) } n := rfl
  rw [State.runEvent_concluded hd rfl (by simp), happly]
  generalize State.signLapses { s with due := s.due.erase (.lapsed n) } n = v at *
  obtain ⟨hframe, hreported, hsign⟩ := htakes
  have hkeep {f : BitVec 16} : v.reported (.sign n) f → (State.conclude s v).reported (.sign n) f :=
    (recordStable_reported (.sign n) f).toStepStable.conclude
  have hsame : (State.conclude s v).sign n = v.sign n := by rw [State.sign, State.conclude_signs, State.sign]
  have hout := State.conclude_exceptOutputs s v
  generalize State.conclude s v = t at *
  obtain ⟨hdue, hrest⟩ := exceptOutputs_due hframe
  have hdues : t.due = v.due := (congrArg State.due hout :)
  refine ⟨hdues.trans hdue, by rw [hout]; exact hrest, hkeep hreported, ?_⟩
  rw [hsame]
  exact hsign.imp id fun ⟨h1, h2, h3⟩ => ⟨h1, h2, hkeep (h3.of_flags (flags_or_right _ (by simp))).reported⟩

/-- Settles O47: each timer writes one sign; a need wakes the line, and a lapse leaves the sign LAPSED unless shedding takes it. -/
theorem signTimersFall : Obligations.SignTimersFall := by
  unfold Obligations.SignTimersFall
  intro n l s hcalm hl g counted holding frame raised step
  obtain rfl : l = lineOf n := Fin.ext hl
  refine ⟨fun hd hs hpages hdwell => ?_, fun hd hneed hcount => ?_, fun hd hs htimer => ?_, fun hd hs hage => ?_, fun hd hs hage hfirm => ?_,
    fun hd hs hneed hage => ?_⟩
  · refine ⟨_, exec_rotationStep n s, ?_⟩
    have hraise := State.rotationStep_raises (s := { s with due := s.due.erase (.rotation n) }) hs hpages hdwell
    have h := State.runEvent_raised (g := Sign.stepRotation s.now g) (cause := 2) hd rfl (by simp) (Sign.not_held_of hs) ⟨rfl, rfl, rfl⟩ hraise
    simp only [Sign.stepRotation, Sign.raisePlan, Bool.or_false] at h
    exact h
  · refine ⟨_, exec_pollDue n s, ?_⟩
    have hraise := State.pollDue_raises (s := { s with due := s.due.erase (.poll n) }) hneed hcount
    exact State.runEvent_written (g := { g with pollNeed := some s.now }) hd rfl (by simp) ⟨rfl, rfl, rfl⟩
      ((congrArg State.signs hraise).trans (State.askArbitration_signs ..))
      ((congrArg State.exceptSigns hraise).trans (by simp))
  · refine ⟨_, exec_refreshDue n s, ?_⟩
    obtain ⟨hsigns, hframe⟩ := State.refreshDue_falls (s := { s with due := s.due.erase (.refresh n) }) hs htimer
    have hkeep : (Sign.refreshFalls s.now g).cfg = g.cfg ∧ (Sign.refreshFalls s.now g).shown = g.shown ∧
        (Sign.refreshFalls s.now g).service = g.service := by
      unfold Sign.refreshFalls
      split <;> exact ⟨rfl, rfl, rfl⟩
    exact State.runEvent_written hd rfl (by simp) hkeep hsigns hframe
  · intro mayShed
    obtain ⟨hdue, hrest, hreported, hsign⟩ := State.runEvent_lapsed hd hs hage
    obtain ⟨hkeeps, hservice, hrestore, hhold, hshown, hages⟩ := Sign.lapsing_record s.now (s.sign n)
    refine ⟨_, exec_signLapsed n s, ?_⟩
    generalize s.runEvent (.lapsed n) = t at *
    rcases hsign with ⟨hsign, hno⟩ | ⟨hsign, hmay, hshed⟩
    · rw [hsign]
      refine ⟨.inl hservice, fun hm hr hp => absurd ⟨hr, hm.1, hp⟩ hno, fun hc => ?_, hkeeps.cfg, hkeeps.planClass, hkeeps.rotation,
        hshown, hreported, hdue, hrest⟩
      rw [hservice] at hc
      cases hc
    · have hmayShed : mayShed := by
        simp only [Sign.maySheds, Bool.and_eq_true, Bool.not_eq_true'] at hmay
        obtain ⟨⟨-, hs⟩, hp⟩ := hmay
        rw [hkeeps.cfg] at hs
        rw [hkeeps.planClass] at hp
        refine ⟨hs, ?_⟩
        revert hp
        change (s.sign n).planClass.isProtected = false → (s.sign n).planClass = .condition ∨ (s.sign n).planClass = .blank
        cases (s.sign n).planClass <;> simp [PlanClass.isProtected]
      have hne : ¬((s.sign n).lapsing s.now).service = .held := by rw [hservice]; decide
      have hrecord : ((s.sign n).lapsing s.now).withService s.now .shed = { (s.sign n).lapsing s.now with
          service := .shed, holdNeed := none, restoreNeed := none, pollCount := 0, pollNeed := none, shedNeed := some s.now,
          owed := 0, cursor := 0, slotTimer := ((s.sign n).lapsing s.now).slotPeriod } := by
        unfold Sign.withService
        rw [if_neg hne]
      rw [hsign, hrecord]
      exact ⟨.inr ⟨hmayShed, rfl⟩, fun _ _ _ => rfl, fun _ => ⟨rfl, rfl, hshed⟩, hkeeps.cfg, hkeeps.planClass, hkeeps.rotation,
        hshown, hreported, hdue, hrest⟩
  · obtain ⟨hdue, hrest, hreported, hsign⟩ := State.runEvent_lapsed hd hs hage
    obtain ⟨hkeeps, hservice, hrestore, hhold, hshown, hages⟩ := Sign.lapsing_record s.now (s.sign n)
    obtain ⟨hpoint, hslot⟩ := Sign.lapsing_retention s.now (s.sign n) hs
    have hmay : ((s.sign n).lapsing s.now).maySheds = false := by
      rcases hfirm with hf | hf
      · simp [Sign.maySheds, hkeeps.cfg, show (s.sign n).cfg.sheddable = false from hf]
      · simp [Sign.maySheds, hkeeps.planClass, show (s.sign n).planClass.isProtected = true from hf]
    refine ⟨_, exec_signLapsed n s, ?_⟩
    generalize s.runEvent (.lapsed n) = t at *
    have hfinal : t.sign n = (s.sign n).lapsing s.now := by
      rcases hsign with ⟨hsign, -⟩ | ⟨-, hm, -⟩
      · exact hsign
      · rw [hmay] at hm
        cases hm
    rw [hfinal]
    exact ⟨hservice, hrestore, hpoint, hages, hshown, hslot, hreported, hdue, hrest⟩
  · refine ⟨_, exec_criticalPoint n s, ?_⟩
    have hraise := State.checkCritical_raises (s := { s with due := s.due.erase (.critical n) }) hs hneed hage
    exact State.runEvent_raised (g := { g with restoreNeed := some s.now }) hd rfl (by simp) (Sign.not_held_of hs) ⟨rfl, rfl, rfl⟩ hraise

end Sys2Proof.Machine
end

section
/-! SUPPORT. Replies of signs: how they are read, what an ACK writes into its sign, and what the end of the frame leaves of it
(R124, R134 to R139, R148, R151, R154). -/

namespace Sys2Proof.Machine

/-! ### Reading a reply (R134, R193) -/

/-- The bytes of a reply to a frame before their CRC-16. -/
def Frame.replyBody (f : Frame) (result status temperature : Byte) : List Byte :=
  [BitVec.ofNat 8 (f.address.val + 0x80), BitVec.ofNat 8 f.kind.wire, result, status, temperature]

/-- The eight bytes of a reply to a frame. -/
def Frame.replyBytes (f : Frame) (result status temperature : Byte) : BitVec 64 :=
  ofBytesBE 64 ([0x5A] ++ f.replyBody result status temperature ++ bytesBE 2 (crc16 (f.replyBody result status temperature)))

theorem readReply_replyBytes (f : Frame) (result status temperature : Byte) : readReply f (f.replyBytes result status temperature) =
    (replyResultOf result).map fun r =>
      { result := r, status := SignStatus.ofByte status, temperature := clampInt (-60) 80 temperature.toInt } := by
  have hbytes : bytesBE 8 (f.replyBytes result status temperature) =
      [0x5A] ++ f.replyBody result status temperature ++ bytesBE 2 (crc16 (f.replyBody result status temperature)) :=
    bytesBE_ofBytesBE 8 _ (by simp [Frame.replyBody])
  have haddress : (BitVec.ofNat 8 (f.address.val + 0x80)).toNat = f.address.val + 0x80 := by
    have := f.address.isLt
    rw [BitVec.toNat_ofNat]
    omega
  have hkind : (BitVec.ofNat 8 f.kind.wire).toNat = f.kind.wire := by cases f.kind <;> rfl
  have hcrc := ofBytesBE_two (crc16 (f.replyBody result status temperature))
  unfold readReply
  rw [hbytes, bytesBE_two]
  exact if_pos ⟨rfl, haddress, hkind, hcrc.symm⟩

theorem exec_signReply {s : State} (h : s.settled) (l : Fin 2) (bytes : BitVec 64) :
    exec (.signReply l bytes) s = .next (State.conclude s (s.takeReply l bytes)) :=
  congrArg Host.Outcome.next (State.command_of_nil _ _ h.2)

theorem exec_signReplyFailure {s : State} (h : s.settled) (l : Fin 2) :
    exec (.signReplyFailure l) s = .next (State.conclude s (s.replyFails l)) :=
  congrArg Host.Outcome.next (State.command_of_nil _ _ h.2)

theorem State.takeReply_ack {s : State} {l : Fin 2} {f : Frame} (hf : (s.line l).inFlight = some f) (status temperature : Byte) :
    s.takeReply l (f.replyBytes 0 status temperature) =
      s.endAck l f { result := .ack, status := SignStatus.ofByte status, temperature := clampInt (-60) 80 temperature.toInt } := by
  unfold State.takeReply
  rw [hf]
  dsimp only
  rw [readReply_replyBytes]
  rfl

theorem signAt_of {l : Fin 2} {a : Fin 8} {n : Fin 16} (h : n.val = 8 * l.val + a.val) : signAt l a = n ∧ lineOf n = l := by
  refine ⟨Fin.ext h.symm, Fin.ext ?_⟩
  simp only [lineOf]
  omega

/-! ### The frame of a reply -/

theorem displayStable_exceptOutputs (u : State) : DisplayStable fun t => t.exceptOutputs = u.exceptOutputs where
  line hs := hs
  lib _ hs := hs
  post hs := hs
  sign hs := hs

theorem State.takeReply_exceptOutputs (s : State) (l : Fin 2) (bytes : BitVec 64) : (s.takeReply l bytes).exceptOutputs = s.exceptOutputs := by
  have h := displayStable_exceptOutputs s
  exact h.toTrafficStable.takeReply h.toRetentionStable (fun _ _ => h.endAck rfl) rfl

theorem State.replyFails_exceptOutputs (s : State) (l : Fin 2) : (s.replyFails l).exceptOutputs = s.exceptOutputs := by
  have h := displayStable_exceptOutputs s
  exact h.toTrafficStable.replyFails h.toRetentionStable rfl

/-! ### The end of a frame that an ACK ends (R135, R139, R148, R154) -/

/-- What an ACK does once its effect and the end of its frame are written into the sign. -/
def State.ackTail (s : State) (l : Fin 2) (n : Fin 16) (before : Sign) (f : Frame) (r : SignReply) : State :=
  (((((((s.settleCounted n before).adoptSigns l [n]).writeStatus n r).bandRule n r.temperature).takeBlanked n f r.status).checkHeld l).checkResume
    l).lineIdle l

/-- The effect of an ACK on its sign, by the sign's service state. -/
def State.acked (s : State) (n : Fin 16) (f : Frame) (st : SignStatus) : State :=
  if (s.sign n).service = .shed then s.ackShed n f else s.ackSign n f st

theorem State.endAck_absent {s : State} {l : Fin 2} {f : Frame} {n : Fin 16} (hn : signAt l f.address = n) (h : (s.sign n).service = .absent)
    (r : SignReply) : s.endAck l f r = ((s.clearFlight l).adoptSigns l [n]).lineIdle l := by
  subst hn
  exact if_pos h

theorem State.endAck_present {s : State} {l : Fin 2} {f : Frame} {n : Fin 16} (hn : signAt l f.address = n) (h : (s.sign n).service ≠ .absent)
    (r : SignReply) : s.endAck l f r = (((s.clearFlight l).acked n f r.status).frameEnded n f).ackTail l n (s.sign n) f r := by
  subst hn
  exact if_neg h

theorem State.clearFlight_line (s : State) (l : Fin 2) : (s.clearFlight l).line l = { s.line l with inFlight := none, txBuffer := [] } := by
  rw [State.clearFlight, State.updLine_eq, State.setLine_line_same]

/-! #### The parts of the tail on the sign -/

theorem exchangeStable_signs (x : Vector Sign 16) : ExchangeStable fun t => t.signs = x where
  exchange _ hs := hs
  lib _ hs := hs
  post hs := hs

theorem State.lineIdle_sign (s : State) (l : Fin 2) (n : Fin 16) : (s.lineIdle l).sign n = s.sign n := by
  have h := (exchangeStable_signs s.signs).lineIdle (l := l) rfl
  rw [State.sign, h, State.sign]

/-- The sign may take its line's target: another one than it runs by, not HELD, with a cursor that fits (R154). -/
def Sign.adopts (t : Granularity) (g : Sign) : Bool := g.granularity != t && g.service != .held && g.cursor % t.bands == 0

/-- The sign with its line's target, where it may take it. -/
def Sign.adopted (now : Tick) (t : Granularity) (g : Sign) : Sign := if g.adopts t then g.adopt now t else g

theorem State.mayAdopt_of_idle {s : State} {n : Fin 16} (h : (s.line (lineOf n)).inFlight = none) :
    s.mayAdopt n = (s.sign n).adopts (s.line (lineOf n)).target := by
  have hframe : s.frameTo n = false := by
    unfold State.frameTo
    rw [h]
  unfold State.mayAdopt Sign.adopts
  rw [hframe]
  simp

/-- An adoption that finds the line idle leaves the sign adopted, before the load is settled. -/
theorem State.adoptSigns_takes {s : State} {n : Fin 16} {now : Tick} {Q R : Sign → Prop} (hR : Steady now R)
    (hidle : (s.line (lineOf n)).inFlight = none) (hs : s.stays n now Q)
    (hstep : Q (s.sign n) → R ((s.sign n).adopted now (s.line (lineOf n)).target)) :
    (s.adoptSigns (lineOf n) [n]).stays n now R := by
  have hmay := State.mayAdopt_of_idle hidle
  have hrecord := hstep hs.2
  unfold State.adoptSigns
  simp only [List.any_cons, List.any_nil, Bool.or_false, List.foldl_cons, List.foldl_nil]
  unfold Sign.adopted at hrecord
  rw [← hmay] at hrecord
  split
  · next h =>
    rw [if_pos h] at hrecord
    have hone : s.adoptOne n = (s.updSign n (Sign.adopt s.now (s.line (lineOf n)).target)).post (.sign n) Flag.signGranularity := if_pos h
    refine hR.settleLoad ⟨?_, ?_⟩
    · rw [hone]
      exact hs.1
    · rw [hone, State.post_sign, State.updSign_eq, State.setSign_sign_same, hs.1]
      exact hrecord
  · next h =>
    rw [if_neg h] at hrecord
    exact ⟨hs.1, hrecord⟩

/-- An adoption is reported. -/
theorem State.adoptSigns_reported {s : State} {n : Fin 16} (hidle : (s.line (lineOf n)).inFlight = none)
    (h : (s.sign n).adopts (s.line (lineOf n)).target = true) : (s.adoptSigns (lineOf n) [n]).reported (.sign n) Flag.signGranularity := by
  have hmay : s.mayAdopt n = true := (State.mayAdopt_of_idle hidle).trans h
  have hone : s.adoptOne n = (s.updSign n (Sign.adopt s.now (s.line (lineOf n)).target)).post (.sign n) Flag.signGranularity := if_pos hmay
  unfold State.adoptSigns
  simp only [List.any_cons, List.any_nil, Bool.or_false, List.foldl_cons, List.foldl_nil, hmay, if_true]
  rw [hone]
  exact (recordStable_reported _ _).toStepStable.toRetentionStable.settleLoad (State.post_reported_of _ _ (by decide))

/-- Without a target to take nothing is adopted. -/
theorem State.adoptSigns_none {s : State} {l : Fin 2} {n : Fin 16} (h : s.mayAdopt n = false) : s.adoptSigns l [n] = s := by
  unfold State.adoptSigns
  simp [h]

theorem Sign.woken_adopt (now : Tick) (t : Granularity) (g : Sign) : (g.woken now).adopt now t = (g.adopt now t).woken now := rfl

theorem Sign.woken_adopted (now : Tick) (t : Granularity) (g : Sign) : (g.woken now).adopted now t = (g.adopted now t).woken now := by
  unfold Sign.adopted
  have hsame : (g.woken now).adopts t = g.adopts t := rfl
  rw [hsame]
  split <;> rfl

theorem Sign.Wakes.adopted {now : Tick} {a b : Sign} (h : a.Wakes now b) (t : Granularity) : (a.adopted now t).Wakes now (b.adopted now t) := by
  rcases h with rfl | rfl
  · exact .inl rfl
  · exact .inr (Sign.woken_adopted now t a)

/-- What follows a record that neither shedding nor restoring takes. -/
theorem steady_wakes {now : Tick} {a : Sign} (hmay : a.maySheds = false) (hshed : a.service ≠ .shed) : Steady now (a.Wakes now) where
  maySheds h := by rw [h.keeps.2.2.1]; exact hmay
  shed h := by rw [h.keeps.1]; exact hshed
  woken h := h.trans (.inr rfl)

theorem Sign.adopted_keeps (now : Tick) (t : Granularity) (g : Sign) : (g.adopted now t).service = g.service ∧
    (g.adopted now t).maySheds = g.maySheds ∧ (g.adopted now t).status = g.status := by
  unfold Sign.adopted
  split <;> exact ⟨rfl, rfl, rfl⟩

/-! #### Status and temperature (R137) -/

/-- The changes of the status flags that a reply brings are reported. -/
structure State.StatusTold (t : State) (n : Fin 16) (old new : SignStatus) : Prop where
  door : old.door ≠ new.door → t.reported (.sign n) Flag.signDoor
  pixel : old.pixelFault ≠ new.pixelFault → t.reported (.sign n) Flag.signPixelFault

theorem State.StatusTold.mono {s t : State} {n : Fin 16} {old new : SignStatus} (h : s.StatusTold n old new)
    (hk : ∀ f, s.reported (.sign n) f → t.reported (.sign n) f) : t.StatusTold n old new :=
  ⟨fun hd => hk _ (h.door hd), fun hp => hk _ (h.pixel hp)⟩

/-- A sign with the status and the temperature of a reply. -/
def Sign.told (r : SignReply) (g : Sign) : Sign := { g with status := r.status, temperature := some r.temperature }

theorem State.writeStatus_told (s : State) (n : Fin 16) (r : SignReply) (m : Fin 16) :
    (s.writeStatus n r).sign m = if n = m then (s.sign n).told r else s.sign m := by
  unfold State.writeStatus
  rw [State.postIf_sign, State.setSign_sign]
  rfl

theorem State.writeStatus_lines (s : State) (n : Fin 16) (r : SignReply) : (s.writeStatus n r).lines = s.lines := by
  unfold State.writeStatus
  rw [State.postIf_lines]
  rfl

theorem State.writeStatus_statusTold (s : State) (n : Fin 16) (r : SignReply) : (s.writeStatus n r).StatusTold n (s.sign n).status r.status := by
  unfold State.writeStatus statusFlags
  dsimp only
  refine ⟨fun h => ?_, fun h => ?_⟩
  · rw [if_neg h]
    split
    · exact State.post_reported_of _ _ (by decide)
    · exact State.post_reported_of _ _ (by decide)
  · rw [if_neg h]
    split
    · exact State.post_reported_of _ _ (by decide)
    · exact State.post_reported_of _ _ (by decide)

/-! #### The tail as a whole -/

/-- BLANKED in this reply takes the sign to LAPSED. -/
def SignReply.blanks (r : SignReply) (f : Frame) (v : Service) : Prop :=
  r.status.blanked = true ∧ (f.kind = .refresh ∨ f.kind = .hold ∨ f.kind = .poll) ∧ (v = .showing ∨ v = .held)

theorem State.takeBlanked_not {s : State} {n : Fin 16} {f : Frame} {r : SignReply} (h : ¬r.blanks f (s.sign n).service) :
    s.takeBlanked n f r.status = s := if_neg h

theorem State.bandRule_fixed {s : State} {n : Fin 16} (h : (s.line (lineOf n)).cfg.bandMode ≠ .auto) (x : Int) : s.bandRule n x = s := if_neg h

/-- Once the load is settled and the target taken, a reply on a line of fixed band mode writes status and temperature alone. -/
theorem State.told_tail {s : State} {l : Fin 2} {n : Fin 16} {f : Frame} {r : SignReply} (hmode : (s.line (lineOf n)).cfg.bandMode ≠ .auto)
    (hblank : ¬r.blanks f (s.sign n).service) (m : Fin 16) :
    ((((((s.writeStatus n r).bandRule n r.temperature).takeBlanked n f r.status).checkHeld l).checkResume l).lineIdle l).sign m =
      if n = m then (s.sign n).told r else s.sign m := by
  have hsign := s.writeStatus_told n r
  have hlines := s.writeStatus_lines n r
  generalize s.writeStatus n r = u at *
  have hu : (u.line (lineOf n)).cfg.bandMode ≠ .auto := by rw [State.line, hlines]; exact hmode
  have hb : ¬r.blanks f (u.sign n).service := by rw [hsign, if_pos rfl]; exact hblank
  rw [State.lineIdle_sign, State.checkResume_sign, State.checkHeld_sign, State.bandRule_fixed hu, State.takeBlanked_not hb, hsign]

theorem State.told_tail_reports {s : State} {l : Fin 2} {n : Fin 16} {f : Frame} {r : SignReply} :
    ((((((s.writeStatus n r).bandRule n r.temperature).takeBlanked n f r.status).checkHeld l).checkResume l).lineIdle l).StatusTold n
      (s.sign n).status r.status := by
  refine (s.writeStatus_statusTold n r).mono fun g hg => ?_
  have h := recordStable_reported (.sign n) g
  have hr := h.toStepStable.toRetentionStable
  exact h.toStepStable.toTrafficStable.lineIdle (hr.checkResume (hr.checkHeld (hr.takeBlanked (hr.bandRule hg))))

theorem State.ackTail_firm {s : State} {n : Fin 16} {f : Frame} {r : SignReply} (before : Sign)
    (hidle : (s.line (lineOf n)).inFlight = none) (hmode : (s.line (lineOf n)).cfg.bandMode ≠ .auto)
    (hmay : (s.sign n).maySheds = false) (hshed : (s.sign n).service ≠ .shed) (hblank : ¬r.blanks f (s.sign n).service) :
    (∃ b, ((s.sign n).adopted s.now (s.line (lineOf n)).target).Wakes s.now b ∧
      (s.ackTail (lineOf n) n before f r).sign n = b.told r) ∧
    (s.ackTail (lineOf n) n before f r).StatusTold n (s.sign n).status r.status := by
  have hsteady := steady_wakes (now := s.now) hmay hshed
  have hsettled := hsteady.settleCounted (s := s) (n := n) (m := n) (g := before) ⟨rfl, .inl rfl⟩
  have hline := (lineStable_line (lineOf n) (s.line (lineOf n))).settleCounted (s := s) (n := n) (g := before) .rfl trivial
  unfold State.ackTail
  generalize s.settleCounted n before = u at *
  obtain ⟨hservice, hmays, hstatus⟩ := (s.sign n).adopted_keeps s.now (s.line (lineOf n)).target
  have hadopted := State.adoptSigns_takes (R := ((s.sign n).adopted s.now (s.line (lineOf n)).target).Wakes s.now)
    (steady_wakes (by rw [hmays]; exact hmay) (by rw [hservice]; exact hshed)) (by rw [hline.inFlight]; exact hidle) hsettled
    fun hw => by rw [hline.target]; exact hw.adopted _
  have hline' := (lineStable_line (lineOf n) (u.line (lineOf n))).adoptSigns (s := u) (l := lineOf n) (ns := [n]) .rfl trivial fun _ _ => trivial
  generalize u.adoptSigns (lineOf n) [n] = v at *
  have hvservice : (v.sign n).service = (s.sign n).service := hadopted.2.keeps.1.trans hservice
  have hvstatus : (v.sign n).status = (s.sign n).status := by
    rcases hadopted.2 with h | h
    · rw [h, hstatus]
    · rw [h]
      exact hstatus
  refine ⟨⟨v.sign n, hadopted.2, ?_⟩, ?_⟩
  · rw [State.told_tail (by rw [hline'.cfg, hline.cfg]; exact hmode) (by rw [hvservice]; exact hblank), if_pos rfl]
  · rw [← hvstatus]
    exact State.told_tail_reports

/-- Where the service state stands and the line's target is the sign's already, nothing is settled. -/
theorem State.ackTail_quiet {s : State} {n : Fin 16} {f : Frame} {r : SignReply} {before : Sign}
    (hmode : (s.line (lineOf n)).cfg.bandMode ≠ .auto) (hservice : before.service = (s.sign n).service)
    (htarget : (s.sign n).granularity = (s.line (lineOf n)).target) (hblank : ¬r.blanks f (s.sign n).service) :
    (s.ackTail (lineOf n) n before f r).signs = s.signs.set n ((s.sign n).told r) ∧
    (s.ackTail (lineOf n) n before f r).StatusTold n (s.sign n).status r.status := by
  have hsettled : s.settleCounted n before = s := if_pos hservice
  have hadopt : s.mayAdopt n = false := by
    unfold State.mayAdopt
    simp [htarget]
  unfold State.ackTail
  rw [hsettled, State.adoptSigns_none hadopt]
  refine ⟨?_, State.told_tail_reports⟩
  have htail := State.told_tail (l := lineOf n) (f := f) (r := r) hmode hblank
  generalize (((((s.writeStatus n r).bandRule n r.temperature).takeBlanked n f r.status).checkHeld (lineOf n)).checkResume (lineOf n)).lineIdle
    (lineOf n) = t at *
  refine Vector.ext fun i hi => ?_
  have h := htail ⟨i, hi⟩
  rw [← State.setSign_sign s n ((s.sign n).told r) ⟨i, hi⟩] at h
  exact h

end Sys2Proof.Machine
end

section
/-! PROOF. What a valid ACK does by the kind of the frame it answers (R124, R136, R137, R148, R151, R154, R157, R165 to R167). -/

namespace Sys2Proof.Machine

theorem State.conclude_sign (a s : State) (n : Fin 16) : (State.conclude a s).sign n = s.sign n := by
  simp only [State.sign, State.conclude_signs]

/-! ### What the ACK's effect on its sign leaves of its line and of the tick -/

/-- A property kept by the retention rules, and by the write of one sign's new service, is kept by its change of service. -/
theorem LineStable.changeAny {L : Fin 2 → Prop} {P : State → Prop} (h : LineStable L P) {s : State} {n : Fin 16} {v : Service}
    (hset : P (s.setSign n ((s.sign n).withService s.now v))) (hs : P s) (hl : L (lineOf n)) : P (s.changeService n v) := by
  have hpost := h.post (o := .sign n) (f := serviceFlags (s.sign n) ((s.sign n).withService s.now v)) hset
  unfold State.changeService
  dsimp only
  split
  · exact hs
  · split
    · exact h.checkResume (h.checkHeld (h.restoreRaised hpost hl) hl) hl
    · exact h.checkResume (h.checkHeld hpost hl) hl

theorem State.writeDisplayed_sign (s : State) (n : Fin 16) (f : Frame) (m : Fin 16) : (s.writeDisplayed n f).sign m =
    if n = m then { s.sign n with shown := f.displays, need := (s.sign n).settleNeed s.now f } else s.sign m := by
  unfold State.writeDisplayed
  dsimp only
  rw [State.postIf_sign, State.setSign_sign]

theorem State.writeDisplayed_line (s : State) (n : Fin 16) (f : Frame) (l : Fin 2) : (s.writeDisplayed n f).line l = s.line l := by
  unfold State.writeDisplayed
  dsimp only
  rw [State.postIf_line]
  rfl

theorem State.writeDisplayed_now (s : State) (n : Fin 16) (f : Frame) : (s.writeDisplayed n f).now = s.now := by
  have h := ((State.postIf_exceptSigns ..).trans (State.setSign_exceptSigns ..) : (s.writeDisplayed n f).exceptSigns = s.exceptSigns)
  exact now_of_exceptSigns h

/-- The effect of an ACK leaves its line's settings, target and exchange. -/
theorem State.acked_line (s : State) (n : Fin 16) (f : Frame) (st : SignStatus) :
    (s.line (lineOf n)).Retains ((s.acked n f st).line (lineOf n)) := by
  have h := lineStable_line (lineOf n) (s.line (lineOf n))
  have hset {u : State} {m : Fin 16} {g : Sign} (hu : (s.line (lineOf n)).Retains (u.line (lineOf n))) :
      (s.line (lineOf n)).Retains ((u.setSign m g).line (lineOf n)) := hu
  have hdisplayed : (s.line (lineOf n)).Retains ((s.writeDisplayed n f).line (lineOf n)) := by
    rw [State.writeDisplayed_line]
    exact .rfl
  have hchange {u : State} {v : Service} (hu : (s.line (lineOf n)).Retains (u.line (lineOf n))) :
      (s.line (lineOf n)).Retains ((u.changeService n v).line (lineOf n)) := h.changeAny (hset hu) hu trivial
  unfold State.acked State.ackShed State.ackSign
  split
  · have hshown : (s.line (lineOf n)).Retains ((if f.kind = .content ∨ f.kind = .blank then s.writeDisplayed n f else s).line (lineOf n)) :=
      iteInduction (motive := fun t : State => (s.line (lineOf n)).Retains (t.line (lineOf n))) (fun _ => hdisplayed) fun _ => .rfl
    dsimp only
    split
    · exact hset hshown
    · exact hshown
  · split
    · exact h.checkAges (hset (hset (hchange hdisplayed))) trivial
    · exact h.checkAges (hset .rfl) trivial
    · dsimp only
      split
      · exact hdisplayed
      · exact hset (hchange hdisplayed)
    · unfold State.ackHold
      dsimp only
      split
      · split
        · exact hchange .rfl
        · exact h.raiseRestore (hchange .rfl) trivial
      · split
        · exact .rfl
        · exact h.wake .rfl trivial
    · split
      · exact hchange .rfl
      · exact .rfl

theorem DisplayStable.acked {P : State → Prop} (h : DisplayStable P) {s : State} {n : Fin 16} {f : Frame} {st : SignStatus} (hs : P s) :
    P (s.acked n f st) := by
  unfold State.acked
  split
  · exact h.ackShed hs
  · exact h.ackSign hs

theorem DisplayStable.ackTail {P : State → Prop} (h : DisplayStable P) {s : State} {l : Fin 2} {n : Fin 16} {g : Sign} {f : Frame} {r : SignReply}
    (hs : P s) : P (s.ackTail l n g f r) := by
  have hr := h.toRetentionStable
  exact h.toTrafficStable.lineIdle (hr.checkResume (hr.checkHeld (hr.takeBlanked (hr.bandRule (hr.writeStatus (hr.adoptSigns
    (hr.settleCounted hs)))))))

theorem now_of_exceptOutputs {s t : State} (h : t.exceptOutputs = s.exceptOutputs) : t.now = s.now := (congrArg State.now h :)

/-- What the tail leaves of the line's target and of its last wake. -/
theorem State.ackTail_line {s : State} {n : Fin 16} {f : Frame} {r : SignReply} {g : Sign} : ∃ x : Line,
    (s.line (lineOf n)).Retains x ∧ x.Exchanges ((s.ackTail (lineOf n) n g f r).line (lineOf n)) := by
  have h := lineStable_line (lineOf n) (s.line (lineOf n))
  have hadopted := h.adoptSigns (l := lineOf n) (ns := [n]) (h.settleCounted (s := s) (n := n) (g := g) .rfl trivial) trivial fun _ _ => trivial
  unfold State.ackTail
  generalize (s.settleCounted n g).adoptSigns (lineOf n) [n] = u at *
  have hwritten : (s.line (lineOf n)).Retains ((u.writeStatus n r).line (lineOf n)) := by
    have hlines := u.writeStatus_lines n r
    have hline (v : State) (hv : v.lines = u.lines) : v.line (lineOf n) = u.line (lineOf n) := by simp only [State.line, hv]
    rw [hline _ hlines]
    exact hadopted
  have hlast := h.checkResume (l := lineOf n) (h.checkHeld (l := lineOf n) (h.takeBlanked (n := n) (f := f) (st := r.status)
    (h.bandRule (n := n) (x := r.temperature) (fun hu _ => hu) hwritten trivial) trivial) trivial) trivial
  exact ⟨_, hlast, (exchangeStable_line (lineOf n) _).lineIdle rfl⟩

theorem Line.Exchanges.trans {a b c : Line} (h : a.Exchanges b) (k : b.Exchanges c) : a.Exchanges c := by
  unfold Line.Exchanges at *
  rw [k, h]

/-! ### The end of a frame, whatever its kind -/

/-- A sign at the end of a frame to it (R139, R165). -/
def Sign.ended (f : Frame) (g : Sign) : Sign :=
  { g with pollCount := 0, pollNeed := none, holdNeed := if f.kind = .hold then none else g.holdNeed }

theorem State.frameEnded_sign (s : State) (n : Fin 16) (f : Frame) (m : Fin 16) :
    (s.frameEnded n f).sign m = if n = m then (s.sign n).ended f else s.sign m := by
  unfold State.frameEnded
  rw [State.updSign_eq, State.setSign_sign]
  rfl

/-- What an ACK leaves of a sign that shedding cannot take, on a line of fixed band mode. -/
structure State.AckLeaves (s t : State) (n : Fin 16) (f : Frame) (r : SignReply) (a : Sign) : Prop where
  sign : ∃ b, ((a.ended f).adopted s.now (s.line (lineOf n)).target).Wakes s.now b ∧ t.sign n = b.told r
  told : t.StatusTold n a.status r.status
  line : ∃ x, (((s.clearFlight (lineOf n)).acked n f r.status).line (lineOf n)).Retains x ∧ x.Exchanges (t.line (lineOf n))
  keeps : ∀ o g, ((s.clearFlight (lineOf n)).acked n f r.status).reported o g → t.reported o g

theorem State.endAck_firm {s : State} {f : Frame} {n : Fin 16} {r : SignReply} {a : Sign} (hn : signAt (lineOf n) f.address = n)
    (hpresent : (s.sign n).service ≠ .absent) (hmode : (s.line (lineOf n)).cfg.bandMode ≠ .auto)
    (ha : ((s.clearFlight (lineOf n)).acked n f r.status).sign n = a) (hmay : a.maySheds = false) (hshed : a.service ≠ .shed)
    (hblank : ¬r.blanks f a.service) : s.AckLeaves (State.conclude s (s.endAck (lineOf n) f r)) n f r a := by
  have hflight := (s.clearFlight (lineOf n)).acked_line n f r.status
  have hnow : ((s.clearFlight (lineOf n)).acked n f r.status).now = s.now :=
    now_of_exceptOutputs ((displayStable_exceptOutputs s).acked (s := s.clearFlight (lineOf n)) rfl)
  rw [s.clearFlight_line] at hflight
  rw [State.endAck_present hn hpresent]
  have key (u : State) (hline : ({ s.line (lineOf n) with inFlight := none, txBuffer := [] } : Line).Retains (u.line (lineOf n)))
      (hunow : u.now = s.now) (hu : u.sign n = a) (t : State)
      (ht : t = State.conclude s ((u.frameEnded n f).ackTail (lineOf n) n (s.sign n) f r)) :
      (∃ b, ((a.ended f).adopted s.now (s.line (lineOf n)).target).Wakes s.now b ∧ t.sign n = b.told r) ∧ t.StatusTold n a.status r.status ∧
        (∃ x, (u.line (lineOf n)).Retains x ∧ x.Exchanges (t.line (lineOf n))) ∧ ∀ o g, u.reported o g → t.reported o g := by
    have hsign : (u.frameEnded n f).sign n = a.ended f := by rw [State.frameEnded_sign, if_pos rfl, hu]
    have hframe : (u.frameEnded n f).line (lineOf n) = u.line (lineOf n) := rfl
    have hframenow : (u.frameEnded n f).now = s.now := hunow
    have hended (o : Obj) (g : BitVec 16) : u.reported o g → (u.frameEnded n f).reported o g :=
      (recordStable_reported o g).toStepStable.toRetentionStable.frameEnded
    generalize u.frameEnded n f = w at *
    rw [← hframe] at hline ⊢
    obtain ⟨hb, htold⟩ := State.ackTail_firm (s := w) (n := n) (f := f) (r := r) (s.sign n) hline.inFlight (by rw [hline.cfg]; exact hmode)
      (by rw [hsign]; exact hmay) (by rw [hsign]; exact hshed) (by rw [hsign]; exact hblank)
    obtain ⟨x, hx, hxt⟩ := State.ackTail_line (s := w) (n := n) (f := f) (r := r) (g := s.sign n)
    have hconclude := State.conclude_line s (w.ackTail (lineOf n) n (s.sign n) f r) (lineOf n)
    have hsame := State.conclude_sign s (w.ackTail (lineOf n) n (s.sign n) f r) n
    have htail (o : Obj) (g : BitVec 16) (hw : w.reported o g) : (w.ackTail (lineOf n) n (s.sign n) f r).reported o g :=
      (recordStable_reported o g).toDisplayStable.ackTail hw
    have hkeep (o : Obj) (g : BitVec 16) := (recordStable_reported o g).toStepStable.conclude (a := s) (s := w.ackTail (lineOf n) n (s.sign n) f r)
    rw [hsign, hframenow, hline.target] at hb
    rw [hsign] at htold
    rw [← ht] at hconclude hsame hkeep
    refine ⟨?_, htold.mono fun g hg => hkeep _ g hg, ⟨x, hx, hxt.trans hconclude⟩, fun o g hu => hkeep o g (htail o g (hended o g hu))⟩
    rw [hsame]
    exact hb
  obtain ⟨h1, h2, h3, h4⟩ := key _ hflight hnow ha _ rfl
  exact ⟨h1, h2, h3, h4⟩

/-- The line's target stands over an ACK. -/
theorem State.AckLeaves.target {s t : State} {n : Fin 16} {f : Frame} {r : SignReply} {a : Sign} (h : s.AckLeaves t n f r a) :
    (t.line (lineOf n)).target = (s.line (lineOf n)).target := by
  obtain ⟨x, hx, hxt⟩ := h.line
  have hline := (s.clearFlight (lineOf n)).acked_line n f r.status
  rw [s.clearFlight_line] at hline
  rw [hxt.target, hx.target, hline.target]

/-- What an ACK leaves where it changes neither the sign's service state nor its target. -/
theorem State.endAck_quiet {s : State} {f : Frame} {n : Fin 16} {r : SignReply} {a : Sign} (hn : signAt (lineOf n) f.address = n)
    (hpresent : (s.sign n).service ≠ .absent) (hmode : (s.line (lineOf n)).cfg.bandMode ≠ .auto)
    (ha : ((s.clearFlight (lineOf n)).acked n f r.status).signs = s.signs.set n a) (hservice : a.service = (s.sign n).service)
    (htarget : a.granularity = (s.line (lineOf n)).target) (hblank : ¬r.blanks f a.service) :
    (State.conclude s (s.endAck (lineOf n) f r)).signs = s.signs.set n ((a.ended f).told r) ∧
      (State.conclude s (s.endAck (lineOf n) f r)).StatusTold n a.status r.status := by
  have hline := (s.clearFlight (lineOf n)).acked_line n f r.status
  rw [State.endAck_present hn hpresent, s.clearFlight_line] at *
  generalize (s.clearFlight (lineOf n)).acked n f r.status = u at *
  have husign : u.sign n = a := by
    rw [State.sign, ha]
    exact State.setSign_sign_same s n a
  have hsigns : (u.frameEnded n f).signs = s.signs.set n (a.ended f) := by
    change u.signs.set n ((u.sign n).ended f) = _
    rw [husign, ha]
    simp
  have hsign : (u.frameEnded n f).sign n = a.ended f := by rw [State.frameEnded_sign, if_pos rfl, husign]
  have hframe : (u.frameEnded n f).line (lineOf n) = u.line (lineOf n) := rfl
  generalize u.frameEnded n f = w at *
  rw [← hframe] at hline
  obtain ⟨hw, htold⟩ := State.ackTail_quiet (s := w) (n := n) (f := f) (r := r) (before := s.sign n) (by rw [hline.cfg]; exact hmode)
    (by rw [hsign]; exact hservice.symm) (by rw [hsign, hline.target]; exact htarget) (by rw [hsign]; exact hblank)
  have hkeep (g : BitVec 16) := (recordStable_reported (.sign n) g).toStepStable.conclude (a := s) (s := w.ackTail (lineOf n) n (s.sign n) f r)
  rw [hsign] at hw htold
  refine ⟨?_, htold.mono hkeep⟩
  rw [State.conclude_signs, hw, hsigns]
  simp

end Sys2Proof.Machine
end

section
/-! PROOF. The ACK of each kind of frame: what it writes, and what the end of the frame leaves of it (R124, R136, R148, R151, R154,
R157, R165 to R167). -/

namespace Sys2Proof.Machine

/-! ### What the end of a frame leaves of a record -/

/-- A sign that has taken its line's target, or not, and that a wake has found, or not. -/
structure Sign.Follows (t : Granularity) (a b : Sign) : Prop where
  cfg : b.cfg = a.cfg
  planClass : b.planClass = a.planClass
  rotation : b.rotation = a.rotation
  shown : b.shown = a.shown
  need : b.need = a.need
  service : b.service = a.service
  ages : b.ages = a.ages
  cursor : b.cursor = a.cursor
  pollCount : b.pollCount = a.pollCount
  pollNeed : b.pollNeed = a.pollNeed
  restoreNeed : a.service ≠ .held → b.restoreNeed = a.restoreNeed
  restores : ∀ x, a.restoreNeed = some x → b.restoreNeed = some x
  holdNeed : a.holdNeed = none → b.holdNeed = none
  owed : a.owed = 0 → b.owed = 0
  granularity : a.service ≠ .held → a.cursor % t.bands = 0 → b.granularity = t
  derived : a.service = .held ∨ a.granularity = t → b.lapsePoint = a.lapsePoint ∧ b.slotTimer = a.slotTimer ∧ b.slotPeriod = a.slotPeriod

theorem Sign.adopt_owed (now : Tick) (t : Granularity) {g : Sign} (h : g.owed = 0) : (g.adopt now t).owed = 0 := by
  have hzero : ceilDiv (0 * g.granularity.bands) t.bands = 0 := by cases t <;> simp [ceilDiv, Granularity.bands]
  change min t.frames (ceilDiv (g.owed * g.granularity.bands) t.bands) = 0
  rw [h, hzero]
  exact Nat.min_zero _

theorem Sign.adopted_follows (now : Tick) (t : Granularity) (a : Sign) : a.Follows t (a.adopted now t) := by
  have hadopts : a.adopts t = true ↔ a.granularity ≠ t ∧ a.service ≠ .held ∧ a.cursor % t.bands = 0 := by
    simp [Sign.adopts, and_assoc]
  unfold Sign.adopted
  split
  · next h =>
    obtain ⟨hne, hheld, -⟩ := hadopts.1 h
    exact ⟨rfl, rfl, rfl, rfl, rfl, rfl, rfl, rfl, rfl, rfl, fun _ => rfl, fun _ hx => hx, id, Sign.adopt_owed now t, fun _ _ => rfl,
      fun hc => absurd hc (not_or.2 ⟨hheld, hne⟩)⟩
  · next h =>
    refine ⟨rfl, rfl, rfl, rfl, rfl, rfl, rfl, rfl, rfl, rfl, fun _ => rfl, fun _ hx => hx, id, id, fun hheld hcursor => ?_,
      fun _ => ⟨rfl, rfl, rfl⟩⟩
    by_contra hne
    exact h (hadopts.2 ⟨hne, hheld, hcursor⟩)

theorem Sign.Follows.wakes {now : Tick} {t : Granularity} {a b c : Sign} (h : a.Follows t b) (hw : b.Wakes now c) : a.Follows t c := by
  rcases hw with rfl | rfl
  · exact h
  · refine ⟨h.cfg, h.planClass, h.rotation, h.shown, h.need, h.service, h.ages, h.cursor, h.pollCount, h.pollNeed, fun hheld => ?_, fun x hx => ?_,
      fun _ => rfl, h.owed, h.granularity, h.derived⟩
    · rw [Sign.woken, if_neg (by rw [h.service]; exact hheld)]
      exact h.restoreNeed hheld
    · unfold Sign.woken
      rw [h.restores x hx]
      simp

/-- What an ACK leaves of a sign that shedding cannot take, field by field. -/
theorem State.AckLeaves.follows {s t : State} {n : Fin 16} {f : Frame} {r : SignReply} {a : Sign} (h : s.AckLeaves t n f r a) :
    ∃ b, (a.ended f).Follows (s.line (lineOf n)).target b ∧ t.sign n = b.told r := by
  obtain ⟨b, hb, ht⟩ := h.sign
  exact ⟨b, (Sign.adopted_follows ..).wakes hb, ht⟩

/-! ### The record that each kind of ACK writes -/

theorem State.changeService_quiet (s : State) (n : Fin 16) {v : Service} (hv : v ≠ .lapsed) :
    (s.changeService n v).sign n = if (s.sign n).service = v then s.sign n else (s.sign n).withService s.now v := by
  split
  · next h =>
    have hsame : s.changeService n v = s := if_pos h
    rw [hsame]
  · next h =>
    have hsigns := State.changeService_signs h hv
    have hsign (u : State) (hu : u.signs = s.signs.set n ((s.sign n).withService s.now v)) : u.sign n = (s.sign n).withService s.now v := by
      rw [State.sign, hu]
      exact State.setSign_sign_same s n _
    exact hsign _ hsigns

/-- A sign as it enters a service state, or stands in it. -/
def Sign.inService (now : Tick) (v : Service) (g : Sign) : Sign := if g.service = v then g else g.withService now v

/-- A sign with the picture of an acknowledged CONTENT or BLANK frame. -/
def Sign.displayed (now : Tick) (f : Frame) (g : Sign) : Sign := { g with shown := f.displays, need := g.settleNeed now f }

/-- A sign after the ACK of a CONTENT frame, before the checks of its ages. -/
def Sign.contentTaken (now : Tick) (f : Frame) (g : Sign) : Sign :=
  Sign.afterContent now f { (g.displayed now f).inService now .showing with restoreNeed := none }

/-- The retention fields of a sign as it is SHOWING: from HELD they are derived anew. -/
def Sign.lit (g : Sign) : Nat × Nat :=
  if g.service = .held then (g.derive.lapsePoint, g.derive.critical) else (g.lapsePoint, g.critical)

theorem Sign.contentTaken_record (now : Tick) (f : Frame) (g : Sign) :
    (g.contentTaken now f).service = .showing ∧ (g.contentTaken now f).restoreNeed = none ∧
    (g.contentTaken now f).ages = Ages.all (min g.lit.1 (ticksSince now f.startTick)) ∧ (g.contentTaken now f).owed = 0 ∧
    (g.contentTaken now f).cursor = 0 ∧ (g.contentTaken now f).lapsePoint = g.lit.1 ∧ (g.contentTaken now f).critical = g.lit.2 ∧
    (g.contentTaken now f).slotTimer = (g.contentTaken now f).slotPeriod ∧ (g.contentTaken now f).granularity = g.granularity ∧
    (g.contentTaken now f).cfg = g.cfg ∧ (g.contentTaken now f).planClass = g.planClass ∧ (g.contentTaken now f).rotation = g.rotation ∧
    (g.contentTaken now f).status = g.status ∧ (g.contentTaken now f).shown = f.displays ∧
    (g.contentTaken now f).need = g.settleNeed now f := by
  unfold Sign.contentTaken Sign.inService Sign.displayed Sign.afterContent Sign.lit Sign.elapsed
  by_cases hshow : g.service = .showing
  · simp [hshow]
  · by_cases hheld : g.service = .held
    · simp [hheld, Sign.withService, Sign.derive]
    · simp [hshow, hheld, Sign.withService]

theorem State.checkAges_young {s : State} {n : Fin 16} (hlapse : (s.sign n).ages.oldest < (s.sign n).lapsePoint)
    (hcritical : (s.sign n).ages.oldest < (s.sign n).critical) : s.checkAges n = s := by
  have hl : s.checkLapse n = s := if_neg fun hc => absurd hc.2 (by omega)
  unfold State.checkAges
  rw [hl]
  exact if_neg fun hc => absurd hc.2 (by omega)

theorem Ages.all_oldest (x : Nat) : (Ages.all x).oldest = x := by simp [Ages.all, Ages.oldest]

theorem State.acked_content {s : State} {n : Fin 16} {f : Frame} {st : SignStatus} (hkind : f.kind = .content) (hshed : (s.sign n).service ≠ .shed)
    (hlapse : min (s.sign n).lit.1 (ticksSince s.now f.startTick) < (s.sign n).lit.1)
    (hcritical : min (s.sign n).lit.1 (ticksSince s.now f.startTick) < (s.sign n).lit.2) :
    (s.acked n f st).sign n = (s.sign n).contentTaken s.now f := by
  have hwritten := s.writeDisplayed_sign n f n
  have hnow := s.writeDisplayed_now n f
  have hack : s.acked n f st = ((((s.writeDisplayed n f).changeService n .showing).clearRestore n).updSign n (Sign.afterContent s.now f)).checkAges n := by
    unfold State.acked State.ackSign
    rw [if_neg hshed, hkind]
  rw [hack]
  generalize s.writeDisplayed n f = u at *
  have hchange := u.changeService_quiet n (v := .showing) (by decide)
  rw [hwritten, if_pos rfl, hnow] at hchange
  generalize u.changeService n .showing = v at *
  have hset : ((v.clearRestore n).updSign n (Sign.afterContent s.now f)).sign n = (s.sign n).contentTaken s.now f := by
    rw [State.updSign_eq, State.setSign_sign_same, State.clearRestore, State.updSign_eq, State.setSign_sign_same, hchange]
    rfl
  generalize (v.clearRestore n).updSign n (Sign.afterContent s.now f) = w at *
  obtain ⟨-, -, hages, -, -, hpoint, hcrit, -⟩ := (s.sign n).contentTaken_record s.now f
  have hyoung : w.checkAges n = w := State.checkAges_young (by rw [hset, hages, hpoint, Ages.all_oldest]; exact hlapse)
    (by rw [hset, hages, hcrit, Ages.all_oldest]; exact hcritical)
  rw [hyoung]
  exact hset

/-- The picture that an ACK of a CONTENT frame writes is reported where it is another one. -/
theorem State.acked_content_told {s : State} {n : Fin 16} {f : Frame} {st : SignStatus} (hkind : f.kind = .content)
    (hshed : (s.sign n).service ≠ .shed) (hne : (s.sign n).shown ≠ f.displays) : (s.acked n f st).reported (.sign n) Flag.signDisplay := by
  have h := (recordStable_reported (.sign n) Flag.signDisplay).toDisplayStable
  have hr := h.toRetentionStable
  have hwritten : (s.writeDisplayed n f).reported (.sign n) Flag.signDisplay := by
    unfold State.writeDisplayed displayFlags
    dsimp only
    rw [if_neg hne]
    split
    · exact State.post_reported_of _ _ (by decide)
    · exact State.post_reported_of _ _ (by decide)
  unfold State.acked State.ackSign
  rw [if_neg hshed, hkind]
  exact hr.checkAges (h.sign (hr.clearRestore (h.changeService hwritten)))

theorem set_sign_of_sign {s t : State} {n : Fin 16} {g : Sign} (h : t.signs = s.signs.set n g) : t.sign n = g := by
  rw [State.sign, h]
  exact State.setSign_sign_same s n g

theorem State.writeDisplayed_signs (s : State) (n : Fin 16) (f : Frame) :
    (s.writeDisplayed n f).signs = s.signs.set n ((s.sign n).displayed s.now f) := by
  unfold State.writeDisplayed
  dsimp only
  rw [State.postIf_signs]
  rfl

/-- An ACK of a REFRESH frame restarts the bands it carried, where no age brings on anything. -/
theorem State.acked_refresh {s : State} {n : Fin 16} {f : Frame} {st : SignStatus} (hkind : f.kind = .refresh) (hshed : (s.sign n).service ≠ .shed)
    (hages : ((Sign.afterRefresh s.now f (s.sign n)).ages.oldest < (s.sign n).lapsePoint ∧
        (Sign.afterRefresh s.now f (s.sign n)).ages.oldest < (s.sign n).critical) ∨
      ((s.sign n).service = .lapsed ∧ (s.sign n).restoreNeed ≠ none)) :
    (s.acked n f st).signs = s.signs.set n (Sign.afterRefresh s.now f (s.sign n)) := by
  have hack : s.acked n f st = (s.updSign n (Sign.afterRefresh s.now f)).checkAges n := by
    unfold State.acked State.ackSign
    rw [if_neg hshed, hkind]
  have hset : (s.updSign n (Sign.afterRefresh s.now f)).signs = s.signs.set n (Sign.afterRefresh s.now f (s.sign n)) := rfl
  rw [hack]
  generalize s.updSign n (Sign.afterRefresh s.now f) = u at *
  have hsign := set_sign_of_sign hset
  have hsame : u.checkAges n = u := by
    rcases hages with ⟨hlapse, hcritical⟩ | ⟨hservice, hneed⟩
    · exact State.checkAges_young (by rw [hsign]; exact hlapse) (by rw [hsign]; exact hcritical)
    · have hu : (u.sign n).service = .lapsed := by rw [hsign]; exact hservice
      have hl : u.checkLapse n = u := if_neg fun hc => by
        have hs := hc.1
        rw [hu] at hs
        simp at hs
      have hraise : u.raiseRestore n = u := if_pos (by rw [hsign]; exact Option.isSome_iff_ne_none.2 hneed)
      unfold State.checkAges State.checkCritical
      rw [hl, hraise]
      exact ite_self u
  rw [hsame, hset]

/-- A sign after the ACK of a BLANK frame that shedding did not send. -/
def Sign.blankTaken (now : Tick) (f : Frame) (g : Sign) : Sign :=
  { (g.displayed now f).inService now .blank with restoreNeed := none }

theorem State.acked_blank {s : State} {n : Fin 16} {f : Frame} {st : SignStatus} (hkind : f.kind = .blank) (hshed : (s.sign n).service ≠ .shed)
    (hf : f.shedding = false) : (s.acked n f st).sign n = (s.sign n).blankTaken s.now f := by
  have hwritten := s.writeDisplayed_sign n f n
  have hnow := s.writeDisplayed_now n f
  have hack : s.acked n f st = ((s.writeDisplayed n f).changeService n .blank).clearRestore n := by
    unfold State.acked State.ackSign
    rw [if_neg hshed, hkind]
    dsimp only
    rw [if_neg (by rw [hf]; decide)]
  rw [hack]
  generalize s.writeDisplayed n f = u at *
  have hchange := u.changeService_quiet n (v := .blank) (by decide)
  rw [hwritten, if_pos rfl, hnow] at hchange
  generalize u.changeService n .blank = v at *
  rw [State.clearRestore, State.updSign_eq, State.setSign_sign_same, hchange]
  rfl

theorem Sign.blankTaken_record (now : Tick) (f : Frame) (g : Sign) :
    (g.blankTaken now f).service = .blank ∧ (g.blankTaken now f).restoreNeed = none ∧ (g.service ≠ .blank → (g.blankTaken now f).owed = 0) ∧
    (g.blankTaken now f).cfg = g.cfg ∧ (g.blankTaken now f).planClass = g.planClass ∧ (g.blankTaken now f).rotation = g.rotation ∧
    (g.blankTaken now f).status = g.status ∧ (g.blankTaken now f).shown = f.displays ∧ (g.blankTaken now f).need = g.settleNeed now f := by
  unfold Sign.blankTaken Sign.inService Sign.displayed
  by_cases hblank : g.service = .blank
  · simp [hblank]
  · by_cases hheld : g.service = .held
    · simp [hheld, Sign.withService, Sign.derive]
    · simp [hblank, hheld, Sign.withService]

/-- An ACK of the BLANK frame that shedding sent writes the picture alone, and clears a SHED sign's need. -/
theorem State.acked_shedding {s : State} {n : Fin 16} {f : Frame} {st : SignStatus} (hkind : f.kind = .blank) (hf : f.shedding = true) :
    (s.acked n f st).signs = s.signs.set n (if (s.sign n).service = .shed then { (s.sign n).displayed s.now f with shedNeed := none }
      else (s.sign n).displayed s.now f) := by
  have hwritten := s.writeDisplayed_signs n f
  unfold State.acked State.ackShed State.ackSign
  by_cases hshed : (s.sign n).service = .shed
  · rw [if_pos hshed, if_pos hshed]
    dsimp only
    rw [if_pos hf, if_pos (Or.inr hkind)]
    have hsign := set_sign_of_sign hwritten
    generalize s.writeDisplayed n f = u at *
    change u.signs.set n { u.sign n with shedNeed := none } = _
    rw [hsign, hwritten]
    simp
  · rw [if_neg hshed, if_neg hshed, hkind]
    dsimp only
    rw [if_pos hf]
    exact hwritten

/-- Any other ACK to a SHED sign writes a picture or nothing. -/
theorem State.acked_shed {s : State} {n : Fin 16} {f : Frame} {st : SignStatus} (hshed : (s.sign n).service = .shed) (hf : f.shedding = false) :
    (s.acked n f st).signs = s.signs.set n (if f.kind = .content ∨ f.kind = .blank then (s.sign n).displayed s.now f else s.sign n) := by
  have hwritten := s.writeDisplayed_signs n f
  unfold State.acked State.ackShed
  rw [if_pos hshed]
  dsimp only
  rw [if_neg (by rw [hf]; decide)]
  by_cases hkind : f.kind = .content ∨ f.kind = .blank
  · rw [if_pos hkind, if_pos hkind]
    exact hwritten
  · rw [if_neg hkind, if_neg hkind]
    refine Vector.ext fun i hi => ?_
    by_cases hin : n.val = i
    · subst hin
      simp [State.sign]
    · simp [hin]

/-- An ACK of a POLL frame brings an OFFLINE sign back. -/
theorem State.acked_poll {s : State} {n : Fin 16} {f : Frame} {st : SignStatus} (hkind : f.kind = .poll) (hshed : (s.sign n).service ≠ .shed) :
    s.acked n f st = if (s.sign n).service = .offline then s.changeService n .lapsed else s := by
  unfold State.acked State.ackSign
  rw [if_neg hshed, hkind]

theorem State.acked_hold {s : State} {n : Fin 16} {f : Frame} {st : SignStatus} (hkind : f.kind = .hold) (hshed : (s.sign n).service ≠ .shed) :
    s.acked n f st = s.ackHold n st := by
  unfold State.acked State.ackSign
  rw [if_neg hshed, hkind]

end Sys2Proof.Machine
end

section
/-! PROOF. The ACK of a HOLD frame, the band that an ACK moves, and all of what an ACK does (R136, R137, R148, R165 to R167). -/

namespace Sys2Proof.Machine

/-! ### HOLD (R165, R167) -/

/-- What a HOLD ACK with HELD leaves of a sign that was SHOWING or LAPSED. -/
structure Sign.HeldFrom (g a : Sign) (now : Tick) (holding : Prop) : Prop where
  service : a.service = .held
  ages : a.ages = g.ages
  owed : a.owed = 0
  lapsePoint : a.lapsePoint = 4 * g.heldSpan
  cfg : a.cfg = g.cfg
  planClass : a.planClass = g.planClass
  rotation : a.rotation = g.rotation
  status : a.status = g.status
  restoreNeed : ¬holding → a.restoreNeed = some (g.restoreNeed.getD now)

theorem Sign.withService_held {g : Sign} (h : g.service ≠ .held) (now : Tick) : g.withService now .held =
    { g with service := .held, holdNeed := none, shedNeed := none, owed := 0, heldShare := g.fullShare, lapsePoint := 4 * g.heldSpan } := by
  unfold Sign.withService
  rw [if_neg h]

theorem State.ackHold_held {s : State} {n : Fin 16} {st : SignStatus} (hst : st.held = true)
    (hs : (s.sign n).service = .showing ∨ (s.sign n).service = .lapsed) :
    (s.sign n).HeldFrom ((s.ackHold n st).sign n) s.now (s.line (lineOf n)).holds := by
  have hne : (s.sign n).service ≠ .held := Sign.not_held_of hs
  have hchange := s.changeService_quiet n (v := .held) (by decide)
  rw [if_neg hne, Sign.withService_held hne] at hchange
  have hnow : (s.changeService n .held).now = s.now := now_of_exceptSigns (s.changeService_exceptSigns n .held)
  have hline : (s.line (lineOf n)).Retains ((s.changeService n .held).line (lineOf n)) :=
    (lineStable_line (lineOf n) (s.line (lineOf n))).changeAny .rfl .rfl trivial
  have hack : s.ackHold n st =
      if ((s.changeService n .held).line (lineOf n)).state = .holdEntry ∨ ((s.changeService n .held).line (lineOf n)).state = .held
      then s.changeService n .held else (s.changeService n .held).raiseRestore n := if_pos hst
  rw [hack]
  generalize s.changeService n .held = v at *
  split
  · next hholds =>
    rw [hchange]
    exact ⟨rfl, rfl, rfl, rfl, rfl, rfl, rfl, rfl, fun hs => absurd hholds (hline.awake hs).1⟩
  · next hholds =>
    unfold State.raiseRestore
    split
    · next hsome =>
      rw [hchange] at hsome ⊢
      obtain ⟨x, hx⟩ := Option.isSome_iff_exists.1 hsome
      have hx' : (s.sign n).restoreNeed = some x := hx
      exact ⟨rfl, rfl, rfl, rfl, rfl, rfl, rfl, rfl, fun _ => by rw [hx']; rfl⟩
    · next hsome =>
      have hset : (v.updSign n fun g => { g with restoreNeed := some v.now }).sign n = { v.sign n with restoreNeed := some v.now } := by
        rw [State.updSign_eq, State.setSign_sign_same]
      have hrests : ¬((v.updSign n fun g => { g with restoreNeed := some v.now }).line (lineOf n)).holds := hholds
      generalize (v.updSign n fun g => { g with restoreNeed := some v.now }) = w at *
      have hraised : (w.restoreRaised n).sign n = w.sign n := by
        unfold State.restoreRaised
        rw [State.askArbitration_sign, State.wake_of_rests hrests]
      rw [hraised, hset, hchange, hnow]
      rw [hchange] at hsome
      have hnone : (s.sign n).restoreNeed = none := by simpa using hsome
      exact ⟨rfl, rfl, rfl, rfl, rfl, rfl, rfl, rfl, fun _ => by rw [hnone]; rfl⟩

theorem State.ackHold_free {s : State} {n : Fin 16} {st : SignStatus} (hst : st.held = false) (hb : st.blanked = false) :
    s.ackHold n st = s.wake (lineOf n) 7 := by
  unfold State.ackHold
  rw [if_neg (by rw [hst]; decide), if_neg (by rw [hb]; decide)]

/-! ### The band (R148) -/

theorem Sign.withService_band (now : Tick) (v : Service) (g : Sign) : (g.withService now v).band = g.band := by
  unfold Sign.withService
  by_cases h : g.service = .held
  · simp only [if_pos h]
    cases v <;> rfl
  · simp only [if_neg h]
    cases v <;> rfl

theorem lineStable_band (n : Fin 16) (b : Band) : LineStable (fun _ => True) fun t => (t.sign n).band = b where
  sign {s m x} hx hs _ := by
    rw [State.setSign_sign]
    split
    · next h => subst h; exact hx.band.trans hs
    · exact hs
  line _ hs _ := hs
  post hs := hs

theorem lineStable_temperature (n : Fin 16) (x : Option Int) : LineStable (fun _ => True) fun t => (t.sign n).temperature = x where
  sign {s m y} hy hs _ := by
    rw [State.setSign_sign]
    split
    · next h => subst h; exact hy.temperature.trans hs
    · exact hs
  line _ hs _ := hs
  post hs := hs

/-- No ACK moves the band but by its temperature. -/
theorem State.acked_band (s : State) (n : Fin 16) (f : Frame) (st : SignStatus) : ((s.acked n f st).sign n).band = (s.sign n).band := by
  have h := lineStable_band n (s.sign n).band
  have hset {u : State} {g : Sign} (hg : g.band = (s.sign n).band) : ((u.setSign n g).sign n).band = (s.sign n).band := by
    rw [State.setSign_sign_same]
    exact hg
  have hdisplayed : ((s.writeDisplayed n f).sign n).band = (s.sign n).band := by
    rw [State.writeDisplayed_sign, if_pos rfl]
  have hchange {u : State} {v : Service} (hu : (u.sign n).band = (s.sign n).band) : ((u.changeService n v).sign n).band = (s.sign n).band :=
    h.changeAny (hset ((Sign.withService_band ..).trans hu)) hu trivial
  unfold State.acked State.ackShed State.ackSign
  split
  · have hshown : ((if f.kind = .content ∨ f.kind = .blank then s.writeDisplayed n f else s).sign n).band = (s.sign n).band :=
      iteInduction (motive := fun t : State => (t.sign n).band = (s.sign n).band) (fun _ => hdisplayed) fun _ => rfl
    dsimp only
    split
    · exact hset hshown
    · exact hshown
  · split
    · exact h.checkAges (hset (hset (hchange hdisplayed))) trivial
    · exact h.checkAges (hset rfl) trivial
    · dsimp only
      split
      · exact hdisplayed
      · exact hset (hchange hdisplayed)
    · unfold State.ackHold
      dsimp only
      split
      · split
        · exact hchange rfl
        · exact h.raiseRestore (hchange rfl) trivial
      · split
        · rfl
        · exact h.wake rfl trivial
    · split
      · exact hchange rfl
      · rfl

/-- Under AUTO the temperature of the reply moves the band. -/
theorem State.ackTail_auto {s : State} {n : Fin 16} {f : Frame} {r : SignReply} (before : Sign) (hmode : (s.line (lineOf n)).cfg.bandMode = .auto) :
    ((s.ackTail (lineOf n) n before f r).sign n).temperature = some r.temperature ∧
      ((s.ackTail (lineOf n) n before f r).sign n).band = (s.sign n).band.moved r.temperature := by
  have hstart := lineStable_band n (s.sign n).band
  have hband := hstart.adoptSigns (l := lineOf n) (ns := [n]) (hstart.settleCounted (s := s) (n := n) (g := before) rfl trivial) trivial
    fun _ _ => trivial
  have hlines := lineStable_line (lineOf n) (s.line (lineOf n))
  have hline := hlines.adoptSigns (l := lineOf n) (ns := [n]) (hlines.settleCounted (s := s) (n := n) (g := before) .rfl trivial) trivial
    fun _ _ => trivial
  unfold State.ackTail
  generalize (s.settleCounted n before).adoptSigns (lineOf n) [n] = u at *
  have hwritten := u.writeStatus_told n r n
  rw [if_pos rfl] at hwritten
  have hmode' : ((u.writeStatus n r).line (lineOf n)).cfg.bandMode = .auto := by
    have hsame (v : State) (hv : v.lines = u.lines) : v.line (lineOf n) = u.line (lineOf n) := by simp only [State.line, hv]
    rw [hsame _ (u.writeStatus_lines n r), hline.cfg]
    exact hmode
  generalize u.writeStatus n r = v at *
  have hrule : v.bandRule n r.temperature = v.setBand n ((v.sign n).band.moved r.temperature) := if_pos hmode'
  have hvband : (v.sign n).band = (s.sign n).band := by
    rw [hwritten]
    exact hband
  have htemperature := lineStable_temperature n (some r.temperature)
  have hb := v.setBand_band n n ((v.sign n).band.moved r.temperature)
  have ht := htemperature.setBand (s := v) (n := n) (b := (v.sign n).band.moved r.temperature)
    (fun {u m b} hu _ => by
      rw [State.updSign_eq, State.setSign_sign]
      split
      · next hm => subst hm; exact hu
      · exact hu) (by rw [hwritten]; rfl) trivial
  rw [← hrule] at hb ht
  rw [if_pos rfl, hvband] at hb
  generalize v.bandRule n r.temperature = w at *
  rw [State.lineIdle_sign, State.checkResume_sign, State.checkHeld_sign]
  exact ⟨htemperature.takeBlanked ht trivial, (lineStable_band n _).takeBlanked hb trivial⟩

/-! ### An ABSENT sign (R136, R154) -/

theorem State.endAck_leaves_absent {s : State} {f : Frame} {n : Fin 16} (hn : signAt (lineOf n) f.address = n)
    (habsent : (s.sign n).service = .absent) (r : SignReply) :
    (∃ b, (s.sign n).Follows (s.line (lineOf n)).target b ∧ b.status = (s.sign n).status ∧ b.temperature = (s.sign n).temperature ∧
      (State.conclude s (s.endAck (lineOf n) f r)).sign n = b) ∧
    ((s.sign n).granularity = (s.line (lineOf n)).target → (State.conclude s (s.endAck (lineOf n) f r)).signs = s.signs) ∧
    ((s.sign n).adopts (s.line (lineOf n)).target = true →
      (State.conclude s (s.endAck (lineOf n) f r)).reported (.sign n) Flag.signGranularity) := by
  have hline := s.clearFlight_line (lineOf n)
  have hsigns : (s.clearFlight (lineOf n)).signs = s.signs := rfl
  have hsign : (s.clearFlight (lineOf n)).sign n = s.sign n := rfl
  have hnow : (s.clearFlight (lineOf n)).now = s.now := rfl
  rw [State.endAck_absent hn habsent]
  generalize s.clearFlight (lineOf n) = u at *
  have hidle : (u.line (lineOf n)).inFlight = none := by rw [hline]
  have htarget : (u.line (lineOf n)).target = (s.line (lineOf n)).target := by rw [hline]
  have hadopted : (u.sign n).adopted s.now (u.line (lineOf n)).target = (s.sign n).adopted s.now (s.line (lineOf n)).target := by
    rw [hsign, htarget]
  obtain ⟨hservice, -, -⟩ := (s.sign n).adopted_keeps s.now (s.line (lineOf n)).target
  have hmay : ((s.sign n).adopted s.now (s.line (lineOf n)).target).maySheds = false := by
    simp [Sign.maySheds, Sign.counted, hservice, habsent]
  have htakes := State.adoptSigns_takes (s := u) (n := n) (Q := fun _ => True) (R := ((s.sign n).adopted s.now (s.line (lineOf n)).target).Wakes s.now)
    (steady_wakes hmay (by rw [hservice, habsent]; decide)) hidle ⟨hnow, trivial⟩ fun _ => by rw [hadopted]; exact .inl rfl
  have hreported := State.adoptSigns_reported (s := u) (n := n) hidle
  have hsame (v : State) : ((v.lineIdle (lineOf n)).sign n = v.sign n) ∧ (v.lineIdle (lineOf n)).signs = v.signs :=
    ⟨v.lineIdle_sign _ n, (exchangeStable_signs v.signs).lineIdle rfl⟩
  have hrecord {b : Sign} (h : ((s.sign n).adopted s.now (s.line (lineOf n)).target).Wakes s.now b) :
      b.status = (s.sign n).status ∧ b.temperature = (s.sign n).temperature := by
    unfold Sign.adopted at h
    rcases h with rfl | rfl <;> split <;> exact ⟨rfl, rfl⟩
  refine ⟨?_, fun hg => ?_, fun ha => ?_⟩
  · obtain ⟨hstatus, htemperature⟩ := hrecord htakes.2
    refine ⟨_, (Sign.adopted_follows ..).wakes htakes.2, hstatus, htemperature, ?_⟩
    rw [State.conclude_sign, (hsame _).1]
  · have hmay : u.mayAdopt n = false := by
      rw [State.mayAdopt_of_idle hidle, hsign, htarget]
      simp [Sign.adopts, hg]
    rw [State.conclude_signs, (hsame _).2, State.adoptSigns_none hmay]
    exact hsigns
  · refine (recordStable_reported _ _).toStepStable.conclude ((recordStable_reported _ _).toStepStable.toTrafficStable.lineIdle (hreported ?_))
    rw [hsign, htarget]
    exact ha

/-! ### The obligation -/

theorem Frame.displays_content {f : Frame} (h : f.kind = .content) :
    f.displays = { page := f.page, cls := f.builtClass, confirmed := true, fallback := f.fallback } := if_pos h

theorem Frame.displays_blank {f : Frame} (h : f.kind = .blank) : f.displays.page = none ∧ f.displays.confirmed = true := by
  unfold Frame.displays
  rw [if_neg (by rw [h]; decide)]
  split <;> exact ⟨rfl, rfl⟩

theorem Sign.maySheds_of_fixed {g : Sign} (h : g.cfg.sheddable = false) : g.maySheds = false := by simp [Sign.maySheds, h]

theorem SignReply.not_blanks_of_kind {r : SignReply} {f : Frame} {v : Service} (h : f.kind = .content ∨ f.kind = .blank) : ¬r.blanks f v := by
  rintro ⟨-, hk, -⟩
  rcases h with h | h <;> rw [h] at hk <;> simp at hk

theorem SignReply.not_blanks_of_status {r : SignReply} {f : Frame} {v : Service} (h : r.status.blanked = false) : ¬r.blanks f v := by
  rintro ⟨hb, -⟩
  rw [h] at hb
  cases hb

theorem SignReply.not_blanks_of_service {r : SignReply} {f : Frame} {v : Service} (h : v ≠ .showing ∧ v ≠ .held) : ¬r.blanks f v := by
  rintro ⟨-, -, hv⟩
  exact hv.elim h.1 h.2

theorem Granularity.bands_eq (t : Granularity) : t.bands = match t with | .full => 4 | .half => 2 | .quarter => 1 := rfl

theorem Sign.lit_eq (g : Sign) : g.lit =
    (let lapse : Nat := if g.service = .held then 8 * g.cfg.holdover / (match g.band with | .normal => 1 | .cold => 2 | .severe => 4)
        else g.lapsePoint
     (lapse, if g.service = .held then 3 * lapse / 4 else g.critical)) := by
  have hdivisor : g.band.divisor = match g.band with | .normal => 1 | .cold => 2 | .severe => 4 := rfl
  unfold Sign.lit
  rw [← hdivisor]
  by_cases h : g.service = .held
  · simp only [if_pos h]
    rfl
  · simp only [if_neg h]

end Sys2Proof.Machine
end

section
/-! PROOF. All of what a valid ACK does (R136, R137, R148, R151, R154, R157, R165 to R167). -/

namespace Sys2Proof.Machine

/-- The fields of a sign that every ACK on a line of fixed band mode leaves alike. -/
structure State.AckTaken (s t : State) (n : Fin 16) (r : SignReply) : Prop where
  status : (t.sign n).status = r.status
  temperature : (t.sign n).temperature = some r.temperature
  pollCount : (t.sign n).pollCount = 0
  pollNeed : (t.sign n).pollNeed = none
  cfg : (t.sign n).cfg = (s.sign n).cfg
  planClass : (t.sign n).planClass = (s.sign n).planClass
  rotation : (t.sign n).rotation = (s.sign n).rotation
  told : t.StatusTold n (s.sign n).status r.status

/-- What an ACK's effect leaves of configuration, plan and status. -/
def Sign.Alike (g a : Sign) : Prop := a.cfg = g.cfg ∧ a.planClass = g.planClass ∧ a.rotation = g.rotation ∧ a.status = g.status

theorem State.AckLeaves.taken {s t : State} {n : Fin 16} {f : Frame} {r : SignReply} {a : Sign} (h : s.AckLeaves t n f r a)
    (ha : (s.sign n).Alike a) : s.AckTaken t n r := by
  obtain ⟨b, hb, ht⟩ := h.follows
  obtain ⟨hcfg, hplan, hrotation, hstatus⟩ := ha
  have htold := h.told
  rw [hstatus] at htold
  refine ⟨by rw [ht]; rfl, by rw [ht]; rfl, ?_, ?_, ?_, ?_, ?_, htold⟩ <;> rw [ht]
  · exact hb.pollCount
  · exact hb.pollNeed
  · exact hb.cfg.trans hcfg
  · exact hb.planClass.trans hplan
  · exact hb.rotation.trans hrotation

theorem State.ackTaken_of_set {s t : State} {n : Fin 16} {f : Frame} {r : SignReply} {a : Sign} (ht : t.signs = s.signs.set n ((a.ended f).told r))
    (htold : t.StatusTold n a.status r.status) (ha : (s.sign n).Alike a) : s.AckTaken t n r ∧ t.sign n = (a.ended f).told r := by
  obtain ⟨hcfg, hplan, hrotation, hstatus⟩ := ha
  have hsign := set_sign_of_sign ht
  rw [hstatus] at htold
  refine ⟨⟨?_, ?_, ?_, ?_, ?_, ?_, ?_, htold⟩, hsign⟩ <;> rw [hsign]
  · rfl
  · rfl
  · rfl
  · rfl
  · exact hcfg
  · exact hplan
  · exact hrotation

theorem band_moved_eq (b : Band) (x : Int) : b.moved x = match b with
    | .normal => if x ≤ -26 then .severe else if x ≤ -11 then .cold else .normal
    | .cold => if x ≤ -26 then .severe else if -8 ≤ x then .normal else .cold
    | .severe => if -8 ≤ x then .normal else if -23 ≤ x then .cold else .severe := by
  cases b <;> rfl

/-- A change of service state is reported. -/
theorem State.changeService_reported {s : State} {n : Fin 16} {v : Service} (hne : (s.sign n).service ≠ v) :
    (s.changeService n v).reported (.sign n) (serviceFlags (s.sign n) ((s.sign n).withService s.now v)) := by
  have hr := (recordStable_reported (.sign n) (serviceFlags (s.sign n) ((s.sign n).withService s.now v))).toDisplayStable.toRetentionStable
  have hpost := State.post_reported_of (s.setSign n ((s.sign n).withService s.now v)) (.sign n) (BitVec.and_self
    (x := serviceFlags (s.sign n) ((s.sign n).withService s.now v)))
  unfold State.changeService
  rw [if_neg hne]
  dsimp only
  split
  · exact hr.checkResume (hr.checkHeld (hr.restoreRaised hpost))
  · exact hr.checkResume (hr.checkHeld hpost)

theorem serviceFlags_offline {old new : Sign} (h : old.service = .offline ∨ new.service = .offline) :
    serviceFlags old new &&& (Flag.signService ||| Flag.signOffline) = Flag.signService ||| Flag.signOffline := by
  unfold serviceFlags
  rw [if_pos h]
  exact flags_or_left _ BitVec.and_self

/-- What a sign that was OFFLINE has as it is LAPSED (R138). -/
theorem Sign.withService_returned {g : Sign} (h : g.service = .offline) (now : Tick) :
    (g.withService now .lapsed).service = .lapsed ∧ (g.withService now .lapsed).restoreNeed = some (g.restoreNeed.getD now) ∧
    (g.withService now .lapsed).ages = Ages.all g.lapsePoint ∧ (g.withService now .lapsed).cfg = g.cfg ∧
    (g.withService now .lapsed).planClass = g.planClass ∧ (g.withService now .lapsed).rotation = g.rotation ∧
    (g.withService now .lapsed).status = g.status := by
  simp [Sign.withService, h]

theorem Line.Exchanges.wakeCause {a b : Line} (h : a.Exchanges b) : b.wakeCause = a.wakeCause := (congrArg Line.wakeCause h :)

/-- A wake leaves service state, configuration, plan and status. -/
theorem Sign.alike_of_wakes {now : Tick} {g a : Sign} (h : g.Wakes now a) : a.service = g.service ∧ a.cfg = g.cfg ∧ g.Alike a := by
  rcases h with rfl | rfl <;> exact ⟨rfl, rfl, rfl, rfl, rfl, rfl⟩

theorem Band.colder_divisor (b : Band) : b.colder.divisor = match b with | .normal => 2 | .cold => 4 | .severe => 4 := by
  cases b <;> rfl

/-- Under AUTO the ACK's temperature is written and moves the band. -/
theorem State.endAck_auto {s : State} {f : Frame} {n : Fin 16} {r : SignReply} (hn : signAt (lineOf n) f.address = n)
    (hp : (s.sign n).service ≠ .absent) (hmode : (s.line (lineOf n)).cfg.bandMode = .auto) :
    ((State.conclude s (s.endAck (lineOf n) f r)).sign n).temperature = some r.temperature ∧
      ((State.conclude s (s.endAck (lineOf n) f r)).sign n).band = (s.sign n).band.moved r.temperature := by
  have hband := (s.clearFlight (lineOf n)).acked_band n f r.status
  have hline := (s.clearFlight (lineOf n)).acked_line n f r.status
  have hsign : (s.clearFlight (lineOf n)).sign n = s.sign n := rfl
  rw [s.clearFlight_line] at hline
  rw [hsign] at hband
  rw [State.conclude_sign, State.endAck_present hn hp]
  generalize (s.clearFlight (lineOf n)).acked n f r.status = u at *
  have hended : ((u.frameEnded n f).sign n).band = (s.sign n).band := by
    rw [State.frameEnded_sign, if_pos rfl]
    exact hband
  have htail := State.ackTail_auto (s := u.frameEnded n f) (n := n) (f := f) (r := r) (s.sign n) (by
    change (u.line (lineOf n)).cfg.bandMode = _
    rw [hline.cfg]
    exact hmode)
  rw [hended] at htail
  exact htail

/-- Settles O48: the effect on the sign is read off the kind of the frame; the end of the frame settles the load, has the sign take
its line's target and writes status and temperature. -/
theorem signAckEffects : Obligations.SignAckEffects := by
  unfold Obligations.SignAckEffects
  intro l n f status temperature s hs hflight haddress g body ack flags degrees free fixed lapse critical age taken
  obtain ⟨hn, rfl⟩ := signAt_of haddress
  have hlit : g.lit = (lapse, critical) := g.lit_eq
  have hexec : exec ack s = .next (State.conclude s (s.endAck (lineOf n) f
      { result := .ack, status := SignStatus.ofByte status, temperature := clampInt (-60) 80 temperature.toInt })) := by
    have h := exec_signReply hs (lineOf n) (f.replyBytes 0 status temperature)
    rw [State.takeReply_ack hflight] at h
    exact h
  have hout : (State.conclude s (s.takeReply (lineOf n) (f.replyBytes 0 status temperature))).exceptOutputs = s.exceptOutputs :=
    (State.conclude_exceptOutputs ..).trans (s.takeReply_exceptOutputs ..)
  rw [State.takeReply_ack hflight] at hout
  generalize hr : ({ result := .ack, status := SignStatus.ofByte status, temperature := clampInt (-60) 80 temperature.toInt } : SignReply) = r at *
  have hflags : r.status = flags := by rw [← hr]; rfl
  have hdegrees : r.temperature = degrees := by rw [← hr]; rfl
  have hfirm {a : Sign} := State.endAck_firm (s := s) (f := f) (n := n) (r := r) (a := a) hn
  have hquiet {a : Sign} := State.endAck_quiet (s := s) (f := f) (n := n) (r := r) (a := a) hn
  have hauto := State.endAck_auto (s := s) (f := f) (n := n) (r := r) hn
  have habsent := fun ha => State.endAck_leaves_absent (s := s) (f := f) (n := n) hn ha r
  generalize State.conclude s (s.endAck (lineOf n) f r) = t at *
  have htaken (h : s.AckTaken t n r) : taken t :=
    ⟨h.status.trans hflags, by rw [h.temperature, hdegrees], h.pollCount, h.pollNeed, h.cfg, h.planClass, h.rotation,
      fun hd => h.told.door (by rw [hflags]; exact hd), fun hp => h.told.pixel (by rw [hflags]; exact hp), hout⟩
  have hclear : (s.clearFlight (lineOf n)).sign n = g := rfl
  have hcarried (u : State) (a : Sign) (hu : u.signs = (s.clearFlight (lineOf n)).signs.set n a) : u.signs = s.signs.set n a := hu
  refine ⟨fun ha => ?_, fun hfree hkind hfixed hlapse hcritical => ?_, fun hkind hfixed hservice hblanked htarget => ?_, fun hfree hkind hfixed => ?_,
    fun hkind hf hmode hp htarget => ?_, fun hshed hf hmode htarget => ?_, fun hfree hkind hfixed hblanked => ?_,
    fun hkind hfixed hservice hblanked => ?_, fun hfree hmode => ?_⟩
  · obtain ⟨⟨b, hb, hstatus, htemperature, hsign⟩, hsame, hadopts⟩ := habsent ha
    have hheld : g.service ≠ .held := by rw [ha]; decide
    refine ⟨t, hexec, hout, ?_⟩
    rw [hsign]
    refine ⟨hb.service.trans ha, hstatus, htemperature, hb.shown, hsame, fun hne hcursor => ⟨hb.granularity hheld hcursor, hadopts ?_⟩⟩
    have hfit : g.cursor % (s.line (lineOf n)).target.bands = 0 := hcursor
    change g.adopts _ = true
    simp [Sign.adopts, hne, hheld, hfit]
  · obtain ⟨hp, hshed, hplain⟩ := hfree
    obtain ⟨hmode, hsheddable⟩ := hfixed
    have hl : min g.lit.1 (ticksSince s.now f.startTick) < g.lit.1 := by rw [hlit]; exact hlapse
    have hc : min g.lit.1 (ticksSince s.now f.startTick) < g.lit.2 := by rw [hlit]; exact hcritical
    obtain ⟨hservice, hneed, hages, howed, hcursor, hpoint, -, htimer, hgran, hcfg, hplan, hrotation, hstatus, hshown, hdpl⟩ :=
      g.contentTaken_record s.now f
    have hleaves := hfirm (a := g.contentTaken s.now f) hp hmode (State.acked_content (s := s.clearFlight (lineOf n)) hkind hshed hl hc)
      (Sign.maySheds_of_fixed (by rw [hcfg]; exact hsheddable)) (by rw [hservice]; decide) (SignReply.not_blanks_of_kind (.inl hkind))
    obtain ⟨b, hb, hsign⟩ := hleaves.follows
    have hheld : (g.contentTaken s.now f).service ≠ .held := by rw [hservice]; decide
    have htold : (t.sign n).shown = f.displays := by rw [hsign]; exact hb.shown.trans hshown
    refine ⟨t, hexec, htaken (hleaves.taken ⟨hcfg, hplan, hrotation, hstatus⟩), ?_, ?_, ?_, ?_, ?_, ?_, fun hg => ?_, ?_, fun hne => ?_, ?_⟩
    · rw [hsign]; exact hb.service.trans hservice
    · rw [hsign]; exact (hb.restoreNeed hheld).trans hneed
    · rw [hsign]
      refine hb.ages.trans (hages.trans ?_)
      rw [hlit]
      rfl
    · rw [hsign]; exact hb.owed howed
    · rw [hsign]; exact hb.cursor.trans hcursor
    · rw [hsign, hleaves.target]
      refine hb.granularity hheld ?_
      change (g.contentTaken s.now f).cursor % _ = 0
      rw [hcursor]
      exact Nat.zero_mod _
    · obtain ⟨h1, h2, h3⟩ := hb.derived (.inr (hgran.trans hg))
      rw [hsign]
      refine ⟨h1.trans (hpoint.trans ?_), h2.trans (htimer.trans h3.symm)⟩
      rw [hlit]
    · rw [htold, Frame.displays_content hkind]
    · refine hleaves.keeps _ _ (State.acked_content_told (s := s.clearFlight (lineOf n)) hkind hshed ?_)
      rw [htold] at hne
      exact hne
    · rw [hsign]
      refine hb.need.trans (hdpl.trans ?_)
      unfold Sign.settleNeed
      rw [if_neg (by rw [hplain]; decide), if_pos hkind]
  · obtain ⟨hmode, -⟩ := hfixed
    have hp : g.service ≠ .absent := by rcases hservice with h | h <;> rw [h] <;> decide
    have hshed : g.service ≠ .shed := by rcases hservice with h | h <;> rw [h] <;> decide
    have hage : g.elapsed s.now f = age := by
      change min g.lapsePoint _ = min (if g.service = .held then _ else g.lapsePoint) _
      rw [if_neg (Sign.not_held_of hservice)]
      rfl
    have hafter : Sign.afterRefresh s.now f g =
        { g with ages := g.ages.setFrom f.firstBand f.bands age, owed := g.owed - 1, cursor := (f.firstBand + f.bands) % 4 } := by
      rw [← hage]
      rfl
    intro at' ages hages
    have hwritten := hcarried _ _ (State.acked_refresh (s := s.clearFlight (lineOf n)) (st := r.status) hkind hshed (by
      rw [hclear]
      change ((Sign.afterRefresh s.now f g).ages.oldest < _ ∧ (Sign.afterRefresh s.now f g).ages.oldest < _) ∨ _
      rw [hafter]
      exact hages))
    obtain ⟨hsigns, htold⟩ := hquiet (a := Sign.afterRefresh s.now f g) hp hmode hwritten rfl htarget
      (SignReply.not_blanks_of_status (by rw [hflags]; exact hblanked))
    refine ⟨t, hexec, htaken (State.ackTaken_of_set hsigns htold ⟨rfl, rfl, rfl, rfl⟩).1, ?_⟩
    rw [hsigns, hafter, Sign.ended, if_neg (by rw [hkind]; decide), Sign.told, hflags, hdegrees]
    rfl
  · obtain ⟨hp, hshed, hplain⟩ := hfree
    obtain ⟨hmode, hsheddable⟩ := hfixed
    obtain ⟨hservice, hneed, howed, hcfg, hplan, hrotation, hstatus, hshown, hdpl⟩ := g.blankTaken_record s.now f
    have hleaves := hfirm (a := g.blankTaken s.now f) hp hmode (State.acked_blank (s := s.clearFlight (lineOf n)) hkind hshed hplain)
      (Sign.maySheds_of_fixed (by rw [hcfg]; exact hsheddable)) (by rw [hservice]; decide) (SignReply.not_blanks_of_kind (.inr hkind))
    obtain ⟨b, hb, hsign⟩ := hleaves.follows
    have hheld : (g.blankTaken s.now f).service ≠ .held := by rw [hservice]; decide
    have hdisplays : (t.sign n).shown = f.displays := by rw [hsign]; exact hb.shown.trans hshown
    obtain ⟨hpage, hconfirmed⟩ := Frame.displays_blank hkind
    refine ⟨t, hexec, htaken (hleaves.taken ⟨hcfg, hplan, hrotation, hstatus⟩), ?_, ?_, fun hne => ?_, by rw [hdisplays, hpage],
      by rw [hdisplays, hconfirmed], fun hclass hfallback => ?_⟩ <;> rw [hsign]
    · exact hb.service.trans hservice
    · exact (hb.restoreNeed hheld).trans hneed
    · exact hb.owed (howed hne)
    · refine hb.need.trans (hdpl.trans ?_)
      simp [Sign.settleNeed, hplain, hfallback, hkind, hclass]
  · have hwritten := hcarried _ _ (State.acked_shedding (s := s.clearFlight (lineOf n)) (st := r.status) hkind hf)
    rw [hclear] at hwritten
    have hneed : g.settleNeed s.now f = g.need := if_pos hf
    have hpage := (Frame.displays_blank hkind).1
    by_cases hshed : g.service = .shed
    · rw [if_pos hshed] at hwritten
      obtain ⟨hsigns, htold⟩ := hquiet (a := { g.displayed s.now f with shedNeed := none }) hp hmode hwritten rfl htarget
        (SignReply.not_blanks_of_kind (.inr hkind))
      obtain ⟨hack, hsign⟩ := State.ackTaken_of_set hsigns htold ⟨rfl, rfl, rfl, rfl⟩
      refine ⟨t, hexec, htaken hack, ?_⟩
      rw [hsign]
      exact ⟨rfl, rfl, hneed, hpage, rfl, fun _ => rfl⟩
    · rw [if_neg hshed] at hwritten
      obtain ⟨hsigns, htold⟩ := hquiet (a := g.displayed s.now f) hp hmode hwritten rfl htarget (SignReply.not_blanks_of_kind (.inr hkind))
      obtain ⟨hack, hsign⟩ := State.ackTaken_of_set hsigns htold ⟨rfl, rfl, rfl, rfl⟩
      refine ⟨t, hexec, htaken hack, ?_⟩
      rw [hsign]
      exact ⟨rfl, rfl, hneed, hpage, rfl, fun hc => absurd hc hshed⟩
  · have hwritten := hcarried _ _ (State.acked_shed (s := s.clearFlight (lineOf n)) (st := r.status) hshed hf)
    rw [hclear] at hwritten
    have hp : g.service ≠ .absent := by rw [hshed]; decide
    have hblank {a : Sign} (ha : a.service = g.service) : ¬r.blanks f a.service :=
      SignReply.not_blanks_of_service (by rw [ha, hshed]; decide)
    by_cases hkind : f.kind = .content ∨ f.kind = .blank
    · rw [if_pos hkind] at hwritten
      obtain ⟨hsigns, htold⟩ := hquiet (a := g.displayed s.now f) hp hmode hwritten rfl htarget (hblank rfl)
      obtain ⟨hack, hsign⟩ := State.ackTaken_of_set hsigns htold ⟨rfl, rfl, rfl, rfl⟩
      refine ⟨t, hexec, htaken hack, ?_⟩
      rw [hsign]
      exact ⟨hshed, rfl, rfl, rfl, rfl, fun hc => Frame.displays_content hc⟩
    · rw [if_neg hkind] at hwritten
      obtain ⟨hsigns, htold⟩ := hquiet (a := g) hp hmode hwritten rfl htarget (hblank rfl)
      obtain ⟨hack, hsign⟩ := State.ackTaken_of_set hsigns htold ⟨rfl, rfl, rfl, rfl⟩
      refine ⟨t, hexec, htaken hack, ?_⟩
      rw [hsign]
      exact ⟨hshed, rfl, rfl, rfl, rfl, fun hc => absurd (Or.inl hc) hkind⟩
  · obtain ⟨hp, hshed, -⟩ := hfree
    obtain ⟨hmode, hsheddable⟩ := hfixed
    have hpoll := State.acked_poll (s := s.clearFlight (lineOf n)) (st := r.status) hkind hshed
    have hblank {v : Service} : ¬r.blanks f v := SignReply.not_blanks_of_status (by rw [hflags]; exact hblanked)
    by_cases hoff : g.service = .offline
    · rw [if_pos (show ((s.clearFlight (lineOf n)).sign n).service = .offline from hoff)] at hpoll
      have hne : ((s.clearFlight (lineOf n)).sign n).service ≠ .lapsed := by
        rw [hclear, hoff]
        decide
      have hserved := State.changeService_served hne (.inl rfl)
      have hsent := State.changeService_reported hne
      rw [← hpoll] at hserved hsent
      obtain ⟨hservice, hneed, hages, hcfg, hplan, hrotation, hstatus⟩ 
        := Sign.withService_returned hoff s.now
      have hleaves := hfirm (a := g.withService s.now .lapsed) hp hmode hserved.sign
        (Sign.maySheds_of_fixed (by rw [hcfg]; exact hsheddable)) (by rw [hservice]; decide) hblank
      obtain ⟨b, hb, hsign⟩ := hleaves.follows
      refine ⟨t, hexec, htaken (hleaves.taken ⟨hcfg, hplan, hrotation, hstatus⟩), fun _ => ⟨?_, ?_, ?_, ?_⟩, fun hc => absurd hoff hc⟩
      · rw [hsign]; exact hb.service.trans hservice
      · rw [hsign]; exact hb.restores _ hneed
      · rw [hsign]; exact hb.ages.trans hages
      · refine State.reported_of_flags (hleaves.keeps _ _ hsent) ?_
        exact serviceFlags_offline (.inl hoff)
    · rw [if_neg (show ((s.clearFlight (lineOf n)).sign n).service ≠ .offline from hoff)] at hpoll
      have hleaves := hfirm (a := g) hp hmode (by rw [hpoll]; exact hclear) (Sign.maySheds_of_fixed hsheddable) hshed hblank
      obtain ⟨b, hb, hsign⟩ := hleaves.follows
      refine ⟨t, hexec, htaken (hleaves.taken ⟨rfl, rfl, rfl, rfl⟩), fun hc => absurd hc hoff, fun _ => ?_⟩
      rw [hsign]
      exact ⟨hb.service, hb.shown⟩
  · obtain ⟨hmode, hsheddable⟩ := hfixed
    have hp : g.service ≠ .absent := by rcases hservice with h | h <;> rw [h] <;> decide
    have hshed : g.service ≠ .shed := by rcases hservice with h | h <;> rw [h] <;> decide
    have hheld : g.service ≠ .held := Sign.not_held_of hservice
    have hhold := State.acked_hold (s := s.clearFlight (lineOf n)) (st := r.status) hkind hshed
    have hblank {v : Service} : ¬r.blanks f v := SignReply.not_blanks_of_status (by rw [hflags]; exact hblanked)
    have hcleared : (s.clearFlight (lineOf n)).line (lineOf n) = { s.line (lineOf n) with inFlight := none, txBuffer := [] } :=
      s.clearFlight_line (lineOf n)
    cases hh : flags.held
    · rw [State.ackHold_free (by rw [hflags]; exact hh) (by rw [hflags]; exact hblanked)] at hhold
      have hwakes := ((s.clearFlight (lineOf n)).wake_wakes (lineOf n) 7).1 n
      have hwoken := fun h => State.wake_woken (s := s.clearFlight (lineOf n)) (l := lineOf n) h 7
      rw [← hhold] at hwakes hwoken
      obtain ⟨haservice, hacfg, halike⟩ := Sign.alike_of_wakes hwakes
      have hleaves := hfirm hp hmode rfl (Sign.maySheds_of_fixed (by rw [hacfg]; exact hsheddable))
        (by rw [haservice]; exact hshed) hblank
      obtain ⟨b, hb, hsign⟩ := hleaves.follows
      refine ⟨t, hexec, htaken (hleaves.taken halike), ?_, fun hc => by simp at hc, fun _ => ⟨?_, fun hentry => ?_⟩⟩
      · rw [hsign]; exact hb.holdNeed (if_pos hkind)
      · rw [hsign]; exact hb.service.trans haservice
      · have hw := hwoken (by rw [hcleared]; exact .inl hentry)
        have hawake : ¬(((s.clearFlight (lineOf n)).acked n f r.status).line (lineOf n)).holds := by
          rw [hw.line]
          unfold Line.holds
          dsimp only
          split <;> decide
        obtain ⟨x, hx, hxt⟩ := hleaves.line
        refine ⟨?_, hleaves.keeps _ _ hw.wakes⟩
        rw [hxt.wakeCause, (hx.awake hawake).2, hw.line]
    · have hfrom := State.ackHold_held (s := s.clearFlight (lineOf n)) (n := n) (st := r.status) (by rw [hflags]; exact hh) hservice
      rw [← hhold] at hfrom
      have hleaves := hfirm hp hmode rfl (Sign.maySheds_of_fixed (by rw [hfrom.cfg]; exact hsheddable))
        (by rw [hfrom.service]; decide) hblank
      obtain ⟨b, hb, hsign⟩ := hleaves.follows
      obtain ⟨hpoint, -, -⟩ := hb.derived (.inl hfrom.service)
      refine ⟨t, hexec, htaken (hleaves.taken ⟨hfrom.cfg, hfrom.planClass, hfrom.rotation, hfrom.status⟩), ?_,
        fun _ => ⟨?_, ?_, fun hentry hline => ?_, ?_, ?_⟩, fun hc => by simp at hc⟩ <;> rw [hsign]
      · exact hb.holdNeed (if_pos hkind)
      · exact hb.service.trans hfrom.service
      · exact hb.ages.trans hfrom.ages
      · refine hb.restores _ (hfrom.restoreNeed ?_)
        rw [hcleared]
        exact not_or.2 ⟨hentry, hline⟩
      · exact hb.owed hfrom.owed
      · refine hpoint.trans (hfrom.lapsePoint.trans ?_)
        exact congrArg (fun d => 4 * (8 * g.cfg.holdover / d)) g.band.colder_divisor
  · obtain ⟨hp, -, -⟩ := hfree
    obtain ⟨htemperature, hband⟩ := hauto hp hmode
    refine ⟨t, hexec, by rw [htemperature, hdegrees], hout, ?_⟩
    rw [hband, hdegrees]
    exact band_moved_eq ..

end Sys2Proof.Machine
end

section
/-! PROOF. The ends of a frame that are no ACK (R134, R135, R137 to R139). -/

namespace Sys2Proof.Machine

/-! ### Bytes that are no valid reply (R134) -/

theorem replyResultOf_of_ge {b : Byte} (h : 3 ≤ b.toNat) : replyResultOf b = none := by
  unfold replyResultOf
  split
  · next hb => omega
  · next hb => omega
  · next hb => omega
  · rfl

/-- What is read as a reply is the bytes of one. -/
theorem replyBytes_of_readReply {f : Frame} {bytes : BitVec 64} {r : SignReply} (h : readReply f bytes = some r) :
    ∃ result status temperature : Byte, result.toNat < 3 ∧ bytes = f.replyBytes result status temperature := by
  unfold readReply at h
  split at h
  · next start address kind result status temperature c1 c0 hbytes =>
    split at h
    · next hvalid =>
      obtain ⟨hstart, haddress, hkind, hcrc⟩ := hvalid
      refine ⟨result, status, temperature, ?_, ?_⟩
      · by_contra hr
        rw [replyResultOf_of_ge (by omega)] at h
        cases h
      · have haddress' : BitVec.ofNat 8 (f.address.val + 0x80) = address := by rw [← haddress, BitVec.ofNat_toNat, BitVec.setWidth_eq]
        have hkind' : BitVec.ofNat 8 f.kind.wire = kind := by rw [← hkind, BitVec.ofNat_toNat, BitVec.setWidth_eq]
        unfold Frame.replyBytes Frame.replyBody
        rw [haddress', hkind', hcrc, bytesBE_ofBytesBE_two, ← hstart]
        change bytes = ofBytesBE 64 [start, address, kind, result, status, temperature, c1, c0]
        rw [← hbytes]
        exact (ofBytesBE_bytesBE 8 bytes).symm
    · cases h
  · cases h

theorem State.takeReply_invalid {s : State} {l : Fin 2} {f : Frame} {bytes : BitVec 64} (hf : (s.line l).inFlight = some f)
    (h : ∀ result status temperature : Byte, result.toNat < 3 → bytes ≠ f.replyBytes result status temperature) :
    s.takeReply l bytes = s.failAttempt l f := by
  have hnone : readReply f bytes = none := by
    by_contra hsome
    obtain ⟨r, hr⟩ := Option.ne_none_iff_exists'.1 hsome
    obtain ⟨result, status, temperature, hlt, hbytes⟩ := replyBytes_of_readReply hr
    exact h result status temperature hlt hbytes
  unfold State.takeReply
  rw [hf]
  dsimp only
  rw [hnone]

theorem State.replyFails_flight {s : State} {l : Fin 2} {f : Frame} (hf : (s.line l).inFlight = some f) : s.replyFails l = s.failAttempt l f := by
  unfold State.replyFails
  rw [hf]

theorem State.takeReply_idle {s : State} {l : Fin 2} (hf : (s.line l).inFlight = none) (bytes : BitVec 64) : s.takeReply l bytes = s := by
  unfold State.takeReply
  rw [hf]

theorem State.replyFails_idle {s : State} {l : Fin 2} (hf : (s.line l).inFlight = none) : s.replyFails l = s := by
  unfold State.replyFails
  rw [hf]

/-- The reply that a NAK's bytes make. -/
def nakReply (result : ReplyResult) (status temperature : Byte) : SignReply :=
  { result, status := SignStatus.ofByte status, temperature := clampInt (-60) 80 temperature.toInt }

/-- A NAK CHECK, and a NAK MISMATCH to another frame than REFRESH, fail the attempt. -/
theorem State.takeReply_nak {s : State} {l : Fin 2} {f : Frame} (hf : (s.line l).inFlight = some f) {result : Byte}
    (hr : result = 1 ∨ (result = 2 ∧ f.kind ≠ .refresh)) (status temperature : Byte) :
    ∃ v, s.takeReply l (f.replyBytes result status temperature) = s.nakAttempt l f (nakReply v status temperature) := by
  unfold State.takeReply
  rw [hf]
  dsimp only
  rw [readReply_replyBytes]
  rcases hr with rfl | ⟨rfl, hkind⟩
  · exact ⟨.check, rfl⟩
  · exact ⟨.mismatch, if_neg hkind⟩

theorem State.takeReply_mismatch {s : State} {l : Fin 2} {f : Frame} (hf : (s.line l).inFlight = some f) (hkind : f.kind = .refresh)
    (status temperature : Byte) :
    s.takeReply l (f.replyBytes 2 status temperature) = s.endMismatch l f (nakReply .mismatch status temperature) := by
  unfold State.takeReply
  rw [hf]
  dsimp only
  rw [readReply_replyBytes]
  exact if_pos hkind

/-! ### The resend (R135) -/

/-- The frame of the next attempt. -/
def Frame.resent (f : Frame) (s : State) (l : Fin 2) : Frame :=
  { f with attempt := f.attempt + 1, startTick := s.now, baud := (s.line l).cfg.baud }

theorem State.failAttempt_again {s : State} {l : Fin 2} {f : Frame} (h : f.attempt < 3 ∧ f.once = false) :
    s.failAttempt l f = s.setLine l { s.line l with inFlight := some (f.resent s l) } := if_pos h

theorem State.calm_resend {s : State} (h : s.calm) (l : Fin 2) (x : Option Frame) : (s.setLine l { s.line l with inFlight := x }).calm := by
  unfold State.calm State.owesArbitration at *
  have hline (j : Fin 2) : ((s.setLine l { s.line l with inFlight := x }).line j).arbitrate = (s.line j).arbitrate := by
    rw [State.setLine_line]
    split
    · next hj => rw [hj]
    · rfl
  rw [hline 0, hline 1]
  exact h

/-- A command that leaves configuration, picture and service of every sign, and owes no arbitration, ends as it stands. -/
theorem State.conclude_of_unchanged {a s : State} (h : ∀ n : Fin 16, (s.sign n).cfg = (a.sign n).cfg ∧ (s.sign n).shown = (a.sign n).shown ∧
    (s.sign n).service = (a.sign n).service) (hc : s.calm) : State.conclude a s = s := by
  rw [State.conclude, State.handSigns_of_unchanged a s h, State.finish_of_calm s hc]

/-! ### The last failure (R135, R138) -/

/-- What ends a frame once its sign is written. -/
def State.frameTail (s : State) (l : Fin 2) (n : Fin 16) : State := (((s.adoptSigns l [n]).checkHeld l).checkResume l).lineIdle l

theorem State.failAttempt_last {s : State} {n : Fin 16} {f : Frame} (hn : signAt (lineOf n) f.address = n) (h : ¬(f.attempt < 3 ∧ f.once = false)) :
    s.failAttempt (lineOf n) f =
      (if f.once ∨ (s.sign n).service = .absent ∨ (s.sign n).service = .offline then (s.clearFlight (lineOf n)).frameEnded n f
        else ((s.clearFlight (lineOf n)).frameEnded n f).enterService n .offline).frameTail (lineOf n) n := by
  have hfail : s.failAttempt (lineOf n) f = (if f.once ∨ (s.sign (signAt (lineOf n) f.address)).service = .absent ∨
      (s.sign (signAt (lineOf n) f.address)).service = .offline then (s.clearFlight (lineOf n)).frameEnded (signAt (lineOf n) f.address) f
      else ((s.clearFlight (lineOf n)).frameEnded (signAt (lineOf n) f.address) f).enterService (signAt (lineOf n) f.address) .offline).frameTail
        (lineOf n) (signAt (lineOf n) f.address) := if_neg h
  rw [hfail, hn]

theorem State.frameTail_takes {s : State} {n : Fin 16} {now : Tick} {Q R : Sign → Prop} (hR : Steady now R)
    (hidle : (s.line (lineOf n)).inFlight = none) (hs : s.stays n now Q)
    (hstep : Q (s.sign n) → R ((s.sign n).adopted now (s.line (lineOf n)).target)) : R ((s.frameTail (lineOf n) n).sign n) := by
  have h := Steady.checkResume (l := lineOf n) (Steady.checkHeld (l := lineOf n) (State.adoptSigns_takes hR hidle hs hstep))
  unfold State.frameTail
  rw [State.lineIdle_sign]
  exact h.2

theorem State.frameTail_keeps {s : State} {n : Fin 16} {g : Sign} (h : g.Keeps (s.sign n)) : g.Keeps ((s.frameTail (lineOf n) n).sign n) := by
  have hl := lineStable_sign n g
  unfold State.frameTail
  rw [State.lineIdle_sign]
  exact hl.checkResume (hl.checkHeld (hl.adoptSigns h trivial fun _ _ => trivial) trivial) trivial

theorem State.frameTail_reported {s : State} {l : Fin 2} {n : Fin 16} {o : Obj} {f : BitVec 16} (h : s.reported o f) :
    (s.frameTail l n).reported o f := by
  have hd := (recordStable_reported o f).toDisplayStable
  have hr := hd.toRetentionStable
  exact hd.toTrafficStable.lineIdle (hr.checkResume (hr.checkHeld (hr.adoptSigns h)))

/-- A sign in a service state that no load and no wake reaches. -/
theorem steady_service {v : Service} (now : Tick) (hv : v = .absent ∨ v = .offline) : Steady now fun g => g.service = v where
  maySheds {g} h := by rcases hv with rfl | rfl <;> simp [Sign.maySheds, Sign.counted, h]
  shed {g} h := by rcases hv with rfl | rfl <;> rw [h] <;> decide
  woken h := h

/-- What the change to OFFLINE leaves of a sign (R138). -/
def Sign.lostContact (g : Sign) : Prop := g.service = .offline ∧ g.restoreNeed = none ∧ g.owed = 0 ∧ g.shown.confirmed = false

theorem steady_lostContact (now : Tick) : Steady now Sign.lostContact where
  maySheds h := (steady_service now (.inr rfl)).maySheds h.1
  shed h := (steady_service now (.inr rfl)).shed h.1
  woken {g} h := by
    obtain ⟨hservice, hneed, howed, hconfirmed⟩ := h
    refine ⟨hservice, ?_, howed, hconfirmed⟩
    unfold Sign.woken
    rw [if_neg (by rw [hservice]; decide)]
    exact hneed

theorem Sign.lostContact.adopted {g : Sign} (h : g.lostContact) (now : Tick) (t : Granularity) : (g.adopted now t).lostContact := by
  obtain ⟨hservice, hneed, howed, hconfirmed⟩ := h
  have hf := g.adopted_follows now t
  exact ⟨hf.service.trans hservice, (hf.restoreNeed (by rw [hservice]; decide)).trans hneed, hf.owed howed, by rw [hf.shown]; exact hconfirmed⟩

theorem Sign.withService_offline_lost (now : Tick) (g : Sign) : (g.withService now .offline).lostContact := by
  unfold Sign.withService
  exact ⟨rfl, rfl, rfl, rfl⟩

/-- What the last failure leaves of a sign. -/
structure State.Lost (g : Sign) (t : State) (n : Fin 16) (f : Frame) : Prop where
  unpolled : (t.sign n).pollCount = 0 ∧ (t.sign n).pollNeed = none
  cfg : (t.sign n).cfg = g.cfg
  page : (t.sign n).shown.page = g.shown.page
  gone : g.service = .absent ∨ g.service = .offline → (t.sign n).service = g.service
  once : f.once = true → g.service ≠ .shed → g.cfg.sheddable = false →
    (t.sign n).service = g.service ∧ (t.sign n).restoreNeed = g.restoreNeed
  offline : f.once = false → g.service ≠ .absent → g.service ≠ .offline →
    (t.sign n).lostContact ∧ t.reported (.sign n) (Flag.signService ||| Flag.signOffline)

theorem Sign.Keeps.lost {g a b : Sign} (h : a.Keeps b) (ha : a.pollCount = 0 ∧ a.pollNeed = none) (hcfg : a.cfg = g.cfg) (hshown : a.shown = g.shown) :
    (b.pollCount = 0 ∧ b.pollNeed = none) ∧ b.cfg = g.cfg ∧ b.shown.page = g.shown.page := by
  refine ⟨h.unpolled ha, h.cfg.trans hcfg, ?_⟩
  rw [h.shown, ← hshown]

/-- The last failure of a frame, from the sign as the end of the frame has written it. -/
theorem State.frameTail_lost {w : State} {n : Fin 16} {f : Frame} {g : Sign} (hidle : (w.line (lineOf n)).inFlight = none)
    (hsign : w.sign n = g.ended f) :
    State.Lost g ((if f.once ∨ g.service = .absent ∨ g.service = .offline then w else w.enterService n .offline).frameTail (lineOf n) n) n f := by
  have hstays : w.stays n w.now fun g => w.sign n = g := ⟨rfl, rfl⟩
  have hservice : (w.sign n).service = g.service := by rw [hsign]; rfl
  by_cases hstay : f.once ∨ g.service = .absent ∨ g.service = .offline
  · rw [if_pos hstay]
    obtain ⟨hunpolled, hcfg, hpage⟩ := (State.frameTail_keeps (s := w) (n := n) .rfl).lost (g := g) (by rw [hsign]; exact ⟨rfl, rfl⟩)
      (by rw [hsign]; rfl) (by rw [hsign]; rfl)
    refine ⟨hunpolled, hcfg, hpage, fun hgone => ?_, fun honce hshed hsheddable => ?_, fun honce ha ho => ?_⟩
    · refine State.frameTail_takes (steady_service w.now hgone) hidle hstays fun _ => ?_
      exact ((w.sign n).adopted_follows w.now (w.line (lineOf n)).target).service.trans hservice
    · by_cases hheld : g.service = .held
      · have hmay : w.mayAdopt n = false := by
          rw [State.mayAdopt_of_idle hidle]
          simp [Sign.adopts, hservice, hheld]
        unfold State.frameTail
        rw [State.adoptSigns_none hmay, State.lineIdle_sign, State.checkResume_sign, State.checkHeld_sign, hsign]
        exact ⟨rfl, rfl⟩
      · have hf := (w.sign n).adopted_follows w.now (w.line (lineOf n)).target
        have hmay : ((w.sign n).adopted w.now (w.line (lineOf n)).target).maySheds = false :=
          Sign.maySheds_of_fixed (by rw [hf.cfg, hsign]; exact hsheddable)
        have htakes := State.frameTail_takes (steady_wakes hmay (by rw [hf.service, hservice]; exact hshed)) hidle hstays fun _ => .inl rfl
        have hfollows := hf.wakes htakes
        refine ⟨hfollows.service.trans hservice, (hfollows.restoreNeed (by rw [hservice]; exact hheld)).trans ?_⟩
        rw [hsign]
        rfl
    · rw [honce] at hstay
      rcases hstay with h | h | h
      · cases h
      · exact absurd h ha
      · exact absurd h ho
  · obtain ⟨honce, habsent, hoffline⟩ := not_or.1 hstay |>.imp_right not_or.1
    rw [if_neg hstay]
    have hne : (w.sign n).service ≠ .offline := by rw [hservice]; exact hoffline
    have hv : Service.offline = .lapsed ∨ ((w.sign n).service ≠ .offline ∧ Service.offline ≠ .absent) := .inr ⟨hne, by decide⟩
    have hkeeps := (lineStable_sign n (w.sign n)).enterService hv .rfl trivial
    have hline := (lineStable_line (lineOf n) (w.line (lineOf n))).enterService hv .rfl trivial
    have hreported := (recordStable_reported (.sign n) (serviceFlags (w.sign n) ((w.sign n).withService w.now .offline))).toDisplayStable.toRetentionStable.settleCounted
      (n := n) (g := w.sign n) (State.changeService_reported hne)
    have hchange := w.changeService_quiet n (v := .offline) (by decide)
    rw [if_neg hne] at hchange
    have hsettled := (steady_lostContact w.now).settleCounted (s := w.changeService n .offline) (n := n) (m := n) (g := w.sign n)
      ⟨now_of_exceptSigns (w.changeService_exceptSigns n .offline), by rw [hchange]; exact Sign.withService_offline_lost ..⟩
    change (w.enterService n .offline).reported _ _ at hreported
    change (w.enterService n .offline).stays _ _ _ at hsettled
    generalize w.enterService n .offline = x at *
    obtain ⟨hunpolled, hcfg, hpage⟩ := (State.frameTail_keeps hkeeps).lost (g := g) (by rw [hsign]; exact ⟨rfl, rfl⟩)
      (by rw [hsign]; rfl) (by rw [hsign]; rfl)
    refine ⟨hunpolled, hcfg, hpage, fun h => absurd h (not_or.2 ⟨habsent, hoffline⟩), fun h => absurd h honce, fun _ _ _ => ⟨?_, ?_⟩⟩
    · exact State.frameTail_takes (steady_lostContact w.now) (hline.inFlight.trans hidle) hsettled fun h => h.adopted ..
    · exact State.reported_of_flags (State.frameTail_reported hreported) (serviceFlags_offline (.inr rfl))

theorem State.Lost.conclude {g : Sign} {a t : State} {n : Fin 16} {f : Frame} (h : State.Lost g t n f) : State.Lost g (State.conclude a t) n f := by
  have hsign := State.conclude_sign a t n
  obtain ⟨hunpolled, hcfg, hpage, hgone, honce, hoffline⟩ := h
  refine ⟨?_, ?_, ?_, ?_, ?_, fun h1 h2 h3 => ⟨?_, ?_⟩⟩
  · rw [hsign]; exact hunpolled
  · rw [hsign]; exact hcfg
  · rw [hsign]; exact hpage
  · rw [hsign]; exact hgone
  · rw [hsign]; exact honce
  · rw [hsign]; exact (hoffline h1 h2 h3).1
  · exact (recordStable_reported _ _).toStepStable.conclude (hoffline h1 h2 h3).2

theorem State.failAttempt_lost {u : State} {n : Fin 16} {f : Frame} (a : State) (hn : signAt (lineOf n) f.address = n)
    (hlast : ¬(f.attempt < 3 ∧ f.once = false)) : State.Lost (u.sign n) (State.conclude a (u.failAttempt (lineOf n) f)) n f := by
  have hsign : ((u.clearFlight (lineOf n)).frameEnded n f).sign n = (u.sign n).ended f := by
    rw [State.frameEnded_sign, if_pos rfl]
    rfl
  have hidle : (((u.clearFlight (lineOf n)).frameEnded n f).line (lineOf n)).inFlight = none := by
    change ((u.clearFlight (lineOf n)).line (lineOf n)).inFlight = none
    rw [State.clearFlight_line]
  rw [State.failAttempt_last hn hlast]
  exact (State.frameTail_lost hidle hsign).conclude

end Sys2Proof.Machine
end

section
/-! PROOF. The NAKs of a frame, and all of how an attempt ends without an ACK (R134, R135, R137 to R139). -/

namespace Sys2Proof.Machine

/-! ### NAK (R137) -/

theorem State.nakAttempt_absent {s : State} {n : Fin 16} {f : Frame} (hn : signAt (lineOf n) f.address = n) (h : (s.sign n).service = .absent)
    (r : SignReply) : s.nakAttempt (lineOf n) f r = s.failAttempt (lineOf n) f := if_pos (by rw [hn]; exact h)

theorem State.nakAttempt_present {s : State} {n : Fin 16} {f : Frame} {r : SignReply} (hn : signAt (lineOf n) f.address = n)
    (h : (s.sign n).service ≠ .absent) (hblank : r.status.blanked = false) :
    s.nakAttempt (lineOf n) f r = (s.writeStatus n r).failAttempt (lineOf n) f := by
  have hnak : s.nakAttempt (lineOf n) f r = ((s.writeStatus (signAt (lineOf n) f.address) r).takeBlanked (signAt (lineOf n) f.address) f
      r.status).failAttempt (lineOf n) f := if_neg (by rw [hn]; exact h)
  rw [hnak, hn, State.takeBlanked_not (SignReply.not_blanks_of_status hblank)]

theorem State.writeStatus_signs (s : State) (n : Fin 16) (r : SignReply) : (s.writeStatus n r).signs = s.signs.set n ((s.sign n).told r) := by
  unfold State.writeStatus
  rw [State.postIf_signs]
  rfl

theorem State.writeStatus_exceptSigns (s : State) (n : Fin 16) (r : SignReply) : (s.writeStatus n r).exceptSigns = s.exceptSigns := by
  unfold State.writeStatus
  rw [State.postIf_exceptSigns, State.setSign_exceptSigns]

/-- A NAK that is answered by a resend writes status and temperature and the frame of the next attempt. -/
theorem State.nak_again {s : State} {n : Fin 16} {f : Frame} {r : SignReply} (hcalm : s.calm) (h : f.attempt < 3 ∧ f.once = false) :
    State.conclude s ((s.writeStatus n r).failAttempt (lineOf n) f) = (s.writeStatus n r).setLine (lineOf n)
      { s.line (lineOf n) with inFlight := some (f.resent s (lineOf n)) } := by
  have hsign := s.writeStatus_told n r
  have hlines := s.writeStatus_lines n r
  have hnow : (s.writeStatus n r).now = s.now := now_of_exceptSigns (s.writeStatus_exceptSigns n r)
  rw [State.failAttempt_again h]
  generalize s.writeStatus n r = u at *
  have hline : u.line (lineOf n) = s.line (lineOf n) := by simp only [State.line, hlines]
  have hcalmu : u.calm := (State.calm_of_lines s u hlines).2 hcalm
  have hresent : f.resent u (lineOf n) = f.resent s (lineOf n) := by
    unfold Frame.resent
    rw [hline, hnow]
  have hunchanged (m : Fin 16) : (u.sign m).cfg = (s.sign m).cfg ∧ (u.sign m).shown = (s.sign m).shown ∧
      (u.sign m).service = (s.sign m).service := by
    rw [hsign]
    split
    · next hm => subst hm; exact ⟨rfl, rfl, rfl⟩
    · exact ⟨rfl, rfl, rfl⟩
  have hend := State.calm_resend hcalmu (lineOf n) (some (f.resent u (lineOf n)))
  rw [State.conclude_of_unchanged (s := u.setLine (lineOf n) { u.line (lineOf n) with inFlight := some (f.resent u (lineOf n)) }) hunchanged
    hend, hresent, hline]

/-! ### MISMATCH to a REFRESH (R137) -/

/-- A sign with its restore need raised. -/
def Sign.restoring (now : Tick) (g : Sign) : Sign := { g with restoreNeed := some (g.restoreNeed.getD now) }

theorem State.raiseRestore_wakes (s : State) (n : Fin 16) : ((s.sign n).restoring s.now).Wakes s.now ((s.raiseRestore n).sign n) := by
  unfold State.raiseRestore
  split
  · next h =>
    obtain ⟨x, hx⟩ := Option.isSome_iff_exists.1 h
    refine .inl ?_
    have hsame : some ((s.sign n).restoreNeed.getD s.now) = (s.sign n).restoreNeed := by rw [hx]; rfl
    rw [Sign.restoring, hsame]
  · next h =>
    have hnone : (s.sign n).restoreNeed = none := by simpa using h
    have hset : (s.updSign n fun g => { g with restoreNeed := some s.now }).sign n = (s.sign n).restoring s.now := by
      rw [State.updSign_eq, State.setSign_sign_same, Sign.restoring, hnone]
      rfl
    have hnow : (s.updSign n fun g => { g with restoreNeed := some s.now }).now = s.now := rfl
    generalize (s.updSign n fun g => { g with restoreNeed := some s.now }) = u at *
    have h := (u.wake_wakes (lineOf n) 3).1 n
    rw [hset, hnow] at h
    exact h

theorem State.endMismatch_present {s : State} {n : Fin 16} {f : Frame} {r : SignReply} (hn : signAt (lineOf n) f.address = n)
    (h : (s.sign n).service ≠ .absent) (hblank : r.status.blanked = false) :
    s.endMismatch (lineOf n) f r = ((((((s.clearFlight (lineOf n)).frameEnded n f).writeStatus n r).raiseRestore n).post (.sign n)
      Flag.signMismatch).adoptSigns (lineOf n) [n]).lineIdle (lineOf n) := by
  have hend : s.endMismatch (lineOf n) f r = (((((((s.clearFlight (lineOf n)).frameEnded (signAt (lineOf n) f.address) f).writeStatus
      (signAt (lineOf n) f.address) r).raiseRestore (signAt (lineOf n) f.address)).post (.sign (signAt (lineOf n) f.address))
      Flag.signMismatch).takeBlanked (signAt (lineOf n) f.address) f r.status).adoptSigns (lineOf n) [signAt (lineOf n) f.address]).lineIdle
      (lineOf n) := if_neg (by rw [hn]; exact h)
  rw [hend, hn, State.takeBlanked_not (SignReply.not_blanks_of_status hblank)]

theorem Sign.adopted_told (now : Tick) (t : Granularity) (g : Sign) :
    (g.adopted now t).status = g.status ∧ (g.adopted now t).temperature = g.temperature := by
  unfold Sign.adopted
  split <;> exact ⟨rfl, rfl⟩

theorem Sign.Wakes.told {now : Tick} {a b : Sign} (h : a.Wakes now b) : b.status = a.status ∧ b.temperature = a.temperature := by
  rcases h with rfl | rfl <;> exact ⟨rfl, rfl⟩

/-- What a MISMATCH to a REFRESH leaves of a sign that shedding cannot take. -/
theorem State.endMismatch_leaves {s : State} {n : Fin 16} {f : Frame} {r : SignReply} (a : State) (hn : signAt (lineOf n) f.address = n)
    (hp : (s.sign n).service ≠ .absent) (hshed : (s.sign n).service ≠ .shed) (hsheddable : (s.sign n).cfg.sheddable = false)
    (hblank : r.status.blanked = false) :
    (∃ b, ((((s.sign n).ended f).told r).restoring s.now).Follows (s.line (lineOf n)).target b ∧ b.status = r.status ∧
      b.temperature = some r.temperature ∧ (State.conclude a (s.endMismatch (lineOf n) f r)).sign n = b) ∧
    (State.conclude a (s.endMismatch (lineOf n) f r)).reported (.sign n) Flag.signMismatch := by
  rw [State.endMismatch_present hn hp hblank, State.conclude_sign]
  set w := ((s.clearFlight (lineOf n)).frameEnded n f).writeStatus n r with hw
  have hsign : w.sign n = ((s.sign n).ended f).told r := by
    rw [hw, State.writeStatus_told, if_pos rfl, State.frameEnded_sign, if_pos rfl]
    rfl
  have hlines : w.lines = (s.clearFlight (lineOf n)).lines := State.writeStatus_lines ..
  have hline : w.line (lineOf n) = { s.line (lineOf n) with inFlight := none, txBuffer := [] } := by
    rw [← State.clearFlight_line]
    simp only [State.line, hlines]
  have hnow : w.now = s.now := (now_of_exceptSigns (State.writeStatus_exceptSigns ..)).trans rfl
  have hraise := w.raiseRestore_wakes n
  have hretains := (lineStable_line (lineOf n) (w.line (lineOf n))).raiseRestore (n := n) .rfl trivial
  have hstill : (w.raiseRestore n).now = w.now := now_of_exceptSigns (State.raiseRestore_exceptSigns ..)
  rw [hsign] at hraise
  generalize w.raiseRestore n = u at *
  rw [hline] at hretains
  have htarget : (u.line (lineOf n)).target = (s.line (lineOf n)).target := hretains.target
  rw [hnow] at hraise hstill
  set v := u.post (.sign n) Flag.signMismatch with hv
  have hreported : v.reported (.sign n) Flag.signMismatch := State.post_reported_of _ _ (by decide)
  have hvsign : v.sign n = u.sign n := rfl
  have hvline : v.line (lineOf n) = u.line (lineOf n) := rfl
  have hvnow : v.now = s.now := hstill
  generalize v = x at *
  have hmay : ((((s.sign n).ended f).told r).restoring s.now).maySheds = false := Sign.maySheds_of_fixed hsheddable
  obtain ⟨hservice, hsame, -⟩ := ((((s.sign n).ended f).told r).restoring s.now).adopted_keeps s.now (x.line (lineOf n)).target
  have hd := (recordStable_reported (.sign n) Flag.signMismatch)
  refine ⟨?_, hd.toStepStable.conclude (hd.toStepStable.toTrafficStable.lineIdle (hd.toDisplayStable.toRetentionStable.adoptSigns hreported))⟩
  have htakes := State.adoptSigns_takes (s := x) (n := n) (Q := (((((s.sign n).ended f).told r).restoring s.now).Wakes s.now))
    (steady_wakes (hsame.trans hmay) (by rw [hservice]; exact hshed)) (by rw [hvline]; exact hretains.inFlight) ⟨hvnow, by rw [hvsign]; exact hraise⟩
    fun h => h.adopted _
  rw [State.lineIdle_sign]
  obtain ⟨hstatus, htemperature⟩ := htakes.2.told
  obtain ⟨hst, htp⟩ := ((((s.sign n).ended f).told r).restoring s.now).adopted_told s.now (x.line (lineOf n)).target
  refine ⟨_, ?_, hstatus.trans hst, htemperature.trans htp, rfl⟩
  rw [← htarget, ← hvline]
  exact (Sign.adopted_follows ..).wakes htakes.2

/-! ### The obligation -/

/-- Settles O49: an attempt that fails is resent or ends its frame by `State.frameTail_lost`; a NAK writes its status first, and a
MISMATCH to a REFRESH raises the restore need. -/
theorem signAttemptFails : Obligations.SignAttemptFails := by
  unfold Obligations.SignAttemptFails
  intro l bytes s hs
  refine ⟨fun hidle => ⟨?_, ?_⟩, ?_⟩
  · rw [exec_signReply hs, State.takeReply_idle hidle, State.conclude_of_calm s s rfl hs.1]
  · rw [exec_signReplyFailure hs, State.replyFails_idle hidle, State.conclude_of_calm s s rfl hs.1]
  intro n f hflight haddress g reply invalid again resent resend lost
  obtain ⟨hn, rfl⟩ := signAt_of haddress
  have hlost {u t : State} (ht : t = State.conclude s (u.failAttempt (lineOf n) f)) (hlast : ¬again) (hu : (u.sign n).service = g.service ∧
      (u.sign n).restoreNeed = g.restoreNeed ∧ (u.sign n).cfg = g.cfg ∧ (u.sign n).shown = g.shown) (hframe : t.exceptOutputs = s.exceptOutputs) :
      lost t := by
    have h := State.failAttempt_lost (u := u) s hn hlast
    rw [← ht] at h
    obtain ⟨⟨hcount, hneed⟩, hcfg, hpage, hgone, honce, hoffline⟩ := h
    obtain ⟨hservice, hrestore, hconfig, hshown⟩ := hu
    rw [hservice] at hgone honce hoffline
    rw [hrestore, hconfig] at honce
    exact ⟨hcount, hneed, hcfg.trans hconfig, hpage.trans (by rw [hshown]), hframe, hgone, honce, fun h1 h2 h3 =>
      ⟨(hoffline h1 h2 h3).1.1, (hoffline h1 h2 h3).1.2.1, (hoffline h1 h2 h3).1.2.2.1, (hoffline h1 h2 h3).1.2.2.2, (hoffline h1 h2 h3).2⟩⟩
  have hout (x : BitVec 64) : (State.conclude s (s.takeReply (lineOf n) x)).exceptOutputs = s.exceptOutputs :=
    (State.conclude_exceptOutputs ..).trans (s.takeReply_exceptOutputs ..)
  have hfailout : (State.conclude s (s.replyFails (lineOf n))).exceptOutputs = s.exceptOutputs :=
    (State.conclude_exceptOutputs ..).trans (s.replyFails_exceptOutputs ..)
  have hresend (hagain : again) : State.conclude s (s.failAttempt (lineOf n) f) = resend s := by
    rw [State.failAttempt_again hagain]
    exact State.conclude_of_calm s _ rfl (State.calm_resend hs.1 ..)
  have hinvalid (hi : invalid) : s.takeReply (lineOf n) bytes = s.failAttempt (lineOf n) f :=
    State.takeReply_invalid hflight fun r status temperature hr hb => hi r status temperature hr (congrArg (Instr.signReply (lineOf n)) hb)
  have hreply (result status temperature : Byte) : exec (reply result status temperature) s =
      .next (State.conclude s (s.takeReply (lineOf n) (f.replyBytes result status temperature))) := exec_signReply hs ..
  refine ⟨fun hagain => ⟨?_, fun hi => ?_⟩, fun hlast => ⟨⟨_, exec_signReplyFailure hs _, ?_⟩, fun hi => ⟨_, exec_signReply hs _ _, ?_⟩⟩,
    fun result status temperature hresult habsent hagain => ?_, fun result status temperature hresult hpresent hblank => ?_⟩
  · rw [exec_signReplyFailure hs, State.replyFails_flight hflight, hresend hagain]
  · rw [exec_signReply hs, hinvalid hi, hresend hagain]
  · exact hlost (by rw [State.replyFails_flight hflight]) hlast ⟨rfl, rfl, rfl, rfl⟩ hfailout
  · exact hlost (by rw [hinvalid hi]) hlast ⟨rfl, rfl, rfl, rfl⟩ (hout bytes)
  · obtain ⟨v, hv⟩ := State.takeReply_nak hflight hresult status temperature
    rw [hreply, hv, State.nakAttempt_absent hn habsent, hresend hagain]
  · intro flags degrees
    have hflags (v : ReplyResult) : (nakReply v status temperature).status = flags := by
      change SignStatus.ofByte status = _
      unfold SignStatus.ofByte
      rw [hblank]
    have hunblanked (v : ReplyResult) : (nakReply v status temperature).status.blanked = false := by rw [hflags]
    refine ⟨fun hkind hagain => ?_, fun hkind hlast => ?_, fun htwo hkind hsheddable hshed => ?_⟩
    · obtain ⟨v, hv⟩ := State.takeReply_nak hflight (hresult.imp_right fun h => ⟨h, hkind.resolve_left (by rw [h]; decide)⟩) status temperature
      have hsigns := s.writeStatus_signs n (nakReply v status temperature)
      have hframe := s.writeStatus_exceptSigns n (nakReply v status temperature)
      refine ⟨_, hreply .., ?_⟩
      rw [hv, State.nakAttempt_present hn hpresent (hunblanked v), State.nak_again hs.1 hagain]
      generalize s.writeStatus n (nakReply v status temperature) = u at *
      refine ⟨?_, ?_, ?_, hframe⟩
      · refine hsigns.trans ?_
        rw [Sign.told, hflags]
        rfl
      · rw [State.setLine_line_same]
        rfl
      · rw [State.setLine_line_same]
    · obtain ⟨v, hv⟩ := State.takeReply_nak hflight (hresult.imp_right fun h => ⟨h, hkind.resolve_left (by rw [h]; decide)⟩) status temperature
      have hsign := s.writeStatus_told n (nakReply v status temperature) n
      rw [if_pos rfl] at hsign
      refine ⟨_, hreply .., hlost (by rw [hv, State.nakAttempt_present hn hpresent (hunblanked v)]) hlast ?_ (hout _)⟩
      rw [hsign]
      exact ⟨rfl, rfl, rfl, rfl⟩
    · subst htwo
      have hframe := hout (f.replyBytes 2 status temperature)
      rw [State.takeReply_mismatch hflight hkind] at hframe
      obtain ⟨⟨b, hb, hstatus, htemperature, hsign⟩, hmismatch⟩ :=
        State.endMismatch_leaves (f := f) (r := nakReply .mismatch status temperature) s hn hpresent hshed hsheddable (hunblanked _)
      refine ⟨_, hreply .., ?_⟩
      rw [State.takeReply_mismatch hflight hkind, hsign]
      refine ⟨hb.restores _ rfl, hb.shown, hb.ages, hstatus.trans (hflags _), htemperature, hmismatch, hb.pollCount, hframe⟩

end Sys2Proof.Machine
end

section
/-! SUPPORT. The plan that R120 gives a sign, condition by condition (R116, R119, R120). -/

namespace Sys2Proof.Machine

/-! ### Merged pages -/

theorem foldl_merge_head (ps acc : List Page) (p : Page) (h : acc.head? = some p) :
    (ps.foldl (fun acc q => if acc.contains q then acc else acc ++ [q]) acc).head? = some p := by
  induction ps generalizing acc with
  | nil => exact h
  | cons q ps ih =>
    refine ih _ ?_
    dsimp only
    split
    · exact h
    · rw [List.head?_append, h]
      rfl

/-- The first page stays in front. -/
theorem mergePages_head (p : Page) (ps : List Page) : (mergePages (p :: ps)).head? = some p := by
  have hfold := foldl_merge_head ps [p] p rfl
  have hmerge : mergePages (p :: ps) = (ps.foldl (fun acc q => if acc.contains q then acc else acc ++ [q]) [p]).take 6 := rfl
  rw [hmerge, List.head?_take, hfold]
  rfl

/-! ### The conditions of R120, as lists and as claims -/

theorem State.noticePages_ne_nil (s : State) (g : Sign) (v : NoticeState) : s.noticePages g v ≠ [] ↔
    ∃ x ∈ s.listedNotices, x.state = v ∧ ∃ i : Fin 4, s.watches g i ∧ x.segments.getLsbD i.val = true := by
  have hpages (x : Notice) : x.pages ≠ [] := by simp [Notice.pages]
  unfold State.noticePages
  rw [Ne, List.flatMap_eq_nil_iff]
  simp only [hpages, imp_false, List.mem_filter, Bool.and_eq_true, beq_iff_eq, List.any_eq_true, State.mem_watchedSegments, Notice.names,
    not_forall, not_not]

theorem Segment.shut_iff (r : Segment) : r.shut = true ↔ r.posture = .closing ∨ r.posture = .closed := by simp [Segment.shut]

theorem Cause.notNotice_iff (c : Cause) : c.notNotice = true ↔ ∀ k : Nat, c ≠ .notice k := by cases c <;> simp [Cause.notNotice]

section
variable (t : State) (g : Sign)

/-- A relevant path of the sign is in ALERT or HOLD (R120). -/
def State.danger (p : Fin 12) : Prop := t.relevantTo g p ∧ ((t.path p).state = .alert ∨ (t.path p).state = .hold)

/-- A watched segment is CLOSING or CLOSED. -/
def State.shutFor (i : Fin 4) : Prop := t.watches g i ∧ ((t.segment i).posture = .closing ∨ (t.segment i).posture = .closed)

/-- A relevant path is in WATCH. -/
def State.watchingFor : Prop := ∃ p : Fin 12, t.relevantTo g p ∧ (t.path p).state = .watch

/-- A POSTED notice names a watched segment. -/
def State.announcedFor : Prop :=
  ∃ x ∈ t.listedNotices, x.state = .posted ∧ ∃ i : Fin 4, t.watches g i ∧ x.segments.getLsbD i.val = true

/-- The relevant paths in ALERT or HOLD, as the choice of a plan lists them. -/
def State.hazardList : List (Fin 12) := (t.relevantPaths g).filter fun p => (t.path p).state == .alert || (t.path p).state == .hold

/-- The watched segments that are shut, as the choice of a plan lists them. -/
def State.shutList : List (Fin 4) := (t.watchedSegments g).filter fun i => (t.segment i).shut

/-- The page that the device puts in front of a closure. -/
def State.closurePage : List Page :=
  if (t.shutList g).any fun i => (t.segment i).causes.any Cause.notNotice then [if g.cfg.role = .advance then 4 else 2] else []

variable {t g}

theorem State.mem_hazardList (h : g.cfg.role ≠ .none) (p : Fin 12) : p ∈ t.hazardList g ↔ t.danger g p := by
  unfold State.hazardList State.danger
  rw [List.mem_filter, State.mem_relevantPaths _ _ _ h]
  simp

theorem State.mem_shutList (i : Fin 4) : i ∈ t.shutList g ↔ t.shutFor g i := by
  unfold State.shutList State.shutFor
  rw [List.mem_filter, State.mem_watchedSegments, Segment.shut_iff]

theorem State.watchingFor_iff (h : g.cfg.role ≠ .none) :
    ((t.relevantPaths g).any fun p => (t.path p).state == .watch) = true ↔ t.watchingFor g := by
  unfold State.watchingFor
  simp only [List.any_eq_true, State.mem_relevantPaths _ _ _ h, beq_iff_eq]

/-- The plan by the conditions of R120, in their order. -/
theorem State.planOf_cases (h : g.cfg.role ≠ .none) :
    ((∃ p, t.danger g p) ∧ t.planOf g = (.hazard, mergePages ((t.hazardList g).map fun p => (t.path p).cfg.hazardPage))) ∨
    ((∀ p, ¬t.danger g p) ∧ (∃ i, t.shutFor g i) ∧ t.planOf g = (.closure, mergePages (t.closurePage g ++ t.noticePages g .inForce))) ∨
    ((∀ p, ¬t.danger g p) ∧ (∀ i, ¬t.shutFor g i) ∧ t.watchingFor g ∧ t.planOf g = (.caution, mergePages (3 :: t.noticePages g .posted))) ∨
    ((∀ p, ¬t.danger g p) ∧ (∀ i, ¬t.shutFor g i) ∧ ¬t.watchingFor g ∧ t.announcedFor g ∧
      t.planOf g = (.caution, mergePages (t.noticePages g .posted))) ∨
    ((∀ p, ¬t.danger g p) ∧ (∀ i, ¬t.shutFor g i) ∧ ¬t.watchingFor g ∧ ¬t.announcedFor g ∧
      t.planOf g = match g.cfg.condition with | some p => (.condition, [p]) | none => (.blank, [])) := by
  have hplan : t.planOf g = if t.hazardList g ≠ [] then (.hazard, mergePages ((t.hazardList g).map fun p => (t.path p).cfg.hazardPage))
      else if t.shutList g ≠ [] then (.closure, mergePages (t.closurePage g ++ t.noticePages g .inForce))
      else if ((t.relevantPaths g).any fun p => (t.path p).state == .watch) || t.noticePages g .posted ≠ [] then
        (.caution, mergePages ((if (t.relevantPaths g).any fun p => (t.path p).state == .watch then [3] else []) ++ t.noticePages g .posted))
      else match g.cfg.condition with | some p => (.condition, [p]) | none => (.blank, []) := rfl
  have hdanger : t.hazardList g ≠ [] ↔ ∃ p, t.danger g p := by
    simp only [← State.mem_hazardList h]
    exact ⟨List.exists_mem_of_ne_nil _, fun ⟨_, hm⟩ => List.ne_nil_of_mem hm⟩
  have hshut : t.shutList g ≠ [] ↔ ∃ i, t.shutFor g i := by
    simp only [← State.mem_shutList]
    exact ⟨List.exists_mem_of_ne_nil _, fun ⟨_, hm⟩ => List.ne_nil_of_mem hm⟩
  have hwatching := State.watchingFor_iff (t := t) h
  have hannounced : t.noticePages g .posted ≠ [] ↔ t.announcedFor g := State.noticePages_ne_nil ..
  rw [hplan]
  by_cases hd : ∃ p, t.danger g p
  · rw [if_pos (hdanger.2 hd)]
    exact .inl ⟨hd, rfl⟩
  rw [if_neg (mt hdanger.1 hd)]
  rw [not_exists] at hd
  by_cases hs : ∃ i, t.shutFor g i
  · rw [if_pos (hshut.2 hs)]
    exact .inr (.inl ⟨hd, hs, rfl⟩)
  rw [if_neg (mt hshut.1 hs)]
  rw [not_exists] at hs
  by_cases hw : t.watchingFor g
  · rw [hwatching.2 hw]
    exact .inr (.inr (.inl ⟨hd, hs, hw, rfl⟩))
  rw [Bool.eq_false_iff.2 (mt hwatching.1 hw)]
  by_cases ha : t.announcedFor g
  · rw [if_pos (by simpa using hannounced.2 ha)]
    exact .inr (.inr (.inr (.inl ⟨hd, hs, hw, ha, rfl⟩)))
  · rw [if_neg (by simpa using mt hannounced.1 ha)]
    exact .inr (.inr (.inr (.inr ⟨hd, hs, hw, ha, rfl⟩)))

end

/-- A sign whose plan is the one computed has the plan of R120. -/
theorem State.planStands_of_planOf {t : State} {n : Fin 16} (hrole : (t.sign n).cfg.role ≠ .none)
    (h : ((t.sign n).planClass, (t.sign n).rotation) = t.planOf (t.sign n)) : t.planStands n := by
  have hclosure (hshut : ∃ i, t.shutFor (t.sign n) i ∧ ∃ c ∈ (t.segment i).causes, ∀ k : Nat, c ≠ .notice k) :
      (mergePages (t.closurePage (t.sign n) ++ t.noticePages (t.sign n) .inForce)).head? = some (if (t.sign n).cfg.role = .advance then 4 else 2) := by
    obtain ⟨i, hi, c, hc, hk⟩ := hshut
    have hany : ((t.shutList (t.sign n)).any fun i => (t.segment i).causes.any Cause.notNotice) = true :=
      List.any_eq_true.2 ⟨i, (State.mem_shutList i).2 hi, List.any_eq_true.2 ⟨c, hc, (Cause.notNotice_iff c).2 hk⟩⟩
    unfold State.closurePage
    rw [if_pos hany]
    exact mergePages_head _ _
  have hhazard (q : Page) (hq : q ∈ mergePages ((t.hazardList (t.sign n)).map fun p => (t.path p).cfg.hazardPage)) :
      ∃ p, t.danger (t.sign n) p ∧ (t.path p).cfg.hazardPage = q := by
    obtain ⟨p, hp, hpage⟩ := List.mem_map.1 (mem_of_mem_mergePages _ _ hq)
    exact ⟨p, (State.mem_hazardList hrole p).1 hp, hpage⟩
  have hrotation := congrArg Prod.snd h
  have hclass := congrArg Prod.fst h
  dsimp only at hrotation hclass
  change ((t.sign n).planClass = .hazard ↔ ∃ p, t.danger (t.sign n) p) ∧
    ((t.sign n).planClass = .closure ↔ (∀ p, ¬t.danger (t.sign n) p) ∧ ∃ i, t.shutFor (t.sign n) i) ∧
    ((t.sign n).planClass = .caution ↔ (∀ p, ¬t.danger (t.sign n) p) ∧ (∀ i, ¬t.shutFor (t.sign n) i) ∧
      (t.watchingFor (t.sign n) ∨ t.announcedFor (t.sign n))) ∧
    ((t.sign n).planClass = .condition ↔ (∀ p, ¬t.danger (t.sign n) p) ∧ (∀ i, ¬t.shutFor (t.sign n) i) ∧ ¬t.watchingFor (t.sign n) ∧
      ¬t.announcedFor (t.sign n) ∧ (t.sign n).cfg.condition ≠ none) ∧
    (t.sign n).rotation = (t.planOf (t.sign n)).2 ∧ (t.sign n).rotation.Nodup ∧ (t.sign n).rotation.length ≤ 6 ∧
    ((t.sign n).planClass = .hazard → ∀ q ∈ (t.sign n).rotation, ∃ p, t.danger (t.sign n) p ∧ (t.path p).cfg.hazardPage = q) ∧
    ((t.sign n).planClass = .closure → (∃ i, t.shutFor (t.sign n) i ∧ ∃ c ∈ (t.segment i).causes, ∀ k : Nat, c ≠ .notice k) →
      (t.sign n).rotation.head? = some (if (t.sign n).cfg.role = .advance then 4 else 2)) ∧
    ((t.sign n).planClass = .caution → t.watchingFor (t.sign n) → (t.sign n).rotation.head? = some 3) ∧
    ((t.sign n).planClass = .condition → (t.sign n).rotation = (t.sign n).cfg.condition.toList) ∧
    ((t.sign n).planClass = .blank → (t.sign n).rotation = [])
  generalize t.sign n = g at *
  rw [hrotation, hclass]
  rcases State.planOf_cases (t := t) hrole with ⟨hd, hp⟩ | ⟨hd, hs, hp⟩ | ⟨hd, hs, hw, hp⟩ | ⟨hd, hs, hw, ha, hp⟩ | ⟨hd, hs, hw, ha, hp⟩ <;>
    rw [hp]
  · refine ⟨by simp [hd], ?_, ?_, ?_, rfl, mergePages_nodup _, mergePages_length _, fun _ => hhazard, ?_, ?_, ?_, ?_⟩ <;> simp [not_forall, hd]
  · refine ⟨?_, ?_, ?_, ?_, rfl, mergePages_nodup _, mergePages_length _, ?_, fun _ => hclosure, ?_, ?_, ?_⟩ <;> simp [hd, hs]
  · refine ⟨?_, ?_, ?_, ?_, rfl, mergePages_nodup _, mergePages_length _, ?_, ?_, fun _ _ => mergePages_head _ _, ?_, ?_⟩ <;> simp [hd, hs, hw]
  · refine ⟨?_, ?_, ?_, ?_, rfl, mergePages_nodup _, mergePages_length _, ?_, ?_, ?_, ?_, ?_⟩ <;> simp [hd, hs, hw, ha]
  · cases hc : g.cfg.condition with
    | none => refine ⟨?_, ?_, ?_, ?_, rfl, ?_, ?_, ?_, ?_, ?_, ?_, ?_⟩ <;> simp [hd, hs, hw, ha]
    | some p => refine ⟨?_, ?_, ?_, ?_, rfl, ?_, ?_, ?_, ?_, ?_, ?_, ?_⟩ <;> simp [hd, hs, hw, ha]

end Sys2Proof.Machine
end

section
/-! SUPPORT. What a change leaves of plans: nothing of what they read touched, or every plan computed again (R119 to R122). -/

namespace Sys2Proof.Machine

/-! ### What a plan reads -/

/-- The signs keep their plans and the tick stands. -/
structure State.SignsStand (s t : State) : Prop where
  now : t.now = s.now
  signs : ∀ n : Fin 16, (s.sign n).Retains (t.sign n)
  reported : ∀ n : Fin 16, s.reported (.sign n) Flag.signPlan → t.reported (.sign n) Flag.signPlan

/-- The signs keep their plans, and all that a plan reads stands. -/
structure State.PlansStand (s t : State) : Prop extends s.SignsStand t where
  state : ∀ p : Fin 12, (t.path p).state = (s.path p).state
  cfg : ∀ p : Fin 12, (t.path p).cfg = (s.path p).cfg
  causes : ∀ i : Fin 4, (t.segment i).causes = (s.segment i).causes
  slots : t.notices.slots = s.notices.slots
  order : t.notices.order = s.notices.order

theorem State.SignsStand.rfl {s : State} : s.SignsStand s := ⟨Eq.refl _, fun _ => .rfl, fun _ => id⟩

theorem State.SignsStand.trans {s t u : State} (h : s.SignsStand t) (k : t.SignsStand u) : s.SignsStand u :=
  ⟨k.now.trans h.now, fun n => (h.signs n).trans (k.signs n), fun n hn => k.reported n (h.reported n hn)⟩

theorem State.PlansStand.rfl {s : State} : s.PlansStand s :=
  ⟨.rfl, fun _ => Eq.refl _, fun _ => Eq.refl _, fun _ => Eq.refl _, Eq.refl _, Eq.refl _⟩

theorem State.PlansStand.trans {s t u : State} (h : s.PlansStand t) (k : t.PlansStand u) : s.PlansStand u :=
  ⟨h.toSignsStand.trans k.toSignsStand, fun p => (k.state p).trans (h.state p), fun p => (k.cfg p).trans (h.cfg p),
    fun i => (k.causes i).trans (h.causes i), k.slots.trans h.slots, k.order.trans h.order⟩

theorem State.PlansStand.not_changed {s t : State} (h : s.PlansStand t) : ¬s.planInputsChanged t := by
  rintro (⟨p, hp⟩ | ⟨i, hi⟩ | hslots | horder)
  · rcases hp with hp | hp | hp
    · exact hp (h.state p)
    · exact hp (by rw [h.cfg])
    · exact hp (by rw [h.cfg])
  · exact hi (h.causes i)
  · exact hslots h.slots
  · exact horder h.order

theorem State.SignsStand.of_signs {s t : State} (hsigns : t.signs = s.signs) (hnow : t.now = s.now)
    (hr : ∀ o f, s.reported o f → t.reported o f) : s.SignsStand t :=
  ⟨hnow, fun n => by rw [State.sign, State.sign, hsigns]; exact .rfl, fun n => hr _ _⟩

theorem State.PlansStand.of_eq {s t : State} (hsigns : t.signs = s.signs) (hnow : t.now = s.now) (hpaths : t.paths = s.paths)
    (hsegments : t.segments = s.segments) (hslots : t.notices.slots = s.notices.slots) (horder : t.notices.order = s.notices.order)
    (hr : ∀ o f, s.reported o f → t.reported o f) : s.PlansStand t :=
  ⟨.of_signs hsigns hnow hr, fun p => by simp only [State.path, hpaths], fun p => by simp only [State.path, hpaths],
    fun i => by simp only [State.segment, hsegments], hslots, horder⟩

theorem State.SignsStand.of_barriers {s t : State} (h : t.exceptBarriers = s.exceptBarriers) (hr : ∀ o f, s.reported o f → t.reported o f) :
    s.SignsStand t := .of_signs (congrArg State.signs h :) (congrArg State.now h :) hr

/-- A segment is shut while it holds a cause, wherever the records are sound. -/
theorem State.closingSound.shut {s : State} (h : s.closingSound) (i : Fin 4) : (s.segment i).shut = decide ((s.segment i).causes ≠ []) := by
  rw [Bool.eq_iff_iff, Segment.shut_iff, decide_eq_true_eq]
  exact (h.2 i).1.symm

/-- A plan follows the states and configurations of the paths, the cause sets and the notices, wherever the records are sound. -/
theorem State.PlansStand.planOf {s t : State} (h : s.PlansStand t) (hs : s.closingSound) (ht : t.closingSound) {a b : Sign} (hcfg : b.cfg = a.cfg) :
    t.planOf b = s.planOf a := by
  have hshut (i : Fin 4) : (t.segment i).shut = (s.segment i).shut := by rw [hs.shut, ht.shut, h.causes]
  have hlisted : t.listedNotices = s.listedNotices := by simp only [State.listedNotices, h.slots, h.order]
  have hconfigured (p : Fin 12) : (t.path p).configured = (s.path p).configured := by simp only [PathRec.configured, h.cfg]
  have hwatched : t.watchedSegments b = s.watchedSegments a := by
    unfold State.watchedSegments
    rw [hcfg]
    cases a.cfg.role with
    | path => cases a.cfg.path <;> simp [h.cfg]
    | _ => rfl
  have hrelevant : t.relevantPaths b = s.relevantPaths a := by
    unfold State.relevantPaths
    rw [hcfg, hwatched]
    cases a.cfg.role with
    | path => cases a.cfg.path <;> simp [hconfigured]
    | _ => simp [hconfigured, h.cfg]
  simp only [State.planOf, State.noticePages, hwatched, hrelevant, h.state, h.cfg, hshut, h.causes, hlisted, hcfg]
  rfl

/-! ### What becomes of a sign's plan -/

/-- A sign keeps its plan with its place in the rotation and its need, or has taken another one at this tick. -/
structure Sign.PlanFrom (now : Tick) (told : Prop) (a b : Sign) : Prop where
  cfg : b.cfg = a.cfg
  cls : b.shown.cls = a.shown.cls
  plan : (b.planClass = a.planClass ∧ b.rotation = a.rotation ∧ b.index = a.index ∧ b.dwellCount = a.dwellCount ∧ b.need = a.need) ∨
    (told ∧ b.index = 0 ∧ b.dwellCount = 0 ∧ b.need = .plan (b.planClass == .hazard && b.shown.cls != .hazard) now)

theorem Sign.Retains.cls {a b : Sign} (h : a.Retains b) : b.shown.cls = a.shown.cls := by rw [h.shown]

theorem Sign.PlanFrom.retains {now : Tick} {p q : Prop} {a b c : Sign} (h : a.PlanFrom now p b) (k : b.Retains c) (hpq : p → q) :
    a.PlanFrom now q c := by
  refine ⟨k.cfg.trans h.cfg, k.cls.trans h.cls, ?_⟩
  rcases h.plan with ⟨h1, h2, h3, h4, h5⟩ | ⟨h1, h2, h3, h4⟩
  · exact .inl ⟨k.planClass.trans h1, k.rotation.trans h2, k.index.trans h3, k.dwellCount.trans h4, k.need.trans h5⟩
  · refine .inr ⟨hpq h1, k.index.trans h2, k.dwellCount.trans h3, k.need.trans (h4.trans ?_)⟩
    rw [k.planClass, k.cls]

/-- What a computation of plans reports. -/
theorem State.replanSigns_reported {s : State} {n : Fin 16} {ns : List (Fin 16)} (hns : ns.Nodup) (hn : n ∈ ns)
    (h : s.replanned n ≠ s.sign n) : (s.replanSigns ns).reported (.sign n) Flag.signPlan := by
  have hr := recordStable_reported (.sign n) Flag.signPlan
  have hfold : (ns.foldl State.replanSign s).reported (.sign n) Flag.signPlan := by
    refine foldl_establishes (P := fun t => t.reported (.sign n) Flag.signPlan)
      (Q := fun t => t.exceptSigns = s.exceptSigns ∧ t.sign n = s.sign n) (f := State.replanSign) hns hn ?_ ?_ ?_ ⟨rfl, rfl⟩
    · rintro t m hm ⟨hframe, hsign⟩
      exact ⟨(State.replanSign_exceptSigns t m).trans hframe, by rw [State.replanSign_sign, if_neg hm, hsign]⟩
    · rintro t ⟨hframe, hsign⟩
      have hplan := State.replanned_congr hframe hsign
      rw [← hplan, ← hsign] at h
      unfold State.replanSign
      dsimp only
      split
      · next hsame => exact absurd (if_pos hsame) h
      · exact State.post_reported_of _ _ (by decide)
    · exact fun t m _ ht => hr.toStepStable.toPlanStable.replanSign ht
  unfold State.replanSigns
  dsimp only
  split
  · exact hfold
  · exact hr.toStepStable.toRetentionStable.plansReplaced hfold

/-- A sign after its plan is computed again. -/
theorem Sign.PlanFrom.replanned {now : Tick} {p q : Prop} {a : Sign} {s : State} {n : Fin 16} (h : a.PlanFrom now p (s.sign n)) (hnow : s.now = now)
    (hpq : p → q) (hq : s.replanned n ≠ s.sign n → q) : a.PlanFrom now q (s.replanned n) := by
  by_cases hsame : s.replanned n = s.sign n
  · rw [hsame]
    exact h.retains .rfl hpq
  · have hnew : s.replanned n = Sign.raisePlan s.now false { s.sign n with
        planClass := (s.planOf (s.sign n)).1, rotation := (s.planOf (s.sign n)).2, index := 0, dwellCount := 0 } := by
      unfold State.replanned at hsame ⊢
      dsimp only at hsame ⊢
      split
      · next hc => exact absurd (if_pos hc) hsame
      · rfl
    have hq' := hq hsame
    rw [hnew]
    refine ⟨h.cfg, h.cls, .inr ⟨hq', rfl, rfl, ?_⟩⟩
    rw [← hnow]
    simp [Sign.raisePlan]

/-! ### What becomes of all plans -/

/-- Every configured sign has the plan that its state gives it. -/
def State.planned (t : State) : Prop :=
  ∀ n : Fin 16, (t.sign n).cfg.role ≠ .none → ((t.sign n).planClass, (t.sign n).rotation) = t.planOf (t.sign n)

/-- Plans have followed what they read from one state to another. -/
structure State.PlansFollow (s t : State) : Prop where
  now : t.now = s.now
  sound : t.closingSound
  signs : ∀ n : Fin 16, (s.sign n).PlanFrom s.now (t.reported (.sign n) Flag.signPlan) (t.sign n)
  plans : s.PlansStand t ∨ t.planned

theorem State.PlansFollow.refl {s : State} (h : s.closingSound) : s.PlansFollow s :=
  ⟨rfl, h, fun _ => ⟨rfl, rfl, .inl ⟨rfl, rfl, rfl, rfl, rfl⟩⟩, .inl .rfl⟩

theorem State.planned.stand {s t : State} (h : s.planned) (k : s.PlansStand t) (hs : s.closingSound) (ht : t.closingSound) : t.planned := by
  intro n hrole
  have hn := k.signs n
  rw [hn.planClass, hn.rotation, k.planOf hs ht hn.cfg]
  exact h n (by rw [← hn.cfg]; exact hrole)

theorem State.PlansFollow.stand {s t u : State} (h : s.PlansFollow t) (k : t.PlansStand u) (hu : u.closingSound) : s.PlansFollow u :=
  ⟨k.now.trans h.now, hu, fun n => (h.signs n).retains (k.signs n) (k.reported n),
    h.plans.imp (fun hs => hs.trans k) fun hp => hp.stand k h.sound hu⟩

/-- Every plan computed again, from signs whose plans stood. -/
theorem State.PlansFollow.replan {s t u : State} (h : s.PlansFollow t) (k : t.SignsStand u) (hu : u.closingSound) : s.PlansFollow u.replan := by
  have hframe := State.replan_exceptSigns u
  have hsigns (n : Fin 16) := State.replanSigns_sign (List.nodup_finRange 16) u n
  simp only [List.mem_finRange, if_true] at hsigns
  change ∀ n, (u.replanned n).Retains (u.replan.sign n) at hsigns
  refine ⟨(now_of_exceptSigns hframe).trans (k.now.trans h.now), stepStable_closingSound.toPlanStable.replan hu, fun n => ?_, .inr fun n hrole => ?_⟩
  · have hr := (recordStable_reported (.sign n) Flag.signPlan).toStepStable.toPlanStable
    have hfrom := (h.signs n).retains (k.signs n) (k.reported n)
    exact (hfrom.replanned (k.now.trans h.now) (fun hp => hr.replan hp) fun hne =>
      State.replanSigns_reported (List.nodup_finRange 16) (List.mem_finRange n) hne).retains (hsigns n) id
  · have hn := hsigns n
    have hcfg : (u.replan.sign n).cfg = (u.sign n).cfg := hn.cfg.trans (State.replanned_cfg u n)
    rw [hn.planClass, hn.rotation, State.replanned_plan (by rw [← hcfg]; exact hrole)]
    exact (State.planOf_congr (planInputs_of_exceptSigns hframe) hcfg).symm

/-- Every plan of a configured sign stands, and one that differs has been replaced. -/
theorem State.PlansFollow.changed {s t : State} (h : s.PlansFollow t) (hc : s.planInputsChanged t) (n : Fin 16) (hrole : (t.sign n).cfg.role ≠ .none) :
    t.planStands n ∧
      (¬((t.sign n).planClass = (s.sign n).planClass ∧ (t.sign n).rotation = (s.sign n).rotation) → s.planReplaced t n) := by
  have hplanned : t.planned := h.plans.resolve_left fun hs => hs.not_changed hc
  refine ⟨State.planStands_of_planOf hrole (hplanned n hrole), fun hne => ?_⟩
  obtain ⟨-, hcls, hplan⟩ := h.signs n
  rcases hplan with ⟨h1, h2, -⟩ | ⟨htold, hindex, hdwell, hneed⟩
  · exact absurd ⟨h1, h2⟩ hne
  · refine ⟨hindex, hdwell, hneed.trans ?_, htold⟩
    rw [hcls]
    congr 1
    rw [Bool.eq_iff_iff]
    simp

/-! ### One change -/

/-- All that plans read stands, or every plan is computed again once. -/
def State.PlansOnce (s t : State) : Prop :=
  s.PlansStand t ∨ ∃ u : State, s.SignsStand u ∧ u.closingSound ∧ u.replan.PlansStand t

theorem State.PlansOnce.stand {s t u : State} (h : s.PlansOnce t) (k : t.PlansStand u) : s.PlansOnce u :=
  h.imp (fun hs => hs.trans k) fun ⟨v, hv, hsound, hvt⟩ => ⟨v, hv, hsound, hvt.trans k⟩

theorem State.PlansOnce.follow {s t : State} (h : s.PlansOnce t) (hs : s.closingSound) (ht : t.closingSound) : s.PlansFollow t := by
  rcases h with h | ⟨u, hu, hsound, hut⟩
  · exact (State.PlansFollow.refl hs).stand h ht
  · exact ((State.PlansFollow.refl hs).replan hu hsound).stand hut ht

/-- A sign whose plan one change has left as it was keeps its place in the rotation and its need. -/
theorem State.PlansOnce.kept {s t : State} (h : s.PlansOnce t) (n : Fin 16)
    (hsame : (t.sign n).planClass = (s.sign n).planClass ∧ (t.sign n).rotation = (s.sign n).rotation) : s.planKept t n := by
  rcases h with h | ⟨u, hu, -, hut⟩
  · have hn := h.signs n
    exact ⟨hn.index, hn.dwellCount, hn.need⟩
  · have hsigns := State.replanSigns_sign (List.nodup_finRange 16) u n
    rw [if_pos (List.mem_finRange n)] at hsigns
    have hn : (u.replanned n).Retains (t.sign n) := hsigns.trans (hut.signs n)
    have hbefore := hu.signs n
    have hreplanned : u.replanned n = u.sign n := by
      unfold State.replanned at hn ⊢
      dsimp only at hn ⊢
      split
      · rfl
      · next hc =>
        rw [if_neg hc] at hn
        refine absurd ?_ hc
        have hclass : (u.planOf (u.sign n)).1 = (u.sign n).planClass := hn.planClass.symm.trans (hsame.1.trans hbefore.planClass.symm)
        have hrotation : (u.planOf (u.sign n)).2 = (u.sign n).rotation := hn.rotation.symm.trans (hsame.2.trans hbefore.rotation.symm)
        rw [hclass, hrotation]
        simp
    rw [hreplanned] at hn
    exact ⟨hn.index.trans hbefore.index, hn.dwellCount.trans hbefore.dwellCount, hn.need.trans hbefore.need⟩

end Sys2Proof.Machine
end

section
/-! PROOF. Plans follow every change of paths, cause sets and notices (R119 to R122, R43 to R45, R109, R110). -/

namespace Sys2Proof.Machine

/-! ### Changes that plans do not read -/

theorem State.postIf_stands (s : State) (c : Bool) (o : Obj) (f : BitVec 16) : s.PlansStand (s.postIf c o f) := by
  cases c
  · exact .rfl
  · exact .of_eq rfl rfl rfl rfl rfl rfl fun o f => (recordStable_reported o f).post

theorem State.traceMaybe_stands (s : State) (e : Option (TraceKind × Nat)) (object : Nat) : s.PlansStand (s.traceMaybe e object) := by
  obtain ⟨f, hf⟩ := s.traceMaybe_eq e object
  rw [hf]
  have htrace : s.PlansStand { s with trace := s.traceWith e object } := .of_eq rfl rfl rfl rfl rfl rfl fun _ _ h => h
  exact htrace.trans (State.postIf_stands ..)

/-- The end of a command leaves what plans read. -/
theorem State.conclude_stands (a s : State) : s.PlansStand (State.conclude a s) := by
  have hout := State.conclude_exceptOutputs a s
  have hnotices : (State.conclude a s).notices = s.notices := notices_of_exceptOutputs hout
  refine ⟨.of_signs (State.conclude_signs a s) (now_of_exceptOutputs hout) fun o f => (recordStable_reported o f).toStepStable.conclude,
    fun p => ?_, fun p => ?_, fun i => ?_, by rw [hnotices], by rw [hnotices]⟩
  · simp only [State.path, paths_of_exceptOutputs hout]
  · simp only [State.path, paths_of_exceptOutputs hout]
  · exact (postureStable_causes i (· = (s.segment i).causes)).conclude rfl

theorem State.answered_stands (s : State) (k tag : Byte) (o : OutcomeCode) (d : List Byte) : s.PlansStand (s.answered k tag o d) :=
  .of_eq rfl rfl rfl rfl rfl rfl fun _ _ h => h

theorem State.checkListMargin_stands (s : State) : s.PlansStand s.checkListMargin := by
  have hspent (v : Bool) : s.PlansStand { s with notices := { s.notices with spent := v } } := .of_eq rfl rfl rfl rfl rfl rfl fun _ _ h => h
  unfold State.checkListMargin
  split
  · split
    · exact .rfl
    · exact (hspent true).trans (State.postIf_stands _ true _ _)
  · exact hspent false

/-- A path written with its state and configuration. -/
theorem State.setPath_stands (s : State) {n : Fin 12} {p : PathRec} (hstate : p.state = (s.path n).state) (hcfg : p.cfg = (s.path n).cfg) :
    s.PlansStand (s.setPath n p) := by
  have hpath (m : Fin 12) : (s.setPath n p).path m = if n = m then p else s.path m := by
    by_cases hm : n = m
    · subst hm
      rw [if_pos rfl, State.setPath_path_same]
    · rw [if_neg hm, State.setPath_path_other _ _ _ _ (Ne.symm hm)]
  refine ⟨.of_signs rfl rfl fun _ _ h => h, fun m => ?_, fun m => ?_, fun _ => rfl, rfl, rfl⟩ <;> rw [hpath]
  · split
    · next hm => subst hm; exact hstate
    · rfl
  · split
    · next hm => subst hm; exact hcfg
    · rfl

/-! ### A change of a path (R43 to R45) -/

/-- A change of a path is handed over, and every plan is computed again. -/
theorem State.putPath_replans (s : State) (n : Fin 12) (new : PathRec) (f : BitVec 16) (e : Option (TraceKind × Nat)) :
    ∃ u : State, s.SignsStand u ∧ (s.closingSound → u.closingSound) ∧ s.putPath n new f e = u.replan := by
  have hpost := ((s.setPath n new).postIf_stands ((f ||| if (s.path n).state = new.state then 0 else Flag.pathState) != 0) (.path n)
    (f ||| if (s.path n).state = new.state then 0 else Flag.pathState)).toSignsStand
  have hset : s.SignsStand (s.setPath n new) := .of_signs rfl rfl fun _ _ h => h
  have hcs := stepStable_closingSound
  have hkeeps (hs : s.closingSound) := hcs.traceMaybe (e := e) (o := n.val) (hcs.toGateStable.postIf
    (c := (f ||| if (s.path n).state = new.state then 0 else Flag.pathState) != 0) (o := .path n)
    (f := f ||| if (s.path n).state = new.state then 0 else Flag.pathState) (hcs.setPath (n := n) (p := new) hs))
  unfold State.putPath
  dsimp only
  generalize (s.setPath n new).postIf ((f ||| if (s.path n).state = new.state then 0 else Flag.pathState) != 0) (.path n)
    (f ||| if (s.path n).state = new.state then 0 else Flag.pathState) = u at *
  have htrace := (u.traceMaybe_stands e n.val).toSignsStand
  generalize u.traceMaybe e n.val = v at *
  refine ⟨_, ((hset.trans hpost).trans htrace).trans (.of_barriers ?_ fun o g hv => ?_), fun hs => ?_, rfl⟩
  · rw [State.handOpen_exceptBarriers, State.handCause_exceptBarriers, State.handFlasher_exceptBarriers]
  · have hr := (recordStable_reported o g).toStepStable
    exact hr.handOpen (hr.handCause (hr.handFlasher hv))
  · exact hcs.handOpen (hcs.handCause (hcs.handFlasher (hkeeps hs)))

theorem State.putPath_once {s : State} (hs : s.closingSound) (n : Fin 12) (new : PathRec) (f : BitVec 16) (e : Option (TraceKind × Nat)) :
    s.PlansOnce (s.putPath n new f e) := by
  obtain ⟨u, hu, hsound, ht⟩ := s.putPath_replans n new f e
  rw [ht]
  exact .inr ⟨u, hu, hsound hs, .rfl⟩

/-! ### A change of causes (R18, R19) -/

/-- Causes and open postures changed, and every plan computed again. -/
theorem State.replan_once {s u : State} (hs : s.closingSound) (hb : u.exceptBarriers = s.exceptBarriers)
    (hstable : ∀ P : State → Prop, StepStable P → P s → P u) : s.PlansOnce u.replan :=
  .inr ⟨u, .of_barriers hb fun o f => hstable _ (recordStable_reported o f).toStepStable, hstable _ stepStable_closingSound hs, .rfl⟩

theorem State.closeSegment_once {s : State} (hs : s.closingSound) (i : Fin 4) : s.PlansOnce (s.closeSegment i) := by
  unfold State.closeSegment
  split
  · exact .inl .rfl
  · exact State.replan_once hs (State.addCause_exceptBarriers ..) fun P h hp => h.addCause hp

theorem State.openSegment_once {s : State} (hs : s.closingSound) (i : Fin 4) : s.PlansOnce (s.openSegment i) := by
  unfold State.openSegment
  split
  · exact State.replan_once hs (by rw [State.removeCause_exceptBarriers, State.removeCause_exceptBarriers]) fun P h hp =>
      h.removeCause (h.removeCause hp)
  · exact .inl .rfl

/-! ### A change of a notice (R109, R110) -/

theorem State.SignsStand.notices {s : State} (x : NoticeList) : s.SignsStand { s with notices := x } := .of_signs (Eq.refl _) (Eq.refl _) fun _ _ h => h

theorem State.noticeEntered_replans (s : State) (i : Fin 24) (x : Notice) (f : BitVec 16) :
    ∃ u : State, s.SignsStand u ∧ (s.closingSound → u.closingSound) ∧ s.noticeEntered i x f = u.replan := by
  have hstable (P : State → Prop) (h : StepStable P) (hp : P s) :
      P ((if x.state = .inForce then (s.postNotice i f).addNotice x else s.postNotice i f).evalNamed x) := by
    have hpost : P (s.postNotice i f) := h.toGateStable.post hp
    refine foldl_keeps (fun _ _ => h.evalOpen) _ ?_
    exact iteInduction (motive := P) (fun _ => foldl_keeps (fun _ _ => h.addCause) _ hpost) fun _ => hpost
  refine ⟨_, .of_barriers ?_ fun o g => hstable _ (recordStable_reported o g).toStepStable, hstable _ stepStable_closingSound, rfl⟩
  rw [State.evalNamed_exceptBarriers]
  exact iteInduction (motive := fun t : State => t.exceptBarriers = s.exceptBarriers) (fun _ => State.addNotice_exceptBarriers ..) fun _ => rfl

/-- The notice list without a removed notice's place in its order. -/
def NoticeList.without (l : NoticeList) (i : Fin 24) (x : Notice) : NoticeList :=
  { l with slots := l.slots.set i (some x), order := l.order.filter (· != i) }

theorem State.removeNotice_eq (s : State) (i : Fin 24) (x : Notice) (v : NoticeState) : s.removeNotice i x v =
    ((({ (if x.state = .inForce then s.dropNotice x else s) with
      notices := (if x.state = .inForce then s.dropNotice x else s).notices.without i { x with state := v } } : State).postNotice i
        (Flag.noticeState ||| Flag.noticeRemoved)).evalNamed x).replan := by
  unfold State.removeNotice
  dsimp only
  generalize (if x.state = .inForce then s.dropNotice x else s) = u
  rfl

theorem State.removeNotice_replans (s : State) (i : Fin 24) (x : Notice) (v : NoticeState) :
    ∃ u : State, s.SignsStand u ∧ (s.closingSound → u.closingSound) ∧ s.removeNotice i x v = u.replan := by
  have hb : (if x.state = .inForce then s.dropNotice x else s).exceptBarriers = s.exceptBarriers :=
    iteInduction (motive := fun t : State => t.exceptBarriers = s.exceptBarriers) (fun _ => State.dropNotice_exceptBarriers ..) fun _ => rfl
  have hdrop (P : State → Prop) (h : StepStable P) (hp : P s) : P (if x.state = .inForce then s.dropNotice x else s) :=
    iteInduction (motive := P) (fun _ => foldl_keeps (fun _ _ => h.removeCause) _ hp) fun _ => hp
  rw [State.removeNotice_eq]
  generalize (if x.state = .inForce then s.dropNotice x else s) = u at *
  have hsigns : s.SignsStand u := .of_barriers hb fun o f => hdrop _ (recordStable_reported o f).toStepStable
  have hlist : s.SignsStand { u with notices := u.notices.without i { x with state := v } } := hsigns.trans (.notices _)
  have hlisted (hs : s.closingSound) : ({ u with notices := u.notices.without i { x with state := v } } : State).closingSound :=
    stepStable_closingSound.notices (hdrop _ stepStable_closingSound hs)
  generalize ({ u with notices := u.notices.without i { x with state := v } } : State) = w at *
  have hstable (P : State → Prop) (h : StepStable P) (hp : P w) : P ((w.postNotice i (Flag.noticeState ||| Flag.noticeRemoved)).evalNamed x) :=
    foldl_keeps (fun _ _ => h.evalOpen) _ (h.toGateStable.post hp)
  have hframe : ((w.postNotice i (Flag.noticeState ||| Flag.noticeRemoved)).evalNamed x).exceptBarriers = w.exceptBarriers :=
    (State.evalNamed_exceptBarriers (w.postNotice i (Flag.noticeState ||| Flag.noticeRemoved)) x).trans rfl
  exact ⟨_, hlist.trans (.of_barriers hframe fun o g => hstable _ (recordStable_reported o g).toStepStable),
    fun hs => hstable _ stepStable_closingSound (hlisted hs), rfl⟩

theorem State.removeNotice_once {s : State} (hs : s.closingSound) (i : Fin 24) (x : Notice) (v : NoticeState) :
    s.PlansOnce (s.removeNotice i x v) := by
  obtain ⟨u, hu, hsound, ht⟩ := s.removeNotice_replans i x v
  rw [ht]
  exact .inr ⟨u, hu, hsound hs, .rfl⟩

theorem State.placeNotice_once {s : State} (hs : s.closingSound) (i : Fin 24) (x : Notice) : s.PlansOnce (s.placeNotice i x) := by
  have hfill : (s.fillSlot i x).closingSound := stepStable_closingSound.notices hs
  obtain ⟨u, hu, hsound, ht⟩ := (s.fillSlot i x).noticeEntered_replans i x (Flag.noticeNew ||| Flag.noticeState)
  unfold State.placeNotice
  rw [ht]
  exact .inr ⟨u, (State.SignsStand.notices _).trans hu, hsound hfill, State.checkListMargin_stands _⟩

/-! ### The requests that make one change -/

/-- What an answer leaves of plans. -/
def Answer.plansOnce (a : Answer) (s : State) : Prop := s.PlansOnce a.state

theorem Answer.plansOnce_refuse (o : OutcomeCode) (s : State) : (refuse o s).plansOnce s := .inl .rfl

theorem Answer.plansOnce_onPath {path : Byte} {s : State} {f : Fin 12 → Answer} (h : ∀ n, (f n).plansOnce s) : (onPath path s f).plansOnce s := by
  unfold onPath
  split
  · exact Answer.plansOnce_refuse ..
  · exact iteInduction (motive := fun a : Answer => a.plansOnce s) (fun _ => h _) fun _ => Answer.plansOnce_refuse ..

theorem State.applySetPath_once {s : State} (hs : s.closingSound) (path segment : Byte) (members : Half) (k : Byte) (window : Half)
    (autoclose : Byte) (hazardPage : Half) (flasher : Byte) :
    (s.applySetPath path segment members k window autoclose hazardPage flasher).plansOnce s := by
  unfold State.applySetPath
  split
  · refine iteInduction (motive := fun a : Answer => a.plansOnce s) (fun _ => Answer.plansOnce_refuse ..) fun _ => ?_
    unfold State.acceptPath
    dsimp only
    split
    · exact Answer.plansOnce_refuse ..
    · split
      · exact Answer.plansOnce_refuse ..
      · exact State.putPath_once hs ..
  · exact Answer.plansOnce_refuse ..

theorem State.applyMaskPath_once {s : State} (hs : s.closingSound) (path on : Byte) : (s.applyMaskPath path on).plansOnce s := by
  unfold State.applyMaskPath
  split
  · split
    · exact Answer.plansOnce_refuse ..
    · split
      · exact State.putPath_once hs ..
      · exact State.putPath_once hs ..
      · exact .inl .rfl
      · exact Answer.plansOnce_refuse ..
      · exact Answer.plansOnce_refuse ..
      · exact State.putPath_once hs ..
      all_goals exact .inl .rfl
  · exact Answer.plansOnce_refuse ..

theorem State.applyPostNotice_once {s : State} (hs : s.closingSound) (reference : Half) (segments pageCount : Byte) (first second : Half)
    (start stop : Word) (lead : Half) : (s.applyPostNotice reference segments pageCount first second start stop lead).plansOnce s := by
  unfold State.applyPostNotice
  split
  · exact Answer.plansOnce_refuse ..
  · split
    · unfold State.acceptNotice
      split
      · exact Answer.plansOnce_refuse ..
      · split
        · exact Answer.plansOnce_refuse ..
        · split
          · exact Answer.plansOnce_refuse ..
          · exact State.placeNotice_once hs ..
    · exact Answer.plansOnce_refuse ..

theorem State.applyEndNotice_once {s : State} (hs : s.closingSound) (number : Byte) : (s.applyEndNotice number).plansOnce s := by
  unfold State.applyEndNotice
  split
  · exact Answer.plansOnce_refuse ..
  · split
    · exact Answer.plansOnce_refuse ..
    · split
      · exact Answer.plansOnce_refuse ..
      · exact iteInduction (motive := fun a : Answer => a.plansOnce s) (fun _ => State.removeNotice_once hs ..) fun _ => Answer.plansOnce_refuse ..

/-- A request that changes one path, the causes of one segment or one notice has plans computed once. -/
theorem State.applyRequest_once {s : State} (hs : s.closingSound) {c : Instr} (hc : changesOne c = true) : (s.applyRequest c).plansOnce s := by
  have hput (n : Fin 12) (new : PathRec) (e : Option (TraceKind × Nat)) : (pathAnswer n (s.putPath n new 0 e)).plansOnce s := State.putPath_once hs ..
  cases c with
  | setPath => exact State.applySetPath_once hs ..
  | ackPath =>
    exact Answer.plansOnce_onPath fun n => iteInduction (motive := fun a : Answer => a.plansOnce s) (fun _ => hput ..) fun _ => Answer.plansOnce_refuse ..
  | dismissPath =>
    exact Answer.plansOnce_onPath fun n => iteInduction (motive := fun a : Answer => a.plansOnce s) (fun _ => hput ..) fun _ => Answer.plansOnce_refuse ..
  | clearPath =>
    exact Answer.plansOnce_onPath fun n => iteInduction (motive := fun a : Answer => a.plansOnce s) (fun _ => hput ..) fun _ => Answer.plansOnce_refuse ..
  | maskPath => exact State.applyMaskPath_once hs ..
  | closeSegment _ segment =>
    change (s.applyCloseSegment segment).plansOnce s
    unfold State.applyCloseSegment
    split
    · exact Answer.plansOnce_refuse ..
    · exact State.closeSegment_once hs _
  | openSegment _ segment =>
    change (s.applyOpenSegment segment).plansOnce s
    unfold State.applyOpenSegment
    split
    · exact Answer.plansOnce_refuse ..
    · exact State.openSegment_once hs _
  | postNotice => exact State.applyPostNotice_once hs ..
  | endNotice => exact State.applyEndNotice_once hs ..
  | _ => cases hc

end Sys2Proof.Machine
end

section
/-! PROOF. Plans follow the commands that make several changes, and all of what a change leaves of plans (R119 to R122). -/

namespace Sys2Proof.Machine

namespace State.PlansFollow

variable {s t : State} (h : s.PlansFollow t)
include h

/-- What plans do not read, beside the signs, may change. -/
theorem aside {u : State} (hsigns : u.signs = t.signs) (hnow : u.now = t.now) (hpaths : u.paths = t.paths) (hsegments : u.segments = t.segments)
    (hnotices : u.notices = t.notices) (hreports : u.link.reports = t.link.reports) : s.PlansFollow u :=
  h.stand (.of_eq hsigns hnow hpaths hsegments (by rw [hnotices]) (by rw [hnotices]) fun o f => (State.reported_of_reports _ _ o f hreports).2)
    (State.closingSound_of_eq h.sound hsegments hsigns)

theorem postIf {c : Bool} {o : Obj} {f : BitVec 16} : s.PlansFollow (t.postIf c o f) :=
  h.stand (State.postIf_stands ..) (stepStable_closingSound.toGateStable.postIf h.sound)

theorem traceMaybe {e : Option (TraceKind × Nat)} {o : Nat} : s.PlansFollow (t.traceMaybe e o) :=
  h.stand (State.traceMaybe_stands ..) (stepStable_closingSound.traceMaybe h.sound)

theorem setChannel {i : Fin 16} {c : Channel} : s.PlansFollow (t.setChannel i c) := h.aside rfl rfl rfl rfl rfl rfl

theorem setPath {n : Fin 12} {p : PathRec} (hstate : p.state = (t.path n).state) (hcfg : p.cfg = (t.path n).cfg) : s.PlansFollow (t.setPath n p) :=
  h.stand (State.setPath_stands _ hstate hcfg) (stepStable_closingSound.setPath h.sound)

/-! ### Changes of paths (R42 to R45) -/

theorem putPath {n : Fin 12} {p : PathRec} {f : BitVec 16} {e : Option (TraceKind × Nat)} : s.PlansFollow (t.putPath n p f e) := by
  obtain ⟨u, hu, hsound, ht⟩ := t.putPath_replans n p f e
  rw [ht]
  exact h.replan hu (hsound h.sound)

theorem updateHealth {n : Fin 12} : s.PlansFollow (t.updateHealth n) :=
  (h.setPath (State.withHealth_keeps t (t.path n)).2.1 (State.withHealth_keeps t (t.path n)).1).postIf

theorem vote {n : Fin 12} {p : PathRec} : s.PlansFollow (t.vote n p) :=
  iteInduction (motive := fun u : State => s.PlansFollow u) (fun _ => h.putPath) fun _ => h.putPath

theorem activation {n : Fin 12} {c : Fin 16} : s.PlansFollow (t.activation n c) := by
  unfold State.activation
  dsimp only
  split
  · exact h
  · exact h.vote
  · exact h.vote
  · exact h.setPath rfl rfl
  · exact h.setPath rfl rfl

theorem memberLeft {n : Fin 12} : s.PlansFollow (t.memberLeft n) :=
  iteInduction (motive := fun u : State => s.PlansFollow u) (fun _ => h.putPath) fun _ => h

theorem pathTakes {c : Fin 16} {a b : ChannelState} {n : Fin 12} : s.PlansFollow (State.pathTakes c a b t n) := by
  unfold State.pathTakes
  split
  · exact h
  · dsimp only
    split
    · exact h.updateHealth.activation
    · split
      · exact h.updateHealth.memberLeft
      · exact h.updateHealth

/-! ### Changes of channels (R31, R34) -/

theorem channelChanged {c : Fin 16} {a b : ChannelState} : s.PlansFollow (t.channelChanged c a b) := by
  unfold State.channelChanged
  split
  · exact h
  · exact foldl_keeps (P := fun u => s.PlansFollow u) (fun _ _ hu => hu.pathTakes) _ h.traceMaybe

theorem channelTo {i : Fin 16} {v : ChannelState} {f : BitVec 16} : s.PlansFollow (t.channelTo i v f) :=
  (h.setChannel.postIf (c := true) (o := .channel i) (f := f)).channelChanged

theorem putChannel {i : Fin 16} {c : Channel} {f : BitVec 16} : s.PlansFollow (t.putChannel i c f) := h.setChannel.postIf.channelChanged

theorem changeReferences {i : Fin 16} {r : Option (Fin 16)} : s.PlansFollow (t.changeReferences i r) := by
  have hold (x : Option (Fin 16)) : s.PlansFollow (match x with
      | some r => t.releaseReference i r
      | none => t) := by
    split
    · exact iteInduction (motive := fun u : State => s.PlansFollow u) (fun _ => h.putChannel) fun _ => h
    · exact h
  unfold State.changeReferences
  dsimp only
  split
  · exact h
  · split
    · exact iteInduction (motive := fun u : State => s.PlansFollow u) (fun _ => hold _) fun _ => (hold _).putChannel
    · exact hold _

theorem setChannelTo {i : Fin 16} {m : ChannelMode} {r : Option (Fin 16)} {a b : Int} {k : Nat} : s.PlansFollow (t.setChannelTo i m r a b k) := by
  unfold State.setChannelTo
  dsimp only
  split
  · exact h.putChannel
  · exact h.changeReferences.putChannel

theorem sample {x : Vector (BitVec 12) 16} : s.PlansFollow (t.sample x) := by
  have hdue {u : State} {ds : List Due} (hu : s.PlansFollow u) : s.PlansFollow { u with due := ds } := hu.aside rfl rfl rfl rfl rfl rfl
  have hcount (u : State) (i : Fin 16) (hu : s.PlansFollow u) : s.PlansFollow (u.countChannel i) :=
    iteInduction (motive := fun v : State => s.PlansFollow v) (fun _ => hu.setChannel) fun _ => hu
  exact hdue (foldl_keeps (P := fun u => s.PlansFollow u) hcount _ (hdue
    (foldl_keeps (P := fun u => s.PlansFollow u) (fun _ _ hu => hu.setChannel) _ h)))

/-! ### Changes of notices (R109, R110) -/

theorem evalNotice {k : Nat} {i : Fin 24} : s.PlansFollow (State.evalNotice k t i) := by
  unfold State.evalNotice
  split
  · exact h
  · next x _ =>
    split
    · exact h
    · split
      · obtain ⟨u, hu, hsound, ht⟩ := t.removeNotice_replans i x .lifted
        rw [ht]
        exact h.replan hu (hsound h.sound)
      · next v _ =>
        split
        · obtain ⟨u, hu, hsound, ht⟩ := (t.setSlot i (some { x with state := v })).noticeEntered_replans i { x with state := v } Flag.noticeState
          have hset : (t.setSlot i (some { x with state := v })).closingSound := stepStable_closingSound.notices h.sound
          unfold State.noticeTo
          rw [ht]
          exact h.replan ((State.SignsStand.notices _).trans hu) (hsound hset)
        · exact h

theorem evalNotices {k : Nat} : s.PlansFollow (t.evalNotices k) := foldl_keeps (P := fun u => s.PlansFollow u) (fun _ _ hu => hu.evalNotice) _ h

theorem clockSecond : s.PlansFollow t.clockSecond := by
  unfold State.clockSecond
  split
  · next n _ =>
    have hclock : s.PlansFollow { t with tmb := { t.tmb with passClock := some (n + 1) } } := h.aside rfl rfl rfl rfl rfl rfl
    exact iteInduction (motive := fun u : State => s.PlansFollow u) (fun _ => hclock.evalNotices) fun _ => h
  · exact h

/-! ### The events that are steps of their own -/

theorem conclude {a : State} : s.PlansFollow (State.conclude a t) :=
  h.stand (State.conclude_stands ..) (stepStable_closingSound.conclude h.sound)

/-- The clock, the sampling tick and the changes of channels. -/
theorem takeOne {d : Due} (hd : d.isChannel = true ∨ d = .sampling ∨ d = .second) : s.PlansFollow (t.takeOne d) := by
  have herase : s.PlansFollow { t with due := t.due.erase d } := h.aside rfl rfl rfl rfl rfl rfl
  have hto (c : Bool) (i : Fin 16) (v : ChannelState) (f : BitVec 16) {u : State} (hu : s.PlansFollow u) :
      s.PlansFollow (if c then u.channelTo i v f else u) :=
    iteInduction (motive := fun v : State => s.PlansFollow v) (fun _ => hu.channelTo) fun _ => hu
  unfold State.takeOne
  cases d with
  | second => exact herase.clockSecond
  | sampling => exact herase.sample
  | chFault => exact hto _ _ _ _ herase
  | chRecover => exact hto _ _ _ _ herase
  | chRefFault => exact hto _ _ _ _ herase
  | chActive => exact hto _ _ _ _ herase
  | chQuiet => exact hto _ _ _ _ herase
  | _ => simp [Due.isChannel] at hd

theorem takeAll {ds : List Due} (hds : ∀ d ∈ ds, d.isChannel = true) : s.PlansFollow (ds.foldl State.takeOne t) :=
  foldl_keeps_mem (P := fun u => s.PlansFollow u) (fun _ d hd hu => hu.takeOne (.inl (hds d hd))) h

theorem takeSilent : s.PlansFollow t.takeSilent := h.takeAll fun d hd => by
  have hmem := (List.takeWhile_sublist Due.isSilent).subset hd
  exact (List.mem_filter.1 hmem).2

theorem takeEvent {d : Due} (hd : d.isChannel = true ∨ d = .sampling ∨ d = .second) : s.PlansFollow (t.takeEvent d) := by
  unfold State.takeEvent
  split
  · next hc =>
    refine (h.takeAll fun e he => ?_).takeSilent
    rcases List.mem_append.1 he with he | he
    · exact (List.mem_filter.1 ((List.takeWhile_sublist _).subset he)).2
    · rw [List.mem_singleton.1 he]
      exact hc
  · exact iteInduction (motive := fun u : State => s.PlansFollow u) (fun _ => (h.takeOne hd).takeSilent) fun _ => h.takeOne hd

theorem runEvent {d : Due} (hd : d.isChannel = true ∨ d = .sampling ∨ d = .second) : s.PlansFollow (t.runEvent d) :=
  iteInduction (motive := fun u : State => s.PlansFollow u) (fun _ => (h.takeEvent hd).conclude) fun _ => h

end State.PlansFollow

/-! ### The obligation -/

theorem State.applySetChannel_follow {s : State} (hs : s.closingSound) (channel mode reference : Byte) (rise fall : Half) (persist : Byte) :
    s.PlansFollow (s.applySetChannel channel mode reference rise fall persist).state := by
  have hrefl := State.PlansFollow.refl hs
  have haccept (i : Fin 16) (m : ChannelMode) (r : Option (Fin 16)) : s.PlansFollow (s.acceptChannel i m r rise fall persist).state :=
    iteInduction (motive := fun a : Answer => s.PlansFollow a.state) (fun _ => hrefl) fun _ => hrefl.setChannelTo
  unfold State.applySetChannel
  split
  · split
    · split
      · exact haccept ..
      · exact hrefl
    · exact haccept ..
  · exact hrefl

theorem State.applySetClock_follow {s : State} (hs : s.closingSound) (second : Word) : s.PlansFollow (s.applySetClock second).state := by
  have hrefl := State.PlansFollow.refl hs
  have hclock : s.PlansFollow (s.setPassClock second.toNat) := hrefl.aside rfl rfl rfl rfl rfl rfl
  exact iteInduction (motive := fun a : Answer => s.PlansFollow a.state) (fun _ => hrefl) fun _ =>
    hclock.evalNotices.postIf (c := true)

/-- What a request leaves of plans, from what its owner's answer leaves. -/
theorem exec_answer {c : Instr} {k : RequestKind} {s : State} (hk : c.requestKind = some k) (h : s.listening) :
    exec c s = .next (State.conclude s ((s.applyRequest c).state.answered (bodyHead (encodeBody c)).1 (bodyHead (encodeBody c)).2
      (s.applyRequest c).outcome (s.applyRequest c).data)) := by
  rw [exec_request hk, State.request_listening s c h]
  rfl

/-- Settles O32: a request that makes one change has plans computed once after it, and every other command has them computed again
after each change of what they read. -/
theorem plansFollowChanges : Obligations.PlansFollowChanges := by
  unfold Obligations.PlansFollowChanges
  intro c s hc hcalm hlistens hsound
  have hrefl := State.PlansFollow.refl hsound
  obtain ⟨b, hanswered⟩ : ∃ b : Byte × Byte, ∀ k, c.requestKind = some k → exec c s =
      .next (State.conclude s ((s.applyRequest c).state.answered b.1 b.2 (s.applyRequest c).outcome (s.applyRequest c).data)) :=
    ⟨_, fun k hk => exec_answer hk (hlistens (by rw [hk]; simp))⟩
  have hstands (a : Answer) : a.state.PlansStand (State.conclude s (a.state.answered b.1 b.2 a.outcome a.data)) :=
    (State.answered_stands ..).trans (State.conclude_stands ..)
  cases hone : changesOne c with
  | true =>
    obtain ⟨k, hk⟩ : ∃ k, c.requestKind = some k := by
      cases c with
      | setPath | ackPath | dismissPath | clearPath | maskPath | closeSegment | openSegment | postNotice | endNotice => exact ⟨_, rfl⟩
      | _ => cases hone
    have honce := (State.applyRequest_once hsound hone).stand (hstands _)
    refine ⟨_, hanswered k hk, fun hchanged n hrole => ?_⟩
    obtain ⟨t, ht, hend⟩ := exec_closingSound c s hsound
    obtain rfl : t = _ := Host.Outcome.next.inj (ht.symm.trans (hanswered k hk))
    have ⟨hplan, hreplaced⟩ := (honce.follow hsound hend).changed hchanged n hrole
    exact ⟨hplan, hreplaced, fun _ hsame => honce.kept n hsame⟩
  | false =>
    have hmany {t : State} (ht : exec c s = .next t) (hfollow : s.PlansFollow t) :
        ∃ t : State, exec c s = .next t ∧ (s.planInputsChanged t → ∀ n : Fin 16, (t.sign n).cfg.role ≠ .none →
          let same : Prop := (t.sign n).planClass = (s.sign n).planClass ∧ (t.sign n).rotation = (s.sign n).rotation
          t.planStands n ∧ (¬same → s.planReplaced t n) ∧ (false = true → same → s.planKept t n)) := by
      refine ⟨t, ht, fun hchanged n hrole => ?_⟩
      obtain ⟨hplan, hreplaced⟩ := hfollow.changed hchanged n hrole
      exact ⟨hplan, hreplaced, fun h => by cases h⟩
    have hanswer {a : Answer} (hfollow : s.PlansFollow a.state) : s.PlansFollow (State.conclude s (a.state.answered b.1 b.2 a.outcome a.data)) :=
      (hfollow.stand (State.answered_stands ..) (State.closingSound_of_eq hfollow.sound rfl rfl)).conclude
    have hsome : changesMany c = true := hc.resolve_left (by rw [hone]; decide)
    cases c with
    | setClock _ second => exact hmany (hanswered _ rfl) (hanswer (State.applySetClock_follow hsound second))
    | setChannel => exact hmany (hanswered _ rfl) (hanswer (State.applySetChannel_follow hsound ..))
    | passClockSecond => exact hmany rfl (hrefl.runEvent (.inr (.inr rfl)))
    | samplingTick x =>
      have hheld : s.PlansFollow { s with analog := x } := hrefl.aside rfl rfl rfl rfl rfl rfl
      exact hmany rfl (iteInduction (motive := fun u : State => s.PlansFollow u) (fun _ => (hheld.takeEvent (.inr (.inl rfl))).conclude) fun _ => hrefl)
    | chActive => exact hmany rfl (hrefl.runEvent (.inl rfl))
    | chQuiet => exact hmany rfl (hrefl.runEvent (.inl rfl))
    | chRecover => exact hmany rfl (hrefl.runEvent (.inl rfl))
    | _ => cases hsome

end Sys2Proof.Machine
end

section
/-! PROOF. The requests of the message library (R177 to R180, R187). -/

namespace Sys2Proof.Machine

/-! ### The work queue and an idle port (R174, R177) -/

/-- The item that a request queues next. -/
def State.nextItem (s : State) (k : WorkKind) : WorkItem := { seq := s.lib.nextSeq, kind := k }

/-- An idle port that no fill can take starts the head of the work queue, if there is one. -/
theorem State.portChoice_work {s : State} (h : s.lib.port = .idle) (hf : s.nextFill = none) : s.portChoice =
    match s.lib.workQueue with
    | [] => s
    | it :: rest => s.updLib fun lib => { lib with workQueue := rest, port := s.opOf it, opTicks := 0 } := by
  unfold State.portChoice State.arbitratePort
  rw [if_neg (not_not.2 h), hf] <;> rfl

theorem State.portChoice_start {s : State} (h : s.lib.port = .idle) (hf : s.nextFill = none) {it : WorkItem} {rest : List WorkItem}
    (hq : s.lib.workQueue = it :: rest) : s.portChoice = { s with lib := { s.lib with workQueue := rest, port := s.opOf it, opTicks := 0 } } := by
  rw [State.portChoice_work h hf, hq]
  rfl

theorem State.queueWork_busy {s : State} (h : s.lib.port ≠ .idle) (k : WorkKind) : s.queueWork k =
    { s with lib := { s.lib with workQueue := s.lib.workQueue ++ [s.nextItem k], nextSeq := s.lib.nextSeq + 1 } } := State.portChoice_busy _ h

theorem State.queueWork_starts {s : State} (h : s.lib.port = .idle) (hf : s.nextFill = none) (hq : s.lib.workQueue = []) (k : WorkKind) :
    s.queueWork k = { s with lib := { s.lib with port := s.opOf (s.nextItem k), opTicks := 0, nextSeq := s.lib.nextSeq + 1 } } := by
  have hfill : ({ s with lib := { s.lib with workQueue := [s.nextItem k], nextSeq := s.lib.nextSeq + 1 } } : State).nextFill = none := hf
  have hqueued : s.queueWork k =
      ({ s with lib := { s.lib with workQueue := s.lib.workQueue ++ [s.nextItem k], nextSeq := s.lib.nextSeq + 1 } } : State).portChoice := rfl
  rw [hqueued, hq, List.nil_append]
  refine (State.portChoice_start
    (s := { s with lib := { s.lib with workQueue := [s.nextItem k], nextSeq := s.lib.nextSeq + 1 } }) h hfill rfl).trans ?_
  rw [← hq]
  rfl

/-- What SAVE_PROFILE and ERASE_BLOCK answer by the work queue and the port. -/
theorem State.applyQueue_full {s : State} (h : 6 ≤ s.lib.workQueue.length) (k : WorkKind) : s.applyQueue k = refuse .queueFull s := if_pos h

theorem State.applyQueue_busy {s : State} (h : ¬6 ≤ s.lib.workQueue.length) (hp : s.lib.port ≠ .idle) (k : WorkKind) : s.applyQueue k =
    accept ([s.lib.nextSeq] ++ u8 (6 - (s.lib.workQueue.length + 1)))
      { s with lib := { s.lib with workQueue := s.lib.workQueue ++ [s.nextItem k], nextSeq := s.lib.nextSeq + 1 } } := by
  unfold State.applyQueue queuedData State.workFree
  rw [if_neg h, State.queueWork_busy hp]
  dsimp only
  rw [List.length_append]
  rfl

theorem State.applyQueue_starts {s : State} (h : s.lib.port = .idle) (hf : s.nextFill = none) (hq : s.lib.workQueue = []) (k : WorkKind) :
    s.applyQueue k = accept ([s.lib.nextSeq] ++ u8 6)
      { s with lib := { s.lib with port := s.opOf (s.nextItem k), opTicks := 0, nextSeq := s.lib.nextSeq + 1 } } := by
  unfold State.applyQueue queuedData State.workFree
  rw [if_neg (by rw [hq]; decide), State.queueWork_starts h hf hq]
  dsimp only
  rw [hq]
  rfl

/-! ### The write cursor (R179) -/

theorem libraryPageOf_of {x : Half} (h8 : 8 ≤ x.toNat) (h : x.toNat < 4096) : libraryPageOf x = some (x.setWidth 12) := by
  unfold libraryPageOf
  rw [if_pos h8, pageOf_of_lt h]

theorem libraryPageOf_out {x : Half} (h : x.toNat < 8 ∨ 4096 ≤ x.toNat) : libraryPageOf x = none := by
  unfold libraryPageOf
  split
  · exact if_neg (by omega)
  · rfl

theorem setWidth_page_toNat {x : Half} (h : x.toNat < 4096) : (x.setWidth 12).toNat = x.toNat := by
  rw [BitVec.toNat_setWidth]
  exact Nat.mod_eq_of_lt h

theorem nextCursor_eq (p : Page) (i : Fin 8) : nextCursor p i = if i.val < 7 then some (p, i + 1) else none := by
  unfold nextCursor
  fin_cases i <;> rfl

theorem nextCursor_byte (p : Page) (i : Fin 8) : u8opt ((nextCursor p i).map fun c => c.2.val) = u8 (if i.val < 7 then i.val + 1 else 0xFF) := by
  unfold nextCursor
  fin_cases i <;> rfl

theorem u8_of_toNat {b : Byte} {n : Nat} (h : b.toNat = n) : u8 n = [b] := by
  subst h
  simp [u8]

/-! ### The directory (R180) -/

/-- A frame in flight uses a way of a set. -/
theorem State.setWayInUse_eq (s : State) (k : Fin 32) (w : Bool) :
    s.setWayInUse k w = (List.finRange 2).any fun l => (s.line l).inFlight.any fun f => f.way == some (k, w) := by
  unfold State.setWayInUse
  congr 1
  funext l
  cases (s.line l).inFlight <;> rfl

theorem State.wayBytes_eq (s : State) (k : Fin 32) (w : Bool) : s.wayBytes k w =
    u8 ((if (s.lib.cache[k].way w).valid then 1 else 0) +
        (if (List.finRange 2).any fun l => (s.line l).inFlight.any fun f => f.way == some (k, w) then 2 else 0)) ++
      u16 (if (s.lib.cache[k].way w).valid then 32 * (s.lib.cache[k].way w).tag + k.val else 0xFFFF) ++
      u8 (s.lib.cache[k].way w).validMask.toNat := by
  unfold State.wayBytes u16opt
  rw [State.setWayInUse_eq]
  dsimp only
  cases (s.lib.cache[k].way w).valid <;> rfl

theorem WorkItem.bytes_eq (x : WorkItem) : x.bytes = [x.seq] ++ (match x.kind with
    | .program p i _ => u8 1 ++ u16 p.toNat ++ u8 i.val
    | .erase b => u8 2 ++ u16 b.val ++ u8 0xFF
    | .saveProfile => u8 3 ++ u16 0 ++ u8 0xFF) := by
  unfold WorkItem.bytes
  cases x.kind <;> rfl

/-! ### The obligation -/

/-- Settles O52: each request by its own refusals; an item queued at an idle port that no fill takes starts at once. -/
theorem libraryRequestsApply : Obligations.LibraryRequestsApply := by
  unfold Obligations.LibraryRequestsApply
  intro tag s h full seq waits starts busy open' left next moved inUse way set sets fill item
  have hsets (k : Fin 32) : set k = s.setBytes k := by
    have h0 := s.wayBytes_eq k false
    have h1 := s.wayBytes_eq k true
    unfold State.setBytes
    rw [h0, h1]
    rfl
  refine ⟨fun page strip => ⟨fun hbad => ?_, fun i h8 hlt hi => ?_⟩, ?_, fun first count => ⟨fun hbad => ?_, fun hlt => ?_⟩,
    fun d => ⟨fun hc => ?_, fun p i hc => ⟨fun hfull => ?_, fun hfull hbusy => ?_, fun hopen => ?_⟩⟩,
    fun block => ⟨fun hbad => ?_, fun b hne hb => ?_⟩, fun hfull => ?_, fun hfull hbusy => ?_, fun hopen => ?_⟩
  · refine exec_refused (k := .openPage) rfl h ?_
    change s.applyOpenPage page strip = _
    unfold State.applyOpenPage
    rcases hbad with hp | hp | hstrip
    · rw [libraryPageOf_out (.inl hp)]
    · rw [libraryPageOf_out (.inr hp)]
    · rw [indexOf_of_ge hstrip]
      split
      · next hx => cases hx
      · rfl
  · refine exec_accepted (k := .openPage) rfl h ?_ rfl rfl
    change s.applyOpenPage page strip = _
    unfold State.applyOpenPage
    rw [libraryPageOf_of h8 hlt, indexOf_of_toNat hi]
    dsimp only
    rw [setWidth_page_toNat hlt, u8_of_toNat hi]
    rfl
  · exact exec_accepted (k := .clearFaults) rfl h rfl rfl rfl
  · refine exec_refused (k := .readDirectory) rfl h ?_
    change s.applyReadDirectory first count = _
    unfold State.applyReadDirectory
    rw [indexOf_of_ge hbad]
  · refine exec_accepted (k := .readDirectory) rfl h ?_ rfl rfl
    change s.applyReadDirectory first count = _
    unfold State.applyReadDirectory
    rw [indexOf_of_toNat (i := ⟨first.toNat, hlt⟩) rfl]
    have hrange : (List.finRange 32).filter (fun j => decide (first.toNat ≤ j.val) && decide (j.val < first.toNat + clampNat 1 8 count.toNat)) =
        sets first.toNat count.toNat := by
      refine List.filter_congr fun j _ => ?_
      rw [← Bool.decide_and]
      rfl
    have hset : set = s.setBytes := funext hsets
    have hitem : item = WorkItem.bytes := funext fun x => x.bytes_eq.symm
    rw [hset, hitem]
    dsimp only
    rw [hrange]
    rfl
  · refine exec_refused (k := .pageData) rfl h ?_
    change s.applyPageData d = _
    unfold State.applyPageData
    rw [hc]
  · refine exec_refused (k := .pageData) rfl h ?_
    change s.applyPageData d = _
    unfold State.applyPageData
    rw [hc]
    exact if_pos hfull
  · refine exec_accepted (k := .pageData) rfl h ?_ rfl rfl
    change s.applyPageData d = _
    unfold State.applyPageData
    rw [hc]
    dsimp only
    rw [if_neg hfull, State.queueWork_busy (by exact hbusy), nextCursor_byte, nextCursor_eq]
    unfold State.workFree
    dsimp only
    rw [List.length_append]
    rfl
  · obtain ⟨hidle, hfill, hqueue⟩ := hopen
    refine exec_accepted (k := .pageData) rfl h ?_ rfl rfl
    change s.applyPageData d = _
    unfold State.applyPageData
    rw [hc]
    dsimp only
    rw [if_neg (by rw [hqueue]; decide), State.queueWork_starts (by exact hidle) (by exact hfill) (by exact hqueue), nextCursor_byte, nextCursor_eq]
    unfold State.workFree
    have hfree : 6 - s.lib.workQueue.length = 6 := by rw [hqueue]; rfl
    dsimp only [State.updLib]
    rw [hfree]
    rfl
  · refine exec_refused (k := .eraseBlock) rfl h ?_
    change s.applyEraseBlock block = _
    refine dif_neg ?_
    rcases hbad with rfl | hb
    · simp
    · omega
  · have hblock (a : Answer) (ha : s.applyQueue (.erase b) = a) : s.applyRequest (.eraseBlock tag block) = a := by
      have hpos : block.toNat ≠ 0 := fun hz => hne (BitVec.eq_of_toNat_eq hz)
      have hlt := b.isLt
      change s.applyEraseBlock block = _
      unfold State.applyEraseBlock
      rw [dif_pos (by omega), ← ha]
      congr 2
      exact Fin.ext hb
    refine ⟨fun hfull => ?_, fun hfull hbusy => ?_, fun hopen => ?_⟩
    · exact exec_refused (k := .eraseBlock) rfl h (hblock _ (State.applyQueue_full hfull _))
    · exact exec_accepted (k := .eraseBlock) rfl h (hblock _ (State.applyQueue_busy hfull hbusy _)) rfl rfl
    · obtain ⟨hidle, hfill, hqueue⟩ := hopen
      exact exec_accepted (k := .eraseBlock) rfl h (hblock _ (State.applyQueue_starts hidle hfill hqueue _)) rfl rfl
  · exact exec_refused (k := .saveProfile) rfl h (State.applyQueue_full hfull _)
  · exact exec_accepted (k := .saveProfile) rfl h (State.applyQueue_busy hfull hbusy _) rfl rfl
  · obtain ⟨hidle, hfill, hqueue⟩ := hopen
    exact exec_accepted (k := .saveProfile) rfl h (State.applyQueue_starts hidle hfill hqueue _) rfl rfl

end Sys2Proof.Machine
end

section
/-! SUPPORT. What port and lines leave of the library record, and how a step ends while both lines are busy (R141, R173 to R177). -/

namespace Sys2Proof.Machine

/-! ### What fills and arbitrations leave of the library record -/

/-- The lists and the last results of the library stand, no work item joins an empty queue, and every page newly asked for satisfies
`P`. -/
structure Library.Keeps (P : Page → Prop) (a b : Library) : Prop where
  faulted : b.faulted = a.faulted
  cursor : b.cursor = a.cursor
  nextSeq : b.nextSeq = a.nextSeq
  lastDone : b.lastDone = a.lastDone
  lastFailure : b.lastFailure = a.lastFailure
  lastFillFault : b.lastFillFault = a.lastFillFault
  asked : ∀ r ∈ b.missQueue, P r.page ∨ ∃ q ∈ a.missQueue, q.page = r.page
  work : a.workQueue = [] → b.workQueue = []

variable {P : Page → Prop}

theorem Library.Keeps.rfl {a : Library} : Library.Keeps P a a :=
  ⟨Eq.refl _, Eq.refl _, Eq.refl _, Eq.refl _, Eq.refl _, Eq.refl _, fun r hr => .inr ⟨r, hr, Eq.refl _⟩, id⟩

theorem Library.Keeps.trans {a b c : Library} (h : Library.Keeps P a b) (k : Library.Keeps P b c) : Library.Keeps P a c := by
  refine ⟨k.faulted.trans h.faulted, k.cursor.trans h.cursor, k.nextSeq.trans h.nextSeq, k.lastDone.trans h.lastDone,
    k.lastFailure.trans h.lastFailure, k.lastFillFault.trans h.lastFillFault, fun r hr => ?_, fun hw => k.work (h.work hw)⟩
  rcases k.asked r hr with hr | ⟨q, hq, hpage⟩
  · exact .inl hr
  · rw [← hpage]
    exact h.asked q hq

/-- A change of the other fields whose requests are for pages asked for before. -/
theorem Library.Keeps.of_queue {a b : Library} (h : b.faulted = a.faulted ∧ b.cursor = a.cursor ∧ b.nextSeq = a.nextSeq ∧ b.lastDone = a.lastDone ∧
    b.lastFailure = a.lastFailure ∧ b.lastFillFault = a.lastFillFault) (hq : ∀ r ∈ b.missQueue, ∃ q ∈ a.missQueue, q.page = r.page)
    (hw : a.workQueue = [] → b.workQueue = []) : Library.Keeps P a b := by
  obtain ⟨h1, h2, h3, h4, h5, h6⟩ := h
  exact ⟨h1, h2, h3, h4, h5, h6, fun r hr => .inr (hq r hr), hw⟩

/-- A change of the cache or of the port alone. -/
theorem Library.Keeps.of_eq {a b : Library} (h : b.faulted = a.faulted ∧ b.cursor = a.cursor ∧ b.nextSeq = a.nextSeq ∧ b.lastDone = a.lastDone ∧
    b.lastFailure = a.lastFailure ∧ b.lastFillFault = a.lastFillFault) (hq : b.missQueue = a.missQueue)
    (hw : a.workQueue = [] → b.workQueue = []) : Library.Keeps P a b :=
  .of_queue h (fun r hr => ⟨r, hq ▸ hr, Eq.refl _⟩) hw

theorem State.updWay_libKeeps (s : State) (p : Page) (w : Bool) (f : CacheLine → CacheLine) : Library.Keeps P s.lib (s.updWay p w f).lib :=
  .of_eq ⟨rfl, rfl, rfl, rfl, rfl, rfl⟩ rfl id

theorem State.useWay_libKeeps (s : State) (p : Page) (w : Bool) : Library.Keeps P s.lib (s.useWay p w).lib := .of_eq ⟨rfl, rfl, rfl, rfl, rfl, rfl⟩ rfl id

theorem serveRequest_page {p : Page} {l : List FillRequest} {r : FillRequest} (h : r ∈ serveRequest p l) : ∃ q ∈ l, q.page = r.page := by
  obtain ⟨q, hq, rfl⟩ := List.mem_map.1 h
  refine ⟨q, hq, ?_⟩
  split <;> rfl

theorem State.startFill_libKeeps (s : State) (p : Page) (w : Bool) : Library.Keeps P s.lib (s.startFill p w).lib := by
  have key (u : State) (hu : Library.Keeps P s.lib u.lib) : Library.Keeps P s.lib ((u.useWay p w).updLib fun lib =>
      { lib with missQueue := serveRequest p lib.missQueue, port := .fill p w 0 false, opTicks := 0 }).lib :=
    (hu.trans (u.useWay_libKeeps p w)).trans (.of_queue ⟨rfl, rfl, rfl, rfl, rfl, rfl⟩ (fun _ hr => serveRequest_page hr) id)
  exact key _ (iteInduction (motive := fun u : State => Library.Keeps P s.lib u.lib) (fun _ => .rfl) fun _ => s.updWay_libKeeps ..)

theorem State.endFill_libKeeps (s : State) (p : Page) : Library.Keeps P s.lib (s.endFill p).lib :=
  .of_queue ⟨rfl, rfl, rfl, rfl, rfl, rfl⟩ (fun r hr => ⟨r, List.mem_of_mem_filter hr, rfl⟩) id

theorem State.runFill_libKeeps (n : Nat) (s : State) : Library.Keeps P s.lib (State.runFill n s).lib := by
  induction n generalizing s with
  | zero => exact .rfl
  | succ n ih =>
    unfold State.runFill
    split
    · split
      · exact s.endFill_libKeeps _
      · split
        · exact (s.updWay_libKeeps ..).trans (ih _)
        · exact .of_eq ⟨rfl, rfl, rfl, rfl, rfl, rfl⟩ rfl id
    · exact .rfl

theorem State.arbitratePort_libKeeps (n : Nat) (s : State) : Library.Keeps P s.lib (State.arbitratePort n s).lib := by
  induction n generalizing s with
  | zero => exact .rfl
  | succ n ih =>
    unfold State.arbitratePort
    split
    · exact .rfl
    · split
      · exact ((s.startFill_libKeeps ..).trans (State.runFill_libKeeps ..)).trans (ih _)
      · split
        · exact .rfl
        · next hq => exact .of_eq ⟨rfl, rfl, rfl, rfl, rfl, rfl⟩ rfl fun hw => by simp [hw] at hq

theorem State.portChoice_libKeeps (s : State) : Library.Keeps P s.lib s.portChoice.lib := s.arbitratePort_libKeeps 6

theorem mergeRequest_page {p : Page} {m : BitVec 8} {l : List FillRequest} {r : FillRequest} (h : r ∈ mergeRequest p m l) : ∃ q ∈ l, q.page = r.page := by
  induction l with
  | nil => cases h
  | cons q l ih =>
    unfold mergeRequest at h
    split at h
    · rcases List.mem_cons.1 h with rfl | h
      · exact ⟨q, List.mem_cons_self, rfl⟩
      · exact ⟨r, List.mem_cons_of_mem q h, rfl⟩
    · rcases List.mem_cons.1 h with rfl | h
      · exact ⟨r, List.mem_cons_self, rfl⟩
      · obtain ⟨x, hx, hpage⟩ := ih h
        exact ⟨x, List.mem_cons_of_mem q hx, hpage⟩

theorem State.requestFill_libKeeps {s : State} {p : Page} (h : P p) (m : BitVec 8) : Library.Keeps P s.lib (s.requestFill p m).lib := by
  unfold State.requestFill
  split
  · exact .rfl
  · split
    · exact .of_queue ⟨rfl, rfl, rfl, rfl, rfl, rfl⟩ (fun _ hr => mergeRequest_page hr) id
    · split
      · refine ⟨rfl, rfl, rfl, rfl, rfl, rfl, fun r hr => ?_, id⟩
        rcases List.mem_append.1 hr with hr | hr
        · exact .inr ⟨r, hr, rfl⟩
        · rw [List.mem_singleton.1 hr]
          exact .inl h
      · exact .rfl

theorem Library.Keeps.open {a b : Library} (h : Library.Keeps P a b) (hp : ∀ p ∉ a.faulted, P p) : ∀ p ∉ b.faulted, P p := by
  rw [h.faulted]
  exact hp

theorem State.passOver_libKeeps {s : State} (hp : ∀ p ∉ s.lib.faulted, P p) (c : Candidate) : Library.Keeps P s.lib (s.passOver c).lib := by
  unfold State.passOver
  split
  · split
    · exact .rfl
    · next hf => exact State.requestFill_libKeeps (hp _ (by simpa [State.isFaulted] using hf)) _
  · exact .rfl

theorem State.sendFrame_libKeeps (s : State) (c : Candidate) (b : Bool) : Library.Keeps P s.lib (s.sendFrame c b).lib := by
  unfold State.sendFrame
  dsimp only
  split
  · exact State.useWay_libKeeps ..
  · exact .rfl

theorem State.takeCandidates_libKeeps (cs : List Candidate) {s : State} (hp : ∀ p ∉ s.lib.faulted, P p) : Library.Keeps P s.lib (State.takeCandidates cs s).lib := by
  induction cs generalizing s with
  | nil => exact .rfl
  | cons c cs ih =>
    unfold State.takeCandidates
    split
    · split
      · exact s.sendFrame_libKeeps c false
      · next p w i _ =>
        have hparity : Library.Keeps P s.lib (s.parityError p w i).lib := .of_eq ⟨rfl, rfl, rfl, rfl, rfl, rfl⟩ rfl id
        have hpass := hparity.trans (State.passOver_libKeeps (hparity.open hp) c)
        exact hpass.trans (ih (hpass.open hp))
    · have hpass := State.passOver_libKeeps hp c
      split
      · exact hpass.trans (State.sendFrame_libKeeps ..)
      · exact hpass.trans (ih (hpass.open hp))

theorem State.arbitrate_libKeeps {s : State} (hp : ∀ p ∉ s.lib.faulted, P p) (l : Fin 2) : Library.Keeps P s.lib (s.arbitrate l).lib :=
  iteInduction (motive := fun t : State => Library.Keeps P s.lib t.lib) (fun _ => .rfl) fun _ => State.takeCandidates_libKeeps _ hp

theorem State.serveLine_libKeeps {s : State} (hp : ∀ p ∉ s.lib.faulted, P p) (l : Fin 2) : Library.Keeps P s.lib (s.serveLine l).lib := by
  have h := (State.arbitrate_libKeeps (s := s.updLine l fun r => { r with arbitrate := false }) hp l).trans (State.portChoice_libKeeps _)
  exact iteInduction (motive := fun t : State => Library.Keeps P s.lib t.lib) (fun _ => h) fun _ => .rfl

theorem State.serveLines_libKeeps (n : Nat) {s : State} (hp : ∀ p ∉ s.lib.faulted, P p) : Library.Keeps P s.lib (State.serveLines n s).lib := by
  induction n generalizing s with
  | zero => exact .of_eq ⟨rfl, rfl, rfl, rfl, rfl, rfl⟩ rfl id
  | succ n ih =>
    unfold State.serveLines
    split
    · have h0 := State.serveLine_libKeeps hp 0
      have h1 := h0.trans (State.serveLine_libKeeps (h0.open hp) 1)
      exact h1.trans (ih (h1.open hp))
    · exact .rfl

theorem lib_of_exceptBarriers {s t : State} (h : t.exceptBarriers = s.exceptBarriers) : t.lib = s.lib := (congrArg State.lib h :)

theorem State.conclude_libKeeps (a : State) {s : State} (hp : ∀ p ∉ s.lib.faulted, P p) : Library.Keeps P s.lib (State.conclude a s).lib := by
  have hlib := lib_of_exceptBarriers (State.handSigns_exceptBarriers a s)
  have h := State.serveLines_libKeeps (P := P) 8 (s := State.handSigns a s) (hlib ▸ hp)
  rw [hlib] at h
  exact h

/-! ### The end of a step while both lines are busy -/

/-- The port has an operation, or nothing to choose from. -/
def Library.rests (b : Library) : Prop := b.port ≠ .idle ∨ (b.missQueue = [] ∧ b.workQueue = [])

theorem State.nextFill_none {s : State} (h : s.lib.missQueue = []) : s.nextFill = none := by
  unfold State.nextFill
  rw [h]
  rfl

theorem State.portChoice_rests {s : State} (h : s.lib.rests) : s.portChoice = s := by
  by_cases hp : s.lib.port = .idle
  · obtain ⟨hmiss, hwork⟩ := h.resolve_left (not_not.2 hp)
    rw [State.portChoice_work hp (State.nextFill_none hmiss), hwork]
  · exact State.portChoice_busy _ hp

/-- Both lines have a frame in flight. -/
def State.linesBusy (s : State) : Prop := ∀ l : Fin 2, (s.line l).inFlight ≠ none

theorem State.arbitrate_busy {s : State} {l : Fin 2} (h : (s.line l).inFlight ≠ none) : s.arbitrate l = s :=
  if_pos (.inl (Option.isSome_iff_ne_none.2 h))

theorem State.linesBusy_of_kept {s t : State} (h : s.TrafficKept t) (hb : s.linesBusy) : t.linesBusy := fun l => by
  rw [((h.lines l).flight (hb l)).1]
  exact hb l

/-- A busy line asks for no page: its turn leaves the library to the port alone. -/
theorem State.serveLine_libKeeps_busy {s : State} (hb : s.linesBusy) (l : Fin 2) : Library.Keeps P s.lib (s.serveLine l).lib := by
  have hclear : ((s.updLine l fun r => { r with arbitrate := false }).line l).inFlight ≠ none := by
    rw [State.updLine_eq, State.setLine_line_same]
    exact hb l
  have h : Library.Keeps P s.lib ((s.updLine l fun r => { r with arbitrate := false }).arbitrate l).portChoice.lib := by
    rw [State.arbitrate_busy hclear]
    exact State.portChoice_libKeeps (s.updLine l fun r => { r with arbitrate := false })
  exact iteInduction (motive := fun t : State => Library.Keeps P s.lib t.lib) (fun _ => h) fun _ => .rfl

theorem State.finish_libKeeps_busy {s : State} (hb : s.linesBusy) : Library.Keeps P s.lib s.finish.lib := by
  have key (n : Nat) (s : State) (hb : s.linesBusy) : Library.Keeps P s.lib (State.serveLines n s).lib := by
    induction n generalizing s with
    | zero => exact .of_eq ⟨rfl, rfl, rfl, rfl, rfl, rfl⟩ rfl id
    | succ n ih =>
      unfold State.serveLines
      split
      · have hb0 := State.linesBusy_of_kept (s.serveLine_kept 0) hb
        have hb1 := State.linesBusy_of_kept ((s.serveLine 0).serveLine_kept 1) hb0
        exact ((State.serveLine_libKeeps_busy hb 0).trans (State.serveLine_libKeeps_busy hb0 1)).trans (ih _ hb1)
      · exact .rfl
  exact key 8 s hb

theorem State.serveLine_rests {s : State} {l : Fin 2} (h : s.lib.rests) (hb : (s.line l).inFlight ≠ none) :
    s.serveLine l = if (s.line l).arbitrate then s.updLine l (fun r => { r with arbitrate := false }) else s := by
  have hclear : ((s.updLine l fun r => { r with arbitrate := false }).line l).inFlight ≠ none := by
    rw [State.updLine_eq, State.setLine_line_same]
    exact hb
  have hrest : (s.updLine l fun r => { r with arbitrate := false }).lib.rests := h
  have hserve : s.serveLine l = if (s.line l).arbitrate then
      ((s.updLine l fun r => { r with arbitrate := false }).arbitrate l).portChoice else s := rfl
  rw [hserve, State.arbitrate_busy hclear, State.portChoice_rests hrest]

/-- A state with the arbitrations of its lines owed or not. -/
theorem State.ext_lines {s t : State} (h : { t with lines := s.lines } = s) (hl : ∀ l : Fin 2, t.line l = s.line l) : t = s := by
  have hlines : t.lines = s.lines := by
    refine Vector.ext fun i hi => ?_
    exact hl ⟨i, hi⟩
  rw [← h, ← hlines]

theorem State.clearArbitrations_line (s : State) (l : Fin 2) : s.clearArbitrations.line l = { s.line l with arbitrate := false } := by
  unfold State.clearArbitrations
  simp only [State.updLine_eq, State.setLine_line]
  fin_cases l <;> simp

/-- While both lines are busy and the port has nothing to choose, the end of a step clears what was owed alone. -/
theorem State.finish_rests {s : State} (h : s.lib.rests) (hb : s.linesBusy) : s.finish = s.clearArbitrations := by
  have hserve (u : State) (l : Fin 2) (hu : u.lib.rests) (hb : u.linesBusy) : { u.serveLine l with lines := u.lines } = u ∧
      (u.serveLine l).line l = { u.line l with arbitrate := false } ∧ ∀ j, j ≠ l → (u.serveLine l).line j = u.line j := by
    rw [State.serveLine_rests hu (hb l)]
    split
    · exact ⟨rfl, by rw [State.updLine_eq, State.setLine_line_same], fun j hj => by rw [State.updLine_eq, State.setLine_line_other _ _ _ _ hj]⟩
    · next ha =>
      have hoff : (u.line l).arbitrate = false := by simpa using ha
      exact ⟨rfl, by rw [← hoff], fun _ _ => rfl⟩
  have hclear : ({ s.clearArbitrations with lines := s.lines } : State) = s := rfl
  by_cases ho : s.owesArbitration = true
  · obtain ⟨hframe0, hsame0, hother0⟩ := hserve s 0 h hb
    have hrest0 : (s.serveLine 0).lib.rests := by
      have hlib : (s.serveLine 0).lib = s.lib := (congrArg State.lib hframe0 :)
      rw [hlib]
      exact h
    have hbusy0 : (s.serveLine 0).linesBusy := fun l => by
      by_cases hl : l = 0
      · subst hl
        rw [hsame0]
        exact hb 0
      · rw [hother0 l hl]
        exact hb l
    obtain ⟨hframe1, hsame1, hother1⟩ := hserve (s.serveLine 0) 1 hrest0 hbusy0
    have hline (l : Fin 2) : ((s.serveLine 0).serveLine 1).line l = { s.line l with arbitrate := false } := by
      fin_cases l
      · exact (hother1 0 (by decide)).trans hsame0
      · exact hsame1.trans (by rw [hother0 1 (by decide)]; rfl)
    have hframe : ({ (s.serveLine 0).serveLine 1 with lines := s.clearArbitrations.lines } : State) = s.clearArbitrations := by
      have key (a b : State) (ha : { a with lines := s.lines } = s) (hb : { b with lines := a.lines } = a) :
          { b with lines := s.clearArbitrations.lines } = s.clearArbitrations := by
        rw [← ha] at hclear ⊢
        rw [← hb] at hclear ⊢
        rfl
      exact key _ _ hframe0 hframe1
    have hend : (s.serveLine 0).serveLine 1 = s.clearArbitrations :=
      State.ext_lines hframe fun l => (hline l).trans (s.clearArbitrations_line l).symm
    have hnext : s.finish = State.serveLines 7 ((s.serveLine 0).serveLine 1) := if_pos ho
    have hcalm : s.clearArbitrations.owesArbitration = false := s.clearArbitrations_calm
    rw [hnext, hend]
    exact if_neg (by rw [hcalm]; decide)
  · have hcalm : s.owesArbitration = false := by simpa using ho
    have hoff (l : Fin 2) : (s.line l).arbitrate = false := by
      have h01 : (s.line 0).arbitrate = false ∧ (s.line 1).arbitrate = false := by simpa [State.owesArbitration] using hcalm
      fin_cases l
      · exact h01.1
      · exact h01.2
    rw [State.finish_of_calm s hcalm]
    refine State.ext_lines (s := s.clearArbitrations) rfl fun l => ?_
    rw [s.clearArbitrations_line l, ← hoff l]

end Sys2Proof.Machine
end

section
/-! PROOF. The end of a fill's read on the flash port (R174 to R176). -/

namespace Sys2Proof.Machine

/-! ### Slot heads (R171) -/

theorem headData_append (x : BitVec 272) : headData x ++ x.setWidth 16 = x := by
  refine BitVec.eq_of_getLsbD_eq fun k hk => ?_
  simp only [headData, BitVec.getLsbD_append, BitVec.getLsbD_setWidth, BitVec.getLsbD_ushiftRight]
  split
  · next h => simp [h]
  · next h =>
    have hback : 16 + (k - 16) = k := by omega
    simp [hback, show k - 16 < 256 by omega]

/-- A slot head reads as good where its CRC-16 field is that of its data. -/
theorem headGood_iff (x : BitVec 272) : headGood x = true ↔ crc16 (bytesBE 32 (headData x)) = x.setWidth 16 := by
  have hword : headGood x = true ↔ headData x ++ crc16 (bytesBE 32 (headData x)) = x := beq_iff_eq
  rw [hword]
  constructor
  · intro h
    have hlow : (headData x ++ crc16 (bytesBE 32 (headData x))).setWidth 16 = x.setWidth 16 := congrArg (BitVec.setWidth 16) h
    rwa [BitVec.setWidth_append_eq_right] at hlow
  · intro h
    rw [h]
    exact headData_append x

/-! ### The ways a fill goes on (R175) -/

theorem State.runFill_ends {u : State} {p : Page} {w r : Bool} {i : Fin 8} (hport : u.lib.port = .fill p w i r)
    (h : u.nextStrip p w = none) (n : Nat) : State.runFill (n + 1) u = u.endFill p := by
  unfold State.runFill
  rw [hport]
  dsimp only
  rw [h]

theorem State.runFill_reads {u : State} {p : Page} {w r : Bool} {i j : Fin 8} (hport : u.lib.port = .fill p w i r)
    (h : u.nextStrip p w = some j) (hs : u.snoop p j = none) (n : Nat) :
    State.runFill (n + 1) u = { u with lib := { u.lib with port := .fill p w j false } } := by
  unfold State.runFill
  rw [hport]
  dsimp only
  rw [h]
  dsimp only
  rw [hs] <;> rfl

theorem State.runFill_snoops {u : State} {p : Page} {w r : Bool} {i j : Fin 8} (hport : u.lib.port = .fill p w i r)
    (h : u.nextStrip p w = some j) {v : StripData} (hs : u.snoop p j = some v) (n : Nat) :
    State.runFill (n + 1) u = State.runFill n (u.installStrip p w j v) := by
  rw [State.runFill, hport]
  dsimp only
  rw [h]
  dsimp only
  rw [hs]

/-! ### A fill that ends while both lines are busy -/

theorem State.askBoth_line (u : State) (l : Fin 2) : u.askBoth.line l = { u.line l with arbitrate := true } := by
  simp only [State.askBoth, State.askArbitration, State.updLine_eq, State.setLine_line]
  fin_cases l <;> simp

theorem State.askBoth_lines (u : State) : { u.askBoth with lines := u.lines } = u := rfl

theorem State.clearArbitrations_lines (u : State) : { u.clearArbitrations with lines := u.lines } = u := rfl

theorem State.clearArbitrations_askBoth {u : State} (h : u.calm) : u.askBoth.clearArbitrations = u := by
  have h01 : (u.line 0).arbitrate = false ∧ (u.line 1).arbitrate = false := by
    simpa [State.calm, State.owesArbitration] using h
  have hoff (l : Fin 2) : (u.line l).arbitrate = false := by
    fin_cases l
    · exact h01.1
    · exact h01.2
  have hframe : ({ u.askBoth.clearArbitrations with lines := u.lines } : State) = u :=
    (congrArg (fun x : State => { x with lines := u.lines }) u.askBoth.clearArbitrations_lines :).trans u.askBoth_lines
  refine State.ext_lines hframe fun l => ?_
  rw [State.clearArbitrations_line, State.askBoth_line, ← hoff l]

theorem State.askBoth_kept (u : State) : u.TrafficKept u.askBoth :=
  (u.markArbitrate_kept 0 true).trans (State.markArbitrate_kept _ 1 true)

theorem State.opOf_askBoth (u : State) (it : WorkItem) : u.askBoth.opOf it = u.opOf it := by
  have hcfg : (Vector.ofFn fun l : Fin 2 => (u.askBoth.line l).cfg) = Vector.ofFn fun l => (u.line l).cfg :=
    congrArg Vector.ofFn (funext fun l => (u.askBoth_kept.lines l).cfg)
  have himage : u.askBoth.configImage = u.configImage :=
    congrArg (fun v => { u.configImage with lines := v }) hcfg
  unfold State.opOf
  rw [himage]

/-- What both busy lines are asked for at the end of a step is nothing. -/
theorem State.conclude_askBoth {a u : State} (hcalm : u.calm) (hbusy : u.linesBusy) (hrest : u.lib.rests) (hs : u.signs = a.signs) :
    State.conclude a u.askBoth = u := by
  have hfinish := State.finish_rests (s := u.askBoth) hrest (State.linesBusy_of_kept u.askBoth_kept hbusy)
  rw [State.conclude, State.handSigns_same a u.askBoth hs, hfinish, State.clearArbitrations_askBoth hcalm]

/-- The library after a fill of page p, with no arbitration asked for. -/
def State.filled (u : State) (p : Page) : State :=
  { u with lib := { u.lib with port := .idle, opTicks := 0, missQueue := u.lib.missQueue.filter fun r => r.page != p } }

theorem State.endFill_eq (u : State) (p : Page) : u.endFill p = (u.filled p).askBoth := rfl

section
variable {a u : State} {p : Page} (hcalm : u.calm) (hbusy : u.linesBusy) (hmiss : ∀ r ∈ u.lib.missQueue, r.page = p) (hs : u.signs = a.signs)
include hmiss

theorem State.filled_missQueue : (u.filled p).lib.missQueue = [] :=
  List.filter_eq_nil_iff.2 fun r hr => by simp [hmiss r hr]

include hcalm hbusy hs

theorem State.conclude_endFill_idle (hw : u.lib.workQueue = []) : State.conclude a (u.endFill p).portChoice = u.filled p := by
  have hrest : (u.filled p).lib.rests := .inr ⟨State.filled_missQueue hmiss, hw⟩
  rw [State.endFill_eq, State.portChoice_rests (s := (u.filled p).askBoth) hrest]
  exact State.conclude_askBoth (u := u.filled p) hcalm hbusy hrest hs

theorem State.conclude_endFill_work {it : WorkItem} {rest : List WorkItem} (hw : u.lib.workQueue = it :: rest) :
    State.conclude a (u.endFill p).portChoice =
      { u.filled p with lib := { (u.filled p).lib with workQueue := rest, port := u.opOf it } } := by
  have hfill : (u.filled p).askBoth.nextFill = none := State.nextFill_none (State.filled_missQueue hmiss)
  have hop : (u.filled p).askBoth.opOf it = u.opOf it := State.opOf_askBoth (u.filled p) it
  have hstart := State.portChoice_start (s := (u.filled p).askBoth) rfl hfill hw
  rw [hop] at hstart
  have hbusyPort : u.opOf it ≠ .idle := by
    unfold State.opOf
    split <;> exact PortOp.noConfusion
  rw [State.endFill_eq, hstart]
  exact State.conclude_askBoth (u := { u.filled p with lib := { (u.filled p).lib with workQueue := rest, port := u.opOf it } })
    hcalm hbusy (.inl hbusyPort) hs

end

end Sys2Proof.Machine
end

section
/-! PROOF. Every end of a fill's read on the flash port (R174 to R176). -/

namespace Sys2Proof.Machine

/-! ### The read's three ends -/

section
variable {s : State} {p : Page} {w retried : Bool} {i : Fin 8} (hport : s.lib.port = .fill p w i retried) {err : BitVec 272}
include hport

theorem State.readDone_good (hg : headGood (readSlotHead s.flash p i ^^^ err) = true) : s.readDone err =
    (State.runFill 9 (s.installStrip p w i (headData (readSlotHead s.flash p i ^^^ err)))).portChoice := by
  unfold State.readDone
  rw [hport]
  exact if_pos hg

theorem State.readDone_again (hg : ¬headGood (readSlotHead s.flash p i ^^^ err) = true) (hr : retried = false) :
    s.readDone err = { s with lib := { s.lib with port := .fill p w i true } } := by
  unfold State.readDone
  rw [hport, hr]
  exact (if_neg hg).trans (if_neg Bool.false_ne_true)

theorem State.readDone_fault (hg : ¬headGood (readSlotHead s.flash p i ^^^ err) = true) (hr : retried = true) :
    s.readDone err = (s.fillFault p).portChoice := by
  unfold State.readDone
  rw [hport, hr]
  exact (if_neg hg).trans (if_pos rfl)

end

theorem State.enterFaulted_exceptTraffic (s : State) (p : Page) : (s.enterFaulted p).exceptTraffic = s.exceptTraffic := by
  unfold State.enterFaulted
  split
  · rfl
  · exact State.updLib_exceptTraffic ..

theorem State.fillFault_exceptTraffic (s : State) (p : Page) : (s.fillFault p).exceptTraffic = s.exceptTraffic := by
  unfold State.fillFault State.postLib
  rw [State.endFill_exceptTraffic, State.post_exceptTraffic, State.updLib_exceptTraffic, State.enterFaulted_exceptTraffic]

theorem State.readDone_exceptTraffic (s : State) (err : BitVec 272) : (s.readDone err).exceptTraffic = s.exceptTraffic := by
  unfold State.readDone
  split
  · dsimp only
    split
    · rw [State.portChoice_exceptTraffic, State.runFill_exceptTraffic, State.installStrip_exceptTraffic]
    · split
      · rw [State.portChoice_exceptTraffic, State.fillFault_exceptTraffic]
      · rfl
  · rfl

theorem exec_flashReadDone {s : State} (h : s.settled) (err : BitVec 272) :
    exec (.flashReadDone err) s = .next (State.conclude s (s.readDone err)) :=
  congrArg Host.Outcome.next (State.command_of_nil s (fun s => s.readDone err) h.2)

theorem signs_of_exceptTraffic {s t : State} (h : t.exceptTraffic = s.exceptTraffic) : t.signs = s.signs := (congrArg State.signs h :)

theorem exceptSigns_lib_of_exceptTraffic {s t : State} (h : t.exceptTraffic = s.exceptTraffic) :
    { t.exceptSigns with lib := s.lib } = s.exceptSigns :=
  (congrArg (fun x : State => { x with signs := State.reset.signs, lib := s.lib }) h :)

/-- A change of lines, library and reports alone stays one at the end of the step. -/
theorem State.conclude_exceptTraffic {s t : State} (h : t.exceptTraffic = s.exceptTraffic) :
    (State.conclude s t).exceptTraffic = s.exceptTraffic := by
  rw [State.conclude, State.handSigns_same s t (signs_of_exceptTraffic h), State.finish_exceptTraffic, h]

/-! ### A read that ends in a fault -/

theorem State.enterFaulted_faulted (s : State) (p : Page) : p ∈ (s.enterFaulted p).lib.faulted := by
  unfold State.enterFaulted
  split
  · next h => simpa [State.isFaulted] using h
  · exact List.mem_append_right _ List.mem_cons_self

theorem State.fillFault_unasked (s : State) (p : Page) : ∀ r ∈ (s.fillFault p).lib.missQueue, r.page ≠ p := fun r hr => by
  have hne : (r.page != p) = true := List.of_mem_filter (p := fun r : FillRequest => r.page != p) hr
  simpa using hne

/-- What the port does next leaves the fault as it is. -/
theorem State.conclude_fillFault (a s : State) (p : Page) :
    (State.conclude a (s.fillFault p).portChoice).reported .library Flag.libFillFault ∧
      p ∈ (State.conclude a (s.fillFault p).portChoice).lib.faulted ∧
      (State.conclude a (s.fillFault p).portChoice).lib.lastFillFault = some p ∧
      ∀ r ∈ (State.conclude a (s.fillFault p).portChoice).lib.missQueue, r.page ≠ p := by
  have hin : p ∈ (s.fillFault p).lib.faulted := s.enterFaulted_faulted p
  have hport : Library.Keeps (· ≠ p) (s.fillFault p).lib (s.fillFault p).portChoice.lib := State.portChoice_libKeeps _
  have hopen : ∀ q ∉ (s.fillFault p).portChoice.lib.faulted, q ≠ p := hport.open fun q hq hpq => hq (hpq ▸ hin)
  have hkeep := hport.trans (State.conclude_libKeeps a hopen)
  refine ⟨?_, hkeep.faulted ▸ hin, hkeep.lastFillFault.trans rfl, fun r hr => ?_⟩
  · have hpost : (s.fillFault p).reported .library Flag.libFillFault := State.post_reported_of _ _ (by decide)
    exact (recordStable_reported _ _).toStepStable.conclude ((recordStable_reported _ _).toStepStable.portChoice hpost)
  · rcases hkeep.asked r hr with hne | ⟨q, hq, hpage⟩
    · exact hne
    · exact hpage ▸ s.fillFault_unasked p q hq

/-! ### A read that is good -/

section
variable {s : State} {p : Page} {w retried : Bool} {i : Fin 8} (h : s.settled) (hport : s.lib.port = .fill p w i retried) {err : BitVec 272}
  (hg : headGood (readSlotHead s.flash p i ^^^ err) = true)
include h hport hg

theorem exec_flashReadDone_good : exec (.flashReadDone err) s =
    .next (State.conclude s (State.runFill 9 (s.installStrip p w i (headData (readSlotHead s.flash p i ^^^ err)))).portChoice) := by
  rw [exec_flashReadDone h, State.readDone_good hport hg]

theorem exec_flashReadDone_ends
    (hn : (s.installStrip p w i (headData (readSlotHead s.flash p i ^^^ err))).nextStrip p w = none) :
    exec (.flashReadDone err) s =
      .next (State.conclude s ((s.installStrip p w i (headData (readSlotHead s.flash p i ^^^ err))).endFill p).portChoice) := by
  rw [exec_flashReadDone_good h hport hg,
    State.runFill_ends (u := s.installStrip p w i (headData (readSlotHead s.flash p i ^^^ err))) hport hn 8]

theorem exec_flashReadDone_reads {j : Fin 8}
    (hn : (s.installStrip p w i (headData (readSlotHead s.flash p i ^^^ err))).nextStrip p w = some j) (hs : s.snoop p j = none) :
    exec (.flashReadDone err) s = .next { s.installStrip p w i (headData (readSlotHead s.flash p i ^^^ err)) with
      lib := { (s.installStrip p w i (headData (readSlotHead s.flash p i ^^^ err))).lib with port := .fill p w j false } } := by
  rw [exec_flashReadDone_good h hport hg,
    State.runFill_reads (u := s.installStrip p w i (headData (readSlotHead s.flash p i ^^^ err))) hport hn hs 8,
    State.portChoice_busy _ PortOp.noConfusion]
  exact congrArg Host.Outcome.next (State.conclude_of_calm _ _ rfl h.1)

section
variable {j : Fin 8} {v : StripData} (hn : (s.installStrip p w i (headData (readSlotHead s.flash p i ^^^ err))).nextStrip p w = some j)
  (hs : s.snoop p j = some v)
include hn hs

theorem exec_flashReadDone_snoops : exec (.flashReadDone err) s = .next (State.conclude s (State.runFill 8
    ((s.installStrip p w i (headData (readSlotHead s.flash p i ^^^ err))).installStrip p w j v)).portChoice) := by
  rw [exec_flashReadDone_good h hport hg,
    State.runFill_snoops (u := s.installStrip p w i (headData (readSlotHead s.flash p i ^^^ err))) hport hn hs 8]

theorem exec_flashReadDone_snoops_reads {k : Fin 8}
    (hk : ((s.installStrip p w i (headData (readSlotHead s.flash p i ^^^ err))).installStrip p w j v).nextStrip p w = some k)
    (hks : s.snoop p k = none) : exec (.flashReadDone err) s = .next
      { (s.installStrip p w i (headData (readSlotHead s.flash p i ^^^ err))).installStrip p w j v with
        lib := { ((s.installStrip p w i (headData (readSlotHead s.flash p i ^^^ err))).installStrip p w j v).lib with
          port := .fill p w k false } } := by
  rw [exec_flashReadDone_snoops h hport hg hn hs,
    State.runFill_reads (u := (s.installStrip p w i (headData (readSlotHead s.flash p i ^^^ err))).installStrip p w j v) hport hk hks 7,
    State.portChoice_busy _ PortOp.noConfusion]
  exact congrArg Host.Outcome.next (State.conclude_of_calm _ _ rfl h.1)

theorem exec_flashReadDone_snoops_ends
    (hk : ((s.installStrip p w i (headData (readSlotHead s.flash p i ^^^ err))).installStrip p w j v).nextStrip p w = none) :
    exec (.flashReadDone err) s = .next (State.conclude s
      (((s.installStrip p w i (headData (readSlotHead s.flash p i ^^^ err))).installStrip p w j v).endFill p).portChoice) := by
  rw [exec_flashReadDone_snoops h hport hg hn hs,
    State.runFill_ends (u := (s.installStrip p w i (headData (readSlotHead s.flash p i ^^^ err))).installStrip p w j v) hport hk 7]

end

end

/-- What the end of a fill leaves in the miss queue while both lines are busy. -/
theorem State.conclude_endFill_unasked {a u : State} {p : Page} (hs : u.signs = a.signs) (hb : u.linesBusy) :
    ∀ r ∈ (State.conclude a (u.endFill p).portChoice).lib.missQueue, r.page ≠ p := fun r hr => by
  have hsigns : (u.endFill p).portChoice.signs = a.signs :=
    (signs_of_exceptTraffic ((State.portChoice_exceptTraffic _).trans (u.endFill_exceptTraffic p))).trans hs
  rw [State.conclude, State.handSigns_same _ _ hsigns] at hr
  have hbusy : (u.endFill p).portChoice.linesBusy :=
    State.linesBusy_of_kept ((u.filled p).askBoth_kept.trans (State.portChoice_kept _)) (s := u.filled p) hb
  have hkeep : Library.Keeps (fun _ => False) (u.endFill p).lib (u.endFill p).portChoice.finish.lib :=
    (State.portChoice_libKeeps _).trans (State.finish_libKeeps_busy hbusy)
  obtain ⟨q, hq, hpage⟩ := (hkeep.asked r hr).resolve_left id
  have hne : (q.page != p) = true := List.of_mem_filter (p := fun r : FillRequest => r.page != p) hq
  rw [← hpage]
  simpa using hne

/-- Settles O54, by the read's outcome and the strips that are still to be read. -/
theorem fillReadEnds : Obligations.FillReadEnds := by
  unfold Obligations.FillReadEnds
  intro err p w i retried s h hport
  dsimp only
  have hgood := headGood_iff (readSlotHead s.flash p i ^^^ err)
  have hframe : (State.conclude s (s.readDone err)).exceptTraffic = s.exceptTraffic :=
    State.conclude_exceptTraffic (s.readDone_exceptTraffic err)
  refine ⟨fun hbad hr => ?_, fun hbad hr => ?_, fun hg j hn => ⟨fun hs => ?_, fun v hs => ⟨fun k hk hks => ?_,
    fun it rest hk hbusy hmiss hw => ?_⟩⟩, fun hg hn hbusy hmiss => ⟨fun hw => ?_, fun it rest hw => ?_⟩,
    fun hg => ⟨_, exec_flashReadDone h err, signs_of_exceptTraffic hframe, fun hn hbusy => ?_, exceptSigns_lib_of_exceptTraffic hframe⟩⟩
  · rw [exec_flashReadDone h, State.readDone_again hport (fun hg => hbad (hgood.1 hg)) hr]
    exact congrArg Host.Outcome.next (State.conclude_of_calm _ _ rfl h.1)
  · refine ⟨_, exec_flashReadDone h err, ?_⟩
    have hfault := State.readDone_fault hport (fun hg => hbad (hgood.1 hg)) hr
    obtain ⟨hreport, hin, hlast, hasked⟩ := s.conclude_fillFault s p
    rw [← hfault] at hreport hin hlast hasked
    exact ⟨hreport, hin, hlast, hasked, signs_of_exceptTraffic hframe, exceptSigns_lib_of_exceptTraffic hframe⟩
  · exact exec_flashReadDone_reads h hport (hgood.2 hg) hn hs
  · exact exec_flashReadDone_snoops_reads h hport (hgood.2 hg) hn hs hk hks
  · rw [exec_flashReadDone_snoops_ends h hport (hgood.2 hg) hn hs hk]
    exact congrArg Host.Outcome.next (State.conclude_endFill_work
      (u := (s.installStrip p w i (headData (readSlotHead s.flash p i ^^^ err))).installStrip p w j v) h.1 hbusy hmiss rfl hw)
  · rw [exec_flashReadDone_ends h hport (hgood.2 hg) hn]
    exact congrArg Host.Outcome.next (State.conclude_endFill_idle
      (u := s.installStrip p w i (headData (readSlotHead s.flash p i ^^^ err))) h.1 hbusy hmiss rfl hw)
  · rw [exec_flashReadDone_ends h hport (hgood.2 hg) hn]
    exact congrArg Host.Outcome.next (State.conclude_endFill_work
      (u := s.installStrip p w i (headData (readSlotHead s.flash p i ^^^ err))) h.1 hbusy hmiss rfl hw)
  · rw [State.readDone_good hport (hgood.2 hg),
      State.runFill_ends (u := s.installStrip p w i (headData (readSlotHead s.flash p i ^^^ err))) hport hn 8]
    exact State.conclude_endFill_unasked (u := s.installStrip p w i (headData (readSlotHead s.flash p i ^^^ err))) rfl hbusy

end Sys2Proof.Machine
end

section
/-! PROOF. The page cache and the fills that an idle port starts (R142, R172 to R175). -/

namespace Sys2Proof.Machine

/-! ### Strips of a mask -/

theorem find_finRange {n : Nat} {q : Fin n → Bool} {j : Fin n} :
    (List.finRange n).find? q = some j ↔ q j = true ∧ ∀ i < j, q i = false := by
  rw [List.find?_eq_some_iff_getElem]
  constructor
  · rintro ⟨hj, k, hk, hkj, hlt⟩
    rw [List.getElem_finRange] at hkj
    refine ⟨hj, fun i hi => ?_⟩
    have hik : i.val < k := by
      rw [← hkj] at hi
      exact hi
    have hno := hlt i.val hik
    rw [List.getElem_finRange] at hno
    simpa using hno
  · rintro ⟨hj, hlt⟩
    refine ⟨hj, j.val, by simp, by simp, fun k hk => ?_⟩
    rw [List.getElem_finRange]
    have hno := hlt ⟨k, hk.trans j.isLt⟩ hk
    simpa using hno

/-- The first strip of a mask that a condition takes. -/
theorem find_bitsOf {n : Nat} {m : BitVec n} {q : Fin n → Bool} {j : Fin n} : (bitsOf m).find? q = some j ↔
    (m.getLsbD j.val = true ∧ q j = true) ∧ ∀ i < j, ¬(m.getLsbD i.val = true ∧ q i = true) := by
  unfold bitsOf
  rw [List.find?_filter, find_finRange]
  simp

theorem ofNat_maskNat (f : Fin 8 → Bool) (i : Fin 8) : (BitVec.ofNat 8 (maskNat 8 f)).getLsbD i.val = f i := by
  have key (a b c d e g h k : Bool) (i : Fin 8) :
      (BitVec.ofNat 8 (maskNat 8 fun j => #v[a, b, c, d, e, g, h, k][j])).getLsbD i.val = #v[a, b, c, d, e, g, h, k][i] := by
    revert a b c d e g h k i
    decide +kernel
  have hf : (fun j : Fin 8 => #v[f 0, f 1, f 2, f 3, f 4, f 5, f 6, f 7][j]) = f := funext fun j => by fin_cases j <;> rfl
  have hkey := key (f 0) (f 1) (f 2) (f 3) (f 4) (f 5) (f 6) (f 7) i
  rw [hf] at hkey
  exact hkey.trans (congrFun hf i)

theorem CacheLine.validMask_getLsbD (c : CacheLine) (i : Fin 8) : c.validMask.getLsbD i.val = c.strips[i].valid := ofNat_maskNat _ i

/-! ### Ways of a set -/

theorem CacheSet.way_setWay (c : CacheSet) (w : Bool) (l : CacheLine) : (c.setWay w l).way w = l := by
  cases w <;> rfl

theorem CacheSet.way_setWay_other (c : CacheSet) (w : Bool) (l : CacheLine) : (c.setWay w l).way (!w) = c.way (!w) := by
  cases w <;> rfl

theorem CacheSet.setWay_way (c : CacheSet) (w : Bool) : c.setWay w (c.way w) = c := by
  cases w <;> rfl

theorem State.updWay_cache_same (s : State) (p : Page) (w : Bool) (f : CacheLine → CacheLine) :
    (s.updWay p w f).cacheSet p = (s.cacheSet p).setWay w (f ((s.cacheSet p).way w)) := Vector.getElem_set_self _

theorem State.updWay_cache_other (s : State) {p : Page} (w : Bool) (f : CacheLine → CacheLine) {k : Fin 32} (h : k ≠ setOfPage p) :
    (s.updWay p w f).lib.cache[k] = s.lib.cache[k] := Vector.getElem_set_ne (setOfPage p).isLt k.isLt (Fin.val_ne_of_ne h.symm)

/-! ### The way a fill takes (R175) -/

theorem CacheLine.holds_eq (c : CacheLine) (p : Page) : c.holds p = (c.valid && c.tag == p.toNat / 32) := rfl

theorem State.wayInUse_eq (s : State) (p : Page) (w : Bool) : s.wayInUse p w = s.setWayInUse (setOfPage p) w := rfl

theorem State.cachedWay_library (s : State) {p : Page} (h : 8 ≤ p.toNat) : s.cachedWay p =
    if (s.cacheSet p).way0.holds p then some false else if (s.cacheSet p).way1.holds p then some true else none := by
  unfold State.cachedWay
  rw [if_neg (by simpa [isLibraryPage] using h)]

theorem State.cachedWay_out (s : State) {p : Page} (h : p.toNat < 8) : s.cachedWay p = none :=
  if_pos (by simpa [isLibraryPage] using h)

theorem State.fillWay_library (s : State) {p : Page} (h : 8 ≤ p.toNat) : s.fillWay p =
    if s.wayInUse p false && s.wayInUse p true then none
    else if (s.cacheSet p).way0.holds p then some false
    else if (s.cacheSet p).way1.holds p then some true
    else if !(s.cacheSet p).way0.valid && !s.wayInUse p false then some false
    else if !(s.cacheSet p).way1.valid && !s.wayInUse p true then some true
    else if !s.wayInUse p (s.cacheSet p).lru1 then some (s.cacheSet p).lru1
    else some (!(s.cacheSet p).lru1) := by
  unfold State.fillWay
  rw [State.cachedWay_library s h]
  by_cases hboth : (s.wayInUse p false && s.wayInUse p true) = true
  · rw [if_pos hboth, if_pos hboth]
  · rw [if_neg hboth, if_neg hboth]
    by_cases h0 : (s.cacheSet p).way0.holds p = true
    · rw [if_pos h0, if_pos h0]
    · rw [if_neg h0, if_neg h0]
      by_cases h1 : (s.cacheSet p).way1.holds p = true
      · rw [if_pos h1, if_pos h1]
      · rw [if_neg h1, if_neg h1]
        dsimp only
        have hfree : (!s.wayInUse p (s.cacheSet p).lru1) = false → (!s.wayInUse p !(s.cacheSet p).lru1) = true := by
          cases (s.cacheSet p).lru1 <;> cases h0 : s.wayInUse p false <;> cases h1 : s.wayInUse p true <;> simp_all
        split
        · rfl
        · split
          · rfl
          · split
            · rfl
            · next hlru => rw [if_pos (hfree (by simpa using hlru))]

/-! ### A fill that starts (R174, R175) -/

/-- The way that a fill of a page starts with: the line that holds the page, or an empty one for it. -/
def CacheLine.taken (c : CacheLine) (p : Page) : CacheLine :=
  if c.holds p then c else { CacheLine.empty with valid := true, tag := tagOfPage p }

theorem CacheLine.taken_of_holds {c : CacheLine} {p : Page} (h : c.holds p = true) : c.taken p = c := if_pos h

theorem CacheLine.taken_holds (c : CacheLine) (p : Page) : (c.taken p).holds p = true := by
  unfold CacheLine.taken
  split
  · assumption
  · simp [CacheLine.holds]

theorem CacheLine.taken_empty {c : CacheLine} {p : Page} (h : c.holds p = false) (i : Fin 8) : (c.taken p).strips[i].valid = false := by
  unfold CacheLine.taken
  rw [h]
  fin_cases i <;> rfl

theorem State.startFill_eq (s : State) (p : Page) (w : Bool) : s.startFill p w =
    { s with lib := { s.lib with
        cache := s.lib.cache.set (setOfPage p) { (s.cacheSet p).setWay w (((s.cacheSet p).way w).taken p) with lru1 := !w },
        missQueue := serveRequest p s.lib.missQueue, port := .fill p w 0 false, opTicks := 0 } } := by
  unfold State.startFill CacheLine.taken
  split
  · rw [CacheSet.setWay_way]
    rfl
  · have hset (v : Vector CacheSet 32) (x y : CacheSet) (f : CacheSet → CacheSet) :
        (v.set (setOfPage p) x).set (setOfPage p) (f (v.set (setOfPage p) x)[setOfPage p]) = v.set (setOfPage p) (f x) := by
      rw [Vector.set_set]
      congr 1
      exact congrArg f (Vector.getElem_set_self _)
    exact congrArg (fun v => ({ s with lib := { s.lib with
        cache := v, missQueue := serveRequest p s.lib.missQueue, port := .fill p w 0 false, opTicks := 0 } } : State))
      (hset s.lib.cache _ ((s.cacheSet p).setWay w { CacheLine.empty with valid := true, tag := tagOfPage p }) fun c => { c with lru1 := !w })

/-- The oldest entry whose fill can start, with the entries before it that cannot. -/
theorem State.nextFill_of {s : State} {before after : List FillRequest} {r : FillRequest} {w : Bool} (hq : s.lib.missQueue = before ++ r :: after)
    (hb : ∀ x ∈ before, s.fillWay x.page = none) (hr : s.fillWay r.page = some w) : s.nextFill = some (r.page, w) := by
  have hnone : before.findSome? (fun r => (s.fillWay r.page).map fun w => (r.page, w)) = none :=
    List.findSome?_eq_none_iff.2 fun x hx => by rw [hb x hx]; rfl
  unfold State.nextFill
  rw [hq, List.findSome?_append, hnone, List.findSome?_cons, hr] <;> rfl

theorem State.nextFill_none_iff {s : State} : s.nextFill = none ↔ ∀ r ∈ s.lib.missQueue, s.fillWay r.page = none := by
  unfold State.nextFill
  rw [List.findSome?_eq_none_iff]
  exact forall₂_congr fun r _ => Option.map_eq_none_iff

section
variable {before after : List FillRequest} {r : FillRequest} (hne : ∀ x ∈ before ++ after, x.page ≠ r.page)
include hne

theorem serveRequest_entry : serveRequest r.page (before ++ r :: after) = before ++ { r with inService := true } :: after := by
  have hsame (l : List FillRequest) (hl : ∀ x ∈ l, x.page ≠ r.page) : serveRequest r.page l = l := by
    refine (List.map_congr_left fun x hx => if_neg (hl x hx)).trans (List.map_id _)
  have hone : serveRequest r.page (r :: after) = { r with inService := true } :: serveRequest r.page after :=
    congrArg (· :: serveRequest r.page after) (if_pos rfl)
  have happend : serveRequest r.page (before ++ r :: after) = serveRequest r.page before ++ serveRequest r.page (r :: after) := List.map_append
  rw [happend, hone, hsame before fun x hx => hne x (List.mem_append_left _ hx), hsame after fun x hx => hne x (List.mem_append_right _ hx)]

theorem State.requested_entry {s : State} {b : Bool} (hq : s.lib.missQueue = before ++ { r with inService := b } :: after) :
    s.requested r.page = r.strips := by
  have hnone : before.find? (fun x => x.page == r.page) = none :=
    List.find?_eq_none.2 fun x hx => by simpa using hne x (List.mem_append_left _ hx)
  have hfind : s.lib.missQueue.find? (fun x => x.page == r.page) = some { r with inService := b } := by
    rw [hq, List.find?_append, hnone]
    simp
  unfold State.requested
  rw [hfind]

end

/-- The port takes the oldest fill that can start, and reads its lowest strip that is not VALID. -/
theorem State.portChoice_fill {s : State} {p : Page} {w : Bool} {j : Fin 8} (hi : s.lib.port = .idle) (hf : s.nextFill = some (p, w))
    (hn : (s.startFill p w).nextStrip p w = some j) (hs : (s.startFill p w).snoop p j = none) :
    s.portChoice = { s.startFill p w with lib := { (s.startFill p w).lib with port := .fill p w j false } } := by
  unfold State.portChoice State.arbitratePort
  rw [if_neg (not_not.2 hi), hf]
  dsimp only
  have hport : (s.startFill p w).lib.port = .fill p w 0 false := rfl
  rw [State.runFill_reads (u := s.startFill p w) hport hn hs 8]
  exact if_pos fun h : PortOp.fill p w j false = .idle => PortOp.noConfusion h

theorem State.snoop_none {s : State} {p : Page} (h : ∀ it ∈ s.lib.workQueue, ∀ (q : Page) (i : Fin 8) (d : StripData),
    it.kind = .program q i d → q ≠ p) (j : Fin 8) : s.snoop p j = none := by
  unfold State.snoop
  rw [List.findSome?_eq_none_iff]
  intro it hit
  split
  · next q i d hk => exact if_neg fun hq => h it (List.mem_reverse.1 hit) q i d hk hq.1
  · rfl

end Sys2Proof.Machine
end

section
/-! PROOF. Fills that an idle port starts, and the strip of bad parity that a frame build meets (R142, R172 to R175). -/

namespace Sys2Proof.Machine

/-! ### What a fill that starts finds in its way -/

theorem CacheSet.way_eq (c : CacheSet) (w : Bool) : c.way w = if w then c.way1 else c.way0 := rfl

theorem State.startFill_cacheSet (s : State) (p : Page) (w : Bool) : (s.startFill p w).cacheSet p =
    { (s.cacheSet p).setWay w (((s.cacheSet p).way w).taken p) with lru1 := !w } := by
  rw [State.startFill_eq]
  exact Vector.getElem_set_self _

theorem State.startFill_way (s : State) (p : Page) (w : Bool) :
    ((s.startFill p w).cacheSet p).way w = ((s.cacheSet p).way w).taken p := by
  rw [State.startFill_cacheSet]
  exact CacheSet.way_setWay _ _ _

theorem State.startFill_way_other (s : State) (p : Page) (w : Bool) :
    ((s.startFill p w).cacheSet p).way (!w) = (s.cacheSet p).way (!w) := by
  rw [State.startFill_cacheSet]
  exact CacheSet.way_setWay_other _ _ _

/-- A strip is missing in the way of a fill that starts where it is not VALID, or the way holds another page. -/
theorem CacheLine.taken_missing (c : CacheLine) (p : Page) (i : Fin 8) :
    (!(c.taken p).strips[i].valid) = true ↔ (c.holds p = true → c.strips[i].valid = false) := by
  cases hc : c.holds p
  · have hempty := CacheLine.taken_empty hc i
    simpa using hempty
  · rw [CacheLine.taken_of_holds hc]
    simp

theorem State.startFill_nextStrip {s : State} {w : Bool} {before after : List FillRequest} {r : FillRequest} {j : Fin 8}
    (hq : s.lib.missQueue = before ++ r :: after) (hne : ∀ x ∈ before ++ after, x.page ≠ r.page)
    (hj : r.strips.getLsbD j.val = true ∧
      (((s.cacheSet r.page).way w).holds r.page = true → ((s.cacheSet r.page).way w).strips[j].valid = false))
    (hlow : ∀ i < j, ¬(r.strips.getLsbD i.val = true ∧
      (((s.cacheSet r.page).way w).holds r.page = true → ((s.cacheSet r.page).way w).strips[i].valid = false))) :
    (s.startFill r.page w).nextStrip r.page w = some j := by
  have hqueue : (s.startFill r.page w).lib.missQueue = before ++ { r with inService := true } :: after := by
    rw [State.startFill_eq, ← serveRequest_entry hne, ← hq]
  have hstrip (i : Fin 8) : (!((s.startFill r.page w).strip r.page w i).valid) = true ↔
      (((s.cacheSet r.page).way w).holds r.page = true → ((s.cacheSet r.page).way w).strips[i].valid = false) := by
    unfold State.strip
    rw [State.startFill_way]
    exact CacheLine.taken_missing _ _ i
  unfold State.nextStrip
  rw [State.requested_entry hne hqueue, find_bitsOf]
  exact ⟨⟨hj.1, (hstrip j).2 hj.2⟩, fun i hi hm => hlow i hi ⟨hm.1, (hstrip i).1 hm.2⟩⟩

/-! ### A line with one candidate (R141) -/

theorem filterMap_one {α β : Type} {f : α → Option β} {l : List α} {n : α} {c : β} (hd : l.Nodup) (hn : n ∈ l) (hc : f n = some c)
    (ho : ∀ m ∈ l, m ≠ n → f m = none) : l.filterMap f = [c] := by
  obtain ⟨a, b, rfl⟩ := List.append_of_mem hn
  obtain ⟨-, hb, hdis⟩ := List.nodup_append.1 hd
  have hempty (x : List α) (hx : ∀ m ∈ x, m ∈ a ++ n :: b ∧ m ≠ n) : x.filterMap f = [] :=
    List.filterMap_eq_nil_iff.2 fun m hm => ho m (hx m hm).1 (hx m hm).2
  rw [List.filterMap_append, List.filterMap_cons, hc,
    hempty a fun m hm => ⟨List.mem_append_left _ hm, hdis m hm n List.mem_cons_self⟩,
    hempty b fun m hm => ⟨List.mem_append_right _ (List.mem_cons_of_mem _ hm), fun h => (List.nodup_cons.1 hb).1 (h ▸ hm)⟩] <;> rfl

theorem State.ranking_one {s : State} {l : Fin 2} {n : Fin 16} {c : Candidate} (hn : n.val / 8 = l.val) (hc : s.candidate n = some c)
    (ho : ∀ m : Fin 16, m.val / 8 = l.val → m ≠ n → s.candidate m = none) : s.ranking l = [c] := by
  unfold State.ranking
  rw [filterMap_one (signsOf_nodup l) ((mem_signsOf l n).2 hn) hc fun m hm => ho m ((mem_signsOf l m).1 hm)]
  rfl

/-! ### Parity (R142, R172) -/

theorem State.cachedWay_some {s : State} {p : Page} {w : Bool} (h : s.cachedWay p = some w) :
    8 ≤ p.toNat ∧ ((s.cacheSet p).way w).holds p = true := by
  have h8 : 8 ≤ p.toNat := by
    by_contra hlt
    rw [State.cachedWay_out s (by omega)] at h
    cases h
  rw [State.cachedWay_library s h8] at h
  split at h
  · next h0 =>
    cases h
    exact ⟨h8, h0⟩
  · split at h
    · next h1 =>
      cases h
      exact ⟨h8, h1⟩
    · cases h

theorem Strip.parityBad_iff (x : Strip) : x.parityBad = true ↔ parityOf x.data ≠ x.parity := bne_iff_ne

/-- The first strip of a cached page whose parity does not check. -/
theorem State.badStrip_cached {s : State} {c : Candidate} {p : Page} {w : Bool} (hp : c.page = some p) (hw : s.cachedWay p = some w) :
    s.badStrip c = ((bitsOf c.strips).find? fun i => (s.strip p w i).parityBad).map fun i => (p, w, i) := by
  unfold State.badStrip
  rw [hp]
  dsimp only
  rw [hw]

theorem State.dropStrip_strip (s : State) (p : Page) (w : Bool) (i j : Fin 8) : (s.dropStrip p w i).strip p w j =
    if j = i then { s.strip p w i with valid := false } else s.strip p w j := by
  unfold State.strip State.dropStrip
  rw [State.updWay_cache_same, CacheSet.way_setWay]
  split
  · next h =>
    subst h
    exact Vector.getElem_set_self _
  · next h => exact Vector.getElem_set_ne i.isLt j.isLt (Fin.val_ne_of_ne (Ne.symm h))

/-- A change of strips alone leaves every page in its way. -/
theorem State.updWay_cachedWay (s : State) (p : Page) (w : Bool) (f : CacheLine → CacheLine)
    (hf : ∀ c, (f c).valid = c.valid ∧ (f c).tag = c.tag) : (s.updWay p w f).cachedWay p = s.cachedWay p := by
  have hholds (c : CacheLine) : (f c).holds p = c.holds p := by
    unfold CacheLine.holds
    rw [(hf c).1, (hf c).2]
  unfold State.cachedWay
  rw [State.updWay_cache_same]
  cases w <;> simp only [CacheSet.setWay, CacheSet.way, Bool.false_eq_true, if_false, if_true, hholds]

theorem State.validStrips_cached {s : State} {p : Page} {w : Bool} (hw : s.cachedWay p = some w) (i : Fin 8) :
    (s.validStrips p).getLsbD i.val = (s.strip p w i).valid := by
  unfold State.validStrips State.strip
  rw [hw]
  exact CacheLine.validMask_getLsbD _ i

theorem State.requestFill_new {s : State} {p : Page} {m : BitVec 8} (hm : m ≠ 0) (h : ∀ r ∈ s.lib.missQueue, r.page ≠ p) :
    (s.requestFill p m).lib.missQueue = if s.lib.missQueue.length < 4 then s.lib.missQueue ++ [{ page := p, strips := m, inService := false }]
      else s.lib.missQueue := by
  have hany : ¬s.lib.missQueue.any (·.page == p) = true := by
    simpa using h
  unfold State.requestFill
  rw [if_neg hm, if_neg hany]
  split <;> rfl

/-- What a parity error leaves of the state beside the strip, the count of errors and the report. -/
theorem State.parityError_cachedWay (s : State) (p : Page) (w : Bool) (i : Fin 8) : (s.parityError p w i).cachedWay p = s.cachedWay p :=
  s.updWay_cachedWay p w (fun l => { l with strips := l.strips.set i { l.strips[i] with valid := false } }) fun _ => ⟨rfl, rfl⟩

theorem State.parityError_strip (s : State) (p : Page) (w : Bool) (i j : Fin 8) : (s.parityError p w i).strip p w j =
    if j = i then { s.strip p w i with valid := false } else s.strip p w j := s.dropStrip_strip p w i j

/-- The one strip that a candidate whose strips were all VALID misses once its strip i has failed its check. -/
theorem State.parityError_missing {s : State} {p : Page} {w : Bool} {i : Fin 8} {m : BitVec 8} (hw : s.cachedWay p = some w)
    (hvalid : s.validStrips p &&& m = m) (hi : m.getLsbD i.val = true) :
    m &&& ~~~((s.parityError p w i).validStrips p) = BitVec.ofNat 8 (2 ^ i.val) := by
  have hway : (s.parityError p w i).cachedWay p = some w := (s.parityError_cachedWay p w i).trans hw
  refine BitVec.eq_of_getLsbD_eq fun k hk => ?_
  have hbit := State.validStrips_cached hway ⟨k, hk⟩
  have hold := State.validStrips_cached hw ⟨k, hk⟩
  have hcover : ((s.validStrips p).getLsbD k && m.getLsbD k) = m.getLsbD k := by
    rw [← BitVec.getLsbD_and, hvalid]
  have hpow : (BitVec.ofNat 8 (2 ^ i.val)).getLsbD k = decide (k = i.val) := by
    rw [BitVec.getLsbD_ofNat, Nat.testBit_two_pow]
    simp [hk, eq_comm]
  rw [hpow, BitVec.getLsbD_and, BitVec.getLsbD_not, hbit, State.parityError_strip]
  by_cases hki : k = i.val
  · have hfin : (⟨k, hk⟩ : Fin 8) = i := Fin.ext hki
    rw [if_pos hfin]
    subst hki
    simp [hi]
  · rw [if_neg (fun h => hki (congrArg Fin.val h)), ← hold]
    dsimp only
    rw [decide_eq_false hki, decide_eq_true hk]
    revert hcover
    cases (s.validStrips p).getLsbD k <;> cases m.getLsbD k <;> decide

section
variable {s : State} {l : Fin 2} {n : Fin 16} {c : Candidate} {p : Page} {w : Bool} {i : Fin 8}

/-- The frame build of a line's one candidate meets a strip of bad parity. -/
theorem State.arbitrate_parity (hfree : (s.line l).inFlight = none) (hheld : (s.line l).state ≠ .held) (hn : n.val / 8 = l.val)
    (hc : s.candidate n = some c) (ho : ∀ m : Fin 16, m.val / 8 = l.val → m ≠ n → s.candidate m = none) (hp : c.page = some p)
    (hw : s.cachedWay p = some w) (hfault : p ∉ s.lib.faulted) (hvalid : s.validStrips p &&& c.strips = c.strips)
    (hi : c.strips.getLsbD i.val = true) (hbad : parityOf (s.strip p w i).data ≠ (s.strip p w i).parity)
    (hlow : ∀ j < i, c.strips.getLsbD j.val = true → parityOf (s.strip p w j).data = (s.strip p w j).parity) :
    s.arbitrate l = (s.parityError p w i).requestFill p (BitVec.ofNat 8 (2 ^ i.val)) := by
  have hranking : s.ranking l = [c] := State.ranking_one hn hc ho
  have harb : s.arbitrate l = State.takeCandidates [c] s := by
    rw [← hranking]
    exact if_neg (not_or_intro (by rw [hfree]; decide) hheld)
  have hready : s.ready c = true := by
    unfold State.ready State.pageReady State.isFaulted
    rw [hp]
    simp [hvalid, hfault]
  have hfind : (bitsOf c.strips).find? (fun i => (s.strip p w i).parityBad) = some i :=
    find_bitsOf.2 ⟨⟨hi, (Strip.parityBad_iff _).2 hbad⟩, fun j hj hm => (Strip.parityBad_iff _).1 hm.2 (hlow j hj hm.1)⟩
  have hstrip : s.badStrip c = some (p, w, i) := by
    rw [State.badStrip_cached hp hw, hfind]
    rfl
  have hsound : (s.parityError p w i).isFaulted p = false := by
    have hs : s.isFaulted p = false := by simpa [State.isFaulted] using hfault
    exact hs
  have hpass : (s.parityError p w i).passOver c = (s.parityError p w i).requestFill p (BitVec.ofNat 8 (2 ^ i.val)) := by
    unfold State.passOver
    rw [hp]
    dsimp only
    rw [hsound, State.parityError_missing hw hvalid hi] <;> rfl
  rw [harb, State.takeCandidates, if_pos hready, hstrip]
  exact hpass

end

theorem State.requestFill_eq (s : State) (p : Page) (m : BitVec 8) :
    ∃ q : List FillRequest, s.requestFill p m = { s with lib := { s.lib with missQueue := q } } := by
  unfold State.requestFill
  split
  · exact ⟨s.lib.missQueue, rfl⟩
  · split
    · exact ⟨_, rfl⟩
    · split
      · exact ⟨_, rfl⟩
      · exact ⟨s.lib.missQueue, rfl⟩

theorem State.parityError_exceptReports (s : State) (p : Page) (w : Bool) (i : Fin 8) :
    { (s.parityError p w i).exceptReports with lib := s.lib } = s.exceptReports := rfl

/-- Settles O53, by the way found, the entries of the queue and the first strip of bad parity. -/
theorem cacheFillsAndParity : Obligations.CacheFillsAndParity := by
  unfold Obligations.CacheFillsAndParity
  intro s
  dsimp only
  refine ⟨fun p h8 => ?_, State.portChoice_busy s, fun hidle hnone => ?_, fun before after r w j hidle hq hne h8 hb hr => ?_,
    fun l n c p w i hfree hheld hn hc ho hp hw hfault hvalid hi hbad hlow => ?_⟩
  · rw [State.fillWay_library s h8]
    simp only [State.wayInUse_eq, State.setWayInUse_eq]
    rfl
  · have hf := State.nextFill_none_iff.2 hnone
    exact ⟨fun hw => by rw [State.portChoice_work hidle hf, hw], fun it rest hw => State.portChoice_start hidle hf hw⟩
  · have hnext := State.nextFill_of hq hb hr
    intro hmissing hfirst hsnoop
    have hready := State.startFill_nextStrip (w := w) hq hne hmissing hfirst
    have hchoice := State.portChoice_fill hidle hnext hready (State.snoop_none (s := s.startFill r.page w) (by
      rw [State.startFill_eq]
      exact hsnoop) j)
    have hqueue : s.portChoice.lib.missQueue = before ++ { r with inService := true } :: after := by
      rw [hchoice, ← serveRequest_entry hne, ← hq, State.startFill_eq]
    have hset : s.portChoice.cacheSet r.page = (s.startFill r.page w).cacheSet r.page := by rw [hchoice]; rfl
    have hway : (s.portChoice.cacheSet r.page).way w = ((s.cacheSet r.page).way w).taken r.page :=
      (congrArg (CacheSet.way · w) hset).trans (s.startFill_way r.page w)
    have hother : (s.portChoice.cacheSet r.page).way (!w) = (s.cacheSet r.page).way (!w) :=
      (congrArg (CacheSet.way · (!w)) hset).trans (s.startFill_way_other r.page w)
    have hflip (x : CacheSet) : (if w then x.way0 else x.way1) = x.way (!w) := by cases w <;> rfl
    refine ⟨by rw [hchoice], by rw [hchoice, State.startFill_eq], hqueue, ?_, fun hold => hway.trans (CacheLine.taken_of_holds hold),
      fun hold i => ?_, ?_, ?_, fun k hk => ?_, ?_, ?_⟩
    · exact (congrArg (CacheLine.holds · r.page) hway).trans (CacheLine.taken_holds _ _)
    · exact (congrArg (fun c : CacheLine => c.strips[i].valid) hway).trans (CacheLine.taken_empty hold i)
    · exact congrArg CacheSet.lru1 (hset.trans (s.startFill_cacheSet r.page w))
    · rw [hflip, hflip]
      exact hother
    · rw [hchoice, State.startFill_eq]
      exact Vector.getElem_set_ne (setOfPage r.page).isLt k.isLt (Fin.val_ne_of_ne (Ne.symm hk))
    · rw [hchoice, State.startFill_eq, ← hidle]
    · rw [hchoice, State.startFill_eq]
  · have hbuild := State.arbitrate_parity hfree hheld hn hc ho hp hw hfault hvalid hi hbad hlow
    have hpow : BitVec.ofNat 8 (2 ^ i.val) ≠ 0 := by
      fin_cases i <;> decide
    obtain ⟨q, hask⟩ := (s.parityError p w i).requestFill_eq p (BitVec.ofNat 8 (2 ^ i.val))
    have hreport : (s.parityError p w i).reported .library Flag.libCacheParity := State.post_reported_of _ _ (by decide)
    refine ⟨?_, ?_, fun j hj => ?_, ?_, ?_, fun hnew => ?_, ?_⟩
    · rw [hbuild, hask]
      rfl
    · rw [hbuild, hask]
      exact (s.parityError_strip p w i i).trans (if_pos rfl)
    · rw [hbuild, hask]
      exact (s.parityError_strip p w i j).trans (if_neg hj)
    · rw [hbuild, hask]
      rfl
    · rw [hbuild, hask]
      exact hreport
    · rw [hbuild]
      exact State.requestFill_new (s := s.parityError p w i) hpow hnew
    · rw [hbuild, hask]
      exact s.parityError_exceptReports p w i

end Sys2Proof.Machine
end

section
/-! SUPPORT. The arbiter's order and the candidates of a line in that order (R140, R141). -/

namespace Sys2Proof.Machine

/-! ### The order of candidates -/

/-- One candidate stands ahead of another: by class, then by the age of its need, then by address. -/
def Candidate.Ahead (now : Tick) (a b : Candidate) : Prop :=
  b.cls.code < a.cls.code ∨ (a.cls = b.cls ∧
    ((now - b.since).toNat < (now - a.since).toNat ∨ ((now - a.since).toNat = (now - b.since).toNat ∧ a.sign < b.sign)))

theorem ArbClass.code_inj {a b : ArbClass} : a.code = b.code ↔ a = b := by
  cases a <;> cases b <;> decide

/-- The order as one of numbers alone. -/
theorem Candidate.ahead_iff {now : Tick} {a b : Candidate} : a.Ahead now b ↔ b.cls.code < a.cls.code ∨ (a.cls.code = b.cls.code ∧
    ((now - b.since).toNat < (now - a.since).toNat ∨
      ((now - a.since).toNat = (now - b.since).toNat ∧ a.sign.val < b.sign.val))) := by
  unfold Candidate.Ahead
  rw [ArbClass.code_inj, Fin.lt_def]

theorem Candidate.before_iff (now : Tick) (a b : Candidate) : a.before now b = true ↔ a.Ahead now b := by
  have hage : ticksSince now b.since = ticksSince now a.since ↔ ticksSince now a.since = ticksSince now b.since := eq_comm
  unfold Candidate.before Candidate.Ahead
  rw [Bool.or_eq_true, Bool.and_eq_true, Bool.or_eq_true, Bool.and_eq_true, decide_eq_true_iff, decide_eq_true_iff, decide_eq_true_iff,
    beq_iff_eq, beq_iff_eq, hage]
  rfl

theorem Candidate.Ahead.trans {now : Tick} {a b c : Candidate} (hab : a.Ahead now b) (hbc : b.Ahead now c) : a.Ahead now c := by
  rw [Candidate.ahead_iff] at *
  omega

theorem Candidate.Ahead.irrefl {now : Tick} {a : Candidate} (h : a.Ahead now a) : False := by
  rw [Candidate.ahead_iff] at h
  omega

/-- What stands ahead of a candidate stands ahead of each that is not ahead of it. -/
theorem Candidate.Ahead.of_not {now : Tick} {a b c : Candidate} (hab : a.Ahead now b) (hcb : ¬c.Ahead now b) : a.Ahead now c := by
  rw [Candidate.ahead_iff] at *
  omega

/-- Of two candidates of different signs one stands ahead. -/
theorem Candidate.ahead_or (now : Tick) {a b : Candidate} (h : a.sign ≠ b.sign) : a.Ahead now b ∨ b.Ahead now a := by
  have hsign : a.sign.val ≠ b.sign.val := Fin.val_ne_of_ne h
  rw [Candidate.ahead_iff, Candidate.ahead_iff]
  omega

/-! ### The candidate of a sign (R140) -/

theorem firstCandidate_none {now : Tick} {cs : List Candidate} : firstCandidate now cs = none ↔ cs = [] := by
  cases cs with
  | nil => exact ⟨fun _ => rfl, fun _ => rfl⟩
  | cons c rest =>
    refine ⟨fun h => ?_, fun h => by cases h⟩
    unfold firstCandidate at h
    split at h
    · cases h
    · split at h <;> cases h

/-- No candidate of a list stands ahead of its first. -/
theorem firstCandidate_ahead {now : Tick} {cs : List Candidate} {c : Candidate} (h : firstCandidate now cs = some c) :
    ∀ d ∈ cs, ¬d.Ahead now c := by
  induction cs generalizing c with
  | nil => cases h
  | cons e rest ih =>
    intro d hd
    unfold firstCandidate at h
    split at h
    · next hn =>
      cases h
      rw [firstCandidate_none.1 hn, List.mem_singleton] at hd
      exact hd ▸ Candidate.Ahead.irrefl
    · next f hf =>
      split at h
      · next hb =>
        cases h
        rcases List.mem_cons.1 hd with rfl | hd
        · exact fun hdc => (hdc.trans ((Candidate.before_iff _ _ _).1 hb)).irrefl
        · exact ih hf d hd
      · next hb =>
        cases h
        rcases List.mem_cons.1 hd with rfl | hd
        · exact Candidate.Ahead.irrefl
        · exact fun hde => ih hf d hd (hde.of_not fun h => hb ((Candidate.before_iff _ _ _).2 h))

/-! ### The ranking of a line (R141) -/

/-- A list in the arbiter's order. -/
def Ranked (now : Tick) (cs : List Candidate) : Prop := cs.Pairwise (·.Ahead now ·)

theorem insertCandidate_ranked {now : Tick} {c : Candidate} {cs : List Candidate} (h : Ranked now cs) (hne : ∀ d ∈ cs, c.sign ≠ d.sign) :
    Ranked now (insertCandidate now c cs) := by
  induction cs with
  | nil => exact List.pairwise_singleton _ _
  | cons e rest ih =>
    obtain ⟨he, hrest⟩ := List.pairwise_cons.1 h
    unfold insertCandidate
    split
    · next hb =>
      have hce : c.Ahead now e := (Candidate.before_iff _ _ _).1 hb
      refine List.pairwise_cons.2 ⟨fun d hd => ?_, h⟩
      rcases List.mem_cons.1 hd with rfl | hd
      · exact hce
      · exact hce.trans (he d hd)
    · next hb =>
      have hec : e.Ahead now c :=
        (Candidate.ahead_or now (hne e List.mem_cons_self)).resolve_left fun h => hb ((Candidate.before_iff _ _ _).2 h)
      refine List.pairwise_cons.2 ⟨fun d hd => ?_, ih hrest fun d hd => hne d (List.mem_cons_of_mem _ hd)⟩
      rcases (mem_insertCandidate now c d rest).1 hd with rfl | hd
      · exact hec
      · exact he d hd

theorem insertAll_ranked {now : Tick} {cs acc : List Candidate} (ha : Ranked now acc) (hd : cs.Pairwise (·.sign ≠ ·.sign))
    (hne : ∀ c ∈ cs, ∀ d ∈ acc, c.sign ≠ d.sign) : Ranked now (cs.foldl (fun acc c => insertCandidate now c acc) acc) := by
  induction cs generalizing acc with
  | nil => exact ha
  | cons c rest ih =>
    obtain ⟨hc, hrest⟩ := List.pairwise_cons.1 hd
    refine ih (insertCandidate_ranked ha (hne c List.mem_cons_self)) hrest fun e he d hdm => ?_
    rcases (mem_insertCandidate now c d acc).1 hdm with rfl | hdm
    · exact (hc e he).symm
    · exact hne e (List.mem_cons_of_mem _ he) d hdm

theorem State.candidate_sign {s : State} {n : Fin 16} {c : Candidate} (h : s.candidate n = some c) : c.sign = n :=
  Sign.offers_sign _ n c (firstCandidate_mem _ _ c h)

theorem State.ranking_ranked (s : State) (l : Fin 2) : Ranked s.now (s.ranking l) := by
  refine insertAll_ranked List.Pairwise.nil (List.Pairwise.filterMap s.candidate (R := (· ≠ ·)) (fun a b hab c hc d hd => ?_) (signsOf_nodup l))
    fun _ _ _ hd => absurd hd List.not_mem_nil
  rw [State.candidate_sign hc, State.candidate_sign hd]
  exact hab

theorem State.mem_ranking {s : State} {l : Fin 2} {c : Candidate} :
    c ∈ s.ranking l ↔ ∃ n : Fin 16, n.val / 8 = l.val ∧ s.candidate n = some c := by
  unfold State.ranking
  rw [mem_insertAll, List.mem_filterMap]
  simp only [mem_signsOf, List.not_mem_nil, or_false]

/-- A candidate of a line, with the candidates ahead of it before it in the ranking. -/
theorem State.ranking_split {s : State} {l : Fin 2} {c : Candidate} (h : c ∈ s.ranking l) :
    ∃ before after, s.ranking l = before ++ c :: after ∧ ∀ d, d ∈ before ↔ d ∈ s.ranking l ∧ d.Ahead s.now c := by
  obtain ⟨before, after, hsplit⟩ := List.append_of_mem h
  refine ⟨before, after, hsplit, fun d => ?_⟩
  have hranked := s.ranking_ranked l
  rw [hsplit] at hranked ⊢
  obtain ⟨-, hafter, hbefore⟩ := List.pairwise_append.1 hranked
  refine ⟨fun hd => ⟨List.mem_append_left _ hd, hbefore d hd c List.mem_cons_self⟩, fun ⟨hd, hdc⟩ => ?_⟩
  rcases List.mem_append.1 hd with hd | hd
  · exact hd
  · rcases List.mem_cons.1 hd with rfl | hd
    · exact hdc.irrefl.elim
    · exact (hdc.trans ((List.pairwise_cons.1 hafter).1 d hd)).irrefl.elim

end Sys2Proof.Machine
end

section
/-! SUPPORT. What an arbitration passes over and what it sends (R126, R141, R142, R173). -/

namespace Sys2Proof.Machine

/-! ### Candidates passed over -/

/-- The state with another miss queue. -/
def State.queued (s : State) (q : List FillRequest) : State := { s with lib := { s.lib with missQueue := q } }

theorem State.passOver_queued (s : State) (c : Candidate) : ∃ q, s.passOver c = s.queued q := s.passOver_eq c

/-- Candidates passed over one after another. -/
def State.passAll (s : State) (cs : List Candidate) : State := cs.foldl State.passOver s

theorem State.passAll_queued (s : State) (cs : List Candidate) : ∃ q, s.passAll cs = s.queued q :=
  foldl_keeps (f := State.passOver) (P := fun u : State => ∃ q, u = s.queued q) (fun u c ⟨q, hq⟩ => by
    obtain ⟨q', hq'⟩ := u.passOver_queued c
    exact ⟨q', by rw [hq', hq]; rfl⟩) cs ⟨s.lib.missQueue, rfl⟩

/-- Candidates that are neither ready nor due for their fallback are passed over in their order. -/
theorem State.takeCandidates_passes {s : State} {cs : List Candidate} (rest : List Candidate)
    (h : ∀ c ∈ cs, s.ready c = false ∧ s.fallbackOf c = none) :
    State.takeCandidates (cs ++ rest) s = State.takeCandidates rest (s.passAll cs) := by
  have key (q : List FillRequest) : State.takeCandidates (cs ++ rest) (s.queued q) = State.takeCandidates rest ((s.queued q).passAll cs) := by
    induction cs generalizing q with
    | nil => rfl
    | cons c cs ih =>
      obtain ⟨hr, hf⟩ := h c List.mem_cons_self
      have hready : ¬(s.queued q).ready c = true := by
        have hr' : (s.queued q).ready c = s.ready c := rfl
        rw [hr', hr]
        decide
      have hfall : (s.queued q).fallbackOf c = none := hf
      obtain ⟨q', hq'⟩ := (s.queued q).passOver_queued c
      have hq'' : (s.queued q).passOver c = s.queued q' := hq'
      have hpass : (s.queued q).passAll (c :: cs) = (s.queued q').passAll cs := congrArg (State.passAll · cs) hq''
      rw [hpass, ← ih (fun d hd => h d (List.mem_cons_of_mem _ hd)) q', List.cons_append, State.takeCandidates, if_neg hready, hfall, hq'']
  exact key s.lib.missQueue

/-! ### What the miss queue covers (R173) -/

/-- The queue asks for the strips of a page, or it is full without the page. -/
def Covers (q : List FillRequest) (p : Page) (m : BitVec 8) : Prop :=
  (∃ r ∈ q, r.page = p ∧ m &&& r.strips = m) ∨ (4 ≤ q.length ∧ ∀ r ∈ q, r.page ≠ p)

theorem and_or_self (m x : BitVec 8) : m &&& (x ||| m) = m := by
  refine BitVec.eq_of_getLsbD_eq fun i _ => ?_
  rw [BitVec.getLsbD_and, BitVec.getLsbD_or]
  cases m.getLsbD i <;> simp

theorem and_or_of_and {m x : BitVec 8} (h : m &&& x = m) (y : BitVec 8) : m &&& (x ||| y) = m := by
  refine BitVec.eq_of_getLsbD_eq fun i _ => ?_
  have hi : (m.getLsbD i && x.getLsbD i) = m.getLsbD i := by rw [← BitVec.getLsbD_and, h]
  rw [BitVec.getLsbD_and, BitVec.getLsbD_or]
  revert hi
  cases m.getLsbD i <;> cases x.getLsbD i <;> simp

/-- A merge asks for the new strips beside the old ones. -/
theorem mergeRequest_asks {p : Page} {m : BitVec 8} {q : List FillRequest} (h : ∃ r ∈ q, r.page = p) :
    ∃ r ∈ mergeRequest p m q, r.page = p ∧ m &&& r.strips = m := by
  induction q with
  | nil => exact h.elim fun r hr => absurd hr.1 List.not_mem_nil
  | cons e rest ih =>
    unfold mergeRequest
    split
    · next he => exact ⟨_, List.mem_cons_self, he, and_or_self m _⟩
    · next he =>
      obtain ⟨r, hr, hp⟩ := h
      rcases List.mem_cons.1 hr with rfl | hr
      · exact absurd hp he
      · obtain ⟨x, hx, hx'⟩ := ih ⟨r, hr, hp⟩
        exact ⟨x, List.mem_cons_of_mem _ hx, hx'⟩

theorem mergeRequest_keeps {p p' : Page} {m m' : BitVec 8} {q : List FillRequest} (h : ∃ r ∈ q, r.page = p ∧ m &&& r.strips = m) :
    ∃ r ∈ mergeRequest p' m' q, r.page = p ∧ m &&& r.strips = m := by
  induction q with
  | nil => exact h.elim fun r hr => absurd hr.1 List.not_mem_nil
  | cons e rest ih =>
    obtain ⟨r, hr, hp, hm⟩ := h
    unfold mergeRequest
    split
    · rcases List.mem_cons.1 hr with rfl | hr
      · exact ⟨_, List.mem_cons_self, hp, and_or_of_and hm m'⟩
      · exact ⟨r, List.mem_cons_of_mem _ hr, hp, hm⟩
    · rcases List.mem_cons.1 hr with rfl | hr
      · exact ⟨r, List.mem_cons_self, hp, hm⟩
      · obtain ⟨x, hx, hx'⟩ := ih ⟨r, hr, hp, hm⟩
        exact ⟨x, List.mem_cons_of_mem _ hx, hx'⟩

theorem State.requestFill_covers (s : State) {p : Page} {m : BitVec 8} (hm : m ≠ 0) : Covers (s.requestFill p m).lib.missQueue p m := by
  unfold State.requestFill
  rw [if_neg hm]
  split
  · next h => exact .inl (mergeRequest_asks (by simpa using h))
  · next h =>
    have hnew : ∀ r ∈ s.lib.missQueue, r.page ≠ p := by simpa using h
    split
    · exact .inl ⟨_, List.mem_append_right _ List.mem_cons_self, rfl, BitVec.and_self⟩
    · next hfull => exact .inr ⟨by omega, hnew⟩

theorem State.requestFill_covers_other {s : State} {p : Page} {m : BitVec 8} (h : Covers s.lib.missQueue p m) (p' : Page) (m' : BitVec 8) :
    Covers (s.requestFill p' m').lib.missQueue p m := by
  unfold State.requestFill
  split
  · exact h
  · split
    · rcases h with h | ⟨hlen, hne⟩
      · exact .inl (mergeRequest_keeps h)
      · refine .inr ⟨hlen.trans_eq (mergeRequest_length _ _ _).symm, fun r hr => ?_⟩
        obtain ⟨x, hx, hpage⟩ := mergeRequest_page hr
        exact hpage ▸ hne x hx
    · split
      · next hlen =>
        obtain ⟨r, hr, h⟩ := h.resolve_right fun h => by omega
        exact .inl ⟨r, List.mem_append_left _ hr, h⟩
      · exact h

/-- The fill request of a candidate passed over is made or turned away by a full queue. -/
def State.Asked (s : State) (c : Candidate) (t : State) : Prop :=
  ∀ p : Page, c.page = some p → p ∉ s.lib.faulted → Covers t.lib.missQueue p (c.strips &&& ~~~(s.validStrips p))

/-- A candidate that is not ready, with a page that is not faulted, misses a strip. -/
theorem State.missing_of_not_ready {s : State} {c : Candidate} {p : Page} (hr : s.ready c = false) (hp : c.page = some p)
    (hf : p ∉ s.lib.faulted) : c.strips &&& ~~~(s.validStrips p) ≠ 0 := by
  intro hz
  have hcover : s.validStrips p &&& c.strips = c.strips := by
    refine BitVec.eq_of_getLsbD_eq fun i hi => ?_
    have hbit : (c.strips &&& ~~~(s.validStrips p)).getLsbD i = false := by rw [hz]; simp
    rw [BitVec.getLsbD_and, BitVec.getLsbD_not, decide_eq_true hi] at hbit
    rw [BitVec.getLsbD_and]
    revert hbit
    cases c.strips.getLsbD i <;> cases (s.validStrips p).getLsbD i <;> decide
  unfold State.ready State.pageReady State.isFaulted at hr
  rw [hp] at hr
  simp [hcover, hf] at hr

theorem State.passOver_asks {s : State} {c : Candidate} (hr : s.ready c = false) : s.Asked c (s.passOver c) := fun p hp hf => by
  have hsound : ¬s.isFaulted p = true := by simpa [State.isFaulted] using hf
  unfold State.passOver
  rw [hp]
  dsimp only
  rw [if_neg hsound]
  exact s.requestFill_covers (State.missing_of_not_ready hr hp hf)

theorem State.passOver_keeps_asked {s t : State} {c : Candidate} (h : s.Asked c t) (d : Candidate) : s.Asked c (t.passOver d) := fun p hp hf => by
  have hc := h p hp hf
  unfold State.passOver
  split
  · split
    · exact hc
    · exact State.requestFill_covers_other hc _ _
  · exact hc

theorem State.passAll_asks {s : State} {cs : List Candidate} (h : ∀ c ∈ cs, s.ready c = false) : ∀ c ∈ cs, s.Asked c (s.passAll cs) := by
  have key (q : List FillRequest) : ∀ c ∈ cs, s.Asked c ((s.queued q).passAll cs) := by
    induction cs generalizing q with
    | nil => exact fun c hc => absurd hc List.not_mem_nil
    | cons d rest ih =>
      intro c hc
      obtain ⟨q', hq'⟩ := (s.queued q).passOver_queued d
      have hpass : (s.queued q).passAll (d :: rest) = (s.queued q').passAll rest := congrArg (State.passAll · rest) hq'
      rw [hpass]
      rcases List.mem_cons.1 hc with rfl | hc
      · have hask : s.Asked c (s.queued q') := fun p hp hf => by
          have hc := State.passOver_asks (s := s.queued q) (h c List.mem_cons_self) p hp hf
          rw [hq'] at hc
          exact hc
        exact foldl_keeps (f := State.passOver) (P := fun u : State => s.Asked c u) (fun _ d hu => State.passOver_keeps_asked hu d) rest hask
      · exact ih (fun e he => h e (List.mem_cons_of_mem _ he)) q' c hc
  exact key s.lib.missQueue

end Sys2Proof.Machine
end

section
/-! PROOF. The line arbiter: what a sign offers, the first candidate that goes, and the arbitrations of a tick (R126, R140 to R142, R186). -/

namespace Sys2Proof.Machine

/-! ### The frame that is sent (R142) -/

/-- The cache once a frame that uses a way of a set is in flight. -/
def usedCache (cache : Vector CacheSet 32) : Option (Fin 32 × Bool) → Vector CacheSet 32
  | some (k, w) => cache.set k { cache[k] with lru1 := !w }
  | none => cache

theorem usedCache_ways (cache : Vector CacheSet 32) (way : Option (Fin 32 × Bool)) (k : Fin 32) :
    (usedCache cache way)[k].way0 = cache[k].way0 ∧ (usedCache cache way)[k].way1 = cache[k].way1 := by
  match way with
  | none => exact ⟨rfl, rfl⟩
  | some (j, w) =>
    unfold usedCache
    by_cases hk : j = k
    · subst hk
      have hset : (cache.set j { cache[j] with lru1 := !w })[j] = { cache[j] with lru1 := !w } := Vector.getElem_set_self _
      rw [hset]
      exact ⟨rfl, rfl⟩
    · have hset : (cache.set j { cache[j] with lru1 := !w })[k] = cache[k] := Vector.getElem_set_ne j.isLt k.isLt (Fin.val_ne_of_ne hk)
      rw [hset]
      exact ⟨rfl, rfl⟩

theorem usedCache_lru1 (cache : Vector CacheSet 32) (way : Option (Fin 32 × Bool)) (k : Fin 32) :
    (usedCache cache way)[k].lru1 = match way with
      | some (k', w) => if k' = k then !w else cache[k].lru1
      | none => cache[k].lru1 := by
  match way with
  | none => rfl
  | some (j, w) =>
    unfold usedCache
    by_cases hk : j = k
    · subst hk
      have hset : (cache.set j { cache[j] with lru1 := !w })[j] = { cache[j] with lru1 := !w } := Vector.getElem_set_self _
      rw [hset]
      exact (if_pos rfl).symm
    · have hset : (cache.set j { cache[j] with lru1 := !w })[k] = cache[k] := Vector.getElem_set_ne j.isLt k.isLt (Fin.val_ne_of_ne hk)
      rw [hset]
      exact (if_neg hk).symm

/-- A line with a candidate's frame in flight. -/
def State.sentLine (s : State) (c : Candidate) (fell : Bool) : Line :=
  { s.line (lineOf c.sign) with
    inFlight := some (s.frameOf c fell), txBuffer := signFrame (addressOf c.sign) c.kind c.page (s.frameStrips c) }

theorem State.sendFrame_eq (s : State) (c : Candidate) (fell : Bool) : s.sendFrame c fell =
    { s with lines := s.lines.set (lineOf c.sign) (s.sentLine c fell),
             lib := { s.lib with cache := usedCache s.lib.cache (s.frameWay c) } } := by
  have hsent : s.updLine (lineOf c.sign) (fun r => { r with
      inFlight := some (s.frameOf c fell), txBuffer := signFrame (addressOf c.sign) c.kind c.page (s.frameStrips c) }) =
      { s with lines := s.lines.set (lineOf c.sign) (s.sentLine c fell) } := rfl
  have hsend : s.sendFrame c fell = match c.page, s.cachedWay (c.page.getD 0) with
      | some p, some w => ({ s with lines := s.lines.set (lineOf c.sign) (s.sentLine c fell) } : State).useWay p w
      | _, _ => { s with lines := s.lines.set (lineOf c.sign) (s.sentLine c fell) } := rfl
  rw [hsend]
  unfold State.frameWay
  generalize s.sentLine c fell = r
  cases c.page with
  | none => rfl
  | some p =>
    dsimp only [Option.getD_some, Option.bind_some]
    cases s.cachedWay p <;> rfl

/-- The page cache ways that an arbitration reaches, and all else it leaves. -/
structure State.Arbitrated (s : State) (l : Fin 2) (t : State) : Prop where
  frame : { t with lib := s.lib, lines := s.lines } = s
  lib : { t.lib with cache := s.lib.cache, missQueue := s.lib.missQueue } = s.lib
  other : ∀ j : Fin 2, j ≠ l → t.line j = s.line j
  ways : ∀ k : Fin 32, t.lib.cache[k].way0 = s.lib.cache[k].way0 ∧ t.lib.cache[k].way1 = s.lib.cache[k].way1

theorem State.queued_arbitrated (s : State) (l : Fin 2) (q : List FillRequest) : s.Arbitrated l (s.queued q) :=
  ⟨rfl, rfl, fun _ _ => rfl, fun _ => ⟨rfl, rfl⟩⟩

theorem State.sendFrame_arbitrated {s : State} {l : Fin 2} {c : Candidate} (hl : lineOf c.sign = l) (fell : Bool) (q : List FillRequest) :
    s.Arbitrated l ((s.queued q).sendFrame c fell) := by
  rw [State.sendFrame_eq]
  refine ⟨rfl, rfl, fun j hj => ?_, fun k => usedCache_ways s.lib.cache _ k⟩
  rw [← hl] at hj
  exact Vector.getElem_set_ne (lineOf c.sign).isLt j.isLt (Fin.val_ne_of_ne hj.symm)

theorem State.sendFrame_line {s : State} (c : Candidate) (fell : Bool) (q : List FillRequest) :
    ((s.queued q).sendFrame c fell).line (lineOf c.sign) = s.sentLine c fell := by
  rw [State.sendFrame_eq]
  exact Vector.getElem_set_self _

theorem State.sendFrame_lru1 {s : State} (c : Candidate) (fell : Bool) (q : List FillRequest) (k : Fin 32) :
    ((s.queued q).sendFrame c fell).lib.cache[k].lru1 = match s.frameWay c with
      | some (k', w) => if k' = k then !w else s.lib.cache[k].lru1
      | none => s.lib.cache[k].lru1 := by
  rw [State.sendFrame_eq]
  exact usedCache_lru1 s.lib.cache (s.frameWay c) k

/-! ### The first candidate that goes (R126, R141) -/

/-- A candidate goes where it is ready or due for its fallback. -/
def State.Goes (s : State) (c : Candidate) : Prop := s.ready c = true ∨ ∃ d, s.fallbackOf c = some d

theorem State.not_goes {s : State} {c : Candidate} (h : ¬s.Goes c) : s.ready c = false ∧ s.fallbackOf c = none := by
  refine ⟨by simpa using fun hr => h (.inl hr), ?_⟩
  cases hf : s.fallbackOf c with
  | none => rfl
  | some d => exact absurd (.inr ⟨d, hf⟩) h

section
variable {s : State} {l : Fin 2} (hfree : (s.line l).inFlight = none) (hheld : (s.line l).state ≠ .held)
include hfree hheld

theorem State.arbitrate_free : s.arbitrate l = State.takeCandidates (s.ranking l) s :=
  if_neg (not_or_intro (by rw [hfree]; decide) hheld)

/-- Where no candidate goes, each is passed over. -/
theorem State.arbitrate_none (h : ∀ c ∈ s.ranking l, ¬s.Goes c) : s.arbitrate l = s.passAll (s.ranking l) := by
  have hpass := State.takeCandidates_passes [] fun c hc => State.not_goes (h c hc)
  rw [List.append_nil] at hpass
  rw [State.arbitrate_free hfree hheld, hpass]
  rfl

/-- The candidates ahead of the first that goes are passed over, and its frame or its fallback is sent. -/
theorem State.arbitrate_first {c : Candidate} (hc : c ∈ s.ranking l) (hfirst : ∀ d ∈ s.ranking l, d.Ahead s.now c → ¬s.Goes d)
    (hsound : s.ready c = true → s.badStrip c = none) : ∃ q : List FillRequest,
      (∀ d ∈ s.ranking l, d.Ahead s.now c → s.Asked d (s.queued q)) ∧
      (s.ready c = true → s.arbitrate l = (s.queued q).sendFrame c false) ∧
      (s.ready c = false → s.Asked c (s.queued q) ∧ ∀ d, s.fallbackOf c = some d → s.arbitrate l = (s.queued q).sendFrame d true) := by
  obtain ⟨before, after, hsplit, hbefore⟩ := State.ranking_split hc
  have hno : ∀ d ∈ before, s.ready d = false ∧ s.fallbackOf d = none := fun d hd =>
    State.not_goes (hfirst d ((hbefore d).1 hd).1 ((hbefore d).1 hd).2)
  obtain ⟨q, hq⟩ := s.passAll_queued before
  have hpassed : s.arbitrate l = State.takeCandidates (c :: after) (s.queued q) := by
    rw [State.arbitrate_free hfree hheld, hsplit, State.takeCandidates_passes _ hno, hq]
  have hahead (d : Candidate) (hd : d ∈ s.ranking l) (hdc : d.Ahead s.now c) : s.Asked d (s.queued q) := by
    rw [← hq]
    exact State.passAll_asks (fun e he => (hno e he).1) d ((hbefore d).2 ⟨hd, hdc⟩)
  have hready : (s.queued q).ready c = s.ready c := rfl
  cases hr : s.ready c with
  | true =>
    have hbad : (s.queued q).badStrip c = none := hsound hr
    refine ⟨q, hahead, fun _ => ?_, fun h => absurd h.symm Bool.false_ne_true⟩
    rw [hpassed, State.takeCandidates, if_pos (hready.trans hr), hbad]
  | false =>
    obtain ⟨q', hq'⟩ := (s.queued q).passOver_queued c
    have hpass : (s.queued q).passOver c = s.queued q' := hq'
    have hask : s.Asked c (s.queued q') := fun p hp hf => by
      have hcover := State.passOver_asks (s := s.queued q) hr p hp hf
      rw [hpass] at hcover
      exact hcover
    refine ⟨q', fun d hd hdc => ?_, fun h => absurd h Bool.false_ne_true, fun _ => ⟨hask, fun d hd => ?_⟩⟩
    · have hkeep := State.passOver_keeps_asked (hahead d hd hdc) c
      rwa [hpass] at hkeep
    · have hfall : (s.queued q).fallbackOf c = some d := hd
      have hnot : ¬(s.queued q).ready c = true := by rw [hready, hr]; decide
      rw [hpassed, State.takeCandidates, if_neg hnot, hfall, ← hpass]

end

end Sys2Proof.Machine
end

section
/-! SUPPORT. What a sign offers, and the arbitrations that end a tick with the flash port busy (R140 to R142, R150, R186). -/

namespace Sys2Proof.Machine

/-! ### What a sign offers (R140, R150) -/

theorem Sign.mem_offers (g : Sign) (n : Fin 16) (c : Candidate) : c ∈ g.offers n ↔
    (((g.service = .showing ∨ g.service = .lapsed) ∨ g.service = .blank ∨ g.service = .held) ∧ c ∈ g.planCandidates n) ∨
    (((g.service = .showing ∨ g.service = .lapsed) ∨ g.service = .held) ∧ c ∈ g.restoreCandidates n) ∨
    ((g.service = .showing ∨ g.service = .lapsed) ∧ c ∈ g.holdCandidates n) ∨
    (g.service = .shed ∧ c ∈ g.shedCandidates n) ∨
    ((g.service = .showing ∨ g.service = .lapsed) ∧ c ∈ g.refreshCandidates n) ∨
    (((g.service = .showing ∨ g.service = .lapsed) ∨ g.service = .blank ∨ g.service = .shed ∨ g.service = .offline) ∧
      c ∈ g.pollCandidates n) := by
  unfold Sign.offers
  cases g.service <;> simp

theorem Sign.mem_planCandidates (g : Sign) (n : Fin 16) (c : Candidate) : c ∈ g.planCandidates n ↔
    (∃ (h : Bool) (t : Tick), g.need = .plan h t ∧ c = g.contentCandidate n (if h then .hazard else .content) t true) ∨
    ∃ t : Tick, g.need = .recovery t ∧ c = g.contentCandidate n .content t false := by
  unfold Sign.planCandidates
  cases g.need <;> simp

theorem Sign.mem_restoreCandidates (g : Sign) (n : Fin 16) (c : Candidate) : c ∈ g.restoreCandidates n ↔
    ∃ t : Tick, g.restoreNeed = some t ∧ c = g.contentCandidate n .restore t true := by
  unfold Sign.restoreCandidates
  cases g.restoreNeed <;> simp

/-- A candidate that carries no page. -/
def bareCandidate (n : Fin 16) (kind : FrameKind) (cls : ArbClass) (since : Tick) (shedding : Bool) : Candidate :=
  { sign := n, cls := cls, kind := kind, page := none, strips := 0, since := since, falls := false, shedding := shedding }

theorem Sign.mem_holdCandidates (g : Sign) (n : Fin 16) (c : Candidate) : c ∈ g.holdCandidates n ↔
    ∃ t : Tick, g.holdNeed = some t ∧ c = bareCandidate n .hold .content t false := by
  unfold Sign.holdCandidates bareCandidate
  cases g.holdNeed <;> simp

theorem Sign.mem_shedCandidates (g : Sign) (n : Fin 16) (c : Candidate) : c ∈ g.shedCandidates n ↔
    ∃ t : Tick, g.shedNeed = some t ∧ c = bareCandidate n .blank .content t true := by
  unfold Sign.shedCandidates bareCandidate
  cases g.shedNeed <;> simp

theorem Sign.mem_pollCandidates (g : Sign) (n : Fin 16) (c : Candidate) : c ∈ g.pollCandidates n ↔
    ∃ t : Tick, g.pollNeed = some t ∧ c = bareCandidate n .poll .poll t false := by
  unfold Sign.pollCandidates bareCandidate
  cases g.pollNeed <;> simp

theorem Sign.mem_refreshCandidates (g : Sign) (n : Fin 16) (c : Candidate) : c ∈ g.refreshCandidates n ↔
    1 ≤ g.owed ∧ ∃ p : Page, g.shown.page = some p ∧ c =
      { bareCandidate n .refresh .refresh g.refreshSince false with page := some p, strips := refreshStrips g.cursor g.granularity.bands } := by
  unfold Sign.refreshCandidates bareCandidate
  cases g.shown.page with
  | none => simp
  | some p => by_cases h : 1 ≤ g.owed <;> simp [h]

theorem refreshStrips_eq (c : Nat) (r : Granularity) : refreshStrips c r.bands = match r with
    | .full => (0xFF : BitVec 8) <<< (2 * c)
    | .half => 0x0F <<< (2 * c)
    | .quarter => 0x03 <<< (2 * c) := by
  have hshift (m : Nat) (hm : m < 256) : BitVec.ofNat 8 (m * 2 ^ (2 * c)) = BitVec.ofNat 8 m <<< (2 * c) := by
    refine BitVec.eq_of_toNat_eq ?_
    rw [BitVec.toNat_ofNat, BitVec.toNat_shiftLeft, BitVec.toNat_ofNat, Nat.shiftLeft_eq, Nat.mod_eq_of_lt hm]
  cases r
  · exact hshift 255 (by decide)
  · exact hshift 15 (by decide)
  · exact hshift 3 (by decide)

/-! ### Readiness and fallback as conditions (R126, R141) -/

theorem State.ready_iff (s : State) (c : Candidate) : s.ready c = true ↔
    ∀ p : Page, c.page = some p → p.toNat < 8 ∨ (s.validStrips p &&& c.strips = c.strips ∧ p ∉ s.lib.faulted) := by
  unfold State.ready State.pageReady State.isFaulted isLibraryPage
  cases c.page with
  | none => simp
  | some p => simp

theorem State.fallbackOf_iff (s : State) (c d : Candidate) : s.fallbackOf c = some d ↔ c.falls = true ∧ ∃ p : Page, c.page = some p ∧
    ∃ wait page, (s.sign c.sign).planClass.fallback = some (wait, page) ∧ (wait ≤ (s.now - c.since).toNat ∨ p ∈ s.lib.faulted) ∧
      d = match page with
        | some q => { c with page := some q }
        | none => { c with kind := .blank, page := none, strips := 0 } := by
  unfold State.fallbackOf State.isFaulted ticksSince
  generalize (s.now - c.since).toNat = age
  cases hf : c.falls with
  | false => simp
  | true =>
    cases hp : c.page with
    | none => cases (s.sign c.sign).planClass.fallback <;> simp
    | some p =>
      cases (s.sign c.sign).planClass.fallback with
      | none => simp
      | some x =>
        obtain ⟨wait, page⟩ := x
        by_cases hdue : wait ≤ age ∨ p ∈ s.lib.faulted
        · cases page <;> simp [hdue, eq_comm]
        · simp [hdue]

/-! ### An arbitration that is owed no more (R141) -/

/-- The state with no arbitration of a line owed. -/
def State.quiet (s : State) (l : Fin 2) : State := s.updLine l fun r => { r with arbitrate := false }

theorem State.quiet_line (s : State) (m l : Fin 2) : (s.quiet m).line l = if m = l then { s.line m with arbitrate := false } else s.line l := by
  unfold State.quiet
  rw [State.updLine_eq, State.setLine_line]

theorem State.clearArbitrations_eq (s : State) : s.clearArbitrations = (s.quiet 0).quiet 1 := rfl

/-- The flag of a line that an arbitration is owed reaches nothing else. -/
theorem State.quiet_lines (s : State) (m : Fin 2) : { s.quiet m with lines := s.lines } = s := rfl

theorem State.quiet_same {s : State} {m l : Fin 2} {α : Type} (f : Line → α) (hf : ∀ r : Line, f { r with arbitrate := false } = f r) :
    f ((s.quiet m).line l) = f (s.line l) := by
  rw [State.quiet_line]
  split
  · next h => rw [hf, h]
  · rfl

/-- The queue after a request, by the queue before it. -/
theorem State.requestFill_quiet (s : State) (m : Fin 2) (p : Page) (x : BitVec 8) : (s.quiet m).requestFill p x = (s.requestFill p x).quiet m := by
  have hlib : (s.quiet m).lib = s.lib := rfl
  unfold State.requestFill
  rw [hlib]
  by_cases hx : x = 0
  · rw [if_pos hx, if_pos hx]
  · rw [if_neg hx, if_neg hx]
    by_cases ha : (s.lib.missQueue.any fun r => r.page == p) = true
    · rw [if_pos ha, if_pos ha]
      rfl
    · rw [if_neg ha, if_neg ha]
      by_cases hl : s.lib.missQueue.length < 4
      · rw [if_pos hl, if_pos hl]
        rfl
      · rw [if_neg hl, if_neg hl]

theorem State.passOver_quiet (s : State) (m : Fin 2) (c : Candidate) : (s.quiet m).passOver c = (s.passOver c).quiet m := by
  have hfault (p : Page) : (s.quiet m).isFaulted p = s.isFaulted p := rfl
  have hvalid (p : Page) : (s.quiet m).validStrips p = s.validStrips p := rfl
  unfold State.passOver
  cases c.page with
  | none => rfl
  | some p =>
    dsimp only
    rw [hfault, hvalid, State.requestFill_quiet]
    split <;> rfl

theorem State.frameOf_quiet (s : State) (m : Fin 2) (c : Candidate) (fell : Bool) : (s.quiet m).frameOf c fell = s.frameOf c fell := by
  have hbaud : ((s.quiet m).line (lineOf c.sign)).cfg = (s.line (lineOf c.sign)).cfg := State.quiet_same Line.cfg fun _ => rfl
  unfold State.frameOf
  rw [hbaud]
  rfl

theorem State.sendFrame_quiet (s : State) (m : Fin 2) (c : Candidate) (fell : Bool) :
    (s.quiet m).sendFrame c fell = (s.sendFrame c fell).quiet m := by
  have hsent (u : State) (l : Fin 2) : (u.sendFrame c fell).line l = if lineOf c.sign = l then u.sentLine c fell else u.line l := by
    rw [State.sendFrame_eq]
    exact u.setLine_line (lineOf c.sign) (u.sentLine c fell) l
  have hline : (s.quiet m).sentLine c fell =
      if m = lineOf c.sign then { s.sentLine c fell with arbitrate := false } else s.sentLine c fell := by
    unfold State.sentLine
    rw [State.frameOf_quiet, State.quiet_line]
    split
    · next h =>
      subst h
      rfl
    · rfl
  have hframe : ({ (s.quiet m).sendFrame c fell with lines := ((s.sendFrame c fell).quiet m).lines } : State) = (s.sendFrame c fell).quiet m := by
    rw [State.sendFrame_eq, State.sendFrame_eq]
    rfl
  refine State.ext_lines hframe fun l => ?_
  rw [hsent, hline, State.quiet_line, State.quiet_line, hsent, hsent]
  by_cases hm : m = lineOf c.sign
  · subst hm
    by_cases hl : lineOf c.sign = l
    · simp [hl]
    · simp [hl]
  · by_cases hl : lineOf c.sign = l
    · subst hl
      simp [hm]
    · by_cases hml : m = l
      · subst hml
        simp [hl]
      · simp [hl, hml]

theorem State.takeCandidates_quiet (cs : List Candidate) (s : State) (m : Fin 2) :
    State.takeCandidates cs (s.quiet m) = (State.takeCandidates cs s).quiet m := by
  induction cs generalizing s with
  | nil => rfl
  | cons c rest ih =>
    have hready : (s.quiet m).ready c = s.ready c := rfl
    have hbad : (s.quiet m).badStrip c = s.badStrip c := rfl
    have hfall : (s.quiet m).fallbackOf c = s.fallbackOf c := rfl
    have hparity (p : Page) (w : Bool) (i : Fin 8) : (s.quiet m).parityError p w i = (s.parityError p w i).quiet m := rfl
    unfold State.takeCandidates
    rw [hready, hbad, hfall, State.passOver_quiet]
    split
    · split
      · exact s.sendFrame_quiet m c false
      · rw [hparity, State.passOver_quiet]
        exact ih _
    · split
      · exact State.sendFrame_quiet _ m _ true
      · exact ih _

theorem State.arbitrate_quiet (s : State) (m l : Fin 2) : (s.quiet m).arbitrate l = (s.arbitrate l).quiet m := by
  have hflight : ((s.quiet m).line l).inFlight = (s.line l).inFlight := State.quiet_same Line.inFlight fun _ => rfl
  have hstate : ((s.quiet m).line l).state = (s.line l).state := State.quiet_same Line.state fun _ => rfl
  have hrank : (s.quiet m).ranking l = s.ranking l := rfl
  unfold State.arbitrate
  rw [hflight, hstate, hrank, State.takeCandidates_quiet]
  split <;> rfl

/-- An arbitration takes no other arbitration's place. -/
theorem State.arbitrate_owed (s : State) (l m : Fin 2) : ((s.arbitrate l).line m).arbitrate = (s.line m).arbitrate := by
  have hsend (u : State) (c : Candidate) (b : Bool) : ((u.sendFrame c b).line m).arbitrate = (u.line m).arbitrate := by
    rw [State.sendFrame_eq]
    refine (congrArg Line.arbitrate (u.setLine_line (lineOf c.sign) (u.sentLine c b) m)).trans ?_
    split
    · next h => rw [← h]; rfl
    · rfl
  have hpass (u : State) (c : Candidate) : ((u.passOver c).line m).arbitrate = (u.line m).arbitrate := by
    unfold State.line
    rw [u.passOver_lines c]
  have htake (cs : List Candidate) (u : State) : ((State.takeCandidates cs u).line m).arbitrate = (u.line m).arbitrate := by
    induction cs generalizing u with
    | nil => rfl
    | cons c rest ih =>
      unfold State.takeCandidates
      split
      · split
        · exact hsend u c false
        · exact (ih _).trans (hpass _ c)
      · split
        · exact (hsend _ _ true).trans (hpass u c)
        · exact (ih _).trans (hpass u c)
  exact iteInduction (motive := fun t : State => (t.line m).arbitrate = (s.line m).arbitrate) (fun _ => rfl) fun _ => htake _ s

/-! ### A tick whose port is busy (R141, R186) -/

theorem State.serveLine_busyPort {s : State} {l : Fin 2} (ha : (s.line l).arbitrate = true) (hp : s.lib.port ≠ .idle) :
    s.serveLine l = (s.arbitrate l).quiet l := by
  have hserve : s.serveLine l = ((s.quiet l).arbitrate l).portChoice := if_pos ha
  have hport : ((s.arbitrate l).quiet l).lib.port ≠ .idle := by
    have hkept : (s.arbitrate l).lib.port = s.lib.port := ((s.arbitrate_kept l).port hp).1
    rw [← hkept] at hp
    exact hp
  rw [hserve, State.arbitrate_quiet, State.portChoice_busy _ hport]

theorem State.finish_askBoth {s : State} (hp : s.lib.port ≠ .idle) :
    s.askBoth.finish = ((s.askBoth.arbitrate 0).arbitrate 1).clearArbitrations := by
  have howed (l : Fin 2) : (s.askBoth.line l).arbitrate = true := by rw [State.askBoth_line]
  have hport0 : ((s.askBoth.arbitrate 0).quiet 0).lib.port ≠ .idle := by
    have hkept : (s.askBoth.arbitrate 0).lib.port = s.askBoth.lib.port := ((s.askBoth.arbitrate_kept 0).port hp).1
    have hp' : s.askBoth.lib.port ≠ .idle := hp
    rw [← hkept] at hp'
    exact hp'
  have howed1 : (((s.askBoth.arbitrate 0).quiet 0).line 1).arbitrate = true := by
    rw [State.quiet_line, if_neg (by decide), State.arbitrate_owed, howed]
  have hboth : (s.askBoth.serveLine 0).serveLine 1 = ((s.askBoth.arbitrate 0).arbitrate 1).clearArbitrations := by
    rw [State.serveLine_busyPort (howed 0) hp, State.serveLine_busyPort howed1 hport0, State.arbitrate_quiet]
    rfl
  have howes : s.askBoth.owesArbitration = true := by
    unfold State.owesArbitration
    rw [howed 0]
    rfl
  have hstep : s.askBoth.finish = State.serveLines 7 ((s.askBoth.serveLine 0).serveLine 1) := if_pos howes
  rw [hstep, hboth]
  have hcalm : ((s.askBoth.arbitrate 0).arbitrate 1).clearArbitrations.owesArbitration = false := State.clearArbitrations_calm _
  exact if_neg (by rw [hcalm]; decide)

theorem exec_tick_busyPort {s : State} (hd : s.due = []) (hp : s.lib.port ≠ .idle) :
    exec .tick s = .next ((s.tickOnce.arbitrate 0).arbitrate 1).clearArbitrations := by
  have honce : s.tickOnce = { s.advance with due := s.dueAfter s.advance }.askBoth := by
    have hdue : s.advance.due ++ s.dueAfter s.advance = s.dueAfter s.advance := by
      rw [show s.advance.due = [] from hd, List.nil_append]
    rw [State.tickOnce, hdue]
  have hport : ({ s.advance with due := s.dueAfter s.advance } : State).lib.port ≠ .idle := by
    have htick : s.advance.lib.port = s.lib.port := by rw [State.advance_lib, Library.tick_busy _ hp]
    rw [← htick] at hp
    exact hp
  rw [exec_tick, State.tick_eq s hd, State.finish_askBoth hport, honce]

end Sys2Proof.Machine
end

section
/-! PROOF. What a line sends: a sign's candidate, the first candidate that goes, and a tick's arbitrations (R126, R140 to R142, R186). -/

namespace Sys2Proof.Machine

/-- No strip of bad parity among those a frame would read. -/
theorem State.badStrip_none {s : State} {c : Candidate} (h : ∀ (p : Page) (w : Bool), c.page = some p → s.cachedWay p = some w →
    ∀ i : Fin 8, c.strips.getLsbD i.val = true → parityOf (s.strip p w i).data = (s.strip p w i).parity) : s.badStrip c = none := by
  cases hp : c.page with
  | none =>
    unfold State.badStrip
    rw [hp]
  | some p =>
    cases hw : s.cachedWay p with
    | none =>
      unfold State.badStrip
      rw [hp]
      dsimp only
      rw [hw]
    | some w =>
      have hnone : (bitsOf c.strips).find? (fun i => (s.strip p w i).parityBad) = none :=
        List.find?_eq_none.2 fun i hi hb => (Strip.parityBad_iff _).1 hb (h p w hp hw i ((mem_bitsOf 8 _ i).1 hi))
      rw [State.badStrip_cached hp hw, hnone]
      rfl

theorem State.fallbackOf_cls {s : State} {c d : Candidate} (h : s.fallbackOf c = some d) :
    d.sign = c.sign ∧ d.cls = c.cls ∧ d.shedding = c.shedding := by
  obtain ⟨-, p, -, wait, page, -, -, rfl⟩ := (s.fallbackOf_iff c d).1 h
  cases page <;> exact ⟨rfl, rfl, rfl⟩

/-- The line with the frame that serves a candidate in flight: its own, or its fallback. -/
theorem State.sentLine_of {s : State} {l : Fin 2} {c d : Candidate} (hl : lineOf c.sign = l)
    (h : d.sign = c.sign ∧ d.cls = c.cls ∧ d.shedding = c.shedding) (fell : Bool) : s.sentLine d fell = { s.line l with
      inFlight := some
        { address := addressOf c.sign, kind := d.kind, page := d.page, strips := d.strips, cls := c.cls, fallback := fell, attempt := 1,
          startTick := s.now, builtClass := (s.sign c.sign).planClass, wanted := (s.sign c.sign).wanted,
          firstBand := (s.sign c.sign).cursor, bands := (s.sign c.sign).granularity.bands, baud := (s.line l).cfg.baud,
          way := s.frameWay d, shedding := c.shedding, once := d.kind == .poll && (s.sign c.sign).service == .offline },
      txBuffer := signFrame (addressOf c.sign) d.kind d.page (s.frameStrips d) } := by
  obtain ⟨hsign, hcls, hshed⟩ := h
  unfold State.sentLine State.frameOf
  dsimp only
  rw [hsign, hcls, hshed, hl]

/-- Settles O50: the ranking puts the candidates in the arbiter's order, and those ahead of the first that goes are passed over. -/
theorem arbiterSendsFirstReady : Obligations.ArbiterSendsFirstReady := by
  unfold Obligations.ArbiterSendsFirstReady
  intro l s age cached offers offered ahead ready fallback goes asked frame
  have hoffers (n : Fin 16) (c : Candidate) : offers n c ↔ c ∈ (s.sign n).offers n := by
    rw [Sign.mem_offers, Sign.mem_planCandidates, Sign.mem_restoreCandidates, Sign.mem_holdCandidates, Sign.mem_shedCandidates,
      Sign.mem_refreshCandidates, Sign.mem_pollCandidates, refreshStrips_eq]
    exact Iff.rfl
  have hready (c : Candidate) : ready c ↔ s.ready c = true := (s.ready_iff c).symm
  have hfall (c d : Candidate) : fallback c d ↔ s.ready c = false ∧ s.fallbackOf c = some d := by
    have hnot : ¬ready c ↔ s.ready c = false := by rw [hready, Bool.not_eq_true]
    rw [← hnot, State.fallbackOf_iff]
    constructor
    · rintro ⟨hf, hn, p, hp, hd⟩
      refine ⟨hn, hf, p, hp, ?_⟩
      revert hd
      cases (s.sign c.sign).planClass with
      | hazard => exact fun hd => ⟨16, some 1, rfl, hd⟩
      | closure => exact fun hd => ⟨40, some 2, rfl, hd⟩
      | caution => exact fun hd => ⟨40, some 3, rfl, hd⟩
      | condition => exact fun hd => ⟨80, none, rfl, hd⟩
      | blank => exact False.elim
    · rintro ⟨hn, hf, p, hp, wait, page, hw, hd⟩
      refine ⟨hf, hn, p, hp, ?_⟩
      revert hw
      cases (s.sign c.sign).planClass <;> intro hw <;> cases hw <;> exact hd
  have hgoes (c : Candidate) : goes c ↔ s.Goes c := by
    constructor
    · rintro (hr | ⟨d, hd⟩)
      · exact .inl ((hready c).1 hr)
      · exact .inr ⟨d, ((hfall c d).1 hd).2⟩
    · rintro (hr | ⟨d, hd⟩)
      · exact .inl ((hready c).2 hr)
      · cases hr : s.ready c with
        | true => exact .inl ((hready c).2 hr)
        | false => exact .inr ⟨d, (hfall c d).2 ⟨hr, hd⟩⟩
  have hoffered (c : Candidate) : offered c ↔ c ∈ s.ranking l := State.mem_ranking.symm
  have hframe (t : State) (h : s.Arbitrated l t) : frame t := ⟨h.frame, h.lib, h.other, h.ways⟩
  refine ⟨fun n => ⟨fun hn c hc => ?_, fun c hc => ⟨(hoffers n c).2 (firstCandidate_mem _ _ c hc), State.candidate_sign hc, fun d hd => ?_⟩⟩,
    fun h => if_pos (h.imp_left Option.isSome_iff_ne_none.2), fun hfree hheld => ⟨fun hno => ?_, fun c hc hgo hfirst hsound => ?_⟩,
    fun _ hd hp => exec_tick_busyPort hd hp⟩
  · have hnil : (s.sign n).offers n = [] := firstCandidate_none.1 hn
    exact absurd ((hoffers n c).1 hc) (hnil ▸ List.not_mem_nil)
  · have hmem := (hoffers n d).1 hd
    have hnot := firstCandidate_ahead hc d hmem
    have hsign : d.sign = c.sign := (Sign.offers_sign _ n d hmem).trans (State.candidate_sign hc).symm
    rw [Candidate.ahead_iff] at hnot
    have hcls : d.cls = c.cls ↔ d.cls.code = c.cls.code := ArbClass.code_inj.symm
    rw [hcls]
    dsimp only [age]
    omega
  · have hnone := State.arbitrate_none hfree hheld fun c hc hg => hno c ((hoffered c).2 hc) ((hgoes c).2 hg)
    obtain ⟨q, hq⟩ := s.passAll_queued (s.ranking l)
    have hask := State.passAll_asks (s := s) (cs := s.ranking l) fun c hc =>
      (State.not_goes fun hg => hno c ((hoffered c).2 hc) ((hgoes c).2 hg)).1
    rw [← hnone] at hq hask
    dsimp only
    refine ⟨by rw [hq]; rfl, by rw [hq]; rfl, hframe _ (by rw [hq]; exact s.queued_arbitrated l q), fun c hc => hask c ((hoffered c).1 hc)⟩
  · obtain ⟨q, hahead, hsends, hfalls⟩ := State.arbitrate_first hfree hheld ((hoffered c).1 hc)
      (fun d hd hdc hg => hfirst d ((hoffered d).2 hd) hdc ((hgoes d).2 hg))
      (fun hr => State.badStrip_none (hsound ((hready c).2 hr)))
    have hl : lineOf c.sign = l := s.ranking_line l c ((hoffered c).1 hc)
    have hsent (d : Candidate) (h : d.sign = c.sign ∧ d.cls = c.cls ∧ d.shedding = c.shedding) (fell : Bool) :
        ((s.queued q).sendFrame d fell).line l = s.sentLine d fell := by
      have hline := s.sendFrame_line d fell q
      rwa [h.1, hl] at hline
    have hreach (d : Candidate) (h : d.sign = c.sign) (fell : Bool) : s.Arbitrated l ((s.queued q).sendFrame d fell) :=
      State.sendFrame_arbitrated (h ▸ hl) fell q
    have hqueue (d : Candidate) (fell : Bool) : ((s.queued q).sendFrame d fell).lib.missQueue = q := by
      rw [State.sendFrame_eq]
      rfl
    have hasked (e d : Candidate) (fell : Bool) (h : s.Asked e (s.queued q)) : asked e ((s.queued q).sendFrame d fell) := fun p hp hf => by
      rw [hqueue]
      exact h p hp hf
    cases hr : s.ready c with
    | true =>
      rw [hsends hr]
      refine ⟨hframe _ (hreach c rfl false), fun d hd hdc => hasked d c false (hahead d ((hoffered d).1 hd) hdc),
        fun hn => absurd ((hready c).2 hr) hn, c, false, .inl ⟨rfl, (hready c).2 hr, rfl⟩, ?_, s.sendFrame_lru1 c false q⟩
      exact (hsent c ⟨rfl, rfl, rfl⟩ false).trans (State.sentLine_of hl ⟨rfl, rfl, rfl⟩ false)
    | false =>
      obtain ⟨hask, hsend⟩ := hfalls hr
      obtain ⟨d, hd⟩ := ((hgoes c).1 hgo).resolve_left (by rw [hr]; decide)
      have hsame := State.fallbackOf_cls hd
      rw [hsend d hd]
      refine ⟨hframe _ (hreach d hsame.1 true), fun e he hec => hasked e d true (hahead e ((hoffered e).1 he) hec),
        fun _ => hasked c d true hask, d, true, .inr ⟨rfl, (hfall c d).2 ⟨hr, hd⟩⟩, ?_, s.sendFrame_lru1 d true q⟩
      exact (hsent d hsame true).trans (State.sentLine_of hl hsame true)

end Sys2Proof.Machine
end

section
/-! SUPPORT. What a changed library page has the signs and the lines do (R128, R141, R167). -/

namespace Sys2Proof.Machine

/-- A sign that differs from another in its needs alone. -/
def Sign.Needs (a b : Sign) : Prop := { b with need := a.need, holdNeed := a.holdNeed, restoreNeed := a.restoreNeed } = a

theorem Sign.Needs.rfl {a : Sign} : a.Needs a := Eq.refl a

theorem Sign.Needs.trans {a b c : Sign} (h : a.Needs b) (k : b.Needs c) : a.Needs c := by
  unfold Sign.Needs at *
  rw [← h, ← k]

theorem Sign.Wakes.needs {now : Tick} {a b : Sign} (h : a.Wakes now b) : a.Needs b ∧ b.need = a.need := by
  rcases h with rfl | rfl
  · exact ⟨.rfl, Eq.refl _⟩
  · exact ⟨Eq.refl _, Eq.refl _⟩

/-- What the signs that show a changed page, as wanted and with no need, have led to: their PLAN needs and the wakes of their lines. -/
structure State.Told (s : State) (raised : Fin 16 → Prop) (u : State) : Prop where
  frame : u.exceptSigns = s.exceptSigns
  sign : ∀ n, (s.sign n).Needs (u.sign n)
  raise : ∀ n, raised n → (u.sign n).need = .plan ((s.sign n).planClass == .hazard) s.now
  keep : ∀ n, ¬raised n → (u.sign n).need = (s.sign n).need
  lines : ∀ l, (s.line l).holds → ((u.line l).wakeCause = 2 ∧ u.reported (.line l) Flag.lineWake) ∨
    ((u.line l).holds ∧ ∀ n, lineOf n = l → ¬raised n)
  flight : ∀ l, (u.line l).inFlight = (s.line l).inFlight

theorem State.Told.congr {s u : State} {P Q : Fin 16 → Prop} (h : s.Told P u) (hpq : ∀ n, P n ↔ Q n) : s.Told Q u := by
  obtain rfl : P = Q := funext fun n => propext (hpq n)
  exact h

theorem State.Told.refl (s : State) : s.Told (fun _ => False) s :=
  ⟨rfl, fun _ => .rfl, fun _ h => h.elim, fun _ _ => rfl, fun _ hl => .inr ⟨hl, fun _ _ h => h⟩, fun _ => rfl⟩

/-- Whether a sign shows a page depends on its needs by the DPL need alone. -/
theorem Sign.Needs.showsChanged {a b : Sign} (h : a.Needs b) (hn : b.need = a.need) (p : Page) : b.showsChanged p = a.showsChanged p := by
  unfold Sign.Needs at h
  rw [← h]
  unfold Sign.showsChanged Sign.configured
  rw [hn]

theorem State.askArbitration_line (s : State) (l j : Fin 2) :
    (s.askArbitration l).line j = if l = j then { s.line l with arbitrate := true } else s.line j := by
  unfold State.askArbitration
  rw [State.updLine_eq, State.setLine_line]

/-- One sign is told of a changed page. -/
theorem State.Told.tell {s u : State} {R : Fin 16 → Prop} (h : s.Told R u) (p : Page) (n : Fin 16) :
    s.Told (fun m => R m ∨ (m = n ∧ (s.sign n).showsChanged p = true)) (State.pageChangedFor p u n) := by
  have hfresh (hR : ¬R n) : (u.sign n).showsChanged p = (s.sign n).showsChanged p := (h.sign n).showsChanged (h.keep n hR) p
  have hnow : u.now = s.now := now_of_exceptSigns h.frame
  unfold State.pageChangedFor
  by_cases hs : (u.sign n).showsChanged p = true
  · have hnone : (u.sign n).need = .none := by
      unfold Sign.showsChanged at hs
      simp only [Bool.and_eq_true, beq_iff_eq] at hs
      exact hs.2
    have hR : ¬R n := fun hR => by
      rw [h.raise n hR] at hnone
      cases hnone
    have hclass : (u.sign n).planClass = (s.sign n).planClass := by
      rw [← h.sign n]
    have hv : (u.updSign n (Sign.raisePlan u.now true)).lines = u.lines := rfl
    have hvsign (m : Fin 16) : (u.updSign n (Sign.raisePlan u.now true)).sign m =
        if n = m then Sign.raisePlan u.now true (u.sign n) else u.sign m := State.setSign_sign _ _ _ _
    have hvnow : (u.updSign n (Sign.raisePlan u.now true)).now = s.now := hnow
    have hvframe : (u.updSign n (Sign.raisePlan u.now true)).exceptSigns = s.exceptSigns :=
      (State.updSign_exceptSigns ..).trans h.frame
    have hvreported (o : Obj) (f : BitVec 16) (ho : u.reported o f) : (u.updSign n (Sign.raisePlan u.now true)).reported o f := ho
    rw [if_pos hs]
    generalize u.updSign n (Sign.raisePlan u.now true) = v at *
    have hvline (l : Fin 2) : v.line l = u.line l := by rw [State.line, hv, State.line]
    have hwakes := (v.wake_wakes (lineOf n) 2).1
    have hvneeds (m : Fin 16) : (s.sign m).Needs (v.sign m) := by
      refine (h.sign m).trans ?_
      rw [hvsign]
      split
      · next hm => subst hm; exact Eq.refl _
      · exact .rfl
    have hsign (m : Fin 16) : (v.needRaised n 2).sign m = (v.wake (lineOf n) 2).sign m := rfl
    have hneed (m : Fin 16) : ((v.needRaised n 2).sign m).need = (v.sign m).need := by rw [hsign, (hwakes m).needs.2]
    refine ⟨?_, fun m => ?_, fun m hm => ?_, fun m hm => ?_, fun l hl => ?_, fun l => ?_⟩
    · rw [State.needRaised, State.askArbitration_exceptSigns, State.wake_exceptSigns, hvframe]
    · rw [hsign]
      exact (hvneeds m).trans (hwakes m).needs.1
    · rw [hneed, hvsign]
      split
      · next hmn =>
        subst hmn
        simp [Sign.raisePlan, hclass, hnow]
      · next hmn => exact h.raise m (hm.resolve_right fun hx => hmn hx.1.symm)
    · have hmn : ¬n = m := fun hmn => hm (.inr ⟨hmn.symm, by rw [← hfresh hR]; exact hs⟩)
      rw [hneed, hvsign, if_neg hmn]
      exact h.keep m fun hRm => hm (.inl hRm)
    · have hask (w : State) : ((w.askArbitration (lineOf n)).line l).wakeCause = (w.line l).wakeCause ∧
          (((w.askArbitration (lineOf n)).line l).holds ↔ (w.line l).holds) := by
        rw [State.askArbitration_line]
        split
        · next hln => subst hln; exact ⟨rfl, Iff.rfl⟩
        · exact ⟨rfl, Iff.rfl⟩
      have hraised : v.needRaised n 2 = (v.wake (lineOf n) 2).askArbitration (lineOf n) := rfl
      rw [hraised, (hask _).1, (hask _).2]
      by_cases hholds : (v.line (lineOf n)).holds
      · have hwoken := State.wake_woken hholds 2
        by_cases hln : l = lineOf n
        · subst hln
          exact .inl ⟨by rw [hwoken.line], hwoken.wakes⟩
        · rw [hwoken.other l hln, hvline]
          refine (h.lines l hl).imp (fun ⟨hcause, hrep⟩ => ⟨hcause, ?_⟩) fun ⟨hkeeps, hnone⟩ => ⟨hkeeps, fun m hml hm => ?_⟩
          · exact (recordStable_reported _ _).toStepStable.toRetentionStable.wake (hvreported _ _ hrep)
          · exact hm.elim (hnone m hml) fun hmn => hln (by rw [← hml, hmn.1])
      · rw [State.wake_of_rests hholds, hvline]
        refine (h.lines l hl).imp (fun ⟨hcause, hrep⟩ => ⟨hcause, hvreported _ _ hrep⟩) fun ⟨hkeeps, hnone⟩ => ⟨hkeeps, fun m hml hm => ?_⟩
        refine hm.elim (hnone m hml) fun hmn => hholds ?_
        rw [hvline, ← hmn.1, hml]
        exact hkeeps
    · have hwake : ((v.wake (lineOf n) 2).line l).inFlight = (v.line l).inFlight := by
        by_cases hholds : (v.line (lineOf n)).holds
        · have hwoken := State.wake_woken hholds 2
          by_cases hln : l = lineOf n
          · subst hln
            rw [hwoken.line]
          · rw [hwoken.other l hln]
        · rw [State.wake_of_rests hholds]
      have hask : (((v.wake (lineOf n) 2).askArbitration (lineOf n)).line l).inFlight = ((v.wake (lineOf n) 2).line l).inFlight := by
        rw [State.askArbitration_line]
        split
        · next hln => subst hln; rfl
        · rfl
      exact (hask.trans hwake).trans ((congrArg Line.inFlight (hvline l)).trans (h.flight l))
  · rw [if_neg hs]
    exact h.congr fun m => ⟨.inl, fun hm => hm.elim id fun ⟨hmn, hshow⟩ => by
      subst hmn
      by_contra hR
      exact hs ((hfresh hR).trans hshow)⟩

theorem State.Told.page {s u : State} {R : Fin 16 → Prop} (h : s.Told R u) (p : Page) :
    s.Told (fun m => R m ∨ (s.sign m).showsChanged p = true) (u.pageChanged p) := by
  have key (ns : List (Fin 16)) (R : Fin 16 → Prop) (u : State) (h : s.Told R u) :
      s.Told (fun m => R m ∨ (m ∈ ns ∧ (s.sign m).showsChanged p = true)) (ns.foldl (State.pageChangedFor p) u) := by
    induction ns generalizing R u with
    | nil => exact h.congr fun m => by simp
    | cons n ns ih =>
      refine (ih _ _ (h.tell p n)).congr fun m => ?_
      rw [List.mem_cons, or_and_right, ← or_assoc]
      have hmn : (m = n ∧ (s.sign n).showsChanged p = true) ↔ (m = n ∧ (s.sign m).showsChanged p = true) :=
        and_congr_right fun hmn => by rw [hmn]
      rw [hmn]
  exact (key _ R u h).congr fun m => by simp

theorem State.Told.pages {s : State} (ps : List Page) :
    s.Told (fun m => ∃ p ∈ ps, (s.sign m).showsChanged p = true) (ps.foldl State.pageChanged s) := by
  have key (ps : List Page) (R : Fin 16 → Prop) (u : State) (h : s.Told R u) :
      s.Told (fun m => R m ∨ ∃ p ∈ ps, (s.sign m).showsChanged p = true) (ps.foldl State.pageChanged u) := by
    induction ps generalizing R u with
    | nil => exact h.congr fun m => by simp
    | cons p ps ih =>
      have hstep := ih _ _ (h.page p)
      rw [List.foldl_cons]
      refine hstep.congr fun m => ?_
      simp only [List.mem_cons, or_assoc, exists_eq_or_imp]
  exact (key ps _ s (.refl s)).congr fun m => by simp

theorem Sign.showsChanged_iff (g : Sign) (p : Page) : g.showsChanged p = true ↔
    g.cfg.role ≠ .none ∧ g.shown.page = some p ∧ g.shown.fallback = false ∧ g.need = .none := by
  simp [Sign.showsChanged, Sign.configured, and_assoc]

end Sys2Proof.Machine
end

section
/-! SUPPORT. How the port goes on after an operation, what becomes of cached strips, and the bytes of slots and of block 0 (R171, R174,
R177, R178, R181). -/

namespace Sys2Proof.Machine

/-! ### The port after an operation (R174) -/

/-- The library of a free port, once it has taken its next operation. -/
theorem State.portFree_quiet {v : State} (hm : v.lib.missQueue = []) :
    ∃ L : Library, v.portFree = { v with lib := L } ∧ L.cache = v.lib.cache ∧ L.rests := by
  have hfree : v.portFree = ({ v with lib := { v.lib with port := .idle, opTicks := 0 } } : State).portChoice := rfl
  have hfill : ({ v with lib := { v.lib with port := .idle, opTicks := 0 } } : State).nextFill = none := State.nextFill_none hm
  rw [hfree]
  cases hw : v.lib.workQueue with
  | nil =>
    refine ⟨{ v.lib with port := .idle, opTicks := 0 }, ?_, rfl, .inr ⟨hm, hw⟩⟩
    exact State.portChoice_rests (s := { v with lib := { v.lib with port := .idle, opTicks := 0 } }) (.inr ⟨hm, hw⟩)
  | cons it rest =>
    have hstart := State.portChoice_start (s := { v with lib := { v.lib with port := .idle, opTicks := 0 } }) rfl hfill hw
    refine ⟨_, hstart, rfl, .inl ?_⟩
    dsimp only
    unfold State.opOf
    split <;> exact fun h => by cases h

/-- How a step ends whose operation has left a state with the port to go on. -/
structure State.Ends (v t : State) : Prop where
  traffic : t.exceptTraffic = v.exceptTraffic
  keeps : ∀ P : Page → Prop, (∀ p ∉ v.lib.faulted, P p) → Library.Keeps P v.lib t.lib
  line : ∀ l, (v.line l).Exchanges (t.line l)
  reported : ∀ o f, v.reported o f → t.reported o f
  cache : v.linesBusy → v.lib.missQueue = [] → t.lib.cache = v.lib.cache

theorem State.portFree_exceptTraffic (v : State) : v.portFree.exceptTraffic = v.exceptTraffic := State.portChoice_exceptTraffic _

theorem State.portFree_finish (v : State) : v.Ends v.portFree.finish where
  traffic := (State.finish_exceptTraffic _).trans v.portFree_exceptTraffic
  keeps P hp := by
    have hidle : Library.Keeps P v.lib (v.updLib fun lib => { lib with port := .idle, opTicks := 0 }).lib := .of_eq ⟨rfl, rfl, rfl, rfl, rfl, rfl⟩ rfl id
    have hfree : Library.Keeps P v.lib v.portFree.lib := hidle.trans (State.portChoice_libKeeps _)
    exact hfree.trans (State.serveLines_libKeeps 8 (hfree.open hp))
  line l := (exchangeStable_line l _).finish ((exchangeStable_line l _).portFree rfl)
  reported o f h := (recordStable_reported o f).toStepStable.finish ((recordStable_reported o f).toStepStable.portFree h)
  cache hb hm := by
    obtain ⟨L, hL, hcache, hrest⟩ := State.portFree_quiet hm
    rw [hL, State.finish_rests (s := { v with lib := L }) hrest hb]
    exact hcache

/-- Where no sign is handed over, a step whose operation ends so. -/
theorem State.conclude_portFree {a v : State}
    (h : ∀ n : Fin 16, (v.sign n).cfg = (a.sign n).cfg ∧ (v.sign n).shown = (a.sign n).shown ∧ (v.sign n).service = (a.sign n).service) :
    v.Ends (State.conclude a v.portFree) := by
  have hsign (n : Fin 16) : v.portFree.sign n = v.sign n := by
    rw [State.sign, signs_of_exceptTraffic v.portFree_exceptTraffic, State.sign]
  rw [State.conclude, State.handSigns_of_unchanged a v.portFree fun n => by rw [hsign]; exact h n]
  exact v.portFree_finish

theorem State.conclude_portFree_signs {a v : State} (h : v.signs = a.signs) : v.Ends (State.conclude a v.portFree) :=
  State.conclude_portFree fun n => by
    have hsign : v.sign n = a.sign n := by rw [State.sign, h, State.sign]
    rw [hsign]
    exact ⟨rfl, rfl, rfl⟩

/-! ### Cached strips (R172, R177, R178) -/

/-- What page a way holds depends on its flag and its tag alone. -/
theorem State.cachedWay_congr {s t : State} (h : ∀ (k : Fin 32) (w : Bool), (t.lib.cache[k].way w).tag = (s.lib.cache[k].way w).tag ∧
    (t.lib.cache[k].way w).valid = (s.lib.cache[k].way w).valid) (p : Page) : t.cachedWay p = s.cachedWay p := by
  have hholds (w : Bool) : ((t.cacheSet p).way w).holds p = ((s.cacheSet p).way w).holds p := by
    unfold CacheLine.holds State.cacheSet
    rw [(h _ w).1, (h _ w).2]
  have h0 : (t.cacheSet p).way0.holds p = (s.cacheSet p).way0.holds p := hholds false
  have h1 : (t.cacheSet p).way1.holds p = (s.cacheSet p).way1.holds p := hholds true
  unfold State.cachedWay
  rw [h0, h1]

/-- Some pages' cached strips made INVALID, and nothing else. -/
structure State.Dropped (s : State) (ps : List Page) (u : State) : Prop where
  frame : ∃ C, u = { s with lib := { s.lib with cache := C } }
  strips : ∀ q ∈ ps, ∀ w : Bool, s.cachedWay q = some w → ∀ i : Fin 8, (u.strip q w i).valid = false
  other : ∀ (k : Fin 32) (w : Bool), (∀ p ∈ ps, (s.lib.cache[k].way w).tag * 32 + k.val ≠ p.toNat) → u.lib.cache[k].way w = s.lib.cache[k].way w
  tags : ∀ (k : Fin 32) (w : Bool), (u.lib.cache[k].way w).tag = (s.lib.cache[k].way w).tag ∧
    (u.lib.cache[k].way w).valid = (s.lib.cache[k].way w).valid

/-- A line with every strip INVALID. -/
def CacheLine.emptied (c : CacheLine) : CacheLine := { c with strips := Vector.ofFn fun i => { c.strips[i] with valid := false } }

theorem CacheLine.emptied_strip (c : CacheLine) (i : Fin 8) : (c.emptied.strips[i]).valid = false := by
  simp [CacheLine.emptied]

theorem State.updWay_way (s : State) (p : Page) (w : Bool) (f : CacheLine → CacheLine) (k : Fin 32) (v : Bool) :
    (s.updWay p w f).lib.cache[k].way v = if k = setOfPage p ∧ v = w then f (s.lib.cache[k].way v) else s.lib.cache[k].way v := by
  by_cases hk : k = setOfPage p
  · subst hk
    have hset := s.updWay_cache_same p w f
    unfold State.cacheSet at hset
    rw [hset]
    by_cases hv : v = w
    · subst hv
      rw [CacheSet.way_setWay, if_pos ⟨rfl, rfl⟩]
    · obtain rfl : v = !w := by cases v <;> cases w <;> simp_all
      rw [CacheSet.way_setWay_other, if_neg (fun h => hv h.2)]
  · rw [s.updWay_cache_other w f hk, if_neg (fun h => hk h.1)]

theorem State.dropPage_dropped {s u : State} {ps : List Page} (h : s.Dropped ps u) (p : Page) : s.Dropped (p :: ps) (u.dropPage p) := by
  have hcached := State.cachedWay_congr h.tags p
  unfold State.dropPage
  rw [hcached]
  cases hw : s.cachedWay p with
  | none =>
    refine ⟨h.frame, fun q hq w hqw i => ?_, fun k w hne => h.other k w fun q hq => hne q (List.mem_cons_of_mem _ hq), h.tags⟩
    rcases List.mem_cons.1 hq with rfl | hq
    · rw [hw] at hqw
      cases hqw
    · exact h.strips q hq w hqw i
  | some w =>
    obtain ⟨h8, hholds⟩ := State.cachedWay_some hw
    have hway (k : Fin 32) (v : Bool) : (u.updWay p w CacheLine.emptied).lib.cache[k].way v =
        if k = setOfPage p ∧ v = w then (u.lib.cache[k].way v).emptied else u.lib.cache[k].way v := u.updWay_way p w _ k v
    have htags (k : Fin 32) (v : Bool) : ((u.updWay p w CacheLine.emptied).lib.cache[k].way v).tag = (s.lib.cache[k].way v).tag ∧
        ((u.updWay p w CacheLine.emptied).lib.cache[k].way v).valid = (s.lib.cache[k].way v).valid := by
      rw [hway]
      split <;> exact h.tags k v
    refine ⟨?_, fun q hq v hqv i => ?_, fun k v hne => ?_, htags⟩
    · obtain ⟨C, rfl⟩ := h.frame
      exact ⟨_, rfl⟩
    · have hstrip : (u.updWay p w CacheLine.emptied).strip q v i =
          (if setOfPage q = setOfPage p ∧ v = w then (u.lib.cache[setOfPage q].way v).emptied else u.lib.cache[setOfPage q].way v).strips[i] :=
        congrArg (fun c : CacheLine => c.strips[i]) (hway (setOfPage q) v)
      refine (congrArg Strip.valid hstrip).trans ?_
      split
      · exact CacheLine.emptied_strip _ i
      · next hne =>
        rcases List.mem_cons.1 hq with rfl | hq
        · rw [hw] at hqv
          cases hqv
          exact absurd ⟨rfl, rfl⟩ hne
        · exact h.strips q hq v hqv i
    · have hnot : ¬(k = setOfPage p ∧ v = w) := fun ⟨hk, hv⟩ => by
        subst hk hv
        refine hne p List.mem_cons_self ?_
        have htag : (s.lib.cache[setOfPage p].way v).tag = p.toNat / 32 := by
          unfold CacheLine.holds at hholds
          simp only [Bool.and_eq_true, beq_iff_eq] at hholds
          exact hholds.2
        rw [htag]
        change p.toNat / 32 * 32 + p.toNat % 32 = p.toNat
        omega
      exact ((hway k v).trans (if_neg hnot)).trans (h.other k v fun q hq => hne q (List.mem_cons_of_mem _ hq))

theorem State.dropPages_dropped (s : State) (ps : List Page) : s.Dropped ps.reverse (ps.foldl State.dropPage s) := by
  have key (ps ds : List Page) (u : State) (h : s.Dropped ds u) : s.Dropped (ps.reverse ++ ds) (ps.foldl State.dropPage u) := by
    induction ps generalizing ds u with
    | nil => exact h
    | cons p ps ih =>
      have hstep := ih (p :: ds) (u.dropPage p) (State.dropPage_dropped h p)
      rw [List.reverse_cons, List.append_assoc, List.foldl_cons]
      exact hstep
  have hnone : s.Dropped [] s := ⟨⟨s.lib.cache, rfl⟩, fun _ hq => absurd hq List.not_mem_nil, fun _ _ _ => rfl, fun _ _ => ⟨rfl, rfl⟩⟩
  have hall := key ps [] s hnone
  rwa [List.append_nil] at hall

theorem mem_blockPages (b : Fin 512) (q : Page) : q ∈ blockPages b ↔ q.toNat / 8 = b.val := by
  unfold blockPages
  constructor
  · intro h
    obtain ⟨i, hi, rfl⟩ := List.mem_map.1 h
    rw [List.mem_range] at hi
    rw [BitVec.toNat_ofNat, Nat.mod_eq_of_lt (by omega)]
    omega
  · intro h
    refine List.mem_map.2 ⟨q.toNat % 8, List.mem_range.2 (Nat.mod_lt _ (by decide)), ?_⟩
    have hq : 8 * b.val + q.toNat % 8 = q.toNat := by omega
    rw [hq, BitVec.ofNat_toNat, BitVec.setWidth_eq]

/-! ### Bytes of slots and of block 0 (R171, R177, R181) -/

theorem slotHead_bytes (d : StripData) : bytesBE 34 (slotHead d) = bytesBE 32 d ++ bytesBE 2 (crc16 (bytesBE 32 d)) := by
  unfold slotHead
  generalize crc16 (bytesBE 32 d) = c
  refine List.ext_getElem (by simp) fun i h1 h2 => ?_
  rw [bytesBE_length] at h1
  rw [bytesBE_getElem]
  by_cases hi : i < 32
  · rw [List.getElem_append_left (by rw [bytesBE_length]; exact hi), bytesBE_getElem]
    refine BitVec.eq_of_getLsbD_eq fun k hk => ?_
    simp only [BitVec.getLsbD_setWidth, BitVec.getLsbD_ushiftRight, BitVec.getLsbD_append]
    have hlow : ¬8 * (34 - 1 - i) + k < 16 := by omega
    have hshift : 8 * (34 - 1 - i) + k - 16 = 8 * (32 - 1 - i) + k := by omega
    rw [if_neg hlow, hshift]
  · rw [List.getElem_append_right (by rw [bytesBE_length]; omega), bytesBE_getElem]
    refine BitVec.eq_of_getLsbD_eq fun k hk => ?_
    simp only [BitVec.getLsbD_setWidth, BitVec.getLsbD_ushiftRight, BitVec.getLsbD_append, bytesBE_length]
    have hlow : 8 * (34 - 1 - i) + k < 16 := by omega
    have hshift : 8 * (34 - 1 - i) + k = 8 * (2 - 1 - (i - 32)) + k := by omega
    rw [if_pos hlow, hshift]

/-- Block 0 after a completed save is a good profile, whatever the image. -/
theorem profileResult_writeProfile {m : Flash} (p : Profile) (g : m.wf = true) : profileResult (writeProfile m p) = .loaded := by
  have l2 (x : Nat) : (u16 x).length = 2 := by simp [u16]
  have hlength := imageLength_writeProfile m p g
  have part (a n : Nat) (x y z : List Byte) (e : profileBytes p = x ++ y ++ z) (ha : a = x.length) (hn : n = y.length) :
      flashBytes (writeProfile m p) a n = y := hn ▸ flashBytes_writeProfile m p g a x y z e ha
  have hword := part 0 2 [] (u16 0xA640) (u16 p.image.length ++ p.image ++ bytesBE 2 (crc16 (u16 0xA640 ++ u16 p.image.length ++ p.image)))
    (by simp [profileBytes]) rfl (l2 _).symm
  have hheader := part 0 4 [] (u16 0xA640 ++ u16 p.image.length) (p.image ++ bytesBE 2 (crc16 (u16 0xA640 ++ u16 p.image.length ++ p.image)))
    (by simp [profileBytes]) rfl (by rw [List.length_append, l2, l2])
  have hbody := part 0 (4 + p.image.length) [] (u16 0xA640 ++ u16 p.image.length ++ p.image)
    (bytesBE 2 (crc16 (u16 0xA640 ++ u16 p.image.length ++ p.image))) rfl rfl (by rw [List.length_append, List.length_append, l2, l2])
  have hcheck := part (4 + p.image.length) 2 (u16 0xA640 ++ u16 p.image.length ++ p.image)
    (bytesBE 2 (crc16 (u16 0xA640 ++ u16 p.image.length ++ p.image))) [] (by simp [profileBytes])
    (by rw [List.length_append, List.length_append, l2, l2]) (bytesBE_length 2 _).symm
  have hfound : ¬((u16 0xA640 ++ u16 p.image.length).all (· == 0xFF) = true) := by
    rw [List.all_append, show (u16 0xA640).all (· == 0xFF) = false from rfl]
    simp
  rw [profileResult, hheader, if_neg hfound, hlength, hword, hbody, hcheck]
  exact if_pos ⟨by rw [ofBytesBE_u16]; rfl, by rw [p.image_length]; decide, (ofBytesBE_bytesBE 2 _).symm⟩

/-- What block 0 reads as after a completed save, and the flash behind it. -/
theorem flashRead_writeProfile_all {m : Flash} (p : Profile) (g : m.wf = true) (a : Nat) :
    flashRead (writeProfile m p) a = if a < 4096 then ((profileBytes p)[a]?).getD 0xFF else flashRead m a := by
  have hl := profileBytes_length p
  by_cases ha : a < (profileBytes p).length
  · rw [if_pos (by omega), List.getElem?_eq_getElem ha]
    exact flashRead_writeProfile m p g a ha
  · have hout : flashRead (writeProfile m p) a = flashRead (flashErase m 0 4096) a :=
      flashRead_flashProgram_outside _ 0 a _ (.inr (by omega))
    rw [hout, flashRead_flashErase, List.getElem?_eq_none (by omega)]
    simp

end Sys2Proof.Machine
end

section
/-! SUPPORT. How a program, an erase and a save that complete or fail leave the device (R128, R167, R174, R177, R178, R181). -/

namespace Sys2Proof.Machine

/-! ### An operation that fails -/

theorem flash_of_exceptTraffic {s t : State} (h : t.exceptTraffic = s.exceptTraffic) : t.flash = s.flash := (congrArg State.flash h :)

theorem freeCount_of_exceptTraffic {s t : State} (h : t.exceptTraffic = s.exceptTraffic) : t.freeCount = s.freeCount :=
  (congrArg State.freeCount h :)

/-- A failed work item: the last failure with its reason, the report, and nothing else but the port's next operation. -/
structure State.FailedBy (x : State) (it : WorkItem) (r : FailReason) (t : State) : Prop where
  traffic : t.exceptTraffic = x.exceptTraffic
  failure : t.lib.lastFailure = some (it, r)
  report : t.reported .library Flag.libWriteFailed
  cache : x.linesBusy → x.lib.missQueue = [] → t.lib.cache = x.lib.cache

theorem State.conclude_workFailed {a x : State} (h : x.signs = a.signs) (it : WorkItem) (r : FailReason) :
    x.FailedBy it r (State.conclude a (x.workFailed it r).portFree) := by
  have hends := State.conclude_portFree_signs (a := a) (v := x.workFailed it r) h
  have hkeeps := hends.keeps (fun _ => True) fun _ _ => trivial
  exact ⟨hends.traffic, hkeeps.lastFailure, hends.reported _ _ (State.post_reported_of _ _ (by decide)), hends.cache⟩

/-! ### An operation that completes -/

/-- What a changed page has led to: the needs of the signs that show it, and the wakes of their lines. -/
def State.PageTold (s : State) (here : Page → Prop) (t : State) : Prop := ∀ n : Fin 16,
  let g := s.sign n
  let shows : Prop := g.cfg.role ≠ .none ∧ g.shown.fallback = false ∧ g.need = .none ∧ ∃ q : Page, g.shown.page = some q ∧ here q
  { t.sign n with need := g.need, holdNeed := g.holdNeed, restoreNeed := g.restoreNeed } = g ∧
    (shows → (t.sign n).need = .plan (g.planClass == .hazard) s.now ∧
      ((s.line (lineOf n)).state = .holdEntry ∨ (s.line (lineOf n)).state = .held →
        (t.line (lineOf n)).wakeCause = 2 ∧ t.reported (.line (lineOf n)) Flag.lineWake)) ∧
    (¬shows → (t.sign n).need = g.need)

/-- A completed work item: the last completed number, its report, the signs told, and nothing else but the port's next operation. -/
structure State.DoneBy (b : State) (seq : Byte) (f : BitVec 16) (here : Page → Prop) (t : State) : Prop where
  outputs : t.exceptOutputs = b.exceptOutputs
  flash : t.flash = b.flash
  done : t.lib.lastDone = seq
  faulted : t.lib.faulted = b.lib.faulted
  report : t.reported .library f
  told : b.PageTold here t
  cache : b.linesBusy → b.lib.missQueue = [] → t.lib.cache = b.lib.cache

theorem Sign.Needs.unchanged {a b : Sign} (h : a.Needs b) : b.cfg = a.cfg ∧ b.shown = a.shown ∧ b.service = a.service := by
  rw [← h]
  exact ⟨Eq.refl _, Eq.refl _, Eq.refl _⟩

theorem State.Told.done {a b u x : State} {ps : List Page} {here : Page → Prop} {seq : Byte} {f : BitVec 16}
    (h : b.Told (fun m => ∃ p ∈ ps, (b.sign m).showsChanged p = true) u) (hab : b.signs = a.signs) (hps : ∀ q, here q ↔ q ∈ ps)
    (hx : x = u ∨ x = u.askBoth) (hf : f &&& f = f) : b.DoneBy seq f here (State.conclude a (x.workDone seq f).portFree) := by
  have hline (l : Fin 2) : (x.line l).inFlight = (u.line l).inFlight ∧ (x.line l).wakeCause = (u.line l).wakeCause := by
    rcases hx with rfl | rfl
    · exact ⟨rfl, rfl⟩
    · rw [State.askBoth_line]
      exact ⟨rfl, rfl⟩
  have hframe : x.exceptSigns = b.exceptSigns := by
    rcases hx with rfl | rfl
    · exact h.frame
    · exact h.frame
  have hsign (n : Fin 16) : x.sign n = u.sign n := by rcases hx with rfl | rfl <;> rfl
  have hrep (o : Obj) (g : BitVec 16) (ho : u.reported o g) : x.reported o g := by
    rcases hx with rfl | rfl
    · exact ho
    · exact ho
  have hlib : x.lib = b.lib := (congrArg State.lib hframe :)
  have hends : (x.workDone seq f).Ends (State.conclude a (x.workDone seq f).portFree) := by
    refine State.conclude_portFree fun n => ?_
    have hbn : b.sign n = a.sign n := by rw [State.sign, hab, State.sign]
    have hv : (x.workDone seq f).sign n = x.sign n := rfl
    rw [hv, hsign, ← hbn]
    exact (h.sign n).unchanged
  have hkeeps := hends.keeps (fun _ => True) fun _ _ => trivial
  have hvframe : (x.workDone seq f).exceptOutputs = x.exceptOutputs := rfl
  have hvfaulted : (x.workDone seq f).lib.faulted = x.lib.faulted := rfl
  have hvflash : (x.workDone seq f).flash = x.flash := rfl
  refine ⟨?_, ?_, hkeeps.lastDone, ?_, hends.reported _ _ (State.post_reported_of _ _ hf), fun n => ?_, fun hb hm => ?_⟩
  · rw [exceptOutputs_of_exceptTraffic hends.traffic, hvframe, exceptOutputs_of_exceptSigns hframe]
  · rw [flash_of_exceptTraffic hends.traffic, hvflash]
    exact (congrArg State.flash hframe :)
  · rw [hkeeps.faulted, hvfaulted, hlib]
  · generalize State.conclude a (x.workDone seq f).portFree = t at *
    have htsign : t.sign n = u.sign n := by
      have hsame : (x.workDone seq f).sign n = x.sign n := rfl
      rw [State.sign, signs_of_exceptTraffic hends.traffic, ← State.sign, hsame, hsign]
    have hshows : ((b.sign n).cfg.role ≠ .none ∧ (b.sign n).shown.fallback = false ∧ (b.sign n).need = .none ∧
        ∃ q : Page, (b.sign n).shown.page = some q ∧ here q) ↔ ∃ p ∈ ps, (b.sign n).showsChanged p = true := by
      simp only [Sign.showsChanged_iff, hps]
      exact ⟨fun ⟨h1, h2, h3, q, hq, hin⟩ => ⟨q, hin, h1, hq, h2, h3⟩, fun ⟨q, hin, h1, hq, h2, h3⟩ => ⟨h1, h2, h3, q, hq, hin⟩⟩
    dsimp only
    rw [htsign, hshows]
    refine ⟨h.sign n, fun hs => ⟨h.raise n hs, fun hl => ?_⟩, h.keep n⟩
    obtain ⟨hcause, hwake⟩ := (h.lines _ hl).resolve_right fun hno => hno.2 n rfl hs
    have hex := hends.line (lineOf n)
    have hvline : (x.workDone seq f).line (lineOf n) = x.line (lineOf n) := rfl
    have htcause : (t.line (lineOf n)).wakeCause = ((x.workDone seq f).line (lineOf n)).wakeCause := by rw [hex]
    exact ⟨by rw [htcause, hvline, (hline _).2, hcause], hends.reported _ _ (State.post_keeps _ _ _ _ _ (hrep _ _ hwake))⟩
  · have hbusy : (x.workDone seq f).linesBusy := fun l => by
      have hvline : (x.workDone seq f).line l = x.line l := rfl
      rw [hvline, (hline l).1, h.flight]
      exact hb l
    have hvlib : (x.workDone seq f).lib.cache = x.lib.cache ∧ (x.workDone seq f).lib.missQueue = x.lib.missQueue := ⟨rfl, rfl⟩
    rw [hends.cache hbusy (by rw [hvlib.2, hlib, hm]), hvlib.1, hlib]

/-! ### PROGRAM (R177) -/

/-- The cache once a completed PROGRAM has replaced its strip. -/
def State.replacedCache (s : State) (p : Page) (i : Fin 8) (d : StripData) : Vector CacheSet 32 :=
  match s.cachedWay p with
  | some w => (s.installStrip p w i d).lib.cache
  | none => s.lib.cache

/-- The cache with one strip of a page INVALID. -/
def State.droppedCache (s : State) (p : Page) (i : Fin 8) : Vector CacheSet 32 :=
  match s.cachedWay p with
  | some w => (s.dropStrip p w i).lib.cache
  | none => s.lib.cache

theorem State.replaceCached_eq (s : State) (p : Page) (i : Fin 8) (d : StripData) :
    s.replaceCached p i d = { s with lib := { s.lib with cache := s.replacedCache p i d } } := by
  unfold State.replaceCached State.replacedCache
  cases s.cachedWay p <;> rfl

theorem State.dropCached_eq (s : State) (p : Page) (i : Fin 8) :
    s.dropCached p i = { s with lib := { s.lib with cache := s.droppedCache p i } } := by
  unfold State.dropCached State.droppedCache
  cases s.cachedWay p <;> rfl

/-- The device as a completed PROGRAM leaves flash, cache and the list of faulted pages. -/
def State.programmed (s : State) (m : Flash) (p : Page) (i : Fin 8) (d : StripData) : State :=
  { s with flash := m, lib := { s.lib with cache := s.replacedCache p i d, faulted := s.lib.faulted.filter (· != p) } }

theorem State.programmed_eq (s : State) (m : Flash) (p : Page) (i : Fin 8) (d : StripData) :
    ((s.setFlash m).replaceCached p i d).unfault p = s.programmed m p i d := by
  rw [State.replaceCached_eq]
  rfl

section
variable {s : State} {seq : Byte} {p : Page} {i : Fin 8} {d : StripData} (hport : s.lib.port = .program seq p i d)
include hport

theorem State.programDone_equal {err : BitVec 272}
    (he : readSlotHead (flashProgram s.flash (slotAddress p i) (slotBytes d)) p i ^^^ err = slotHead d) : s.programDone err =
      ((((s.programmed (flashProgram s.flash (slotAddress p i) (slotBytes d)) p i d).pageChanged p).askBoth).workDone seq
        Flag.libWriteDone).portFree := by
  unfold State.programDone
  rw [hport]
  dsimp only
  rw [State.setFlash_flash, if_pos he, State.programmed_eq]

theorem State.programDone_differs {err : BitVec 272}
    (he : ¬readSlotHead (flashProgram s.flash (slotAddress p i) (slotBytes d)) p i ^^^ err = slotHead d) : s.programDone err =
      ((s.setFlash (flashProgram s.flash (slotAddress p i) (slotBytes d))).workFailed { seq := seq, kind := .program p i d } .verify).portFree := by
  unfold State.programDone
  rw [hport]
  dsimp only
  rw [State.setFlash_flash, if_neg he]

theorem State.timeoutFlash_program (hn : 8 ≤ s.lib.opTicks) : s.timeoutFlash =
    (((s.freeFlash (slotAddress p i) 64).dropCached p i).workFailed { seq := seq, kind := .program p i d } .flashTimeout).portFree := by
  have hover : s.lib.overdue = true := by
    unfold Library.overdue
    rw [hport]
    exact decide_eq_true hn
  unfold State.timeoutFlash
  rw [hover, hport]
  rfl

end

/-! ### ERASE (R178) -/

theorem State.unfaults_eq (s : State) (ps : List Page) :
    ∃ F : List Page, ps.foldl State.unfault s = { s with lib := { s.lib with faulted := F } } ∧ ∀ p ∈ ps, p ∉ F := by
  have key (ps : List Page) (F : List Page) : ∃ G : List Page, ps.foldl State.unfault { s with lib := { s.lib with faulted := F } } =
      { s with lib := { s.lib with faulted := G } } ∧ (∀ p, p ∉ F → p ∉ G) ∧ ∀ p ∈ ps, p ∉ G := by
    induction ps generalizing F with
    | nil => exact ⟨F, rfl, fun _ h => h, fun _ h => absurd h List.not_mem_nil⟩
    | cons p ps ih =>
      obtain ⟨G, hG, hout, hin⟩ := ih (F.filter (· != p))
      refine ⟨G, hG, fun q hq => hout q fun hf => hq (List.mem_of_mem_filter hf), fun q hq => ?_⟩
      rcases List.mem_cons.1 hq with rfl | hq
      · exact hout q fun hf => by simpa using List.of_mem_filter hf
      · exact hin q hq
  obtain ⟨G, hG, -, hin⟩ := key ps s.lib.faulted
  exact ⟨G, hG, hin⟩

end Sys2Proof.Machine
end

section
/-! PROOF. How the items of the work queue end (R128, R167, R171, R174, R176 to R178, R181). -/

namespace Sys2Proof.Machine

theorem exec_programDone {s : State} (h : s.due = []) (err : BitVec 272) :
    exec (.programDone err) s = .next (State.conclude s (s.programDone err)) :=
  congrArg Host.Outcome.next (State.command_of_nil s (fun s => s.programDone err) h)

theorem exec_eraseDone {s : State} (h : s.due = []) : exec .eraseDone s = .next (State.conclude s s.eraseDone) :=
  congrArg Host.Outcome.next (State.command_of_nil s State.eraseDone h)

theorem exec_profileSaved {s : State} (h : s.due = []) (equal : Bool) :
    exec (.profileSaved equal) s = .next (State.conclude s (s.saveDone equal)) :=
  congrArg Host.Outcome.next (State.command_of_nil s (fun s => s.saveDone equal) h)

theorem exec_flashTimeout {s : State} (h : Due.flashTimeout ∈ s.due) : exec .flashTimeout s =
    .next (State.conclude s (State.timeoutFlash { s with due := s.due.erase .flashTimeout })) :=
  congrArg Host.Outcome.next (State.runEvent_concluded h rfl (by decide))

/-! ### Flash of unknown contents (R177, R178) -/

/-- A part of the flash given free values, counted by the state's counter; nothing else. -/
structure State.Freed (s : State) (a n : Nat) (t : State) : Prop where
  count : t.freeCount = s.freeCount + n
  due : t.due = s.due.erase .flashTimeout
  outside : ∀ b : Nat, b < a ∨ a + n ≤ b → flashRead t.flash b = flashRead s.flash b
  inside : ∀ k < n, flashRead t.flash (a + k) = Config.freeByte (s.freeCount + k)
  rest : { t.exceptOutputs with flash := s.flash, freeCount := s.freeCount, due := s.due } = s.exceptOutputs

/-- The device whose time limit has passed, with a part of its flash free. -/
def State.freed (s : State) (a n : Nat) : State := { s with due := s.due.erase .flashTimeout }.freeFlash a n

theorem State.Freed.of_traffic {s x t : State} {a n : Nat} (hw : s.flash.wf = true) (hx : x.exceptTraffic = (s.freed a n).exceptTraffic)
    (h : t.exceptTraffic = x.exceptTraffic) : s.Freed a n t := by
  have ht : t.exceptTraffic = (s.freed a n).exceptTraffic := h.trans hx
  have hflash : t.flash = flashWriteAll s.flash a (freeBytes s.freeCount n) := flash_of_exceptTraffic ht
  have hlength : (freeBytes s.freeCount n).length = n := freeBytes_length _ _
  refine ⟨freeCount_of_exceptTraffic ht, due_of_exceptOutputs (exceptOutputs_of_exceptTraffic ht), fun b hb => ?_, fun k hk => ?_, ?_⟩
  · rw [hflash]
    exact flashRead_flashWriteAll_outside _ _ _ _ (by rw [hlength]; exact hb)
  · rw [hflash, flashRead_flashWriteAll_inside _ _ _ _ hw (by rw [hlength]; exact hk)]
    simp [freeBytes]
  · rw [exceptOutputs_of_exceptTraffic ht]
    rfl

/-! ### Cached strips of an erased block -/

/-- What an erase or its failure leaves of the page cache. -/
structure State.BlockDropped (s : State) (b : Fin 512) (t : State) : Prop where
  strips : ∀ (q : Page) (w : Bool) (i : Fin 8), q.toNat / 8 = b.val → s.cachedWay q = some w → (t.strip q w i).valid = false
  other : ∀ (k : Fin 32) (w : Bool), ((s.lib.cache[k].way w).tag * 32 + k.val) / 8 ≠ b.val → t.lib.cache[k].way w = s.lib.cache[k].way w
  tags : ∀ (k : Fin 32) (w : Bool), (t.lib.cache[k].way w).tag = (s.lib.cache[k].way w).tag ∧
    (t.lib.cache[k].way w).valid = (s.lib.cache[k].way w).valid

theorem State.Dropped.block {s u t : State} {b : Fin 512} (h : s.Dropped (blockPages b).reverse u) (ht : t.lib.cache = u.lib.cache) :
    s.BlockDropped b t where
  strips q w i hq hw := by
    have hstrip : t.strip q w i = u.strip q w i := by
      unfold State.strip State.cacheSet
      rw [ht]
    rw [hstrip]
    exact h.strips q (List.mem_reverse.2 ((mem_blockPages b q).2 hq)) w hw i
  other k w hne := by
    rw [ht]
    refine h.other k w fun p hp heq => hne ?_
    rw [heq]
    exact (mem_blockPages b p).1 (List.mem_reverse.1 hp)
  tags k w := by
    rw [ht]
    exact h.tags k w

theorem State.timeoutFlash_erase {s : State} {seq : Byte} {b : Fin 512} (hport : s.lib.port = .erase seq b) (hn : 40 ≤ s.lib.opTicks) :
    s.timeoutFlash = (((blockPages b).foldl State.dropPage (s.freeFlash (4096 * b.val) 4096)).workFailed { seq := seq, kind := .erase b }
      .flashTimeout).portFree := by
  have hover : s.lib.overdue = true := by
    unfold Library.overdue
    rw [hport]
    exact decide_eq_true hn
  unfold State.timeoutFlash
  rw [hover, hport]
  rfl

theorem State.timeoutFlash_save {s : State} {seq : Byte} {image : Profile} (hport : s.lib.port = .save seq image) (hn : 80 ≤ s.lib.opTicks) :
    s.timeoutFlash = (s.spoilProfile.workFailed { seq := seq, kind := .saveProfile } .flashTimeout).portFree := by
  have hover : s.lib.overdue = true := by
    unfold Library.overdue
    rw [hport]
    exact decide_eq_true hn
  unfold State.timeoutFlash
  rw [hover, hport]
  rfl

theorem State.eraseDone_eq {s : State} {seq : Byte} {b : Fin 512} (hport : s.lib.port = .erase seq b) : s.eraseDone =
    (((blockPages b).foldl State.pageChanged ((blockPages b).foldl State.unfault ((blockPages b).foldl State.dropPage
      (s.setFlash (flashErase s.flash (4096 * b.val) (4096 * (b.val + 1))))))).workDone seq Flag.libEraseDone).portFree := by
  unfold State.eraseDone
  rw [hport]

/-! ### Block 0 after a save that failed (R181) -/

theorem State.spoilProfile_flash {s : State} (hw : s.flash.wf = true) : profileResult s.spoilProfile.flash = .bad ∧
    ∀ b : Nat, 4096 ≤ b → flashRead s.spoilProfile.flash b = flashRead s.flash b := by
  have hflash : s.spoilProfile.flash = flashWriteAll s.flash 0 (badBlock s.freeCount) := by rw [State.spoilProfile]
  have hlength := badBlock_length s.freeCount
  have hbad := profileResult_badBlock s.flash s.freeCount hw
  rw [hflash]
  generalize badBlock s.freeCount = bytes at *
  exact ⟨hbad, fun b hb => flashRead_flashWriteAll_outside _ _ _ _ (.inr (by rw [hlength, Nat.zero_add]; exact hb))⟩

theorem State.saveDone_good {s : State} {seq : Byte} {image : Profile} (hport : s.lib.port = .save seq image) :
    s.saveDone true = ((s.setFlash (writeProfile s.flash image)).workDone seq Flag.libProfileSaved).portFree := by
  unfold State.saveDone
  rw [hport]
  exact if_pos rfl

theorem State.saveDone_bad {s : State} {seq : Byte} {image : Profile} (hport : s.lib.port = .save seq image) :
    s.saveDone false = (s.spoilProfile.workFailed { seq := seq, kind := .saveProfile } .verify).portFree := by
  unfold State.saveDone
  rw [hport]
  exact if_neg (by decide)

/-! ### The obligation -/

/-- The device with its block erased, the block's pages dropped from the cache and from the list of faulted pages. -/
theorem State.erased_eq (s : State) (m : Flash) (b : Fin 512) : ∃ (C : Vector CacheSet 32) (F : List Page),
    (blockPages b).foldl State.unfault ((blockPages b).foldl State.dropPage (s.setFlash m)) =
      { s with flash := m, lib := { s.lib with cache := C, faulted := F } } ∧ (∀ p ∈ blockPages b, p ∉ F) ∧
      (s.setFlash m).Dropped (blockPages b).reverse ((blockPages b).foldl State.dropPage (s.setFlash m)) ∧
      ((blockPages b).foldl State.dropPage (s.setFlash m)).lib.cache = C := by
  have hdropped := (s.setFlash m).dropPages_dropped (blockPages b)
  obtain ⟨C, hC⟩ := hdropped.frame
  obtain ⟨F, hF, hout⟩ := ((blockPages b).foldl State.dropPage (s.setFlash m)).unfaults_eq (blockPages b)
  refine ⟨C, F, ?_, hout, hdropped, by rw [hC]⟩
  rw [hF, hC]
  rfl

/-- What a completed work item that has reached flash and library says of the device before it. -/
structure State.DoneFrom (s : State) (m : Flash) (L : Library) (seq : Byte) (f : BitVec 16) (here : Page → Prop) (t : State) : Prop where
  flash : t.flash = m
  rest : { t.exceptOutputs with flash := s.flash } = s.exceptOutputs
  done : t.lib.lastDone = seq
  faulted : t.lib.faulted = L.faulted
  report : t.reported .library f
  told : s.PageTold here t
  cache : s.linesBusy → L.missQueue = [] → t.lib.cache = L.cache

theorem State.DoneBy.from_before {s : State} {m : Flash} {L : Library} {seq : Byte} {f : BitVec 16} {here : Page → Prop} {t : State}
    (h : ({ s with flash := m, lib := L } : State).DoneBy seq f here t) : s.DoneFrom m L seq f here t :=
  ⟨h.flash, congrArg (fun x : State => { x with flash := s.flash }) h.outputs, h.done, h.faulted, h.report, h.told, h.cache⟩

theorem State.FailedBy.signs {x t : State} {it : WorkItem} {r : FailReason} (h : x.FailedBy it r t) : t.signs = x.signs := signs_of_exceptTraffic h.traffic

theorem State.FailedBy.rest_of_flash {s t : State} {m : Flash} {it : WorkItem} {r : FailReason} (h : (s.setFlash m).FailedBy it r t) :
    t.flash = m ∧ { t.exceptOutputs with flash := s.flash } = s.exceptOutputs ∧ t.signs = s.signs ∧
      (s.linesBusy → s.lib.missQueue = [] → t.lib.cache = s.lib.cache) :=
  ⟨flash_of_exceptTraffic h.traffic, congrArg (fun x : State => { x with flash := s.flash }) (exceptOutputs_of_exceptTraffic h.traffic),
    h.signs, h.cache⟩

section
variable {s : State} {seq : Byte} {p : Page} {i : Fin 8} {d : StripData} (hport : s.lib.port = .program seq p i d)
include hport

theorem exec_programDone_equal (hd : s.due = []) {err : BitVec 272}
    (he : readSlotHead (flashProgram s.flash (slotAddress p i) (slotBytes d)) p i ^^^ err = slotHead d) :
    ∃ t : State, exec (.programDone err) s = .next t ∧
      s.DoneFrom (flashProgram s.flash (slotAddress p i) (slotBytes d))
        { s.lib with cache := s.replacedCache p i d, faulted := s.lib.faulted.filter (· != p) } seq Flag.libWriteDone (· = p) t := by
  refine ⟨_, exec_programDone hd err, ?_⟩
  rw [State.programDone_equal hport he]
  generalize flashProgram s.flash (slotAddress p i) (slotBytes d) = m
  have htold := (State.Told.refl (s.programmed m p i d)).page p
  exact ((htold.congr fun n => by simp).done (ps := [p]) rfl (fun q => List.mem_singleton.symm) (.inr rfl) (by decide)).from_before

theorem exec_programDone_differs (hd : s.due = []) {err : BitVec 272}
    (he : ¬readSlotHead (flashProgram s.flash (slotAddress p i) (slotBytes d)) p i ^^^ err = slotHead d) :
    ∃ t : State, exec (.programDone err) s = .next t ∧
      (s.setFlash (flashProgram s.flash (slotAddress p i) (slotBytes d))).FailedBy { seq := seq, kind := .program p i d } .verify t := by
  refine ⟨_, exec_programDone hd err, ?_⟩
  rw [State.programDone_differs hport he]
  generalize flashProgram s.flash (slotAddress p i) (slotBytes d) = m
  exact State.conclude_workFailed (x := s.setFlash m) rfl _ _

theorem exec_flashTimeout_program (hd : Due.flashTimeout ∈ s.due) (hn : 8 ≤ s.lib.opTicks) : ∃ t : State, exec .flashTimeout s = .next t ∧
    ((s.freed (slotAddress p i) 64).dropCached p i).FailedBy { seq := seq, kind := .program p i d } .flashTimeout t := by
  refine ⟨_, exec_flashTimeout hd, ?_⟩
  rw [State.timeoutFlash_program (s := { s with due := s.due.erase .flashTimeout }) hport hn]
  refine State.conclude_workFailed ?_ _ _
  rw [State.dropCached_eq]
  rfl

end

section
variable {s : State} {seq : Byte} {b : Fin 512} (hport : s.lib.port = .erase seq b)
include hport

theorem exec_eraseDone_done (hd : s.due = []) : ∃ (t : State) (C : Vector CacheSet 32) (F : List Page), exec .eraseDone s = .next t ∧
    (∀ p ∈ blockPages b, p ∉ F) ∧ (s.linesBusy → s.lib.missQueue = [] → s.BlockDropped b t) ∧
    s.DoneFrom (flashErase s.flash (4096 * b.val) (4096 * (b.val + 1))) { s.lib with cache := C, faulted := F } seq
      Flag.libEraseDone (fun q => q.toNat / 8 = b.val) t := by
  obtain ⟨C, F, heq, hout, hdropped, hC⟩ := s.erased_eq (flashErase s.flash (4096 * b.val) (4096 * (b.val + 1))) b
  have hdone : ({ s with flash := flashErase s.flash (4096 * b.val) (4096 * (b.val + 1)), lib := { s.lib with cache := C, faulted := F } } : State).DoneBy
      seq Flag.libEraseDone (fun q => q.toNat / 8 = b.val) (State.conclude s s.eraseDone) := by
    rw [State.eraseDone_eq hport, heq]
    exact (State.Told.pages (blockPages b)).done rfl (fun q => (mem_blockPages b q).symm) (.inl rfl) (by decide)
  refine ⟨_, C, F, exec_eraseDone hd, hout, fun hb hm => ?_, hdone.from_before⟩
  have hcache := (hdone.cache hb hm).trans hC.symm
  have hblock := hdropped.block hcache
  exact ⟨hblock.strips, hblock.other, hblock.tags⟩

theorem exec_flashTimeout_erase (hd : Due.flashTimeout ∈ s.due) (hn : 40 ≤ s.lib.opTicks) : ∃ t : State, exec .flashTimeout s = .next t ∧
    ((blockPages b).foldl State.dropPage (s.freed (4096 * b.val) 4096)).FailedBy { seq := seq, kind := .erase b } .flashTimeout t := by
  refine ⟨_, exec_flashTimeout hd, ?_⟩
  rw [State.timeoutFlash_erase (s := { s with due := s.due.erase .flashTimeout }) hport hn]
  refine State.conclude_workFailed ?_ _ _
  obtain ⟨C, hC⟩ := (State.dropPages_dropped (s.freed (4096 * b.val) 4096) (blockPages b)).frame
  exact (congrArg State.signs hC :)

end

section
variable {s : State} {seq : Byte} {image : Profile} (hport : s.lib.port = .save seq image)
include hport

theorem exec_profileSaved_good (hd : s.due = []) : ∃ t : State, exec (.profileSaved true) s = .next t ∧
    t.exceptTraffic = (s.setFlash (writeProfile s.flash image)).exceptTraffic ∧ t.lib.lastDone = seq ∧
    t.reported .library Flag.libProfileSaved := by
  refine ⟨_, exec_profileSaved hd true, ?_⟩
  rw [State.saveDone_good hport]
  generalize writeProfile s.flash image = m
  have hends := State.conclude_portFree_signs (a := s) (v := (s.setFlash m).workDone seq Flag.libProfileSaved) rfl
  have hkeeps := hends.keeps (fun _ => True) fun _ _ => trivial
  exact ⟨hends.traffic, hkeeps.lastDone, hends.reported _ _ (State.post_reported_of _ _ (by decide))⟩

theorem exec_profileSaved_bad (hd : s.due = []) : ∃ t : State, exec (.profileSaved false) s = .next t ∧
    s.spoilProfile.FailedBy { seq := seq, kind := .saveProfile } .verify t := by
  refine ⟨_, exec_profileSaved hd false, ?_⟩
  rw [State.saveDone_bad hport]
  exact State.conclude_workFailed (x := s.spoilProfile) rfl _ _

theorem exec_flashTimeout_save (hd : Due.flashTimeout ∈ s.due) (hn : 80 ≤ s.lib.opTicks) : ∃ t : State, exec .flashTimeout s = .next t ∧
    ({ s with due := s.due.erase .flashTimeout } : State).spoilProfile.FailedBy { seq := seq, kind := .saveProfile } .flashTimeout t := by
  refine ⟨_, exec_flashTimeout hd, ?_⟩
  rw [State.timeoutFlash_save (s := { s with due := s.due.erase .flashTimeout }) hport hn]
  exact State.conclude_workFailed rfl _ _

end

/-- A save that fails spoils block 0 alone. -/
theorem State.FailedBy.spoils {s t : State} {it : WorkItem} {r : FailReason} (hw : s.flash.wf = true) (h : s.spoilProfile.FailedBy it r t) :
    (profileResult t.flash = .bad ∧ t.freeCount = s.freeCount + 4096 ∧ ∀ b : Nat, 4096 ≤ b → flashRead t.flash b = flashRead s.flash b) ∧
      { t.exceptOutputs with flash := s.flash, freeCount := s.freeCount } = s.exceptOutputs := by
  obtain ⟨hbad, hrest⟩ := State.spoilProfile_flash hw
  have hflash := flash_of_exceptTraffic h.traffic
  have hcount : s.spoilProfile.freeCount = s.freeCount + 4096 := by rw [State.spoilProfile]
  have hframe : ({ s.spoilProfile.exceptOutputs with flash := s.flash, freeCount := s.freeCount } : State) = s.exceptOutputs := by
    rw [State.spoilProfile]
    rfl
  refine ⟨⟨by rw [hflash]; exact hbad, by rw [freeCount_of_exceptTraffic h.traffic, hcount], fun b hb => by rw [hflash]; exact hrest b hb⟩, ?_⟩
  rw [exceptOutputs_of_exceptTraffic h.traffic]
  exact hframe

/-- A PROGRAM at its time limit: its slot unknown, its strip INVALID. -/
theorem State.FailedBy.program {s t : State} {a n : Nat} {p : Page} {i : Fin 8} {it : WorkItem} {r : FailReason} (hw : s.flash.wf = true)
    (h : ((s.freed a n).dropCached p i).FailedBy it r t) :
    s.Freed a n t ∧ t.signs = s.signs ∧ (s.linesBusy → s.lib.missQueue = [] → t.lib.cache = s.droppedCache p i) := by
  rw [State.dropCached_eq] at h
  exact ⟨State.Freed.of_traffic hw rfl h.traffic, h.signs, h.cache⟩

/-- An ERASE at its time limit: its block unknown, the block's strips INVALID. -/
theorem State.FailedBy.erase {s t : State} {a n : Nat} {b : Fin 512} {it : WorkItem} {r : FailReason} (hw : s.flash.wf = true)
    (h : ((blockPages b).foldl State.dropPage (s.freed a n)).FailedBy it r t) :
    s.Freed a n t ∧ t.signs = s.signs ∧ (s.linesBusy → s.lib.missQueue = [] → s.BlockDropped b t) := by
  have hdropped := State.dropPages_dropped (s.freed a n) (blockPages b)
  obtain ⟨C, hC⟩ := hdropped.frame
  rw [hC] at h hdropped
  refine ⟨State.Freed.of_traffic hw rfl h.traffic, h.signs, fun hb hm => ?_⟩
  obtain ⟨hstrips, hother, htags⟩ := hdropped.block (h.cache hb hm)
  exact ⟨hstrips, hother, htags⟩

/-- Settles O55, operation by operation: how it completes, how it fails, and what its time limit leaves. -/
theorem workItemEnds : Obligations.WorkItemEnds := by
  unfold Obligations.WorkItemEnds
  intro seq s _ quiet changed dropped rest failed timedOut unknown spoiled
  refine ⟨fun p i d err hport => ?_, fun b hport => ⟨fun hd => ?_, fun ⟨hdue, hn⟩ hw => ?_⟩,
    fun image hport hw => ⟨fun hd => ?_, fun hd => ?_, fun ⟨hdue, hn⟩ => ?_⟩⟩
  · have hslot : bytesBE 32 d ++ bytesBE 2 (crc16 (bytesBE 32 d)) ++ List.replicate 30 0xFF = slotBytes d := by
      rw [← slotHead_bytes]
      rfl
    have haddress : 512 * p.toNat + 64 * i.val = slotAddress p i := rfl
    have hhead : d ++ crc16 (bytesBE 32 d) = slotHead d := rfl
    dsimp only
    rw [hslot, haddress, hhead]
    refine ⟨fun hd => ?_, fun ⟨hdue, hn⟩ hw => ?_⟩
    · by_cases he : readSlotHead (flashProgram s.flash (slotAddress p i) (slotBytes d)) p i ^^^ err = slotHead d
      · obtain ⟨t, hexec, hdone⟩ := exec_programDone_equal hport hd he
        have hfaulted : p ∉ t.lib.faulted := by
          rw [hdone.faulted]
          exact fun hf => by simpa using List.of_mem_filter (p := fun q => q != p) hf
        exact ⟨t, hexec, hdone.flash, hdone.rest,
          fun _ => ⟨hdone.done, hfaulted, hdone.report, hdone.told, fun hq => hdone.cache hq.1 hq.2⟩, fun hne => absurd he hne⟩
      · obtain ⟨t, hexec, hfailed⟩ := exec_programDone_differs hport hd he
        obtain ⟨hflash, hrest, hsigns, hcache⟩ := hfailed.rest_of_flash
        exact ⟨t, hexec, hflash, hrest, fun heq => absurd heq he, fun _ => ⟨⟨hfailed.failure, hfailed.report⟩, hsigns, fun hq => hcache hq.1 hq.2⟩⟩
    · obtain ⟨t, hexec, hfailed⟩ := exec_flashTimeout_program hport hdue hn
      obtain ⟨hfree, hsigns, hcache⟩ := hfailed.program hw
      exact ⟨t, hexec, ⟨hfree.count, hfree.due, hfree.outside, hfree.inside, hfree.rest⟩, ⟨hfailed.failure, hfailed.report⟩, hsigns,
        fun hq => hcache hq.1 hq.2⟩
  · obtain ⟨t, C, F, hexec, hout, hblock, hdone⟩ := exec_eraseDone_done hport hd
    refine ⟨t, hexec, hdone.rest, hdone.done, hdone.report, fun a => ?_, fun p hp => ?_, hdone.told, fun hq => ?_⟩
    · rw [hdone.flash]
      exact flashRead_flashErase s.flash _ _ a
    · rw [hdone.faulted]
      exact hout p ((mem_blockPages b p).2 hp)
    · obtain ⟨hstrips, hother, htags⟩ := hblock hq.1 hq.2
      exact ⟨hstrips, hother, htags⟩
  · obtain ⟨t, hexec, hfailed⟩ := exec_flashTimeout_erase hport hdue hn
    obtain ⟨hfree, hsigns, hblock⟩ := hfailed.erase hw
    refine ⟨t, hexec, ⟨hfree.count, hfree.due, hfree.outside, hfree.inside, hfree.rest⟩, ⟨hfailed.failure, hfailed.report⟩, hsigns,
      fun hq => ?_⟩
    obtain ⟨hstrips, hother, htags⟩ := hblock hq.1 hq.2
    exact ⟨hstrips, hother, htags⟩
  · obtain ⟨t, hexec, htraffic, hdone, hreport⟩ := exec_profileSaved_good hport hd
    have hflash := flash_of_exceptTraffic htraffic
    rw [State.setFlash_flash] at hflash
    refine ⟨t, hexec, ?_, fun a => ?_, ?_, hdone, hreport⟩
    · have houtputs := exceptOutputs_of_exceptTraffic htraffic
      generalize writeProfile s.flash image = m at houtputs
      exact congrArg (fun x : State => { x with flash := s.flash }) houtputs
    · rw [hflash]
      exact flashRead_writeProfile_all image hw a
    · rw [hflash]
      exact profileResult_writeProfile image hw
  · obtain ⟨t, hexec, hfailed⟩ := exec_profileSaved_bad hport hd
    obtain ⟨hspoiled, hframe⟩ := hfailed.spoils hw
    exact ⟨t, hexec, hspoiled, hframe, hfailed.failure, hfailed.report⟩
  · obtain ⟨t, hexec, hfailed⟩ := exec_flashTimeout_save hport hdue hn
    obtain ⟨hspoiled, hframe⟩ := State.FailedBy.spoils (s := { s with due := s.due.erase .flashTimeout }) hw hfailed
    exact ⟨t, hexec, hspoiled, ⟨hfailed.failure, hfailed.report⟩, congrArg (fun x : State => { x with due := s.due }) hframe⟩

end Sys2Proof.Machine
end

section
/-! SUPPORT. What shedding and restoring leave of a line that is ACTIVE: no sign but one that may be shed or restored changes
(R146, R157 to R159, R162). -/

namespace Sys2Proof.Machine

/-! ### A sign that shedding and restoring may have taken -/

/-- A sign record that follows another by shedding and restoring: one that neither may be shed nor is SHED is as it was. -/
structure Sign.Settles (a b : Sign) : Prop where
  cfg : b.cfg = a.cfg
  kept : a.maySheds = false → a.service ≠ .shed → b = a
  held : a.holdNeed = none → b.holdNeed = none
  shown : a.shown.confirmed = false → b.shown = a.shown

theorem Sign.Settles.rfl {a : Sign} : a.Settles a := ⟨Eq.refl _, fun _ _ => Eq.refl _, id, fun _ => Eq.refl _⟩

theorem Sign.Settles.trans {a b c : Sign} (h : a.Settles b) (k : b.Settles c) : a.Settles c where
  cfg := k.cfg.trans h.cfg
  kept hm hs := by
    have he := h.kept hm hs
    subst he
    exact k.kept hm hs
  held hn := k.held (h.held hn)
  shown hc := (k.shown (by rw [h.shown hc]; exact hc)).trans (h.shown hc)

/-- A sign that is taken is one that may be shed, or one that is SHED. -/
theorem Sign.withService_settles {a : Sign} {now : Tick} {v : Service}
    (h : (a.maySheds = true ∧ v = .shed) ∨ (a.service = .shed ∧ v = .lapsed)) : a.Settles (a.withService now v) := by
  have hnot : a.service ≠ .held := by
    rcases h with ⟨h, -⟩ | ⟨h, -⟩
    · exact (Sign.service_of_maySheds h).2
    · rw [h]
      decide
  refine ⟨?_, fun hm hs => ?_, fun hn => ?_, fun hc => ?_⟩
  · rcases h with ⟨-, rfl⟩ | ⟨-, rfl⟩ <;> simp [Sign.withService, hnot]
  · rcases h with ⟨h, -⟩ | ⟨h, -⟩
    · rw [h] at hm
      cases hm
    · exact absurd h hs
  · rcases h with ⟨-, rfl⟩ | ⟨-, rfl⟩ <;> rfl
  · rcases h with ⟨-, rfl⟩ | ⟨-, rfl⟩
    · simp [Sign.withService, hnot]
    · simp [Sign.withService, hnot, ← hc]

/-! ### The line -/

/-- Line l is ACTIVE, and each sign's record has a property R. -/
structure State.Awake (R : Fin 16 → Sign → Prop) (l : Fin 2) (t : State) : Prop where
  active : (t.line l).state = .active
  count : (t.line l).activeCount = 0
  sign : ∀ n : Fin 16, R n (t.sign n)

namespace State.Awake

variable {R : Fin 16 → Sign → Prop} {t u : State} {l : Fin 2} {n : Fin 16}

theorem of_eq (h : t.Awake R l) (hl : (u.line l).state = (t.line l).state ∧ (u.line l).activeCount = (t.line l).activeCount)
    (hs : ∀ m, u.sign m = t.sign m) : u.Awake R l :=
  ⟨hl.1.trans h.active, hl.2.trans h.count, fun m => by rw [hs m]; exact h.sign m⟩

theorem imp {R' : Fin 16 → Sign → Prop} (h : t.Awake R l) (hr : ∀ m g, R m g → R' m g) : t.Awake R' l :=
  ⟨h.active, h.count, fun m => hr m _ (h.sign m)⟩

theorem rests (h : t.Awake R l) : ¬(t.line l).holds := by simp [Line.holds, h.active]

theorem post {o : Obj} {f : BitVec 16} (h : t.Awake R l) : (t.post o f).Awake R l := h.of_eq ⟨rfl, rfl⟩ fun _ => rfl

theorem updLine {f : Line → Line} (hf : ∀ r, (f r).state = r.state ∧ (f r).activeCount = r.activeCount) (h : t.Awake R l) :
    (t.updLine l f).Awake R l :=
  h.of_eq (by rw [State.updLine_eq, State.setLine_line_same]; exact hf _) fun _ => rfl

theorem askArbitration (h : t.Awake R l) : (t.askArbitration l).Awake R l := h.updLine fun _ => ⟨rfl, rfl⟩

theorem setSign {g : Sign} (h : t.Awake (fun m g => m ≠ n → R m g) l) (hg : R n g) : (t.setSign n g).Awake R l := by
  refine ⟨h.active, h.count, fun m => ?_⟩
  rw [State.setSign_sign]
  split
  · next hm =>
    subst hm
    exact hg
  · next hm => exact h.sign m (Ne.symm hm)

theorem checkHeld (h : t.Awake R l) : t.checkHeld l = t := if_neg (by simp [h.active])

theorem checkResume (h : t.Awake R l) : t.checkResume l = t := if_neg (by simp [h.active])

theorem restoreRaised (h : t.Awake R l) (hn : lineOf n = l) : (t.restoreRaised n).Awake R l := by
  unfold State.restoreRaised
  rw [hn, State.wake_of_rests h.rests]
  exact h.askArbitration

theorem changeService_entered {v : Service} (h : t.Awake (fun m g => m ≠ n → R m g) l) (hn : lineOf n = l) (hne : (t.sign n).service ≠ v)
    (hg : R n ((t.sign n).withService t.now v)) : (t.changeService n v).Awake R l := by
  unfold State.changeService
  dsimp only
  rw [if_neg hne]
  have hset := (h.setSign hg).post (o := .sign n) (f := serviceFlags (t.sign n) ((t.sign n).withService t.now v))
  generalize (t.setSign n _).post _ _ = u at hset
  have hraised : (if v = .lapsed ∧ (t.sign n).restoreNeed = none then u.restoreRaised n else u).Awake R l :=
    iteInduction (motive := fun u : State => u.Awake R l) (fun _ => hset.restoreRaised hn) fun _ => hset
  rw [hn, hraised.checkHeld, hraised.checkResume]
  exact hraised

theorem changeService {v : Service} (h : t.Awake R l) (hn : lineOf n = l) (hg : R n ((t.sign n).withService t.now v)) :
    (t.changeService n v).Awake R l := by
  by_cases hne : (t.sign n).service = v
  · rw [State.changeService, if_pos hne]
    exact h
  · exact (h.imp (R' := fun m g => m ≠ n → R m g) fun _ _ hm _ => hm).changeService_entered hn hne hg

theorem setOverloaded {v : Bool} (h : t.Awake R l) : (t.setOverloaded l v).Awake R l :=
  iteInduction (motive := fun u : State => u.Awake R l) (fun _ => h)
    fun _ => (h.updLine (f := fun r => { r with overloaded := v }) fun _ => ⟨rfl, rfl⟩).post

theorem recompute (h : t.Awake R l) : (t.recompute l).Awake R l :=
  have hset := h.updLine (f := fun r => { r with sum := t.shareSum l, load := t.loadOf l (t.shareSum l) }) fun _ => ⟨rfl, rfl⟩
  iteInduction (motive := fun u : State => u.Awake R l) (fun _ => hset.setOverloaded) fun _ => hset

end State.Awake

/-! ### The release of a HELD sign (R170) -/

/-- While sign n is released: the other signs have their property, and sign n is SHOWING or LAPSED. -/
def releasing (R : Fin 16 → Sign → Prop) (n m : Fin 16) (g : Sign) : Prop :=
  (m ≠ n → R m g) ∧ (m = n → g.service = .showing ∨ g.service = .lapsed)

/-- A sign that a restart takes out of HELD stands SHOWING or LAPSED. -/
theorem State.Awake.releaseHeld {R : Fin 16 → Sign → Prop} {t : State} {l : Fin 2} {n : Fin 16}
    (h : t.Awake (fun m g => m ≠ n ∨ g.service ≠ .held → R m g) l) (hn : lineOf n = l)
    (hg : (t.sign n).service = .held → ∀ g : Sign, g.service = .showing ∨ g.service = .lapsed → R n g) : (t.releaseHeld n).Awake R l := by
  unfold State.releaseHeld
  split
  · next hheld =>
    have hshowing : (t.changeService n .showing).Awake (releasing R n) l :=
      State.Awake.changeService_entered (h.imp fun m g hm hne => ⟨fun _ => hm (.inl hne), fun he => absurd he hne⟩) hn
        (by rw [hheld]; decide) ⟨fun hne => absurd rfl hne, fun _ => .inl rfl⟩
    have hlapse : ((t.changeService n .showing).checkLapse n).Awake (releasing R n) l := by
      generalize t.changeService n .showing = u at hshowing
      exact iteInduction (motive := fun x : State => x.Awake (releasing R n) l)
        (fun _ => (hshowing.changeService hn ⟨fun hne => absurd rfl hne, fun _ => .inr rfl⟩).post) fun _ => hshowing
    have hcritical : (((t.changeService n .showing).checkLapse n).checkCritical n).Awake (releasing R n) l := by
      generalize (t.changeService n .showing).checkLapse n = u at hlapse
      refine iteInduction (motive := fun x : State => x.Awake (releasing R n) l) (fun _ => ?_) fun _ => hlapse
      refine iteInduction (motive := fun x : State => x.Awake (releasing R n) l) (fun _ => hlapse) fun _ => ?_
      exact State.Awake.restoreRaised (State.Awake.setSign (hlapse.imp fun _ _ hm _ => hm) ⟨fun hne => absurd rfl hne, (hlapse.sign n).2⟩) hn
    refine hcritical.imp fun m g hm => ?_
    by_cases he : m = n
    · subst he
      exact hg hheld g (hm.2 rfl)
    · exact hm.1 he
  · next hheld =>
    refine ⟨h.active, h.count, fun m => h.sign m ?_⟩
    by_cases he : m = n
    · exact .inr (he ▸ hheld)
    · exact .inl he

/-! ### Shedding and restoring on the line (R157 to R159) -/

/-- Line l is ACTIVE, and each sign has at most been shed or restored. -/
def State.Settles (s t : State) (l : Fin 2) : Prop := t.Awake (fun n g => (s.sign n).Settles g) l

namespace State.Settles

variable {s t : State} {l : Fin 2} {n : Fin 16}

theorem of_active (h : (s.line l).state = .active) (hc : (s.line l).activeCount = 0) : s.Settles s l := ⟨h, hc, fun _ => .rfl⟩

theorem changeService {v : Service} (h : s.Settles t l) (hn : lineOf n = l) (hg : (t.sign n).Settles ((t.sign n).withService t.now v)) :
    s.Settles (t.changeService n v) l := Awake.changeService h hn ((h.sign n).trans hg)

theorem recompute (h : s.Settles t l) : s.Settles (t.recompute l) l := Awake.recompute h

theorem shedSign (h : s.Settles t l) (hn : lineOf n = l) (hm : (t.sign n).maySheds = true) : s.Settles (t.shedSign n) l := by
  unfold State.shedSign
  rw [hn]
  exact (Awake.post (h.changeService hn (Sign.withService_settles (.inl ⟨hm, rfl⟩)))).askArbitration

theorem restoreSign (h : s.Settles t l) (hn : lineOf n = l) (hm : (t.sign n).service = .shed) : s.Settles (t.restoreSign n) l :=
  Awake.post (h.changeService hn (Sign.withService_settles (.inr ⟨hm, rfl⟩)))

theorem shedWhile (k : Nat) (h : s.Settles t l) : s.Settles (State.shedWhile k l t) l := by
  induction k generalizing t with
  | zero => exact h
  | succ k ih =>
    unfold State.shedWhile
    split
    · exact h
    · split
      · exact h
      · next n hn =>
        obtain ⟨hhere, hmay, -⟩ := find?_signsOf_reverse hn
        exact ih (h.shedSign (Fin.ext hhere) hmay).recompute

theorem recomputeShed (h : s.Settles t l) : s.Settles (t.recomputeShed l) l :=
  iteInduction (motive := fun x : State => s.Settles x l) (fun _ => h.recompute.shedWhile 8)
    fun _ => Awake.setOverloaded (h.recompute.shedWhile 8)

theorem restoreWhile (k : Nat) (h : s.Settles t l) : s.Settles (State.restoreWhile k l t) l := by
  induction k generalizing t with
  | zero => exact h
  | succ k ih =>
    unfold State.restoreWhile
    split
    · exact h
    · next n hn =>
      obtain ⟨hhere, hmay, -⟩ := find?_signsOf hn
      simp only [Bool.and_eq_true, beq_iff_eq] at hmay
      exact iteInduction (motive := fun x : State => s.Settles x l)
        (fun _ => ih (h.restoreSign (Fin.ext hhere) hmay.1).recomputeShed) fun _ => h

theorem settleLoad (h : s.Settles t l) : s.Settles (t.settleLoad l) l := h.recomputeShed.restoreWhile 8

theorem reserveShedOne (h : s.Settles t l) (hn : lineOf n = l) : s.Settles (t.reserveShedOne n) l := by
  refine iteInduction (motive := fun x : State => s.Settles x l) (fun hs => h.shedSign hn ?_) fun _ => h
  simp only [State.reserveSheds, Bool.and_eq_true, beq_iff_eq] at hs
  obtain ⟨⟨⟨-, hcounted⟩, hsheddable⟩, hplan⟩ := hs
  simp [Sign.maySheds, hcounted, hsheddable, hplan, PlanClass.isProtected]

theorem reserveShed (h : s.Settles t l) : s.Settles (t.reserveShed l) l :=
  foldl_keeps_mem (P := fun x => s.Settles x l) (f := State.reserveShedOne)
    (fun _ _ hm hx => hx.reserveShedOne (lineOf_of_mem (List.mem_reverse.1 hm))) h

theorem reserveSettle (h : s.Settles t l) : s.Settles (t.reserveSettle l) l :=
  iteInduction (motive := fun x : State => s.Settles x l) (fun _ => h.reserveShed.settleLoad) fun _ => h

end State.Settles

end Sys2Proof.Machine
end

section
/-! SUPPORT. What a partial reset makes of a line and its signs (R146, R163, R170). -/

namespace Sys2Proof.Machine

/-! ### The stages of a line's restart -/

/-- The line as its restart begins: ACTIVE, and no hold in progress. -/
def Line.unheld (r : Line) : Line := { r with state := .active, activeCount := 0 }

/-- The state in which the signs of a line have been released and their needs set. -/
def State.released (s : State) (l : Fin 2) : State :=
  (signsOf l).foldl (fun s n => s.updSign n (Sign.restart s.now)) ((signsOf l).foldl State.releaseHeld (s.updLine l Line.unheld))

theorem State.restartLine_eq (s : State) (l : Fin 2) :
    s.restartLine l = (((s.released l).reserveShed l).settleLoad l).askArbitration l := rfl

/-- A sign that may have been released from HELD. -/
def Sign.Releases (a b : Sign) : Prop := (a.service ≠ .held → b = a) ∧ (a.service = .held → b.service = .showing ∨ b.service = .lapsed)

theorem State.releaseHeld_all (s : State) (l : Fin 2) :
    ((signsOf l).foldl State.releaseHeld (s.updLine l Line.unheld)).Awake
      (fun n g => (n.val / 8 ≠ l.val → g = s.sign n) ∧ (n.val / 8 = l.val → (s.sign n).Releases g)) l := by
  have key : ∀ ns : List (Fin 16), ns.Nodup → (∀ n ∈ ns, n.val / 8 = l.val) → ∀ t : State,
      t.Awake (fun n g => (n ∈ ns ∨ n.val / 8 ≠ l.val → g = s.sign n) ∧ (n.val / 8 = l.val → n ∉ ns → (s.sign n).Releases g)) l →
      (ns.foldl State.releaseHeld t).Awake
        (fun n g => (n.val / 8 ≠ l.val → g = s.sign n) ∧ (n.val / 8 = l.val → (s.sign n).Releases g)) l := by
    intro ns
    induction ns with
    | nil => exact fun _ _ t ht => ht.imp fun n g hg => ⟨fun hn => hg.1 (.inr hn), fun hn => hg.2 hn List.not_mem_nil⟩
    | cons m ns ih =>
      intro hnd hline t ht
      obtain ⟨hm, hnd⟩ := List.nodup_cons.1 hnd
      have hml := hline m List.mem_cons_self
      refine ih hnd (fun n hn => hline n (List.mem_cons_of_mem _ hn)) _ (State.Awake.releaseHeld (n := m) ?_ (Fin.ext hml) ?_)
      · refine ht.imp fun n g hg hc => ⟨fun hn => hg.1 (hn.imp_left (List.mem_cons_of_mem _)), fun hn hns => ?_⟩
        by_cases hnm : n = m
        · have he := hg.1 (.inl (by rw [hnm]; exact List.mem_cons_self))
          have hne : g.service ≠ .held := hc.resolve_left fun h => h hnm
          exact ⟨fun _ => he, fun hheld => absurd (he ▸ hheld) hne⟩
        · exact hg.2 hn fun hc => (List.mem_cons.1 hc).elim hnm hns
      · intro hheld g hg
        have hm' : t.sign m = s.sign m := (ht.sign m).1 (.inl List.mem_cons_self)
        exact ⟨fun hn => absurd hml (hn.resolve_left hm), fun _ _ => ⟨fun hne => absurd (hm' ▸ hheld) hne, fun _ => hg⟩⟩
  refine key (signsOf l) (signsOf_nodup l) (fun n hn => (mem_signsOf l n).1 hn) _ ⟨?_, ?_, fun n => ⟨fun _ => rfl, fun hn hno => ?_⟩⟩
  · rw [State.updLine_eq, State.setLine_line_same]
    rfl
  · rw [State.updLine_eq, State.setLine_line_same]
    rfl
  · exact absurd ((mem_signsOf l n).2 hn) hno

theorem lineStable_now (x : Tick) : LineStable (fun _ => True) fun t => t.now = x := ⟨fun _ hs _ => hs, fun _ hs _ => hs, fun hs => hs⟩

/-- The line when its signs' needs are set. -/
theorem State.released_awake (s : State) (l : Fin 2) :
    (s.released l).Awake (fun n g => (n.val / 8 ≠ l.val → g = s.sign n) ∧
      (n.val / 8 = l.val → ∃ b, (s.sign n).Releases b ∧ g = b.restart s.now)) l := by
  have h := s.releaseHeld_all l
  have hnow : ((signsOf l).foldl State.releaseHeld (s.updLine l Line.unheld)).now = s.now :=
    foldl_keeps (P := fun t : State => t.now = s.now) (fun _ _ hu => (lineStable_now s.now).releaseHeld hu trivial) _ rfl
  have hlines := foldl_setSign_lines (F := Sign.restart) (fun t n => t.updSign_eq n _) (signsOf l)
    ((signsOf l).foldl State.releaseHeld (s.updLine l Line.unheld))
  have hsigns := foldl_sign (F := Sign.restart) (fun t n => t.updSign_eq n _) (signsOf_nodup l)
    ((signsOf l).foldl State.releaseHeld (s.updLine l Line.unheld))
  unfold State.released
  generalize (signsOf l).foldl State.releaseHeld (s.updLine l Line.unheld) = u at *
  have hline : (((signsOf l).foldl (fun s n => s.updSign n (Sign.restart s.now)) u).line l) = u.line l :=
    congrArg (fun v : Vector Line 2 => v[l]) hlines
  refine ⟨by rw [hline]; exact h.active, by rw [hline]; exact h.count, fun n => ?_⟩
  rw [hsigns]
  refine ⟨fun hn => ?_, fun hn => ⟨_, (h.sign n).2 hn, ?_⟩⟩
  · rw [if_neg fun hm => hn ((mem_signsOf l n).1 hm)]
    exact (h.sign n).1 hn
  · rw [if_pos ((mem_signsOf l n).2 hn), hnow]

/-- The restart of a line sets its line record once; what follows is by the rules of load and hold. -/
theorem State.restartLine_retains (s : State) (l : Fin 2) : (s.line l).unheld.Retains ((s.restartLine l).line l) := by
  have h := lineStable_line l (s.line l).unheld
  have hset : (s.line l).unheld.Retains ((s.updLine l Line.unheld).line l) := by
    rw [State.updLine_eq, State.setLine_line_same]
    exact .rfl
  have hreleased : (s.line l).unheld.Retains ((s.released l).line l) :=
    foldl_keeps (P := fun t : State => (s.line l).unheld.Retains (t.line l)) (f := fun s n => s.updSign n (Sign.restart s.now))
      (fun _ _ hu => hu) _
      (foldl_keeps (P := fun t : State => (s.line l).unheld.Retains (t.line l)) (fun _ _ hu => h.releaseHeld hu trivial) _ hset)
  rw [State.restartLine_eq]
  exact h.askArbitration (h.settleLoad (h.reserveShed hreleased trivial) trivial) trivial

/-! ### The line restarted -/

/-- What the restart of a line leaves: the line ACTIVE with its settings, its exchange and its last wake, the other line and its
signs, and every sign of the line released and then at most shed or restored. -/
structure State.LineRestarted (s t : State) (l : Fin 2) : Prop where
  active : (t.line l).state = .active
  count : (t.line l).activeCount = 0
  retains : (s.line l).unheld.Retains (t.line l)
  otherLine : ∀ j : Fin 2, j ≠ l → t.line j = s.line j
  otherSign : ∀ n : Fin 16, n.val / 8 ≠ l.val → t.sign n = s.sign n
  sign : ∀ n : Fin 16, n.val / 8 = l.val → ∃ b, (s.sign n).Releases b ∧ (b.restart s.now).Settles (t.sign n)
  keeps : ∀ n : Fin 16, (s.sign n).Keeps (t.sign n)

theorem State.restartLine_restarted (s : State) (l : Fin 2) : s.LineRestarted (s.restartLine l) l := by
  have hawake := s.released_awake l
  have hsettled := (State.Settles.of_active hawake.active hawake.count).reserveShed.settleLoad.askArbitration
  have hoff := (lineStable_off l s).restartLine (s := s) ⟨fun _ _ => rfl, fun _ _ => rfl⟩ rfl
  refine ⟨hsettled.active, hsettled.count, s.restartLine_retains l, hoff.1, fun n hn => hoff.2 n hn, fun n hn => ?_, fun n =>
    (lineStable_sign n _).restartLine (s := s) .rfl trivial⟩
  obtain ⟨b, hb, he⟩ := (hawake.sign n).2 hn
  exact ⟨b, hb, he ▸ hsettled.sign n⟩

end Sys2Proof.Machine
end

section
/-! SUPPORT. What a partial reset makes of the paths, and of the open postures that follow them (R6, R61). -/

namespace Sys2Proof.Machine

/-! ### A segment that an open-posture evaluation may have changed -/

/-- A segment record that follows another by open-posture evaluations. -/
def Segment.Opens (a b : Segment) : Prop :=
  b = a ∨ ((a.posture = .opened ∨ a.posture = .caution) ∧ (b.posture = .opened ∨ b.posture = .caution) ∧ b.phase = .noPhase ∧
    b.causes = a.causes ∧ b.occupancy = a.occupancy ∧ b.cfg = a.cfg)

theorem Segment.Opens.trans {a b c : Segment} (h : a.Opens b) (k : b.Opens c) : a.Opens c := by
  rcases k with rfl | ⟨hpb, hpc, hphase, hcauses, hocc, hcfg⟩
  · exact h
  · rcases h with rfl | ⟨hpa, -, -, hcauses', hocc', hcfg'⟩
    · exact .inr ⟨hpb, hpc, hphase, hcauses, hocc, hcfg⟩
    · exact .inr ⟨hpa, hpc, hphase, hcauses.trans hcauses', hocc.trans hocc', hcfg.trans hcfg'⟩

theorem Segment.Opens.fields {a b : Segment} (h : a.Opens b) : b.causes = a.causes ∧ b.occupancy = a.occupancy ∧ b.cfg = a.cfg := by
  rcases h with rfl | ⟨-, -, -, hcauses, hocc, hcfg⟩
  · exact ⟨rfl, rfl, rfl⟩
  · exact ⟨hcauses, hocc, hcfg⟩

/-- A segment that is not open is as it was. -/
theorem Segment.Opens.kept {a b : Segment} (h : a.Opens b) (hp : ¬(a.posture = .opened ∨ a.posture = .caution)) : b = a :=
  h.resolve_right fun k => hp k.1

theorem State.evalOpen_opens (s : State) (j i : Fin 4) : (s.segment i).Opens ((s.evalOpen j).segment i) := by
  refine iteInduction (motive := fun t : State => (s.segment i).Opens (t.segment i)) (fun ho => ?_) fun _ => .inl rfl
  by_cases hi : i = j
  · subst hi
    by_cases hsame : (s.segment i).posture = s.openPosture i ∧ (s.segment i).phase = .noPhase
    · rw [show s.setPosture i (s.openPosture i) .noPhase = s from if_pos hsame]
      exact .inl rfl
    · rw [State.setPosture_segment_same hsame]
      exact .inr ⟨ho, s.openPosture_open i, rfl, rfl, rfl, rfl⟩
  · rw [State.setPosture_segment_other hi]
    exact .inl rfl

theorem State.evalOpen_exceptSegments (s : State) (j : Fin 4) : (s.evalOpen j).exceptSegments = s.exceptSegments := by
  obtain ⟨-, -, -, -, -, -, -, -, -, -, h⟩ := s.evalOpen_leaves j
  exact h

/-- Segments and report set aside, a state is as it was, and each segment has at most been evaluated while open. -/
structure State.Reopens (s t : State) : Prop where
  frame : t.exceptSegments = s.exceptSegments
  segment : ∀ i : Fin 4, (s.segment i).Opens (t.segment i)

theorem State.evalOpen_reopens (s : State) (j : Fin 4) : s.Reopens (s.evalOpen j) := ⟨s.evalOpen_exceptSegments j, s.evalOpen_opens j⟩

theorem State.Reopens.refl (s : State) : s.Reopens s := ⟨rfl, fun _ => .inl rfl⟩

theorem State.Reopens.trans {s t u : State} (h : s.Reopens t) (k : t.Reopens u) : s.Reopens u :=
  ⟨k.frame.trans h.frame, fun i => (h.segment i).trans (k.segment i)⟩

theorem State.handOpen_reopens (s : State) (a b : PathRec) : s.Reopens (s.handOpen a b) := by
  refine iteInduction (motive := s.Reopens) (fun _ => .refl s) fun _ => ?_
  refine iteInduction (motive := s.Reopens) (fun _ => s.evalOpen_reopens _) fun _ => ?_
  exact (s.evalOpen_reopens _).trans ((s.evalOpen _).evalOpen_reopens _)

/-! ### The paths (R61) -/

/-- A path after a partial reset: WATCH takes QUIET, activations and vote are cleared. -/
def PathRec.Restarts (a b : PathRec) : Prop :=
  b.cfg = a.cfg ∧ (∀ c : Fin 16, b.lastAct[c] = none) ∧ b.lastVote = 0 ∧ b.state = if a.state = .watch then .quiet else a.state

theorem State.paths_of_exceptSegments {s t : State} (h : t.exceptSegments = s.exceptSegments) : t.paths = s.paths :=
  (congrArg State.paths h :)

/-- What the restart of a path leaves. -/
theorem State.restartPath_leaves (s : State) (n : Fin 12) :
    { (s.restartPath n).exceptSegments with paths := s.paths } = s.exceptSegments ∧
      (∀ i : Fin 4, (s.segment i).Opens ((s.restartPath n).segment i)) ∧ (s.path n).Restarts ((s.restartPath n).path n) ∧
      ∀ m : Fin 12, m ≠ n → (s.restartPath n).path m = s.path m := by
  have hhealth := s.withHealth_keeps
    { s.path n with state := (if (s.path n).state = .watch then .quiet else (s.path n).state), lastAct := noActivations, lastVote := 0 }
  unfold State.restartPath
  dsimp only
  generalize s.withHealth _ = new at hhealth ⊢
  obtain ⟨hcfg, hstate, hact, hvote⟩ := hhealth
  set u := (s.setPath n new).postIf (restartFlags (s.path n) new != 0) (.path n) (restartFlags (s.path n) new) with hu
  have hframe : { u.exceptSegments with paths := s.paths } = s.exceptSegments := by
    rw [hu]
    cases restartFlags (s.path n) new != 0 <;> rfl
  have hpath (m : Fin 12) : u.path m = if n = m then new else s.path m := by rw [hu, State.postIf_path, State.setPath_path]
  have hsegment (i : Fin 4) : u.segment i = s.segment i := by rw [hu, State.postIf_segment, State.setPath_segment]
  clear_value u
  have hopen := u.handOpen_reopens (s.path n) new
  have hpaths (m : Fin 12) : (u.handOpen (s.path n) new).path m = u.path m := by
    rw [State.path, State.paths_of_exceptSegments hopen.frame, State.path]
  refine ⟨?_, fun i => hsegment i ▸ hopen.segment i, ?_, fun m hm => ?_⟩
  · rw [hopen.frame]
    exact hframe
  · rw [hpaths, hpath, if_pos rfl]
    refine ⟨hcfg, fun c => ?_, hvote, hstate⟩
    rw [hact]
    simp [noActivations]
  · rw [hpaths, hpath, if_neg (Ne.symm hm)]

/-- What the restart of all paths leaves: each path, and segments that have at most been evaluated while open. -/
structure State.PathsRestarted (s t : State) : Prop where
  frame : { t.exceptSegments with paths := s.paths, trace := s.trace } = s.exceptSegments
  segment : ∀ i : Fin 4, (s.segment i).Opens (t.segment i)
  path : ∀ n : Fin 12, (s.path n).Restarts (t.path n)
  trace : t.trace = { s.trace with entries := [], mark := none, truncated := false, nearFullPosted := false }

theorem State.exceptPaths_trans {s t u : State} (h : { t.exceptSegments with paths := s.paths } = s.exceptSegments)
    (k : { u.exceptSegments with paths := t.paths } = t.exceptSegments) : { u.exceptSegments with paths := s.paths } = s.exceptSegments :=
  (congrArg (fun v : State => { v with paths := s.paths }) k : _).trans h

theorem State.PathsRestarted.of_paths {s u : State} (hframe : { u.exceptSegments with paths := s.paths } = s.exceptSegments)
    (hsegment : ∀ i : Fin 4, (s.segment i).Opens (u.segment i)) (hpath : ∀ n : Fin 12, (s.path n).Restarts (u.path n)) :
    s.PathsRestarted { u with trace := { u.trace with entries := [], mark := none, truncated := false, nearFullPosted := false } } := by
  have htrace : u.trace = s.trace := (congrArg State.trace hframe :)
  rw [htrace]
  exact ⟨(congrArg (fun v : State => { v with trace := s.trace }) hframe :), hsegment, hpath, rfl⟩

/-- The restarts of the paths one by one keep what a path's restart keeps. -/
theorem State.restartPath_fold (s : State) : { ((List.finRange 12).foldl State.restartPath s).exceptSegments with paths := s.paths } = s.exceptSegments ∧
    ∀ i : Fin 4, (s.segment i).Opens (((List.finRange 12).foldl State.restartPath s).segment i) :=
  foldl_keeps (P := fun t : State => { t.exceptSegments with paths := s.paths } = s.exceptSegments ∧
      ∀ i : Fin 4, (s.segment i).Opens (t.segment i))
    (fun t n ht => ⟨State.exceptPaths_trans ht.1 (t.restartPath_leaves n).1, fun i => (ht.2 i).trans ((t.restartPath_leaves n).2.1 i)⟩)
    _ ⟨rfl, fun _ => .inl rfl⟩

theorem State.restartPath_fold_path (s : State) (n : Fin 12) :
    (s.path n).Restarts (((List.finRange 12).foldl State.restartPath s).path n) := by
  have hother (t : State) (m : Fin 12) (hm : m ≠ n) : (t.restartPath m).path n = t.path n := (t.restartPath_leaves m).2.2.2 n (Ne.symm hm)
  refine foldl_establishes (f := State.restartPath) (Q := fun t => t.path n = s.path n) (P := fun t => (s.path n).Restarts (t.path n))
    (List.nodup_finRange 12) (List.mem_finRange n) (fun t m hm ht => (hother t m hm).trans ht) (fun t ht => ?_)
    (fun t m hm ht => ?_) rfl
  · rw [← ht]
    exact (t.restartPath_leaves n).2.2.1
  · rw [hother t m hm]
    exact ht

theorem State.restartPaths_restarted (s : State) : s.PathsRestarted s.restartPaths := by
  obtain ⟨hframe, hsegment⟩ := s.restartPath_fold
  have hpath := s.restartPath_fold_path
  unfold State.restartPaths
  generalize (List.finRange 12).foldl State.restartPath s = u at *
  exact .of_paths hframe hsegment hpath

end Sys2Proof.Machine
end

section
/-! SUPPORT. What a partial reset makes of signs, lines and the report set (R131, R146, R170, R183, R189). -/

namespace Sys2Proof.Machine

/-! ### The plans (R131) -/

/-- A sign after its plan has been computed again by a restart. -/
def Sign.Replans (a b : Sign) : Prop :=
  ∃ (c : PlanClass) (r : List Page), b = { a with planClass := c, rotation := r, index := 0, dwellCount := 0, need := .none }

theorem State.restartPlan_sign (s : State) (n m : Fin 16) :
    (n = m → (s.sign m).Replans ((s.restartPlan n).sign m)) ∧ (n ≠ m → (s.restartPlan n).sign m = s.sign m) := by
  unfold State.restartPlan
  dsimp only
  rw [State.postIf_sign, State.setSign_sign]
  refine ⟨fun h => ?_, fun h => if_neg h⟩
  subst h
  rw [if_pos rfl]
  exact ⟨_, _, rfl⟩

theorem State.restartPlan_frame (s : State) (n : Fin 16) : (s.restartPlan n).exceptSigns = s.exceptSigns ∧ (s.restartPlan n).lines = s.lines ∧
    (s.restartPlan n).lib = s.lib := by
  unfold State.restartPlan
  dsimp only
  exact ⟨by rw [State.postIf_exceptSigns, State.setSign_exceptSigns], by rw [State.postIf_lines]; rfl, by rw [State.postIf_lib]; rfl⟩

/-- The state after every sign's plan has been computed again. -/
def State.restartPlans (s : State) : State := (List.finRange 16).foldl State.restartPlan s

theorem State.restartPlans_sign (s : State) (n : Fin 16) : (s.sign n).Replans (s.restartPlans.sign n) := by
  refine foldl_establishes (f := State.restartPlan) (Q := fun t => t.sign n = s.sign n) (P := fun t => (s.sign n).Replans (t.sign n))
    (List.nodup_finRange 16) (List.mem_finRange n) (fun t m hm ht => ((t.restartPlan_sign m n).2 hm).trans ht) (fun t ht => ?_)
    (fun t m hm ht => ?_) rfl
  · rw [← ht]
    exact (t.restartPlan_sign n n).1 rfl
  · rw [(t.restartPlan_sign m n).2 hm]
    exact ht

theorem State.restartPlans_frame (s : State) : s.restartPlans.exceptSigns = s.exceptSigns ∧ s.restartPlans.lines = s.lines ∧
    s.restartPlans.lib = s.lib :=
  foldl_keeps (f := State.restartPlan) (P := fun t => t.exceptSigns = s.exceptSigns ∧ t.lines = s.lines ∧ t.lib = s.lib)
    (fun t n ht => by
      obtain ⟨hframe, hlines, hlib⟩ := t.restartPlan_frame n
      exact ⟨hframe.trans ht.1, hlines.trans ht.2.1, hlib.trans ht.2.2⟩) _ ⟨rfl, rfl, rfl⟩

/-! ### The signs -/

/-- A sign after a partial reset. -/
structure Sign.Restarts (now : Tick) (a b : Sign) : Prop where
  cfg : b.cfg = a.cfg
  need : b.need = .none
  index : b.index = 0
  dwellCount : b.dwellCount = 0
  band : b.band = a.band
  page : b.shown.page = a.shown.page
  holdNeed : b.holdNeed = none
  confirms : b.confirms = true → a.confirms = true
  accounted : a.cfg.sheddable = false → a.service = .showing ∨ a.service = .lapsed ∨ a.service = .held →
    (b.service = .showing ∨ b.service = .lapsed) ∧ b.restoreNeed = some now
  idle : a.cfg.sheddable = false → a.service = .blank ∨ a.service = .offline →
    b.service = a.service ∧ b.pollCount = 0 ∧ b.pollNeed = none

/-- A sign whose plan is computed again, that is released, given its needs, and then at most shed or restored. -/
theorem Sign.restarts_of_stages {now : Tick} {a p b c : Sign} (hp : a.Replans p) (hb : p.Releases b) (hc : (b.restart now).Settles c)
    (hk : p.Keeps c) : a.Restarts now c := by
  obtain ⟨cls, rot, rfl⟩ := hp
  have hcfg : b.cfg = a.cfg := (hc.cfg.symm.trans hk.cfg :)
  have hkept (hs : a.cfg.sheddable = false) (hb : b.service ≠ .shed) : c = b.restart now := by
    refine hc.kept ?_ hb
    simp [Sign.maySheds, Sign.restart, hcfg, hs]
  refine ⟨hk.cfg, hk.need, hk.index, hk.dwellCount, hk.band, (congrArg Displayed.page hk.shown :), hc.held rfl, hk.confirms, fun hs hservice => ?_,
    fun hs hservice => ?_⟩
  · have hbs : b.service = .showing ∨ b.service = .lapsed := by
      by_cases hheld : a.service = .held
      · exact hb.2 hheld
      · rw [hb.1 hheld]
        rcases hservice with h | h | h
        · exact .inl h
        · exact .inr h
        · exact absurd h hheld
    rw [hkept hs (by rcases hbs with h | h <;> rw [h] <;> decide)]
    refine ⟨hbs, if_pos ?_⟩
    rcases hbs with h | h <;> simp [Sign.counted, h]
  · have hbs : b.service = a.service := by
      rw [hb.1 (by rcases hservice with h | h <;> (show a.service ≠ _; rw [h]; decide))]
    rw [hkept hs (by rw [hbs]; rcases hservice with h | h <;> rw [h] <;> decide)]
    exact ⟨hbs, rfl, rfl⟩

/-! ### Both lines -/

/-- The state after the restart of plans and lines. -/
def State.restartDisplay (s : State) : State := (s.restartPlans.restartLine 0).restartLine 1

theorem retentionStable_exceptSigns (x : State) : RetentionStable fun t => t.exceptSigns = x.exceptSigns ∧ t.lib = x.lib where
  sign _ hs := by
    rw [State.setSign_exceptSigns]
    exact hs
  line _ hs := hs
  target hs := hs
  post hs := hs

theorem State.restartDisplay_frame (s : State) : s.restartDisplay.exceptSigns = s.exceptSigns ∧ s.restartDisplay.lib = s.lib := by
  obtain ⟨hframe, -, hlib⟩ := s.restartPlans_frame
  have h := retentionStable_exceptSigns s
  exact h.restartLine (h.restartLine ⟨hframe, hlib⟩)

theorem lineOf_cases (n : Fin 16) : n.val / 8 = (0 : Fin 2).val ∨ n.val / 8 = (1 : Fin 2).val := by
  have := n.isLt
  show n.val / 8 = 0 ∨ n.val / 8 = 1
  omega

theorem State.restartDisplay_sign (s : State) (n : Fin 16) : (s.sign n).Restarts s.now (s.restartDisplay.sign n) := by
  have hplan := s.restartPlans_sign n
  have hnow : s.restartPlans.now = s.now := now_of_exceptSigns s.restartPlans_frame.1
  have h0 := s.restartPlans.restartLine_restarted 0
  have h1 := (s.restartPlans.restartLine 0).restartLine_restarted 1
  have hnow0 : (s.restartPlans.restartLine 0).now = s.now :=
    (now_of_exceptSigns ((retentionStable_exceptSigns s.restartPlans).restartLine ⟨rfl, rfl⟩).1).trans hnow
  have hdisplay : s.restartDisplay = (s.restartPlans.restartLine 0).restartLine 1 := rfl
  rw [hdisplay]
  rcases lineOf_cases n with hn | hn
  · obtain ⟨b, hb, hc⟩ := h0.sign n hn
    rw [h1.otherSign n (by rw [hn]; decide)]
    exact Sign.restarts_of_stages hplan hb (hnow ▸ hc) (h0.keeps n)
  · obtain ⟨b, hb, hc⟩ := h1.sign n hn
    have hkept : (s.restartPlans.restartLine 0).sign n = s.restartPlans.sign n := h0.otherSign n (by rw [hn]; decide)
    have hkeeps := h1.keeps n
    rw [hkept] at hb hkeeps
    exact Sign.restarts_of_stages hplan hb (hnow0 ▸ hc) hkeeps

theorem State.restartDisplay_line (s : State) (l : Fin 2) : (s.restartDisplay.line l).state = .active ∧ (s.restartDisplay.line l).activeCount = 0 ∧
    (s.line l).unheld.Retains (s.restartDisplay.line l) := by
  have hplan : s.restartPlans.line l = s.line l := congrArg (fun v : Vector Line 2 => v[l]) s.restartPlans_frame.2.1
  have h0 := s.restartPlans.restartLine_restarted 0
  have h1 := (s.restartPlans.restartLine 0).restartLine_restarted 1
  have hdisplay : s.restartDisplay = (s.restartPlans.restartLine 0).restartLine 1 := rfl
  rw [hdisplay, ← hplan]
  by_cases hl : l = 1
  · subst hl
    rw [← h0.otherLine 1 (by decide)]
    exact ⟨h1.active, h1.count, h1.retains⟩
  · have hl0 : l = 0 := by omega
    subst hl0
    rw [h1.otherLine 0 (by decide)]
    exact ⟨h0.active, h0.count, h0.retains⟩

end Sys2Proof.Machine
end

section
/-! SUPPORT. A step's end posts for no object that has no report yet, where every segment, every configured gate, the system and the
library unit have one: the count of reports stands (R189, R190). -/

namespace Sys2Proof.Machine

/-- The objects that the end of a step may report whatever is configured. -/
def Obj.standing (L : List Obj) : Prop := (∀ i : Fin 4, Obj.segment i ∈ L) ∧ Obj.system ∈ L ∧ Obj.library ∈ L

/-- The report set has an entry for each object of a list and no other, and every configured gate is in it. -/
def State.Roster (L : List Obj) (s : State) : Prop :=
  s.link.reports.map ReportEntry.obj = L ∧ ∀ g : Fin 6, (s.gate g).cfg.segment ≠ none → Obj.gate g ∈ L

theorem addReport_objs_of_mem {o : Obj} {l : List ReportEntry} (h : o ∈ l.map ReportEntry.obj) (f : BitVec 16) :
    (addReport o f l).map ReportEntry.obj = l.map ReportEntry.obj := by
  rw [addReport_objs, if_pos h]

namespace State.Roster

section
variable {L : List Obj} (hL : Obj.standing L) {s t : State} {i : Fin 4} {g : Fin 6}

theorem of_eq (hs : s.Roster L) (hr : t.link.reports = s.link.reports) (hg : t.gates = s.gates) : t.Roster L := by
  refine ⟨by rw [hr]; exact hs.1, fun g => ?_⟩
  rw [State.gate, hg]
  exact hs.2 g

theorem post {o : Obj} {f : BitVec 16} (ho : o ∈ L) (hs : s.Roster L) : (s.post o f).Roster L :=
  ⟨(addReport_objs_of_mem (by rw [hs.1]; exact ho) f).trans hs.1, hs.2⟩

theorem setGate {r : Gate} (hg : Obj.gate g ∈ L) (hs : s.Roster L) : (s.setGate g r).Roster L := by
  refine ⟨hs.1, fun j hj => ?_⟩
  by_cases h : j = g
  · rw [h]
    exact hg
  · rw [State.setGate_gate_other _ _ _ _ h] at hj
    exact hs.2 j hj

include hL

theorem postSegIf {c : Bool} {f : BitVec 16} (hs : s.Roster L) : (s.postIf c (.segment i) f).Roster L := by
  cases c
  · exact hs
  · exact hs.post (hL.1 i)

theorem setPosture {p : Posture} {ph : Phase} (hs : s.Roster L) : (s.setPosture i p ph).Roster L :=
  iteInduction (motive := State.Roster L) (fun _ => hs)
    fun _ => (hs.of_eq (t := s.setSegment i ((s.segment i).withPosture p ph)) rfl rfl).post (hL.1 i)

theorem completeLower (hs : s.Roster L) : (s.completeLower i).Roster L :=
  iteInduction (motive := State.Roster L) (fun _ => hs.setPosture hL) fun _ => hs

theorem completeReopen (hs : s.Roster L) : (s.completeReopen i).Roster L :=
  iteInduction (motive := State.Roster L) (fun _ => hs.setPosture hL) fun _ => hs

theorem gateChanged {a b : GateState} (hs : s.Roster L) : (s.gateChanged i a b).Roster L :=
  ((hs.postSegIf hL).completeLower hL).completeReopen hL

theorem gateRequest {k : Fin 8} {c : FlashClass} (hs : s.Roster L) : (s.gateRequest k g c).Roster L := by
  have hset : (s.updFlasher k fun f => { f with gateReq := f.gateReq.set g c }).Roster L := hs.of_eq rfl rfl
  refine iteInduction (motive := State.Roster L) (fun _ => hset) fun _ => State.Roster.post hL.2.1 ?_
  exact hset.of_eq rfl rfl

theorem putGate {a : GateState} {r : Gate} (hg : Obj.gate g ∈ L) (hs : s.Roster L) : (s.putGate g a r).Roster L := by
  have hset : ((s.setGate g r).postGate g (gateFlags a r.state)).Roster L := (hs.setGate hg).post hg
  unfold State.putGate
  dsimp only
  generalize (s.setGate g r).postGate g (gateFlags a r.state) = u at hset
  split <;> split
  · exact (hset.gateRequest hL).gateChanged hL
  · exact hset.gateChanged hL
  · exact hset.gateRequest hL
  · exact hset

theorem gateTo {v : GateState} (hg : Obj.gate g ∈ L) (hs : s.Roster L) : (s.gateTo g v).Roster L :=
  iteInduction (motive := State.Roster L) (fun _ => hs) fun _ => hs.putGate hL hg

theorem gatePause {d : Direction} (hg : Obj.gate g ∈ L) (hs : s.Roster L) : (s.gatePause g d).Roster L :=
  (hs.setGate hg).gateTo hL hg

theorem gateOpen (hg : Obj.gate g ∈ L) (hs : s.Roster L) : (s.gateOpen g).Roster L := (hs.setGate hg).gateTo hL hg

theorem reverse (hg : Obj.gate g ∈ L) (hs : s.Roster L) : (s.reverse g).Roster L := by
  unfold State.reverse
  dsimp only
  split
  · exact ((hs.setGate hg).post hg).gateTo hL hg
  · split
    · exact ((hs.setGate hg).post hg).gateTo hL hg
    · exact ((hs.setGate hg).post hg).gateTo hL hg

theorem lower (hg : Obj.gate g ∈ L) (hs : s.Roster L) : (s.lower g).Roster L :=
  iteInduction (motive := State.Roster L) (fun _ => hs.reverse hL hg) fun _ => hs.gateTo hL hg

theorem pauseUp (hg : Obj.gate g ∈ L) (hs : s.Roster L) : (s.pauseUp g).Roster L :=
  iteInduction (motive := State.Roster L) (fun _ => hs.gateOpen hL hg) fun _ => hs.gateTo hL hg

theorem endPause (hg : Obj.gate g ∈ L) (hs : s.Roster L) : (s.endPause g).Roster L := by
  unfold State.endPause
  dsimp only
  split
  · exact hs.pauseUp hL hg
  · exact iteInduction (motive := State.Roster L) (fun _ => hs.gateTo hL hg)
      fun _ => iteInduction (motive := State.Roster L) (fun _ => hs.lower hL hg) fun _ => hs
  · exact hs

theorem gateDown (hg : Obj.gate g ∈ L) (hs : s.Roster L) : (s.gateDown g).Roster L := by
  have hm : (s.updGate g fun r => { r with manualLowering := false }).Roster L := hs.setGate hg
  unfold State.gateDown
  dsimp only
  generalize (s.updGate g fun r => { r with manualLowering := false }) = u at hm
  split
  case h_1 | h_2 | h_3 => exact hm.lower hL hg
  case h_4 | h_5 | h_8 | h_9 => exact hm
  case h_6 => exact hm.gatePause hL hg
  case h_7 =>
    have hset : (u.updGate g fun r => { r with pending := .down }).Roster L := hm.setGate hg
    exact iteInduction (motive := State.Roster L) (fun _ => hset.endPause hL hg) fun _ => hset

theorem gatesDown (hs : s.Roster L) : (s.gatesDown i).Roster L :=
  foldl_keeps_mem (f := State.gateDown) (fun _ _ hg ht => ht.gateDown hL (hs.2 _ (by rw [State.mem_gatesOf.1 hg]; simp))) hs

theorem enterLower (hs : s.Roster L) : (s.enterLower i).Roster L := ((hs.setPosture hL).gatesDown hL).completeLower hL

theorem endConfirm (hs : s.Roster L) : (s.endConfirm i).Roster L :=
  iteInduction (motive := State.Roster L) (fun _ => hs.enterLower hL) fun _ => hs.setPosture hL

theorem evalConfirmPhase (hs : s.Roster L) : (s.evalConfirmPhase i).Roster L :=
  iteInduction (motive := State.Roster L) (fun _ => hs.endConfirm hL) fun _ => hs

theorem evalConfirm (hs : s.Roster L) : (s.evalConfirm i).Roster L :=
  iteInduction (motive := State.Roster L)
    (fun _ => (hs.of_eq (t := s.setSegment i { s.segment i with confirmMissing := false }) rfl rfl).post (hL.1 i))
    fun _ => hs.evalConfirmPhase hL

theorem handSigns {a : State} (hs : s.Roster L) : (State.handSigns a s).Roster L :=
  foldl_keeps (f := State.evalConfirmFor a)
    (fun _ _ ht => iteInduction (motive := State.Roster L) (fun _ => ht.evalConfirm hL) fun _ => ht) _ hs

end

end State.Roster

/-! ### The arbitrations (R141, R174) -/

theorem State.startFill_link (s : State) (p : Page) (w : Bool) : (s.startFill p w).link = s.link := by
  unfold State.startFill
  dsimp only
  split <;> rfl

theorem State.runFill_link (n : Nat) (s : State) : (State.runFill n s).link = s.link := by
  induction n generalizing s with
  | zero => rfl
  | succ n ih =>
    unfold State.runFill
    split
    · split
      · rfl
      · split
        · exact ih _
        · rfl
    · rfl

theorem State.arbitratePort_link (n : Nat) (s : State) : (State.arbitratePort n s).link = s.link := by
  induction n generalizing s with
  | zero => rfl
  | succ n ih =>
    unfold State.arbitratePort
    split
    · rfl
    · split
      · rw [ih, State.runFill_link, State.startFill_link]
      · split <;> rfl

theorem State.passOver_link (s : State) (c : Candidate) : (s.passOver c).link = s.link := by
  unfold State.passOver
  split
  · refine iteInduction (motive := fun t : State => t.link = s.link) (fun _ => rfl) fun _ => ?_
    unfold State.requestFill
    split
    · rfl
    · split
      · rfl
      · split <;> rfl
  · rfl

theorem State.sendFrame_link (s : State) (c : Candidate) (b : Bool) : (s.sendFrame c b).link = s.link := by
  unfold State.sendFrame
  dsimp only
  split <;> rfl

theorem gates_of_exceptTraffic {s t : State} (h : t.exceptTraffic = s.exceptTraffic) : t.gates = s.gates := (congrArg State.gates h :)

namespace State.Roster

variable {L : List Obj} {s t : State}

theorem traffic (hs : s.Roster L) (hl : t.link = s.link) (h : t.exceptTraffic = s.exceptTraffic) : t.Roster L :=
  hs.of_eq (by rw [hl]) (gates_of_exceptTraffic h)

theorem portChoice (hs : s.Roster L) : s.portChoice.Roster L := hs.traffic (s.arbitratePort_link 6) s.portChoice_exceptTraffic

theorem passOver {c : Candidate} (hs : s.Roster L) : (s.passOver c).Roster L := hs.traffic (s.passOver_link c) (s.passOver_exceptTraffic c)

theorem sendFrame {c : Candidate} {b : Bool} (hs : s.Roster L) : (s.sendFrame c b).Roster L :=
  hs.traffic (s.sendFrame_link c b) (s.sendFrame_exceptTraffic c b)

theorem parityError {p : Page} {w : Bool} {i : Fin 8} (hL : Obj.standing L) (hs : s.Roster L) : (s.parityError p w i).Roster L :=
  State.Roster.post hL.2.2 (hs.of_eq rfl rfl)

theorem takeCandidates (hL : Obj.standing L) (cs : List Candidate) (hs : s.Roster L) : (State.takeCandidates cs s).Roster L := by
  induction cs generalizing s with
  | nil => exact hs
  | cons c cs ih =>
    unfold State.takeCandidates
    split
    · split
      · exact hs.sendFrame
      · exact ih (hs.parityError hL).passOver
    · split
      · exact hs.passOver.sendFrame
      · exact ih hs.passOver

theorem arbitrate {l : Fin 2} (hL : Obj.standing L) (hs : s.Roster L) : (s.arbitrate l).Roster L :=
  iteInduction (motive := State.Roster L) (fun _ => hs) fun _ => hs.takeCandidates hL _

theorem serveLine {l : Fin 2} (hL : Obj.standing L) (hs : s.Roster L) : (s.serveLine l).Roster L :=
  have hclear : (s.updLine l fun r => { r with arbitrate := false }).Roster L := hs.of_eq rfl rfl
  iteInduction (motive := State.Roster L) (fun _ => (hclear.arbitrate hL).portChoice) fun _ => hs

theorem serveLines (hL : Obj.standing L) (k : Nat) (hs : s.Roster L) : (State.serveLines k s).Roster L := by
  induction k generalizing s with
  | zero => exact hs.of_eq rfl rfl
  | succ k ih => exact iteInduction (motive := State.Roster L) (fun _ => ih ((hs.serveLine hL).serveLine hL)) fun _ => hs

theorem conclude {a : State} (hL : Obj.standing L) (hs : s.Roster L) : (State.conclude a s).Roster L :=
  (hs.handSigns hL).serveLines hL 8

end State.Roster

/-! ### The re-report of every configured object (R189) -/

theorem Obj.mem_all (o : Obj) : o ∈ Obj.all := by
  cases o <;> simp [Obj.all]

/-- Every configured object has a report. -/
theorem State.rereport_reported {s : State} {o : Obj} (h : s.isConfigured o = true) : s.rereport.reported o 0 := by
  have key : ∀ l : List Obj, o ∈ l → ∀ u : State, (l.foldl (fun s o => s.post o 0) u).reported o 0 := by
    intro l
    induction l with
    | nil => exact fun hm => absurd hm List.not_mem_nil
    | cons x l ih =>
      intro hm u
      rcases List.mem_cons.1 hm with rfl | hm
      · rw [List.foldl_cons]
        exact foldl_keeps (P := fun t : State => t.reported o 0) (f := fun s o => s.post o 0)
          (fun _ _ ht => (recordStable_reported o 0).post ht) _ (u.post_reported o 0)
      · exact ih hm _
  exact key _ (List.mem_filter.2 ⟨o.mem_all, h⟩) s

theorem State.rereport_link (s : State) : ∃ r, s.rereport = { s with link := { s.link with reports := r } } :=
  foldl_keeps (P := fun t : State => ∃ r, t = { s with link := { s.link with reports := r } }) (f := fun s o => s.post o 0)
    (fun _ x ⟨r, ht⟩ => ⟨addReport x 0 r, by rw [ht]; rfl⟩) _ ⟨s.link.reports, rfl⟩

theorem State.reported_mem {s : State} {o : Obj} {f : BitVec 16} (h : s.reported o f) : o ∈ s.link.reports.map ReportEntry.obj := by
  obtain ⟨e, he, ho, -⟩ := h
  exact List.mem_map.2 ⟨e, he, ho⟩

end Sys2Proof.Machine
end

section
/-! SUPPORT. What a partial reset leaves of every unit (R189). -/

namespace Sys2Proof.Machine

/-- A state that the partial reset of another gives, unit by unit. -/
structure State.Restarted (s t : State) : Prop where
  frame : { t.exceptOutputs with
    link := s.link, channels := s.channels, economy := s.economy, paths := s.paths, trace := s.trace, counters := s.counters } =
    { s.exceptOutputs with link := s.link }
  link : { t.link with reports := [] } = { s.link with reports := [], resetCause := .restart }
  due : t.due = s.due
  channel : ∀ i : Fin 16, t.channel i = (s.channel i).restart
  economy : t.economy = 0
  path : ∀ n : Fin 12, (s.path n).Restarts (t.path n)
  trace : t.trace = { s.trace with entries := [], mark := none, truncated := false, nearFullPosted := false }
  counter : ∀ n : Fin 12, t.counter n = (s.counter n).restart
  segment : ∀ i : Fin 4, (s.segment i).Opens (t.segment i)
  gates : t.gates = s.gates
  flasher : ∀ i : Fin 8, t.flasher i = (s.flasher i).restart s.patterns s.inReserve
  patterns : t.patterns = s.patterns
  notices : t.notices = s.notices
  now : t.now = s.now
  inReserve : t.inReserve = s.inReserve

/-- The fields that a frame keeps, path records, trace, segments and reports aside. -/
theorem State.PathsRestarted.fields {b p : State} (h : b.PathsRestarted p) :
    p.channels = b.channels ∧ p.economy = b.economy ∧ p.counters = b.counters ∧ p.gates = b.gates ∧ p.flashers = b.flashers ∧
      p.patterns = b.patterns ∧ p.notices = b.notices ∧ p.due = b.due ∧ p.now = b.now ∧ p.inReserve = b.inReserve ∧
      { p.link with reports := [] } = { b.link with reports := [] } ∧ p.signs = b.signs ∧ p.lines = b.lines ∧ p.lib = b.lib := by
  have hf := h.frame
  exact ⟨(congrArg State.channels hf :), (congrArg State.economy hf :), (congrArg State.counters hf :), (congrArg State.gates hf :),
    (congrArg State.flashers hf :), (congrArg State.patterns hf :), (congrArg State.notices hf :), (congrArg State.due hf :),
    (congrArg State.now hf :), (congrArg State.inReserve hf :), (congrArg State.link hf :), (congrArg State.signs hf :),
    (congrArg State.lines hf :), (congrArg State.lib hf :)⟩

/-- The fields that a change of signs, lines, library and reports keeps. -/
theorem State.fields_of_exceptSigns {t u : State} {b : Library} (h : { t.exceptSigns with lib := b } = u.exceptSigns) :
    t.channels = u.channels ∧ t.economy = u.economy ∧ t.counters = u.counters ∧ t.gates = u.gates ∧ t.flashers = u.flashers ∧
      t.patterns = u.patterns ∧ t.notices = u.notices ∧ t.due = u.due ∧ t.now = u.now ∧ t.inReserve = u.inReserve ∧
      { t.link with reports := [] } = { u.link with reports := [] } ∧ t.paths = u.paths ∧ t.trace = u.trace ∧ t.segments = u.segments :=
  ⟨(congrArg State.channels h :), (congrArg State.economy h :), (congrArg State.counters h :), (congrArg State.gates h :),
    (congrArg State.flashers h :), (congrArg State.patterns h :), (congrArg State.notices h :), (congrArg State.due h :),
    (congrArg State.now h :), (congrArg State.inReserve h :), (congrArg State.link h :), (congrArg State.paths h :),
    (congrArg State.trace h :), (congrArg State.segments h :)⟩

/-- The state with all put aside that a partial reset writes, but for the due list. -/
def State.exceptRestart (s : State) : State :=
  { s.exceptOutputs with
    link := State.reset.link, channels := State.reset.channels, economy := 0, paths := State.reset.paths, trace := State.reset.trace,
    counters := State.reset.counters }

theorem exceptRestart_of_exceptSigns {t u : State} {b : Library} (h : { t.exceptSigns with lib := b } = u.exceptSigns) :
    t.exceptRestart = u.exceptRestart := (congrArg State.exceptRestart h :)

theorem State.PathsRestarted.exceptRestart {b p : State} (h : b.PathsRestarted p) : p.exceptRestart = b.exceptRestart :=
  (congrArg State.exceptRestart h.frame :)

/-- The units that neither signs nor lines concern. -/
theorem State.Restarted.of_stages {s p t : State} (hp : s.beginRestart.restartChannels.PathsRestarted p)
    (ht : { t.exceptSigns with lib := p.lib } = p.restartOutputs.exceptSigns) : s.Restarted t := by
  have hrestart : t.exceptRestart = s.exceptRestart := (exceptRestart_of_exceptSigns ht).trans hp.exceptRestart
  obtain ⟨hchannels, heconomy, hcounters, hgates, hflashers, hpatterns, hnotices, hdue, hnow, hreserve, hlink, -, -, -⟩ := hp.fields
  obtain ⟨hchannels', heconomy', hcounters', hgates', hflashers', hpatterns', hnotices', hdue', hnow', hreserve', hlink', hpaths',
    htrace', hsegments'⟩ := State.fields_of_exceptSigns ht
  refine
    { frame := ?_
      link := hlink'.trans hlink
      due := hdue'.trans hdue
      channel := fun i => ?_
      economy := heconomy'.trans heconomy
      path := fun n => ?_
      trace := htrace'.trans hp.trace
      counter := fun n => ?_
      segment := fun i => ?_
      gates := hgates'.trans hgates
      flasher := fun i => ?_
      patterns := hpatterns'.trans hpatterns
      notices := hnotices'.trans hnotices
      now := hnow'.trans hnow
      inReserve := hreserve'.trans hreserve }
  · exact (congrArg (fun v : State => { v with
      link := s.link, channels := s.channels, economy := s.economy, paths := s.paths, trace := s.trace, counters := s.counters }) hrestart :)
  · have h : t.channels = s.beginRestart.restartChannels.channels := hchannels'.trans hchannels
    rw [State.channel, h]
    simp [State.restartChannels, State.beginRestart, State.channel]
  · have h : t.path n = p.path n := congrArg (fun v : Vector PathRec 12 => v[n]) hpaths'
    rw [h]
    exact hp.path n
  · rw [State.counter, hcounters']
    simp only [State.restartOutputs, State.counter, hcounters]
    simp [State.restartChannels, State.beginRestart]
  · have h : t.segment i = p.segment i := congrArg (fun v : Vector Segment 4 => v[i]) hsegments'
    rw [h]
    exact hp.segment i
  · rw [State.flasher, hflashers']
    simp only [State.restartOutputs, State.flasher, hflashers, hpatterns, hreserve]
    simp [State.restartChannels, State.beginRestart, State.inReserve]

/-! ### The library and the report set (R183, R189) -/

theorem State.restartLibrary_leaves (v : State) :
    ∃ r, v.restartLibrary = { v with lib := v.lib.restart, link := { v.link with reports := r } } := by
  unfold State.restartLibrary
  cases !v.lib.workQueue.isEmpty
  · exact ⟨v.link.reports, rfl⟩
  · exact ⟨_, rfl⟩

/-- Reports alone change when every configured object is reported and then one more. -/
theorem State.rereport_post_leaves (w : State) (o : Obj) (f : BitVec 16) :
    ∃ r, w.rereport.post o f = { w with link := { w.link with reports := r } } := by
  obtain ⟨r, hr⟩ := w.rereport_link
  rw [hr]
  exact ⟨_, rfl⟩

/-- What the last stages of a partial reset leave: the library restarted, and reports. -/
theorem State.restartEnd_leaves (v : State) (o : Obj) (f : BitVec 16) :
    ∃ r, v.restartLibrary.rereport.post o f = { v with lib := v.lib.restart, link := { v.link with reports := r } } := by
  obtain ⟨q, hq⟩ := v.restartLibrary_leaves
  obtain ⟨r, hr⟩ := v.restartLibrary.rereport_post_leaves o f
  rw [hr, hq]
  exact ⟨r, rfl⟩

/-- What a partial reset reports. -/
structure State.RestartReported (s t : State) : Prop where
  configured : ∀ o : Obj, s.isConfigured o = true → t.reported o 0
  started : t.reported .system Flag.started
  failed : s.lib.workQueue ≠ [] → t.reported .library Flag.libWriteFailed

theorem State.isConfigured_congr (v : State) (b : Library) (k : Link) (o : Obj) :
    ({ v with lib := b, link := k } : State).isConfigured o = v.isConfigured o := by
  cases o <;> rfl

theorem State.restartLibrary_isConfigured (v : State) (o : Obj) : v.restartLibrary.isConfigured o = v.isConfigured o := by
  obtain ⟨r, hr⟩ := v.restartLibrary_leaves
  rw [hr]
  exact v.isConfigured_congr ..

theorem State.restartLibrary_reported (v : State) : v.RestartReported (v.restartLibrary.rereport.post .system Flag.started) := by
  refine ⟨fun o ho => ?_, ?_, fun hw => ?_⟩
  · exact (recordStable_reported o 0).post (State.rereport_reported ((v.restartLibrary_isConfigured o).trans ho))
  · exact State.post_reported _ _ _
  · have h := recordStable_reported .library Flag.libWriteFailed
    refine h.post (h.rereport ?_)
    have hne : (!v.lib.workQueue.isEmpty) = true := by simp [hw]
    rw [State.restartLibrary, hne]
    exact State.post_reported _ _ _

/-- Everything that a partial reset leaves. -/
structure State.RestartedWhole (s t : State) : Prop extends s.Restarted t, s.RestartReported t where
  sign : ∀ n : Fin 16, (s.sign n).Restarts s.now (t.sign n)
  line : ∀ l : Fin 2, (t.line l).state = .active ∧ (t.line l).activeCount = 0 ∧ (s.line l).unheld.Retains (t.line l)
  lib : t.lib = s.lib.restart

theorem State.restartDisplay_leaves {u t : State} {r : List ReportEntry} 
    (ht : t = { u.restartDisplay with lib := u.restartDisplay.lib.restart, link := { u.restartDisplay.link with reports := r } }) :
    { t.exceptSigns with lib := u.lib } = u.exceptSigns ∧ t.lib = u.lib.restart ∧ (∀ n, t.sign n = u.restartDisplay.sign n) ∧
      ∀ l, t.line l = u.restartDisplay.line l := by
  obtain ⟨hframe, hlib⟩ := u.restartDisplay_frame
  generalize u.restartDisplay = v at *
  subst ht
  refine ⟨?_, by rw [← hlib], fun _ => rfl, fun _ => rfl⟩
  exact (congrArg (fun x : State => { x with lib := u.lib }) hframe :)

/-- A partial reset leaves configured what was configured. -/
theorem State.Restarted.isConfigured {s t : State} (h : s.Restarted t) (hsign : ∀ n : Fin 16, (t.sign n).cfg = (s.sign n).cfg) (o : Obj) :
    t.isConfigured o = s.isConfigured o := by
  have hcounter (c : Counter) : c.restart.cfg = c.cfg := by
    unfold Counter.restart
    split <;> rfl
  cases o with
  | channel i => simp [State.isConfigured, h.channel, Channel.restart]
  | path n => simp [State.isConfigured, PathRec.configured, (h.path n).1]
  | gate g => simp [State.isConfigured, State.gate, h.gates]
  | counter n => simp [State.isConfigured, h.counter, hcounter]
  | notice i => simp [State.isConfigured, h.notices]
  | sign n => simp [State.isConfigured, Sign.configured, hsign]
  | _ => rfl

theorem State.partialReset_restarted (s : State) : s.RestartedWhole s.partialReset := by
  have hp := s.beginRestart.restartChannels.restartPaths_restarted
  have hall : s.partialReset =
    s.beginRestart.restartChannels.restartPaths.restartOutputs.restartDisplay.restartLibrary.rereport.post .system Flag.started := rfl
  rw [hall]
  obtain ⟨r, hr⟩ := s.beginRestart.restartChannels.restartPaths.restartOutputs.restartDisplay.restartEnd_leaves .system Flag.started
  have hreported := s.beginRestart.restartChannels.restartPaths.restartOutputs.restartDisplay.restartLibrary_reported
  generalize s.beginRestart.restartChannels.restartPaths = p at hp hr hreported ⊢
  generalize p.restartOutputs.restartDisplay.restartLibrary.rereport.post .system Flag.started = t at hr hreported ⊢
  obtain ⟨hframe, hlib, hsign, hline⟩ := State.restartDisplay_leaves hr
  have hrest := State.Restarted.of_stages hp hframe
  obtain ⟨-, -, -, -, -, -, -, -, hnow, -, -, hsigns, hlines, hplib⟩ := hp.fields
  have hdisplay := p.restartOutputs.restartDisplay_frame.2
  have hsame (n : Fin 16) : p.restartOutputs.sign n = s.sign n := congrArg (fun v : Vector Sign 16 => v[n]) hsigns
  have hsignOf (n : Fin 16) : (s.sign n).Restarts s.now (t.sign n) := by
    have h := p.restartOutputs.restartDisplay_sign n
    rw [hsame] at h
    rw [hsign]
    have hnow' : p.restartOutputs.now = s.now := hnow
    rw [← hnow']
    exact h
  have hconfigured (o : Obj) : p.restartOutputs.restartDisplay.isConfigured o = s.isConfigured o := by
    rw [← hrest.isConfigured (fun n => (hsignOf n).cfg), hr]
    exact (State.isConfigured_congr _ _ _ o).symm
  refine
    { toRestarted := hrest
      configured := fun o ho => hreported.configured o ((hconfigured o).trans ho)
      started := hreported.started
      failed := fun hw => hreported.failed ?_
      sign := hsignOf
      line := fun l => ?_
      lib := ?_ }
  · rw [hdisplay, show p.restartOutputs.lib = s.lib from hplib]
    exact hw
  · have h := p.restartOutputs.restartDisplay_line l
    have hl : p.restartOutputs.line l = s.line l := congrArg (fun v : Vector Line 2 => v[l]) hlines
    rw [hl] at h
    rw [hline]
    exact h
  · rw [hlib]
    exact congrArg Library.restart hplib

end Sys2Proof.Machine
end

section
/-! SUPPORT. What the end of a step leaves of every unit (R125, R141, R174). -/

namespace Sys2Proof.Machine

/-! ### Gates and segments -/

theorem State.handSigns_gateCfg (a s : State) (g : Fin 6) : ((State.handSigns a s).gate g).cfg = (s.gate g).cfg := by
  refine foldl_keeps (P := fun t : State => (t.gate g).cfg = (s.gate g).cfg) (f := State.evalConfirmFor a) (fun t j ht => ?_) _ rfl
  have hother : j + 1 ≠ j := by omega
  exact iteInduction (motive := fun u : State => (u.gate g).cfg = (s.gate g).cfg)
    (fun _ => ((State.Spares.evalConfirm (s := t) hother).cfg g).trans ht) fun _ => ht

/-- Nothing of the segments changes where every segment rests. -/
theorem State.handSigns_rests {a s : State} (h : ∀ i : Fin 4, (s.segment i).rests (s.confirmed i)) : State.handSigns a s = s :=
  foldl_keeps (P := fun t : State => t = s) (f := State.evalConfirmFor a) (fun t j ht => by
    subst ht
    exact iteInduction (motive := fun u : State => u = t) (fun _ => State.evalConfirm_rests (h j)) fun _ => rfl) _ rfl

theorem postureStable_fields (i : Fin 4) (r : Segment) : PostureStable fun s => r.SameCauses (s.segment i) where
  other hseg _ _ hs := by rw [State.segment, hseg]; exact hs
  gate hs := hs
  flasher _ hs := hs
  segment {s j x} hx hs := by
    rw [State.setSegment_segment]
    split
    · next hj =>
      subst hj
      exact ⟨hx.cfg.trans hs.cfg, hx.causes.trans hs.causes, hx.occupancy.trans hs.occupancy, hx.drift.trans hs.drift,
        hx.uncertain.trans hs.uncertain⟩
    · exact hs

/-! ### The end of a step, unit by unit -/

/-- What the end of a step leaves of the state before it. -/
structure State.Concluded (q t : State) : Prop where
  frame : t.exceptConclusion = q.exceptConclusion
  gateCfg : ∀ g : Fin 6, (t.gate g).cfg = (q.gate g).cfg
  segment : ∀ i : Fin 4, (q.segment i).SameCauses (t.segment i)
  spares : ∀ i : Fin 4, (q.segment i).rests (q.confirmed i) → q.Spares t i
  rests : (∀ i : Fin 4, (q.segment i).rests (q.confirmed i)) → t.gates = q.gates ∧ t.flashers = q.flashers
  line : ∀ l : Fin 2, (q.line l).Exchanges (t.line l)
  traffic : q.TrafficKept t
  lib : Library.Keeps (fun _ => True) q.lib t.lib
  busy : q.linesBusy → q.lib.rests → t.lib = q.lib
  reported : ∀ (o : Obj) (f : BitVec 16), q.reported o f → t.reported o f
  roster : ∀ L : List Obj, Obj.standing L → q.Roster L → t.Roster L

theorem flashers_of_exceptTraffic {s t : State} (h : t.exceptTraffic = s.exceptTraffic) : t.flashers = s.flashers :=
  (congrArg State.flashers h :)

theorem State.conclude_concluded (a q : State) : q.Concluded (State.conclude a q) := by
  have hhand := State.handSigns_exceptBarriers a q
  have hlines := lines_of_exceptBarriers hhand
  have hlib := lib_of_exceptBarriers hhand
  have hfinish := (State.handSigns a q).finish_exceptTraffic
  refine
    { frame := State.conclude_exceptConclusion a q
      gateCfg := fun g => ?_
      segment := fun i => (postureStable_fields i (q.segment i)).conclude ⟨rfl, rfl, rfl, rfl, rfl⟩
      spares := fun i hi => State.conclude_spares hi
      rests := fun hr => ?_
      line := fun l => State.conclude_line a q l
      traffic := (State.TrafficKept.of_eq hlines (by rw [hlib]) (by rw [hlib])).trans (State.finish_kept _)
      lib := State.conclude_libKeeps a fun _ _ => trivial
      busy := fun hb hr => ?_
      reported := fun o f ho => (recordStable_reported o f).toStepStable.conclude ho
      roster := fun L hL hs => hs.conclude hL }
  · rw [← State.handSigns_gateCfg a q g]
    exact congrArg (fun v : Vector Gate 6 => v[g].cfg) (gates_of_exceptTraffic hfinish)
  · have hq := State.handSigns_rests (a := a) hr
    rw [hq] at hfinish
    rw [State.conclude, hq]
    exact ⟨gates_of_exceptTraffic hfinish, flashers_of_exceptTraffic hfinish⟩
  · have hbusy : (State.handSigns a q).linesBusy := fun l => by
      have hl : (State.handSigns a q).line l = q.line l := congrArg (fun v : Vector Line 2 => v[l]) hlines
      rw [hl]
      exact hb l
    rw [State.conclude, State.finish_rests (by rw [hlib]; exact hr) hbusy]
    exact hlib

theorem State.Concluded.fields {q t : State} (h : q.Concluded t) :
    t.channels = q.channels ∧ t.economy = q.economy ∧ t.counters = q.counters ∧ t.patterns = q.patterns ∧ t.notices = q.notices ∧
      t.due = q.due ∧ t.now = q.now ∧ { t.link with reports := [] } = { q.link with reports := [] } ∧ t.paths = q.paths ∧
      t.trace = q.trace ∧ t.signs = q.signs := by
  have hf := h.frame
  exact ⟨(congrArg State.channels hf :), (congrArg State.economy hf :), (congrArg State.counters hf :), (congrArg State.patterns hf :),
    (congrArg State.notices hf :), (congrArg State.due hf :), (congrArg State.now hf :), (congrArg State.link hf :),
    (congrArg State.paths hf :), (congrArg State.trace hf :), (congrArg State.signs hf :)⟩

theorem State.Concluded.exceptRestart {q t : State} (h : q.Concluded t) : t.exceptRestart = q.exceptRestart :=
  (congrArg State.exceptRestart h.frame :)

end Sys2Proof.Machine
end

section
/-! SUPPORT. RESTART: what it abandons and what it keeps (R189). -/

namespace Sys2Proof.Machine

/-! ### The segments (R23) -/

/-- A segment that is settled rests after a partial reset. -/
theorem State.RestartedWhole.rests {s p : State} (h : s.RestartedWhole p) {i : Fin 4} (hs : s.confirmSettled i) :
    (p.segment i).rests (p.confirmed i) := by
  have hadvance : p.advanceOf i = s.advanceOf i := List.filter_congr fun n _ => by
    simp only [Sign.isAdvanceOf, (h.sign n).cfg]
  rcases hs with hs | ⟨hphase, hmissing⟩
  · left
    rw [← Bool.not_eq_true] at hs ⊢
    refine mt (fun hc => ?_) hs
    rw [State.confirmed, hadvance, List.all_eq_true] at hc
    rw [State.confirmed, List.all_eq_true]
    exact fun n hn => (h.sign n).confirms (hc n hn)
  · right
    rcases h.segment i with he | ⟨-, hopen, hphase', -, -, -⟩
    · rw [he]
      exact ⟨hphase, fun _ => hmissing⟩
    · rw [hphase']
      refine ⟨by decide, fun hclosing => ?_⟩
      rcases hopen with ho | ho <;> rcases hclosing with hc | hc <;> rw [ho] at hc <;> cases hc

/-! ### The configuration (R181) -/

theorem State.configImage_congr {s t : State} (hchannel : ∀ i, (t.channel i).cfg = (s.channel i).cfg)
    (hpath : ∀ i, (t.path i).cfg = (s.path i).cfg) (hgate : ∀ i, (t.gate i).cfg = (s.gate i).cfg)
    (hcounter : ∀ i, (t.counter i).cfg = (s.counter i).cfg) (hsegment : ∀ i, (t.segment i).cfg = (s.segment i).cfg)
    (hsign : ∀ i, (t.sign i).cfg = (s.sign i).cfg) (hline : ∀ i, (t.line i).cfg = (s.line i).cfg) (hpatterns : t.patterns = s.patterns)
    (hmargin : t.notices.margin = s.notices.margin) (hpre : t.trace.preCount = s.trace.preCount)
    (htrace : t.trace.margin = s.trace.margin) : t.configImage = s.configImage := by
  unfold State.configImage
  simp only [hchannel, hpath, hgate, hcounter, hsegment, hsign, hline, hpatterns, hmargin, hpre, htrace]

theorem Counter.restart_cfg (c : Counter) : c.restart.cfg = c.cfg := by
  unfold Counter.restart
  split <;> rfl

/-! ### The count of reports (R189) -/

theorem State.RestartedWhole.count {s p q t : State} (h : s.RestartedWhole p) (hq : q.link.reports = p.link.reports) (hg : q.gates = p.gates)
    (hc : q.Concluded t) : t.link.reports.length = p.link.reports.length := by
  have hmem (o : Obj) (ho : s.isConfigured o = true) : o ∈ p.link.reports.map ReportEntry.obj := State.reported_mem (h.configured o ho)
  have hroster : q.Roster (p.link.reports.map ReportEntry.obj) := by
    refine ⟨by rw [hq], fun g hcfg => hmem _ ?_⟩
    rw [State.gate, hg, h.gates] at hcfg
    exact Option.isSome_iff_ne_none.2 hcfg
  have hlast := hc.roster _ ⟨fun i => hmem _ rfl, State.reported_mem h.started, hmem _ rfl⟩ hroster
  have hlength := congrArg List.length hlast.1
  rwa [List.length_map, List.length_map] at hlength

/-! ### The statement's parts -/

/-- A generator restarted on its effective class (R103). -/
theorem Flasher.restart_leaves (pats : Patterns) (b : Bool) (f : Flasher) :
    (f.restart pats b).gateReq = f.gateReq ∧ (f.restart pats b).pathReq = f.pathReq ∧ (f.restart pats b).running = f.effective b ∧
      ((f.restart pats b).running ≠ .none → (f.restart pats b).phaseOn = true ∧
        (f.restart pats b).countdown = (pats.of (f.restart pats b).running).on) ∧
      ((f.restart pats b).running = .none → (f.restart pats b).phaseOn = false ∧ (f.restart pats b).countdown = 0) := by
  unfold Flasher.restart
  dsimp only
  split
  · next hc => exact ⟨rfl, rfl, hc.symm, fun h => absurd rfl h, fun _ => ⟨rfl, rfl⟩⟩
  · next hc => exact ⟨rfl, rfl, rfl, fun _ => ⟨rfl, rfl⟩, fun h => absurd h hc⟩

theorem Channel.restart_eq (c : Channel) : c.restart =
    { c with riseRun := 0, fallRun := 0, recoveryRun := 0, compared := none,
             state := (match c.cfg.mode with | .off => .off | .fixed => .quiet | .reference => .quiet | .serve => .serve) } := by
  unfold Channel.restart
  cases c.cfg.mode <;> rfl

theorem Library.restart_port (b : Library) : b.restart.port = match b.port with | .fill .. => .idle | op => op := rfl

theorem Library.restart_opTicks (b : Library) : b.restart.opTicks = match b.port with | .fill .. => 0 | _ => b.opTicks := rfl

/-- The cache and the port after a partial reset (R183). -/
theorem Library.restart_leaves (b : Library) :
    b.restart.missQueue = [] ∧ b.restart.workQueue = [] ∧ b.restart.faulted = [] ∧ b.restart.cursor = none ∧ b.restart.nextSeq = b.nextSeq ∧
      (∀ (k : Fin 32) (w : Bool), (b.restart.cache[k].way w).valid = false ∧ b.restart.cache[k].lru1 = false) ∧
      (∀ it : WorkItem, b.workQueue.getLast? = some it → b.restart.lastFailure = some (it, .discarded)) ∧
      (∀ (p : Page) (w : Bool) (i : Fin 8) (r : Bool), b.port = .fill p w i r → b.restart.port = .idle ∧ b.restart.opTicks = 0) ∧
      ∀ (seq : Byte) (p : Page) (i : Fin 8) (d : StripData) (k : Fin 512) (image : Profile),
        b.port = .program seq p i d ∨ b.port = .erase seq k ∨ b.port = .save seq image →
          b.restart.port = b.port ∧ b.restart.opTicks = b.opTicks ∧ b.port ≠ .idle := by
  refine ⟨rfl, rfl, rfl, rfl, by simp only [Library.restart], fun k w => ?_, fun it hit => ?_, fun p w i r hp => ?_, fun seq p i d k image hp => ?_⟩
  · unfold Library.restart
    cases w <;> simp [CacheSet.way, CacheLine.drop]
  · simp [Library.restart, discardFailure, hit]
  · rw [b.restart_port, b.restart_opTicks, hp]
    exact ⟨rfl, rfl⟩
  · rw [b.restart_port, b.restart_opTicks]
    rcases hp with hp | hp | hp <;> rw [hp] <;> exact ⟨rfl, rfl, PortOp.noConfusion⟩

/-- The library rests after a partial reset: its lists are empty. -/
theorem Library.restart_rests (b : Library) : b.restart.rests := by
  by_cases h : b.restart.port = .idle
  · exact .inr ⟨rfl, rfl⟩
  · exact .inl h

end Sys2Proof.Machine
end

section
/-! SUPPORT. RESTART settled: the partial reset, answered, and the end of its step (R189). -/

namespace Sys2Proof.Machine

/-- A restarted state with its reply, and the state at the end of the step. -/
structure State.RestartEnds (s p q t : State) (tag : Byte) : Prop where
  whole : s.RestartedWhole p
  answered : q = p.answered 0x02 tag .ok (u8 p.link.reports.length ++ u8 s.lib.workQueue.length)
  ends : q.Concluded t

namespace State.RestartEnds

variable {s p q t : State} {tag : Byte} (h : s.RestartEnds p q t tag)
include h

theorem segment_eq (i : Fin 4) : q.segment i = p.segment i := by rw [h.answered]; rfl

theorem confirmed_eq (i : Fin 4) : q.confirmed i = p.confirmed i := by rw [h.answered]; rfl

theorem gates_eq : q.gates = s.gates := by
  rw [h.answered]
  exact h.whole.gates

theorem flashers_eq : q.flashers = p.flashers := by rw [h.answered]; rfl

theorem lib_eq : q.lib = s.lib.restart := by
  rw [h.answered]
  exact h.whole.lib

theorem line_eq (l : Fin 2) : q.line l = p.line l := by rw [h.answered]; rfl

theorem rests {i : Fin 4} (hs : s.confirmSettled i) : (q.segment i).rests (q.confirmed i) := by
  rw [h.segment_eq, h.confirmed_eq]
  exact h.whole.rests hs

theorem reported {o : Obj} {f : BitVec 16} (ho : p.reported o f) : t.reported o f :=
  h.ends.reported o f (by rw [h.answered]; exact ho)

theorem configured {o : Obj} (ho : s.isConfigured o = true) : t.reported o 0 := h.reported (h.whole.configured o ho)

theorem channel (i : Fin 16) : t.channel i = (s.channel i).restart := by
  obtain ⟨hchannels, -⟩ := h.ends.fields
  rw [State.channel, hchannels, h.answered]
  exact h.whole.channel i

theorem path (n : Fin 12) : (s.path n).Restarts (t.path n) := by
  obtain ⟨-, -, -, -, -, -, -, -, hpaths, -⟩ := h.ends.fields
  have hp : t.path n = p.path n := by
    rw [State.path, hpaths, h.answered]
    rfl
  rw [hp]
  exact h.whole.path n

theorem counter (n : Fin 12) : t.counter n = (s.counter n).restart := by
  obtain ⟨-, -, hcounters, -⟩ := h.ends.fields
  rw [State.counter, hcounters, h.answered]
  exact h.whole.counter n

theorem trace : t.trace = { s.trace with entries := [], mark := none, truncated := false, nearFullPosted := false } := by
  obtain ⟨-, -, -, -, -, -, -, -, -, htrace, -⟩ := h.ends.fields
  rw [htrace, h.answered]
  exact h.whole.trace

theorem economy : t.economy = 0 := by
  obtain ⟨-, heconomy, -⟩ := h.ends.fields
  rw [heconomy, h.answered]
  exact h.whole.economy

theorem due : t.due = s.due := by
  obtain ⟨-, -, -, -, -, hdue, -⟩ := h.ends.fields
  rw [hdue, h.answered]
  exact h.whole.due

theorem sign (n : Fin 16) : (s.sign n).Restarts s.now (t.sign n) := by
  obtain ⟨-, -, -, -, -, -, -, -, -, -, hsigns⟩ := h.ends.fields
  have hp : t.sign n = p.sign n := by
    rw [State.sign, hsigns, h.answered]
    rfl
  rw [hp]
  exact h.whole.sign n

theorem segment (i : Fin 4) : (t.segment i).causes = (s.segment i).causes ∧ (t.segment i).occupancy = (s.segment i).occupancy ∧
    (t.segment i).cfg = (s.segment i).cfg := by
  obtain ⟨hcauses, hoccupancy, hcfg⟩ := (h.whole.segment i).fields
  have hs := h.ends.segment i
  rw [h.segment_eq] at hs
  exact ⟨hs.causes.trans hcauses, hs.occupancy.trans hoccupancy, hs.cfg.trans hcfg⟩

/-- A segment that is closing, closed or reopening keeps its record whole (R23). -/
theorem segment_kept {i : Fin 4} (hp : (s.segment i).posture = .closing ∨ (s.segment i).posture = .closed ∨ (s.segment i).posture = .reopening)
    (hs : s.confirmSettled i) : t.segment i = s.segment i := by
  rw [(h.ends.spares i (h.rests hs)).segment, h.segment_eq]
  refine (h.whole.segment i).kept ?_
  rcases hp with hp | hp | hp <;> rw [hp] <;> decide

theorem gates (hs : ∀ i : Fin 4, s.confirmSettled i) : t.gates = s.gates := (h.ends.rests fun i => h.rests (hs i)).1.trans h.gates_eq

theorem flasher (hs : ∀ i : Fin 4, s.confirmSettled i) (i : Fin 8) : t.flasher i = (s.flasher i).restart s.patterns s.inReserve := by
  rw [← h.whole.flasher i]
  exact congrArg (fun v : Vector Flasher 8 => v[i]) ((h.ends.rests fun i => h.rests (hs i)).2.trans h.flashers_eq)

theorem line (l : Fin 2) : (t.line l).cfg = (s.line l).cfg ∧ (t.line l).state = .active ∧ (t.line l).activeCount = 0 ∧
    (t.line l).wakeCause = (s.line l).wakeCause ∧ ((s.line l).inFlight ≠ none → (t.line l).inFlight = (s.line l).inFlight) := by
  obtain ⟨hactive, hcount, hretains⟩ := h.whole.line l
  have hcarried := h.ends.traffic.lines l
  have hexchanges := h.ends.line l
  rw [h.line_eq] at hcarried hexchanges
  have hcause : (t.line l).wakeCause = (p.line l).wakeCause := by rw [hexchanges]
  have hrests : ¬(s.line l).unheld.holds := by simp [Line.holds, Line.unheld]
  obtain ⟨-, hwake⟩ := hretains.awake hrests
  refine ⟨hcarried.cfg.trans hretains.cfg, hcarried.state.trans hactive, hcarried.activeCount.trans hcount, hcause.trans hwake, fun hf => ?_⟩
  have hflight : (p.line l).inFlight = (s.line l).inFlight := hretains.inFlight
  rw [← hflight] at hf ⊢
  exact (hcarried.flight hf).1

theorem configImage : t.configImage = s.configImage := by
  obtain ⟨-, -, -, hpatterns, hnotices, -⟩ := h.ends.fields
  have hpatterns' : t.patterns = s.patterns := by
    rw [hpatterns, h.answered]
    exact h.whole.patterns
  have hnotices' : t.notices = s.notices := by
    rw [hnotices, h.answered]
    exact h.whole.notices
  refine State.configImage_congr (fun i => ?_) (fun i => (h.path i).1) (fun i => ?_) (fun i => ?_) (fun i => (h.segment i).2.2)
    (fun i => (h.sign i).cfg) (fun i => (h.line i).1) hpatterns' (by rw [hnotices']) (by rw [h.trace]) (by rw [h.trace])
  · rw [h.channel]
    rfl
  · rw [h.ends.gateCfg, State.gate, h.gates_eq]
    rfl
  · rw [h.counter]
    exact Counter.restart_cfg _

/-- The library while neither line is free to ask for a page (R183). -/
theorem lib_busy (hb : ∀ l : Fin 2, (s.line l).inFlight ≠ none) : t.lib = s.lib.restart := by
  refine (h.ends.busy (fun l => ?_) ?_).trans h.lib_eq
  · rw [h.line_eq, (h.whole.line l).2.2.inFlight]
    exact hb l
  · rw [h.lib_eq]
    exact s.lib.restart_rests

theorem port (hkept : s.lib.restart.port = s.lib.port ∧ s.lib.restart.opTicks = s.lib.opTicks ∧ s.lib.port ≠ .idle) :
    t.lib.port = s.lib.port ∧ t.lib.opTicks = s.lib.opTicks := by
  obtain ⟨hport, hticks, hbusy⟩ := hkept
  have hq := h.lib_eq
  obtain ⟨hport', hticks'⟩ := h.ends.traffic.port (by rw [hq, hport]; exact hbusy)
  rw [hq] at hport' hticks'
  exact ⟨hport'.trans hport, hticks'.trans hticks⟩

theorem link : t.link = { s.link with
    reports := t.link.reports, resetCause := .restart,
    reply := some { kind := 0x02, tag := tag, outcome := .ok, data := u8 t.link.reports.length ++ u8 s.lib.workQueue.length } } := by
  obtain ⟨-, -, -, -, -, -, -, hlink, -⟩ := h.ends.fields
  have hcount : t.link.reports.length = p.link.reports.length :=
    h.whole.count (q := q) (by rw [h.answered]; rfl) (by rw [h.answered]; rfl) h.ends
  have hwhole := h.whole.link
  rw [hcount]
  rw [h.answered] at hlink
  generalize u8 p.link.reports.length ++ u8 s.lib.workQueue.length = data at hlink ⊢
  have hp : p.answered 0x02 tag .ok data = { p with link := { p.link with reply := some { kind := 0x02, tag := tag, outcome := .ok, data := data } } } := rfl
  rw [hp] at hlink
  generalize t.link = a at *
  generalize p.link = b at *
  generalize s.link = c at *
  cases a; cases b; cases c
  simp_all

theorem exceptOutputs : { t.exceptOutputs with
    link := s.link, channels := s.channels, economy := s.economy, paths := s.paths, trace := s.trace,
    counters := s.counters, due := s.due } = { s.exceptOutputs with link := s.link } := by
  have hq : q.exceptRestart = p.exceptRestart := by rw [h.answered]; rfl
  have ht := h.ends.exceptRestart.trans hq
  have hp := h.whole.frame
  have key {t p : State} (ht : t.exceptRestart = p.exceptRestart) : ({ t.exceptOutputs with
      link := s.link, channels := s.channels, economy := s.economy, paths := s.paths, trace := s.trace, counters := s.counters,
      due := s.due } : State) = { p.exceptOutputs with
      link := s.link, channels := s.channels, economy := s.economy, paths := s.paths, trace := s.trace, counters := s.counters, due := s.due } :=
    (congrArg (fun v : State => { v with link := s.link, channels := s.channels, economy := s.economy, paths := s.paths, trace := s.trace,
                                         counters := s.counters, due := s.due }) ht :)
  exact (key ht).trans (congrArg (fun v : State => { v with due := s.due }) hp :)

end State.RestartEnds

theorem restart_ends (tag : Byte) {s : State} (h : s.listening) :
    ∃ p q t : State, exec (.restart tag) s = .next t ∧ s.RestartEnds p q t tag := by
  refine ⟨_, _, _, exec_answer (c := .restart tag) rfl h, s.partialReset_restarted, rfl, State.conclude_concluded _ _⟩

/-- Settles O57: a partial reset restarts each unit in turn, and the end of its step, in which every segment that is settled rests, posts
for no object that has no report. -/
theorem restartKeepsAndClears : Obligations.RestartKeepsAndClears := by
  unfold Obligations.RestartKeepsAndClears
  intro tag s hlisten
  obtain ⟨p, q, t, hexec, h⟩ := restart_ends tag hlisten
  obtain ⟨⟨-, hdue⟩, -⟩ := hlisten
  obtain ⟨hmiss, hwork, hfaulted, hcursor, hseq, hcache, hfailure, hfill, hoperation⟩ := s.lib.restart_leaves
  have hlib := h.ends.lib
  rw [h.lib_eq] at hlib
  refine ⟨t, hexec, h.link, h.reported h.whole.started, fun i => h.configured rfl, fun l => h.configured rfl, h.configured rfl, h.configured rfl,
    fun i => ⟨fun hm => h.configured (bne_iff_ne.2 hm), fun hr => h.configured (bne_iff_ne.2 hr), ?_⟩,
    fun n => ?_, fun i hg => h.configured (Option.isSome_iff_ne_none.2 hg), fun i hn => h.configured (bne_iff_ne.2 hn), h.segment, h.trace,
    ?_, ?_, h.configImage, fun i hp hs => h.segment_kept hp hs, h.gates, fun i hs => ?_, fun hb => ?_, fun n => ?_, h.line,
    hlib.work hwork, hlib.faulted.trans hfaulted, hlib.cursor.trans hcursor, hlib.nextSeq.trans hseq, fun it hit => ?_,
    fun seq page i d b image hop => h.port (hoperation seq page i d b image hop), h.exceptOutputs⟩
  · exact (h.channel i).trans (Channel.restart_eq _)
  · obtain ⟨hcfg, hact, hvote, hstate⟩ := h.path n
    exact ⟨fun hm => h.configured (bne_iff_ne.2 hm), fun hm => h.configured (bne_iff_ne.2 hm), hcfg, hact, hvote, hstate, h.counter n⟩
  · exact h.economy
  · exact h.due.trans hdue
  · rw [h.flasher hs]
    exact Flasher.restart_leaves ..
  · rw [h.lib_busy hb]
    exact ⟨hmiss, hcache, hfill⟩
  · have hsign := h.sign n
    exact ⟨hsign.cfg, hsign.need, hsign.index, hsign.dwellCount, hsign.band, hsign.page, hsign.holdNeed,
      fun hs => ⟨hsign.accounted hs, hsign.idle hs⟩⟩
  · refine ⟨hlib.lastFailure.trans (hfailure it hit), h.reported (h.whole.failed fun hw => ?_)⟩
    rw [hw] at hit
    cases hit

end Sys2Proof.Machine
end

section
/-! SUPPORT. What a full reset finds in block 0, byte by byte (R181). -/

namespace Sys2Proof.Machine

theorem ofBytesBE_pair (a b : Byte) : ofBytesBE 16 [a, b] = a ++ b := by
  unfold ofBytesBE
  refine BitVec.eq_of_getElem_eq fun i hi => ?_
  have happend : (a ++ b)[i] = if h : i < 8 then b[i] else a[i - 8] := BitVec.getElem_append hi
  refine Eq.trans ?_ happend.symm
  by_cases h : i < 8
  · simp [h]
  · have hb : b.getLsbD i = false := BitVec.getLsbD_of_ge _ _ (by omega)
    simp [h, hb]
    exact (BitVec.getLsbD_eq_getElem (by omega))

theorem flashBytes_two (m : Flash) (a : Nat) : flashBytes m a 2 = [flashRead m a, flashRead m (a + 1)] := by
  simp [flashBytes, List.range_succ]

theorem append_toNat (a b : Byte) : (a ++ b).toNat = 256 * a.toNat + b.toNat := by
  rw [BitVec.toNat_append, Nat.shiftLeft_eq, Nat.mul_comm, ← Nat.two_pow_add_eq_or_of_lt b.isLt]

/-- The image length that the header of block 0 gives. -/
theorem imageLength_eq (m : Flash) : imageLength m = 256 * (flashRead m 2).toNat + (flashRead m 3).toNat := by
  rw [imageLength, flashBytes_two, ofBytesBE_pair, append_toNat]

/-- Block 0 reads as erased in its header. -/
def headerErased (byte : Nat → Byte) : Prop := byte 0 = 0xFF ∧ byte 1 = 0xFF ∧ byte 2 = 0xFF ∧ byte 3 = 0xFF

/-- Block 0 holds a profile of the given length: the format word, a length within the block and a CRC that checks. -/
def profileGood (byte : Nat → Byte) (length : Nat) : Prop :=
  byte 0 = 0xA6 ∧ byte 1 = 0x40 ∧ length + 6 ≤ 4096 ∧
    crc16 ((List.range (4 + length)).map byte) = byte (4 + length) ++ byte (5 + length)

theorem flashBytes_zero (m : Flash) (n : Nat) : flashBytes m 0 n = (List.range n).map (flashRead m) := by
  simp [flashBytes]

theorem append_eq_iff {a b c d : Byte} : a ++ b = c ++ d ↔ a = c ∧ b = d := by
  refine ⟨fun h => ?_, fun ⟨ha, hb⟩ => by rw [ha, hb]⟩
  have hn := congrArg BitVec.toNat h
  rw [append_toNat, append_toNat] at hn
  have := b.isLt
  have := d.isLt
  exact ⟨BitVec.eq_of_toNat_eq (by omega), BitVec.eq_of_toNat_eq (by omega)⟩

/-- What a full reset finds in block 0 (R181). -/
theorem profileResult_cases (m : Flash) :
    (headerErased (flashRead m) → profileResult m = .absent) ∧
      (profileResult m = .loaded ↔ profileGood (flashRead m) (imageLength m)) ∧
      (¬headerErased (flashRead m) → ¬profileGood (flashRead m) (imageLength m) → profileResult m = .bad) := by
  have herased : (flashBytes m 0 4).all (· == 0xFF) = true ↔ headerErased (flashRead m) := by
    simp [flashBytes, List.range_succ, headerErased]
  have hword : ofBytesBE 16 (flashBytes m 0 2) = 0xA640 ↔ flashRead m 0 = 0xA6 ∧ flashRead m 1 = 0x40 := by
    rw [flashBytes_two, ofBytesBE_pair]
    exact append_eq_iff (c := 0xA6) (d := 0x40)
  have hgood : (ofBytesBE 16 (flashBytes m 0 2) = 0xA640 ∧ 4 + imageLength m + 2 ≤ 4096 ∧
      crc16 (flashBytes m 0 (4 + imageLength m)) = ofBytesBE 16 (flashBytes m (4 + imageLength m) 2)) ↔
      profileGood (flashRead m) (imageLength m) := by
    rw [hword, flashBytes_zero, flashBytes_two, ofBytesBE_pair, profileGood, and_assoc]
    have hlen : 4 + imageLength m + 2 ≤ 4096 ↔ imageLength m + 6 ≤ 4096 := by omega
    have hnext : 4 + imageLength m + 1 = 5 + imageLength m := by omega
    rw [hlen, hnext]
  have hexclusive : headerErased (flashRead m) → ¬profileGood (flashRead m) (imageLength m) := fun h hg =>
    absurd (h.1.symm.trans hg.1) (by decide)
  have hresult : profileResult m = if (flashBytes m 0 4).all (· == 0xFF) = true then .absent
      else if ofBytesBE 16 (flashBytes m 0 2) = 0xA640 ∧ 4 + imageLength m + 2 ≤ 4096 ∧
        crc16 (flashBytes m 0 (4 + imageLength m)) = ofBytesBE 16 (flashBytes m (4 + imageLength m) 2) then .loaded
      else .bad := rfl
  rw [hresult]
  refine ⟨fun h => if_pos (herased.2 h), ⟨fun h => ?_, fun h => ?_⟩, fun h hg => ?_⟩
  · by_contra hg
    rw [if_neg (mt hgood.1 hg)] at h
    split at h <;> cases h
  · rw [if_neg fun he => hexclusive (herased.1 he) h, if_pos (hgood.2 h)]
  · rw [if_neg (mt herased.1 h), if_neg (mt hgood.1 hg)]

/-- What a full reset takes its configuration from (R36, R181). -/
theorem loadProfile_cases (m : Flash) (preset : BitVec 3) :
    (loadProfile m preset).1 = profileResult m ∧
      (profileGood (flashRead m) (imageLength m) →
        (loadProfile m preset).2 = readImage ((List.range (imageLength m)).map fun k => flashRead m (4 + k))) ∧
      (¬profileGood (flashRead m) (imageLength m) → (loadProfile m preset).2 = Profile.defaults preset) := by
  obtain ⟨-, hloaded, -⟩ := profileResult_cases m
  unfold loadProfile
  by_cases h : profileResult m = .loaded
  · rw [if_pos h]
    exact ⟨h.symm, fun _ => rfl, fun hg => absurd (hloaded.1 h) hg⟩
  · rw [if_neg h]
    exact ⟨rfl, fun hg => absurd (hloaded.2 hg) h, fun _ => rfl⟩

end Sys2Proof.Machine
end

section
/-! SUPPORT. What a full reset makes of a segment and its gates (R22, R79). -/

namespace Sys2Proof.Machine

/-! ### Gates as they start up (R79) -/

/-- A gate in one of the states that the limit inputs give at start-up. -/
def Gate.fresh (g : Gate) : Prop := g.state = .opened ∨ g.state = .closed ∨ g.state = .unknown ∨ g.state = .fault

/-- No gate that starts up off its closed limit is CLOSED by a command down. -/
theorem Gate.downed_open {g : Gate} (hf : g.fresh) (hc : g.state ≠ .closed) : (g.downed true).state ≠ .closed := by
  have hlowered : g.automatic.lowered.state ≠ .closed := by
    unfold Gate.lowered
    split
    · unfold Gate.reversed Gate.reversal
      rw [Gate.take_state]
      split
      · split <;> decide
      · decide
    · rw [Gate.take_state]
      decide
  unfold Gate.downed
  rcases hf with h | h | h | h
  · rw [h]
    exact hlowered
  · exact absurd h hc
  · rw [h]
    exact hlowered
  · rw [h]
    show g.state ≠ .closed
    exact hc

/-! ### A segment as it starts up (R22) -/

/-- What the end of CONFIRM at start-up leaves of segment i, some gate of which is not CLOSED. -/
structure State.Begun (s t : State) (i : Fin 4) : Prop where
  frame : t.exceptBarriers = s.exceptBarriers
  others : ∀ j : Fin 4, j ≠ i → s.Spares t j
  outside : ∀ g : Fin 6, (s.gate g).cfg.segment ≠ some i → t.gate g = s.gate g
  place : ∀ g : Fin 6, (s.gate g).SamePlace (t.gate g)
  segment : (s.segment i).SameCauses (t.segment i)
  followed : s.followed → t.followed
  gates : (t.segment i).phase ≠ .lower → ∀ g : Fin 6, t.gate g = s.gate g
  posture : (t.segment i).posture = .closing

theorem State.setPosture_begun {s : State} {i : Fin 4} {ph : Phase} : s.Begun (s.setPosture i .closing ph) i := by
  have hgate (g : Fin 6) : (s.setPosture i .closing ph).gate g = s.gate g := congrArg (fun v : Vector Gate 6 => v[g]) (s.setPosture_gates ..)
  refine ⟨s.setPosture_exceptBarriers .., fun j hj => .setPosture hj, fun g _ => hgate g, fun g => ?_,
    (postureStable_fields i (s.segment i)).setPosture ⟨rfl, rfl, rfl, rfl, rfl⟩, State.setPosture_followed, fun _ => hgate, ?_⟩
  · rw [hgate]
    exact .refl _
  · by_cases h : (s.segment i).posture = .closing ∧ (s.segment i).phase = ph
    · rw [show s.setPosture i .closing ph = s from if_pos h]
      exact h.1
    · rw [State.setPosture_segment_same h]
      rfl

theorem State.enterLower_followed {s : State} {i : Fin 4} (h : s.followed) : (s.enterLower i).followed :=
  driveStable_followed.completeLower (driveStable_followed.gatesDown (State.setPosture_followed h))

/-- LOWER is entered at start-up (R10, R22). -/
theorem State.enterLower_begun {s : State} {i : Fin 4} (hphase : (s.segment i).phase ≠ .lower) (hfresh : ∀ g ∈ s.gatesOf i, (s.gate g).fresh)
    (hopen : ∃ g ∈ s.gatesOf i, (s.gate g).state ≠ .closed) : s.Begun (s.enterLower i) i := by
  obtain ⟨hlowering, hin, hout, -⟩ := s.enterLower_leaves i fun h => hphase h.2
  obtain ⟨g, hg, hne⟩ := hopen
  have hplace (g : Fin 6) : (s.gate g).SamePlace ((s.enterLower i).gate g) := by
    by_cases hm : g ∈ s.gatesOf i
    · rw [hin g hm]
      exact .downed true _
    · rw [hout g hm]
      exact .refl _
  have hsegment : (s.enterLower i).segment i = (s.segment i).withPosture .closing .lower := by
    refine hlowering.resolve_right fun hall => ?_
    have hgates : g ∈ (s.enterLower i).gatesOf i := by
      rw [State.mem_gatesOf, (hplace g).cfg]
      exact State.mem_gatesOf.1 hg
    have hstate := hall.2 g hgates
    rw [hin g hg] at hstate
    exact Gate.downed_open (hfresh g hg) hne hstate
  refine ⟨s.enterLower_exceptBarriers i, fun j hj => .enterLower hj fun h => hphase h.2, fun g hg => hout g fun hm => hg (State.mem_gatesOf.1 hm),
    hplace, (postureStable_fields i (s.segment i)).enterLower ⟨rfl, rfl, rfl, rfl, rfl⟩, State.enterLower_followed, fun hp => ?_, ?_⟩
  · rw [hsegment] at hp
    exact absurd rfl hp
  · rw [hsegment]
    rfl

theorem State.evalConfirmPhase_begun {s : State} {i : Fin 4} (hposture : (s.segment i).posture = .closing) (hphase : (s.segment i).phase = .confirm)
    (hfresh : ∀ g ∈ s.gatesOf i, (s.gate g).fresh) (hopen : ∃ g ∈ s.gatesOf i, (s.gate g).state ≠ .closed) : s.Begun (s.evalConfirmPhase i) i := by
  have hne : (s.segment i).phase ≠ .lower := by rw [hphase]; decide
  refine iteInduction (motive := fun t : State => s.Begun t i) (fun _ => ?_) fun _ => ?_
  · exact iteInduction (motive := fun t : State => s.Begun t i) (fun _ => State.enterLower_begun hne hfresh hopen) fun _ => State.setPosture_begun
  · exact ⟨rfl, fun j _ => .refl s j, fun _ _ => rfl, fun _ => .refl _, ⟨rfl, rfl, rfl, rfl, rfl⟩, id, fun _ _ => rfl, hposture⟩

/-! ### One segment after another -/

/-- Every gate of segment i is in a state. -/
def State.gatesAll (s : State) (i : Fin 4) (v : GateState) : Prop := ∀ g : Fin 6, (s.gate g).cfg.segment = some i → (s.gate g).state = v

theorem State.gatesAll_iff (s : State) (i : Fin 4) (v : GateState) :
    ((s.gatesOf i).all fun g => (s.gate g).state == v) = true ↔ s.gatesAll i v := by
  simp [State.gatesAll, State.gatesOf, ← imp_iff_not_or]

/-- A segment record with the fields that gates and causes leave alone. -/
structure Segment.SameCounts (a b : Segment) : Prop where
  cfg : b.cfg = a.cfg
  occupancy : b.occupancy = a.occupancy
  drift : b.drift = a.drift
  uncertain : b.uncertain = a.uncertain

/-- What the start-up of segment i leaves. -/
structure State.SegmentStarted (s t : State) (i : Fin 4) : Prop where
  frame : t.exceptBarriers = s.exceptBarriers
  others : ∀ j : Fin 4, j ≠ i → s.Spares t j
  outside : ∀ g : Fin 6, (s.gate g).cfg.segment ≠ some i → t.gate g = s.gate g
  place : ∀ g : Fin 6, (s.gate g).SamePlace (t.gate g)
  counts : (s.segment i).SameCounts (t.segment i)
  followed : s.followed → t.followed
  gates : (t.segment i).phase ≠ .lower → ∀ g : Fin 6, t.gate g = s.gate g
  opened : s.gatesAll i .opened → t.segment i = s.segment i
  barred : ¬s.gatesAll i .opened → (t.segment i).causes = [.restart] ∧
    (s.gatesAll i .closed → (t.segment i).posture = .closed) ∧ (¬s.gatesAll i .closed → (t.segment i).posture = .closing)

/-- A segment that closes at start-up and the state it closes in, its cause already entered. -/
theorem State.SegmentStarted.of_begun {s w t : State} {i : Fin 4} (hframe : w.exceptBarriers = s.exceptBarriers) (hgates : w.gates = s.gates)
    (hfollowed : s.followed → w.followed) (hothers : ∀ j : Fin 4, j ≠ i → w.segment j = s.segment j)
    (hcauses : (w.segment i).causes = [.restart]) (hcounts : (s.segment i).SameCounts (w.segment i)) (h : w.Begun t i)
    (hopen : ¬s.gatesAll i .opened) (hclosed : ¬s.gatesAll i .closed) : s.SegmentStarted t i := by
  have hgate (g : Fin 6) : w.gate g = s.gate g := congrArg (fun v : Vector Gate 6 => v[g]) hgates
  have hw (j : Fin 4) (hj : j ≠ i) : s.Spares w j := ⟨hothers j hj, fun g => by rw [hgate], fun g _ => hgate g⟩
  refine ⟨h.frame.trans hframe, fun j hj => (hw j hj).trans (h.others j hj), fun g hg => (h.outside g (by rw [hgate]; exact hg)).trans (hgate g),
    fun g => hgate g ▸ h.place g, ⟨h.segment.cfg.trans hcounts.cfg, h.segment.occupancy.trans hcounts.occupancy,
      h.segment.drift.trans hcounts.drift, h.segment.uncertain.trans hcounts.uncertain⟩,
    fun hf => h.followed (hfollowed hf), fun hp g => (h.gates hp g).trans (hgate g), fun ho => absurd ho hopen,
    fun _ => ⟨h.segment.causes.trans hcauses, fun hc => absurd hc hclosed, fun _ => h.posture⟩⟩

theorem State.beginConfirm_followed {s : State} {i : Fin 4} (h : s.followed) : (s.beginConfirm i).followed := by
  refine State.setPosture_followed ?_
  cases (s.segment i).confirmMissing
  · exact State.followed_of_eq rfl rfl h
  · exact State.followed_of_eq rfl rfl h

theorem State.startSegment_started {s : State} {i : Fin 4} (hposture : (s.segment i).posture = .caution)
    (hfresh : ∀ g : Fin 6, (s.gate g).cfg.segment = some i → (s.gate g).fresh) :
    s.SegmentStarted (s.startSegment i) i := by
  by_cases hopen : s.gatesAll i .opened
  · rw [show s.startSegment i = s from if_pos ((s.gatesAll_iff i .opened).2 hopen)]
    exact ⟨rfl, fun j _ => .refl s j, fun _ _ => rfl, fun _ => .refl _, ⟨rfl, rfl, rfl, rfl⟩, id, fun _ _ => rfl, fun _ => rfl,
      fun h => absurd hopen h⟩
  · obtain ⟨w, hw⟩ : ∃ w, w = s.updSegment i fun r => { r with causes := [.restart] } := ⟨_, rfl⟩
    have hsegment : w.segment i = { s.segment i with causes := [.restart] } := by
      rw [hw, State.updSegment, State.setSegment_segment_same]
    have hother (j : Fin 4) (hj : j ≠ i) : w.segment j = s.segment j := by
      rw [hw, State.updSegment, State.setSegment_segment_other _ _ _ _ hj]
    have hframe : w.exceptBarriers = s.exceptBarriers := by rw [hw]; rfl
    have hgates : w.gates = s.gates := by rw [hw]; rfl
    have hflashers : w.flashers = s.flashers := by rw [hw]; rfl
    have hstart : s.startSegment i = if (w.gatesOf i).all fun g => (w.gate g).state == .closed then w.setPosture i .closed .noPhase
        else (w.beginConfirm i).evalConfirmPhase i := by
      rw [hw]
      exact if_neg (mt (s.gatesAll_iff i .opened).1 hopen)
    have hfollowed : s.followed → w.followed := State.followed_of_eq hflashers (by rw [hw]; rfl)
    clear hw
    have hgate (g : Fin 6) : w.gate g = s.gate g := congrArg (fun v : Vector Gate 6 => v[g]) hgates
    have hclosed : ((w.gatesOf i).all fun g => (w.gate g).state == .closed) = true ↔ s.gatesAll i .closed := by
      rw [w.gatesAll_iff]
      simp only [State.gatesAll, hgate]
    rw [hstart]
    by_cases hall : s.gatesAll i .closed
    · rw [if_pos (hclosed.2 hall)]
      have hset := State.setPosture_segment_same (s := w) (k := i) (p := .closed) (ph := .noPhase) (by rw [hsegment]; simp [hposture])
      have htgate (g : Fin 6) : (w.setPosture i .closed .noPhase).gate g = s.gate g :=
        (congrArg (fun v : Vector Gate 6 => v[g]) (w.setPosture_gates ..)).trans (hgate g)
      rw [hsegment] at hset
      have hspares (j : Fin 4) (hj : j ≠ i) : s.Spares w j := ⟨hother j hj, fun g => by rw [hgate], fun g _ => hgate g⟩
      exact ⟨(w.setPosture_exceptBarriers ..).trans hframe, fun j hj => (hspares j hj).trans (.setPosture hj), fun g _ => htgate g,
        fun g => by rw [htgate]; exact .refl _, ⟨by rw [hset]; rfl, by rw [hset]; rfl, by rw [hset]; rfl, by rw [hset]; rfl⟩,
        fun hf => State.setPosture_followed (hfollowed hf), fun _ => htgate, fun h => absurd h hopen,
        fun _ => ⟨by rw [hset]; rfl, fun _ => by rw [hset]; rfl, fun h => absurd hall h⟩⟩
    · rw [if_neg (mt hclosed.1 hall)]
      obtain ⟨hbegun, hbgates, hbothers, -⟩ := State.beginConfirm_leaves (s := w) (i := i) (by rw [hsegment]; simp [hposture])
      have hbgate (g : Fin 6) : (w.beginConfirm i).gate g = s.gate g := congrArg (fun v : Vector Gate 6 => v[g]) (hbgates.trans hgates)
      refine .of_begun (w := w.beginConfirm i) ((w.beginConfirm_exceptBarriers i).trans hframe) (hbgates.trans hgates)
        (fun hf => State.beginConfirm_followed (hfollowed hf)) (fun j hj => (hbothers j hj).trans (hother j hj))
        (by rw [hbegun, hsegment]; rfl) ⟨by rw [hbegun, hsegment]; rfl, by rw [hbegun, hsegment]; rfl, by rw [hbegun, hsegment]; rfl,
          by rw [hbegun, hsegment]; rfl⟩
        (State.evalConfirmPhase_begun (by rw [hbegun]; rfl) (by rw [hbegun]; rfl) (fun g hg => ?_) ?_) hopen hall
      · rw [State.mem_gatesOf, hbgate] at hg
        rw [hbgate]
        exact hfresh g hg
      · simp only [State.gatesAll, not_forall] at hall
        obtain ⟨g, hg, hne⟩ := hall
        exact ⟨g, State.mem_gatesOf.2 (by rw [hbgate]; exact hg), by rw [hbgate]; exact hne⟩

/-! ### All segments -/

/-- The state when every segment has started up. -/
def State.startSegments (s : State) : State := (List.finRange 4).foldl State.startSegment s

/-- What the start-up of segment i makes of it, in a state whose gates the inputs alone have placed. -/
structure State.SegmentUp (s t : State) (i : Fin 4) : Prop where
  counts : (s.segment i).SameCounts (t.segment i)
  gates : (t.segment i).phase ≠ .lower → ∀ g : Fin 6, (s.gate g).cfg.segment = some i → t.gate g = s.gate g
  opened : s.gatesAll i .opened → t.segment i = s.segment i
  barred : ¬s.gatesAll i .opened → (t.segment i).causes = [.restart] ∧
    (s.gatesAll i .closed → (t.segment i).posture = .closed) ∧ (¬s.gatesAll i .closed → (t.segment i).posture = .closing)

theorem State.Spares.gatesAll {s u : State} {i : Fin 4} (h : s.Spares u i) (v : GateState) : u.gatesAll i v ↔ s.gatesAll i v := by
  unfold State.gatesAll
  refine forall_congr' fun g => ?_
  rw [h.cfg g]
  exact imp_congr_right fun hg => by rw [h.gates g hg]

/-- The start-up of a segment that the ones before it have spared. -/
theorem State.SegmentStarted.up {s u t : State} {i : Fin 4} (hs : s.Spares u i) (h : u.SegmentStarted t i) : s.SegmentUp t i where
  counts := hs.segment ▸ h.counts
  gates hp g hg := (h.gates hp g).trans (hs.gates g hg)
  opened ho := (h.opened ((hs.gatesAll _).2 ho)).trans hs.segment
  barred hb := by
    obtain ⟨hcauses, hclosed, hclosing⟩ := h.barred (mt (hs.gatesAll _).1 hb)
    exact ⟨hcauses, fun hc => hclosed ((hs.gatesAll _).2 hc), fun hc => hclosing (mt (hs.gatesAll _).1 hc)⟩

/-- The start-up of other segments leaves one as it is. -/
theorem State.SegmentUp.of_spares {s u t : State} {i : Fin 4} (hcfg : ∀ g : Fin 6, (u.gate g).cfg = (s.gate g).cfg) (h : s.SegmentUp u i)
    (hs : u.Spares t i) : s.SegmentUp t i where
  counts := hs.segment ▸ h.counts
  gates hp g hg := (hs.gates g ((congrArg GateConfig.segment (hcfg g)).trans hg)).trans (h.gates (hs.segment ▸ hp) g hg)
  opened ho := hs.segment.trans (h.opened ho)
  barred hb := by
    rw [hs.segment]
    exact h.barred hb

/-- What the start-up of the segments leaves, but for those still to come. -/
structure State.SegmentsStarted (s t : State) (rest : List (Fin 4)) : Prop where
  frame : t.exceptBarriers = s.exceptBarriers
  place : ∀ g : Fin 6, (s.gate g).SamePlace (t.gate g)
  unconfigured : ∀ g : Fin 6, (s.gate g).cfg.segment = none → t.gate g = s.gate g
  followed : s.followed → t.followed
  spared : ∀ i ∈ rest, s.Spares t i
  up : ∀ i ∉ rest, s.SegmentUp t i

theorem State.startSegments_started {s : State} (hposture : ∀ i : Fin 4, (s.segment i).posture = .caution)
    (hfresh : ∀ g : Fin 6, (s.gate g).fresh) : s.SegmentsStarted s.startSegments [] := by
  have key : ∀ ns : List (Fin 4), ns.Nodup → ∀ u : State, s.SegmentsStarted u ns → s.SegmentsStarted (ns.foldl State.startSegment u) [] := by
    intro ns
    induction ns with
    | nil => exact fun _ u hu => hu
    | cons i ns ih =>
      intro hnd u hu
      obtain ⟨hi, hnd⟩ := List.nodup_cons.1 hnd
      have hspares := hu.spared i List.mem_cons_self
      have h := State.startSegment_started (s := u) (i := i) (by rw [hspares.segment]; exact hposture i) fun g hg => by
        rw [hspares.gates g (by rw [← hspares.cfg g]; exact hg)]
        exact hfresh g
      refine ih hnd _ ⟨h.frame.trans hu.frame, fun g => (hu.place g).trans (h.place g), fun g hg => ?_, fun hf => h.followed (hu.followed hf),
        fun j hj => (hu.spared j (List.mem_cons_of_mem _ hj)).trans (h.others j fun he => hi (he ▸ hj)), fun j hj => ?_⟩
      · rw [h.outside g (by rw [(hu.place g).cfg, hg]; simp)]
        exact hu.unconfigured g hg
      · by_cases he : j = i
        · subst he
          exact h.up hspares
        · exact (hu.up j fun hm => (List.mem_cons.1 hm).elim he hj).of_spares (fun g => (hu.place g).cfg) (h.others j he)
  exact key _ (List.nodup_finRange 4) s ⟨rfl, fun _ => .refl _, fun _ _ => rfl, id, fun i _ => .refl s i, fun i hi => absurd (List.mem_finRange i) hi⟩

end Sys2Proof.Machine
end

section
/-! SUPPORT. What a full reset makes of signs and lines (R130, R145, R162, R170). -/

namespace Sys2Proof.Machine

/-! ### Plans and retention (R130, R162) -/

theorem State.startPlan_sign (s : State) (n m : Fin 16) :
    (n = m → ∃ c r, (s.startPlan n).sign m = { s.sign m with planClass := c, rotation := r }) ∧ (n ≠ m → (s.startPlan n).sign m = s.sign m) := by
  unfold State.startPlan
  dsimp only
  refine ⟨fun h => ?_, fun h => ?_⟩
  · subst h
    split
    · rw [State.setSign_sign_same]
      exact ⟨_, _, rfl⟩
    · exact ⟨_, _, rfl⟩
  · split
    · exact State.setSign_sign_other _ _ _ _ (Ne.symm h)
    · rfl

theorem State.startPlan_frame (s : State) (n : Fin 16) :
    (s.startPlan n).exceptSigns = s.exceptSigns ∧ (s.startPlan n).lines = s.lines ∧ (s.startPlan n).lib = s.lib := by
  unfold State.startPlan
  dsimp only
  split
  · exact ⟨State.setSign_exceptSigns .., rfl, rfl⟩
  · exact ⟨rfl, rfl, rfl⟩

/-- The state when every sign has taken its start-up plan. -/
def State.startPlans (s : State) : State := (List.finRange 16).foldl State.startPlan s

theorem State.startPlans_sign (s : State) (n : Fin 16) : ∃ c r, s.startPlans.sign n = { s.sign n with planClass := c, rotation := r } := by
  refine foldl_establishes (f := State.startPlan) (Q := fun t => t.sign n = s.sign n)
    (P := fun t => ∃ c r, t.sign n = { s.sign n with planClass := c, rotation := r })
    (List.nodup_finRange 16) (List.mem_finRange n) (fun t m hm ht => ((t.startPlan_sign m n).2 hm).trans ht) (fun t ht => ?_)
    (fun t m hm ht => ?_) rfl
  · rw [← ht]
    exact (t.startPlan_sign n n).1 rfl
  · rw [(t.startPlan_sign m n).2 hm]
    exact ht

theorem State.startPlans_frame (s : State) : s.startPlans.exceptSigns = s.exceptSigns ∧ s.startPlans.lines = s.lines ∧
    s.startPlans.lib = s.lib :=
  foldl_keeps (f := State.startPlan) (P := fun t => t.exceptSigns = s.exceptSigns ∧ t.lines = s.lines ∧ t.lib = s.lib)
    (fun t n ht => by
      obtain ⟨hframe, hlines, hlib⟩ := t.startPlan_frame n
      exact ⟨hframe.trans ht.1, hlines.trans ht.2.1, hlib.trans ht.2.2⟩) _ ⟨rfl, rfl, rfl⟩

theorem State.startLine_leaves (s : State) (l : Fin 2) :
    (∀ n : Fin 16, (s.startLine l).sign n = if n.val / 8 = l.val then Sign.startRetention (s.targetOf l) (s.sign n) else s.sign n) ∧
      (s.startLine l).line l = { s.line l with target := s.targetOf l } ∧ (∀ j : Fin 2, j ≠ l → (s.startLine l).line j = s.line j) ∧
      (s.startLine l).exceptSigns = s.exceptSigns ∧ (s.startLine l).lib = s.lib := by
  unfold State.startLine
  dsimp only
  generalize s.targetOf l = t
  have hsigns := foldl_sign (F := fun _ => Sign.startRetention t) (f := fun s n => s.updSign n (Sign.startRetention t))
    (fun s n => s.updSign_eq n _) (signsOf_nodup l) (s.updLine l fun r => { r with target := t })
  have hlines := foldl_setSign_lines (F := fun _ => Sign.startRetention t) (f := fun s n => s.updSign n (Sign.startRetention t))
    (fun s n => s.updSign_eq n _) (signsOf l) (s.updLine l fun r => { r with target := t })
  have hframe := foldl_setSign_exceptSigns (F := fun _ => Sign.startRetention t) (f := fun s n => s.updSign n (Sign.startRetention t))
    (fun s n => s.updSign_eq n _) (signsOf l) (s.updLine l fun r => { r with target := t })
  have hlib : ((signsOf l).foldl (fun s n => s.updSign n (Sign.startRetention t)) (s.updLine l fun r => { r with target := t })).lib = s.lib :=
    foldl_keeps (P := fun u : State => u.lib = s.lib) (f := fun s n => s.updSign n (Sign.startRetention t)) (fun _ _ hu => hu) _ rfl
  generalize (signsOf l).foldl (fun s n => s.updSign n (Sign.startRetention t)) (s.updLine l fun r => { r with target := t }) = u at *
  have hline (j : Fin 2) : u.line j = (s.updLine l fun r => { r with target := t }).line j := congrArg (fun v : Vector Line 2 => v[j]) hlines
  refine ⟨fun n => ?_, ?_, fun j hj => ?_, hframe, hlib⟩
  · rw [hsigns]
    simp only [mem_signsOf]
    rfl
  · rw [hline, State.updLine_eq, State.setLine_line_same]
  · rw [hline, State.updLine_eq, State.setLine_line_other _ _ _ _ hj]

/-- The state when both lines have taken their targets, and their signs their retention values. -/
def State.startLines (s : State) : State := (s.startPlans.startLine 0).startLine 1

/-- A sign before the load of its line is known. -/
def Sign.Starting (a b : Sign) : Prop := ∃ c r t, b = Sign.startRetention t { a with planClass := c, rotation := r }

theorem State.startLines_sign (s : State) (n : Fin 16) : (s.sign n).Starting (s.startLines.sign n) := by
  obtain ⟨c, r, hplan⟩ := s.startPlans_sign n
  obtain ⟨h0, -⟩ := s.startPlans.startLine_leaves 0
  obtain ⟨h1, -⟩ := (s.startPlans.startLine 0).startLine_leaves 1
  have hsign : s.startLines.sign n = ((s.startPlans.startLine 0).startLine 1).sign n := rfl
  rw [hsign, h1, h0, hplan]
  rcases lineOf_cases n with hn | hn
  · rw [if_pos hn, if_neg (by rw [hn]; decide)]
    exact ⟨c, r, _, rfl⟩
  · rw [if_pos hn, if_neg (by rw [hn]; decide)]
    exact ⟨c, r, _, rfl⟩

theorem State.startLines_line (s : State) (l : Fin 2) : ∃ t, s.startLines.line l = { s.line l with target := t } := by
  have hplan : s.startPlans.line l = s.line l := congrArg (fun v : Vector Line 2 => v[l]) s.startPlans_frame.2.1
  obtain ⟨-, hsame0, hother0, -⟩ := s.startPlans.startLine_leaves 0
  obtain ⟨-, hsame1, hother1, -⟩ := (s.startPlans.startLine 0).startLine_leaves 1
  have hline : s.startLines.line l = ((s.startPlans.startLine 0).startLine 1).line l := rfl
  rw [hline, ← hplan]
  by_cases hl : l = 1
  · subst hl
    rw [hsame1, hother0 1 (by decide)]
    exact ⟨_, rfl⟩
  · have hl0 : l = 0 := by omega
    subst hl0
    rw [hother1 0 (by decide), hsame0]
    exact ⟨_, rfl⟩

theorem State.startLines_frame (s : State) : s.startLines.exceptSigns = s.exceptSigns ∧ s.startLines.lib = s.lib := by
  obtain ⟨hframe, -, hlib⟩ := s.startPlans_frame
  obtain ⟨-, -, -, hframe0, hlib0⟩ := s.startPlans.startLine_leaves 0
  obtain ⟨-, -, -, hframe1, hlib1⟩ := (s.startPlans.startLine 0).startLine_leaves 1
  exact ⟨hframe1.trans (hframe0.trans hframe), hlib1.trans (hlib0.trans hlib)⟩

/-! ### The loads (R162) -/

/-- What the load of a line, with its shedding, leaves. -/
structure State.LoadStarted (s t : State) : Prop where
  frame : t.exceptSigns = s.exceptSigns
  lib : t.lib = s.lib
  sign : ∀ n : Fin 16, (s.sign n).Settles (t.sign n) ∧ (s.sign n).Keeps (t.sign n)
  line : ∀ l : Fin 2, (t.line l).state = .active ∧ (t.line l).activeCount = 0 ∧ (s.line l).Retains (t.line l)

theorem State.startLoad_started {s : State} (h : ∀ l : Fin 2, (s.line l).state = .active ∧ (s.line l).activeCount = 0) (l : Fin 2) :
    s.LoadStarted (s.startLoad l) := by
  have hsettled := (State.Settles.of_active (h l).1 (h l).2).recomputeShed.reserveSettle
  have hstable := retentionStable_exceptSigns s
  obtain ⟨hframe, hlib⟩ : (s.startLoad l).exceptSigns = s.exceptSigns ∧ (s.startLoad l).lib = s.lib :=
    hstable.reserveSettle (hstable.lines.recomputeShed (s := s) ⟨rfl, rfl⟩ trivial)
  have hoff := lineStable_off l s
  obtain ⟨hothers, -⟩ := hoff.reserveSettle (hoff.recomputeShed (s := s) ⟨fun _ _ => rfl, fun _ _ => rfl⟩ rfl) rfl
  refine ⟨hframe, hlib, fun n => ⟨hsettled.sign n, ?_⟩, fun j => ?_⟩
  · have hkeep := lineStable_sign n (s.sign n)
    exact hkeep.reserveSettle (hkeep.recomputeShed (s := s) .rfl trivial) trivial
  · by_cases hj : j = l
    · subst hj
      have hretains := lineStable_line j (s.line j)
      exact ⟨hsettled.active, hsettled.count, hretains.reserveSettle (hretains.recomputeShed (s := s) .rfl trivial) trivial⟩
    · have hsame : (s.startLoad l).line j = s.line j := hothers j hj
      rw [hsame]
      exact ⟨(h j).1, (h j).2, .rfl⟩

theorem State.LoadStarted.trans {s t u : State} (h : s.LoadStarted t) (k : t.LoadStarted u) : s.LoadStarted u where
  frame := k.frame.trans h.frame
  lib := k.lib.trans h.lib
  sign n := ⟨(h.sign n).1.trans (k.sign n).1, (h.sign n).2.trans (k.sign n).2⟩
  line l := ⟨(k.line l).1, (k.line l).2.1, (h.line l).2.2.trans (k.line l).2.2⟩

theorem State.startLoads_started {s : State} (h : ∀ l : Fin 2, (s.line l).state = .active ∧ (s.line l).activeCount = 0) :
    s.LoadStarted ((s.startLoad 0).startLoad 1) := by
  have h0 := State.startLoad_started h 0
  exact h0.trans (State.startLoad_started (fun l => ⟨(h0.line l).1, (h0.line l).2.1⟩) 1)

end Sys2Proof.Machine
end

section
/-! SUPPORT. The records of a full reset, unit by unit (R22, R36, R37, R60, R79, R93, R102, R130, R145, R181, R183, R190, R192). -/

namespace Sys2Proof.Machine

/-! ### The records from a configuration and the pins -/

/-- A state in which every record has its start-up value. -/
structure State.RecordsOf (s x : State) (cause : FullResetCause) (pins : Pins) (result : ProfileResult) (p : Profile) : Prop where
  pending : x.pending = s.pending
  due : x.due = []
  flash : x.flash = s.flash
  tmb : x.tmb = { tickCounter := 0, tickInSecond := 0, passClock := none }
  link : x.link = Link.start (resetCauseOf cause) result pins.preset
  reserveRequest : x.reserveRequest = false
  supplyLow : x.supplyLow = pins.supplyLow
  economy : x.economy = 0
  notices : x.notices = { slots := Vector.replicate 24 none, order := [], lastNumber := 0, margin := p.listMargin, spent := false }
  trace : x.trace = { entries := [], mark := none, truncated := false, nearFullPosted := false, preCount := p.preCount,
                      margin := p.traceMargin }
  lib : x.lib = Library.start
  patterns : x.patterns = p.patterns
  channel : ∀ i : Fin 16, x.channel i = p.channels[i].start
  path : ∀ n : Fin 12, (x.path n).cfg = p.paths[n] ∧ (x.path n).state = p.paths[n].start.state ∧ (x.path n).lastAct = noActivations
  counter : ∀ n : Fin 12, x.counter n = p.counters[n].start (pins.inputA.getLsbD n.val) (pins.inputB.getLsbD n.val)
  gate : ∀ g : Fin 6, x.gate g =
    p.gates[g].start (pins.openLimits.getLsbD g.val) (pins.closedLimits.getLsbD g.val) (pins.presence.getLsbD g.val)
  segment : ∀ i : Fin 4, x.segment i = p.segments[i].start
  sign : ∀ n : Fin 16, x.sign n = p.signs[n].start p.lines[lineOf n].bandMode
  line : ∀ l : Fin 2, x.line l = p.lines[l].start
  followed : x.followed

theorem startFlasher_running (pats : Patterns) (b : Bool) (gates : Vector Gate 6) (i : Fin 8) :
    (startFlasher pats b gates i).running = (startFlasher pats b gates i).effective b := by
  unfold startFlasher
  generalize ({ gateReq := _, pathReq := _, running := _, phaseOn := _, countdown := _ } : Flasher) = f
  obtain ⟨hgate, hpath, hrunning, -⟩ := f.restart_leaves pats b
  rw [hrunning, Flasher.effective, Flasher.effective, hgate, hpath]

theorem State.records_start (s : State) (cause : FullResetCause) (pins : Pins) (result : ProfileResult) (p : Profile) :
    s.RecordsOf (s.records cause pins result p).startPaths cause pins result p := by
  refine
    { pending := rfl, due := rfl, flash := rfl, tmb := rfl, link := rfl, reserveRequest := rfl, supplyLow := rfl, economy := rfl,
      notices := rfl, trace := rfl, lib := rfl, patterns := rfl
      channel := fun i => ?_, path := fun n => ?_, counter := fun n => ?_, gate := fun g => ?_, segment := fun i => ?_
      sign := fun n => ?_, line := fun l => ?_, followed := fun i => ?_ }
  · simp [State.startPaths, State.records, State.channel]
  · have h : (s.records cause pins result p).startPaths.path n =
        (s.records cause pins result p).withHealth ((s.records cause pins result p).path n) := by simp [State.startPaths, State.path]
    have hpath : (s.records cause pins result p).path n = p.paths[n].start := by simp [State.records, State.path]
    obtain ⟨hcfg, hstate, hact, -⟩ := (s.records cause pins result p).withHealth_keeps ((s.records cause pins result p).path n)
    rw [h, hcfg, hstate, hact, hpath]
    exact ⟨rfl, rfl, rfl⟩
  · simp [State.startPaths, State.records, State.counter]
  · simp [State.startPaths, State.records, State.gate]
  · simp [State.startPaths, State.records, State.segment]
  · simp [State.startPaths, State.records, State.sign]
  · simp [State.startPaths, State.records, State.line]
  · have hreserve : (s.records cause pins result p).startPaths.inReserve = pins.supplyLow := by
      simp [State.startPaths, State.records, State.inReserve]
    have hflasher : (s.records cause pins result p).startPaths.flasher i =
        startFlasher p.patterns pins.supplyLow (s.records cause pins result p).gates i := by
      simp [State.startPaths, State.records, State.flasher]
    rw [hreserve, hflasher]
    exact startFlasher_running ..

end Sys2Proof.Machine
end

section
/-! SUPPORT. A full reset, stage by stage, and what it leaves of every unit (R190). -/

namespace Sys2Proof.Machine

/-- The stages of a full reset: the records, the segments, plans and targets, the loads, and the end of start-up. -/
structure State.FullyReset (s x y w t : State) (cause : FullResetCause) (pins : Pins) (result : ProfileResult) (p : Profile) : Prop where
  records : s.RecordsOf x cause pins result p
  segments : x.SegmentsStarted y []
  loads : y.startLines.LoadStarted w
  ends : t = w.started

theorem Gate.startUp_fresh (g : Gate) : g.startUp.fresh := by
  unfold Gate.startUp Gate.fresh Gate.limitState
  cases g.configured <;> cases g.openLimit <;> cases g.closedLimit <;> simp

theorem State.fullReset_stages {s : State} (cause : FullResetCause) (pins : Pins) (h : s.cutFlash = s) :
    ∃ x y w, s.FullyReset x y w (s.fullReset cause pins) cause pins (loadProfile s.flash pins.preset).1 (loadProfile s.flash pins.preset).2 := by
  have hreset : s.fullReset cause pins = State.started ((State.startLoad (State.startLoad (State.startLines (State.startSegments
      (State.startPaths (s.records cause pins (loadProfile s.flash pins.preset).1 (loadProfile s.flash pins.preset).2)))) 0) 1)) := by
    unfold State.fullReset
    rw [h]
    rfl
  generalize loadProfile s.flash pins.preset = q at hreset ⊢
  have hrecords := s.records_start cause pins q.1 q.2
  generalize (s.records cause pins q.1 q.2).startPaths = x at hrecords hreset
  have hsegments : x.SegmentsStarted x.startSegments [] := State.startSegments_started
    (fun i => by rw [hrecords.segment]; rfl) fun g => by
      rw [hrecords.gate]
      exact Gate.startUp_fresh _
  generalize x.startSegments = y at hsegments hreset
  have hlines : y.lines = x.lines := lines_of_exceptBarriers hsegments.frame
  refine ⟨x, y, _, hrecords, hsegments, State.startLoads_started fun l => ?_, hreset⟩
  obtain ⟨r, hr⟩ := y.startLines_line l
  have hline : y.line l = x.line l := congrArg (fun v : Vector Line 2 => v[l]) hlines
  rw [hr, hline, hrecords.line]
  exact ⟨rfl, rfl⟩

theorem State.fields_of_exceptBarriers {y x : State} (h : y.exceptBarriers = x.exceptBarriers) :
    y.pending = x.pending ∧ y.due = x.due ∧ y.tmb = x.tmb ∧ { y.link with reports := [] } = { x.link with reports := [] } ∧
      y.reserveRequest = x.reserveRequest ∧ y.supplyLow = x.supplyLow ∧ y.channels = x.channels ∧ y.economy = x.economy ∧
      y.paths = x.paths ∧ y.trace = x.trace ∧ y.counters = x.counters ∧ y.patterns = x.patterns ∧ y.notices = x.notices ∧
      y.signs = x.signs ∧ y.lines = x.lines ∧ y.lib = x.lib ∧ y.flash = x.flash :=
  ⟨(congrArg State.pending h :), (congrArg State.due h :), (congrArg State.tmb h :), (congrArg State.link h :),
    (congrArg State.reserveRequest h :), (congrArg State.supplyLow h :), (congrArg State.channels h :), (congrArg State.economy h :),
    (congrArg State.paths h :), (congrArg State.trace h :), (congrArg State.counters h :), (congrArg State.patterns h :),
    (congrArg State.notices h :), (congrArg State.signs h :), (congrArg State.lines h :), (congrArg State.lib h :),
    (congrArg State.flash h :)⟩

theorem State.more_of_exceptSigns {w y : State} (h : w.exceptSigns = y.exceptSigns) :
    w.pending = y.pending ∧ w.tmb = y.tmb ∧ w.reserveRequest = y.reserveRequest ∧ w.supplyLow = y.supplyLow ∧ w.flash = y.flash :=
  ⟨(congrArg State.pending h :), (congrArg State.tmb h :), (congrArg State.reserveRequest h :), (congrArg State.supplyLow h :),
    (congrArg State.flash h :)⟩

/-- The end of start-up clears what is owed and what is due, and leaves the one report. -/
theorem State.started_fields (w : State) :
    w.started.pending = w.pending ∧ w.started.due = [] ∧ w.started.tmb = w.tmb ∧ w.started.reserveRequest = w.reserveRequest ∧
      w.started.supplyLow = w.supplyLow ∧ w.started.channels = w.channels ∧ w.started.economy = w.economy ∧ w.started.paths = w.paths ∧
      w.started.trace = w.trace ∧ w.started.counters = w.counters ∧ w.started.patterns = w.patterns ∧ w.started.notices = w.notices ∧
      w.started.lib = w.lib ∧ w.started.flash = w.flash ∧ w.started.gates = w.gates ∧ w.started.flashers = w.flashers ∧
      w.started.segments = w.segments ∧ w.started.signs = w.signs ∧
      w.started.link = { w.link with reports := [{ obj := .system, flags := Flag.started }] } :=
  ⟨rfl, rfl, rfl, rfl, rfl, rfl, rfl, rfl, rfl, rfl, rfl, rfl, rfl, rfl, rfl, rfl, rfl, rfl, rfl⟩

/-- Links that agree apart from their reports agree with the same reports. -/
theorem Link.with_reports {a b : Link} (h : { a with reports := [] } = { b with reports := [] }) (r : List ReportEntry) :
    { a with reports := r } = { b with reports := r } := (congrArg (fun k : Link => { k with reports := r }) h :)

namespace State.FullyReset

variable {s x y w t : State} {cause : FullResetCause} {pins : Pins} {result : ProfileResult} {p : Profile}
  (h : s.FullyReset x y w t cause pins result p)
include h

theorem frame : w.exceptSigns = y.exceptSigns ∧ w.lib = y.lib := by
  obtain ⟨hframe, hlib⟩ := y.startLines_frame
  exact ⟨h.loads.frame.trans hframe, h.loads.lib.trans hlib⟩

/-- What the start-up of segments, plans and loads leaves of the records. -/
theorem kept : t.pending = s.pending ∧ t.due = [] ∧ t.tmb = x.tmb ∧ t.reserveRequest = x.reserveRequest ∧ t.supplyLow = x.supplyLow ∧
    t.channels = x.channels ∧ t.economy = x.economy ∧ t.paths = x.paths ∧ t.trace = x.trace ∧ t.counters = x.counters ∧
    t.patterns = x.patterns ∧ t.notices = x.notices ∧ t.lib = x.lib ∧ t.flash = x.flash ∧ t.gates = y.gates ∧ t.flashers = y.flashers ∧
    t.segments = y.segments ∧ t.signs = w.signs ∧ 
    t.link = { x.link with reports := [{ obj := .system, flags := Flag.started }] } := by
  obtain ⟨hframe, hlib⟩ := h.frame
  obtain ⟨apending, -, atmb, alink, arequest, alow, achannels, aeconomy, apaths, atrace, acounters, apatterns, anotices, -, -, alib, aflash⟩ :=
    State.fields_of_exceptBarriers h.segments.frame
  obtain ⟨bpending, btmb, brequest, blow, bflash⟩ := State.more_of_exceptSigns hframe
  obtain ⟨bchannels, beconomy, bcounters, bgates, bflashers, bpatterns, bnotices, -, -, -, blink, bpaths, btrace, bsegments⟩ :=
    State.fields_of_exceptSigns (t := w) (u := y) (b := w.lib) hframe
  obtain ⟨cpending, cdue, ctmb, crequest, clow, cchannels, ceconomy, cpaths, ctrace, ccounters, cpatterns, cnotices, clib, cflash, cgates,
    cflashers, csegments, csigns, clink⟩ := w.started_fields
  rw [h.ends]
  exact ⟨cpending.trans (bpending.trans (apending.trans h.records.pending)), cdue, ctmb.trans (btmb.trans atmb),
    crequest.trans (brequest.trans arequest), clow.trans (blow.trans alow), cchannels.trans (bchannels.trans achannels),
    ceconomy.trans (beconomy.trans aeconomy), cpaths.trans (bpaths.trans apaths), ctrace.trans (btrace.trans atrace),
    ccounters.trans (bcounters.trans acounters), cpatterns.trans (bpatterns.trans apatterns), cnotices.trans (bnotices.trans anotices),
    clib.trans (hlib.trans alib), cflash.trans (bflash.trans aflash), cgates.trans bgates, cflashers.trans bflashers,
    csegments.trans bsegments, csigns, clink.trans (Link.with_reports (blink.trans alink) _)⟩

end State.FullyReset

end Sys2Proof.Machine
end

section
/-! SUPPORT. FULL_RESET settled: each unit as the stages of the reset leave it (R190). -/

namespace Sys2Proof.Machine

/-! ### Gates and segments (R22, R79) -/

theorem GateConfig.start_place (c : GateConfig) (up down presence : Bool) :
    (c.start up down presence).cfg = c ∧ (c.start up down presence).openLimit = up ∧ (c.start up down presence).closedLimit = down ∧
      (c.start up down presence).presence = presence := ⟨rfl, rfl, rfl, rfl⟩

/-- A gate of no segment as it starts up. -/
theorem GateConfig.start_unconfigured {c : GateConfig} (h : c.segment = none) (up down presence : Bool) :
    (c.start up down presence).state = .unknown ∧ (c.start up down presence).position = 0 ∧ (c.start up down presence).referenced = false := by
  simp [GateConfig.start, Gate.startUp, Gate.configured, h]

/-- A gate of a segment as it starts up. -/
theorem GateConfig.start_configured {c : GateConfig} {k : Fin 4} (h : c.segment = some k) (up down presence : Bool) :
    let g := c.start up down presence
    g.state = (if up then (if down then .fault else .opened) else if down then .closed else .unknown) ∧
      g.faultCause = (if up && down then .limitConflict else .none) ∧ g.position = (if down && !up then (c.travel : Int) else 0) ∧
      g.referenced = (up != down) ∧ g.driveUp = false ∧ g.driveDown = false ∧ g.attempts = 0 ∧ g.relowerArmed = false ∧
      g.manualLowering = false := by
  cases up <;> cases down <;>
    simp [GateConfig.start, Gate.startUp, Gate.configured, Gate.limitState, Gate.driveUp, Gate.driveDown, h]

theorem GateConfig.start_state_iff {c : GateConfig} {k : Fin 4} (h : c.segment = some k) (up down presence : Bool) :
    ((c.start up down presence).state = .opened ↔ up = true ∧ down = false) ∧
      ((c.start up down presence).state = .closed ↔ up = false ∧ down = true) := by
  obtain ⟨hstate, -⟩ := GateConfig.start_configured h up down presence
  rw [hstate]
  cases up <;> cases down <;> simp

namespace State.FullyReset

variable {s x y w t : State} {cause : FullResetCause} {pins : Pins} {result : ProfileResult} {p : Profile}
  (h : s.FullyReset x y w t cause pins result p)
include h

theorem gate_eq (g : Fin 6) : t.gate g = y.gate g := by
  obtain ⟨-, -, -, -, -, -, -, -, -, -, -, -, -, -, hgates, -⟩ := h.kept
  exact congrArg (fun v : Vector Gate 6 => v[g]) hgates

theorem segment_eq (i : Fin 4) : t.segment i = y.segment i := by
  obtain ⟨-, -, -, -, -, -, -, -, -, -, -, -, -, -, -, -, hsegments, -⟩ := h.kept
  exact congrArg (fun v : Vector Segment 4 => v[i]) hsegments

theorem gate_place (g : Fin 6) : (t.gate g).cfg = p.gates[g] ∧ (t.gate g).openLimit = pins.openLimits.getLsbD g.val ∧
    (t.gate g).closedLimit = pins.closedLimits.getLsbD g.val ∧ (t.gate g).presence = pins.presence.getLsbD g.val := by
  have hplace := h.segments.place g
  rw [h.records.gate] at hplace
  rw [h.gate_eq]
  exact ⟨hplace.cfg, hplace.openLimit, hplace.closedLimit, hplace.presence⟩

theorem gate_unconfigured {g : Fin 6} (hg : (t.gate g).cfg.segment = none) :
    (t.gate g).state = .unknown ∧ (t.gate g).position = 0 ∧ (t.gate g).referenced = false := by
  obtain ⟨hcfg, -⟩ := h.gate_place g
  rw [hcfg] at hg
  rw [h.gate_eq, h.segments.unconfigured g (by rw [h.records.gate]; exact hg), h.records.gate]
  exact GateConfig.start_unconfigured hg _ _ _

/-- A gate stands as the limit inputs have it, where its segment has not gone down to LOWER. -/
theorem gate_started {g : Fin 6} {k : Fin 4} (hg : (t.gate g).cfg.segment = some k) (hp : (t.segment k).phase ≠ .lower) :
    t.gate g = p.gates[g].start (pins.openLimits.getLsbD g.val) (pins.closedLimits.getLsbD g.val) (pins.presence.getLsbD g.val) ∧
      p.gates[g].segment = some k := by
  obtain ⟨hcfg, -⟩ := h.gate_place g
  rw [hcfg] at hg
  rw [h.segment_eq] at hp
  rw [h.gate_eq, (h.segments.up k List.not_mem_nil).gates hp g (by rw [h.records.gate]; exact hg), h.records.gate]
  exact ⟨rfl, hg⟩

/-- All gates of a segment are found in a state, in terms of their limit inputs. -/
theorem found (i : Fin 4) :
    (x.gatesAll i .opened ↔ ∀ g : Fin 6, (t.gate g).cfg.segment = some i →
      pins.openLimits.getLsbD g.val = true ∧ pins.closedLimits.getLsbD g.val = false) ∧
    (x.gatesAll i .closed ↔ ∀ g : Fin 6, (t.gate g).cfg.segment = some i →
      pins.openLimits.getLsbD g.val = false ∧ pins.closedLimits.getLsbD g.val = true) := by
  have hcfg (g : Fin 6) : (t.gate g).cfg = p.gates[g] := (h.gate_place g).1
  have hx (g : Fin 6) : (x.gate g).cfg = p.gates[g] := by rw [h.records.gate]; rfl
  refine ⟨forall_congr' fun g => ?_, forall_congr' fun g => ?_⟩
  · rw [hcfg, hx]
    refine imp_congr_right fun hg => ?_
    rw [h.records.gate]
    exact (GateConfig.start_state_iff hg _ _ _).1
  · rw [hcfg, hx]
    refine imp_congr_right fun hg => ?_
    rw [h.records.gate]
    exact (GateConfig.start_state_iff hg _ _ _).2

theorem segment (i : Fin 4) : (t.segment i).cfg = p.segments[i] ∧ (t.segment i).occupancy = 0 ∧ (t.segment i).uncertain = true ∧
    (t.segment i).drift = false := by
  have hcounts := (h.segments.up i List.not_mem_nil).counts
  rw [h.records.segment, ← h.segment_eq] at hcounts
  exact ⟨hcounts.cfg, hcounts.occupancy, hcounts.uncertain, hcounts.drift⟩

theorem segment_opened {i : Fin 4} (ho : x.gatesAll i .opened) : (t.segment i).causes = [] ∧ (t.segment i).posture = .caution := by
  rw [h.segment_eq, (h.segments.up i List.not_mem_nil).opened ho, h.records.segment]
  exact ⟨rfl, rfl⟩

theorem segment_barred {i : Fin 4} (ho : ¬x.gatesAll i .opened) : (t.segment i).causes = [.restart] ∧
    (x.gatesAll i .closed → (t.segment i).posture = .closed) ∧ (¬x.gatesAll i .closed → (t.segment i).posture = .closing) := by
  rw [h.segment_eq]
  exact (h.segments.up i List.not_mem_nil).barred ho

theorem flasher (i : Fin 8) : (t.flasher i).running = (t.flasher i).effective pins.supplyLow := by
  obtain ⟨-, -, -, -, -, -, -, -, -, -, -, -, -, -, -, hflashers, -⟩ := h.kept
  have hflasher : t.flasher i = y.flasher i := congrArg (fun v : Vector Flasher 8 => v[i]) hflashers
  obtain ⟨-, -, -, -, hrequest, hlow, -⟩ := State.fields_of_exceptBarriers h.segments.frame
  have hreserve : y.inReserve = pins.supplyLow := by
    rw [State.inReserve, hrequest, hlow, h.records.reserveRequest, h.records.supplyLow]
    rfl
  have hf := h.segments.followed h.records.followed i
  rw [hreserve] at hf
  rw [hflasher]
  exact hf

/-! ### Signs and lines (R130, R145, R162, R170) -/

theorem sign_stages (n : Fin 16) : ∃ b, (p.signs[n].start p.lines[lineOf n].bandMode).Starting b ∧ b.Settles (t.sign n) ∧ b.Keeps (t.sign n) := by
  obtain ⟨-, -, -, -, -, -, -, -, -, -, -, -, -, -, -, -, -, hsigns, -⟩ := h.kept
  obtain ⟨-, -, -, -, -, -, -, -, -, -, -, -, -, hysigns, -⟩ := State.fields_of_exceptBarriers h.segments.frame
  have ht : t.sign n = w.sign n := congrArg (fun v : Vector Sign 16 => v[n]) hsigns
  have hy : y.sign n = x.sign n := congrArg (fun v : Vector Sign 16 => v[n]) hysigns
  have hstart := y.startLines_sign n
  rw [hy, h.records.sign] at hstart
  rw [ht]
  exact ⟨_, hstart, h.loads.sign n⟩

theorem sign (n : Fin 16) : (t.sign n).cfg = p.signs[n] ∧ ((t.sign n).cfg.role = .none → (t.sign n).service = .absent) ∧
    ((t.sign n).cfg.role ≠ .none → (t.sign n).cfg.sheddable = false →
      (t.sign n).service = .lapsed ∧ (t.sign n).restoreNeed = none ∧ (t.sign n).ages = Ages.all (t.sign n).lapsePoint) ∧
    (t.sign n).shown = { page := none, cls := .blank, confirmed := false, fallback := false } ∧ (t.sign n).need = .none := by
  obtain ⟨b, ⟨c, r, g, hb⟩, hsettles, hkeeps⟩ := h.sign_stages n
  have hcfg : b.cfg = p.signs[n] := by rw [hb]; rfl
  have htcfg : (t.sign n).cfg = p.signs[n] := hkeeps.cfg.trans hcfg
  have hservice : b.service = if p.signs[n].role = .none then .absent else .lapsed := by rw [hb]; rfl
  have hneed : b.need = .none := by rw [hb]; rfl
  have hshown : b.shown = Displayed.unknown := by rw [hb]; rfl
  refine ⟨htcfg, fun hr => ?_, fun hr hs => ?_, ?_, hkeeps.need.trans hneed⟩
  · rw [htcfg] at hr
    rw [if_pos hr] at hservice
    have hkept := hsettles.kept (by simp [Sign.maySheds, Sign.counted, hservice]) (by rw [hservice]; decide)
    rw [hkept, hservice]
  · rw [htcfg] at hr hs
    rw [if_neg hr] at hservice
    have hkept := hsettles.kept (by rw [Sign.maySheds, hcfg, hs, Bool.and_false, Bool.false_and]) (by rw [hservice]; decide)
    rw [hkept]
    refine ⟨hservice, by rw [hb]; rfl, ?_⟩
    have hconfigured : (Sign.derive { { p.signs[n].start p.lines[lineOf n].bandMode with planClass := c, rotation := r } with
        granularity := g }).configured = true := bne_iff_ne.2 hr
    rw [hb]
    exact congrArg Ages.all (if_pos hconfigured)
  · rw [hsettles.shown (by rw [hshown]; rfl), hshown]
    rfl

theorem line (l : Fin 2) : (t.line l).cfg = p.lines[l] ∧ (t.line l).state = .active ∧ (t.line l).activeCount = 0 ∧
    (t.line l).wakeCause = 0 ∧ (t.line l).inFlight = none := by
  obtain ⟨hactive, hcount, hretains⟩ := h.loads.line l
  obtain ⟨r, hr⟩ := y.startLines_line l
  have hy : y.line l = p.lines[l].start := by
    rw [← h.records.line]
    exact congrArg (fun v : Vector Line 2 => v[l]) (lines_of_exceptBarriers h.segments.frame)
  rw [hr, hy] at hretains
  obtain ⟨-, hcause⟩ := hretains.awake (by simp [Line.holds, LineConfig.start])
  have ht : t.line l = { w.line l with arbitrate := false } := by
    rw [h.ends]
    exact w.clearArbitrations_line l
  rw [ht]
  exact ⟨hretains.cfg, hactive, hcount, hcause, hretains.inFlight⟩

/-! ### The configuration (R181) -/

theorem configImage : t.configImage = p := by
  obtain ⟨-, -, -, -, -, hchannels, -, hpaths, htrace, hcounters, hpatterns, hnotices, -⟩ := h.kept
  have hchannel (i : Fin 16) : (t.channel i).cfg = p.channels[i] := by
    rw [State.channel, hchannels]
    exact congrArg Channel.cfg (h.records.channel i)
  have hpath (i : Fin 12) : (t.path i).cfg = p.paths[i] := by
    rw [State.path, hpaths]
    exact (h.records.path i).1
  have hcounter (i : Fin 12) : (t.counter i).cfg = p.counters[i] := by
    rw [State.counter, hcounters]
    exact congrArg Counter.cfg (h.records.counter i)
  have hgate (i : Fin 6) := (h.gate_place i).1
  have hsegment (i : Fin 4) := (h.segment i).1
  have hsign (i : Fin 16) := (h.sign i).1
  have hline (i : Fin 2) := (h.line i).1
  unfold State.configImage
  simp only [hchannel, hpath, hcounter, hgate, hsegment, hsign, hline]
  rw [hpatterns, h.records.patterns, hnotices, h.records.notices, htrace, h.records.trace]
  simp

end State.FullyReset

theorem State.cutFlash_of_idle {s : State} (h : s.lib.port = .idle ∨ ∃ (p : Page) (w : Bool) (i : Fin 8) (r : Bool), s.lib.port = .fill p w i r) :
    s.cutFlash = s := by
  unfold State.cutFlash
  rcases h with h | ⟨p, w, i, r, h⟩ <;> rw [h]

theorem ChannelConfig.start_eq (c : ChannelConfig) : c.start =
    { cfg := c.start.cfg, lastSample := 0, compared := none, riseRun := 0, fallRun := 0, recoveryRun := 0,
      state := (match c.start.cfg.mode with | .off => .off | .fixed => .quiet | .reference => .quiet | .serve => .serve) } := by
  unfold ChannelConfig.start
  cases c.mode <;> rfl

/-- Settles O58: the stages of a full reset, each of which leaves the records of the others alone. -/
theorem fullResetStartsOver : Obligations.FullResetStartsOver := by
  unfold Obligations.FullResetStartsOver
  intro cause pins s hport
  obtain ⟨x, y, w, h⟩ := State.fullReset_stages cause pins (State.cutFlash_of_idle hport)
  obtain ⟨hresult, hloaded, hdefault⟩ := loadProfile_cases s.flash pins.preset
  obtain ⟨herased, hgood, hbad⟩ := profileResult_cases s.flash
  have hlength := imageLength_eq s.flash
  have hsaved (p : Profile) (m : Flash) (hfits : p.fits) (hwf : m.wf = true) (hs : s.flash = writeProfile m p) :
      loadProfile s.flash pins.preset = (.loaded, p) := by
    rw [hs]
    exact loadProfile_writeProfile m p pins.preset hwf hfits
  intro byte length erased good
  have hgood' : good ↔ profileGood (flashRead s.flash) (imageLength s.flash) := by
    rw [hlength]
    exact Iff.rfl
  have herased' : erased ↔ headerErased (flashRead s.flash) := Iff.rfl
  have hlen : length = imageLength s.flash := hlength.symm
  have hfound : (if erased then ProfileResult.absent else if good then .loaded else .bad) = profileResult s.flash := by
    split_ifs with he hg
    · exact (herased he).symm
    · exact (hgood.2 (hgood'.1 hg)).symm
    · exact (hbad he (mt hgood'.2 hg)).symm
  rw [hresult] at h
  obtain ⟨hpending, hdue, htmb, hrequest, hlow, hchannels, heconomy, hpaths, htrace, hcounters, hpatterns, hnotices, hlib, hflash, -, -, -, -,
    hlink⟩ := h.kept
  have himage := h.configImage
  refine ⟨_, rfl, ?_⟩
  generalize s.fullReset cause pins = t at *
  refine ⟨?_, htmb.trans h.records.tmb, hdue, hpending, hflash.trans h.records.flash, hrequest.trans h.records.reserveRequest,
    hlow.trans h.records.supplyLow, heconomy.trans h.records.economy, fun hg => ?_, fun p m hfits hwf hs => ?_, fun hg => ?_, ?_, ?_, ?_, ?_, ?_,
    ?_, ?_, ?_, hlib.trans h.records.lib, fun i => ?_, fun n => ?_, fun g => ?_, h.flasher, fun i => ?_, fun n => (h.sign n).2, fun l => (h.line l).2⟩
  · rw [hlink, h.records.link, hfound]
    cases cause <;> rfl
  · rw [himage, hlen]
    exact hloaded (hgood'.1 hg)
  · have hload := hsaved p m hfits hwf hs
    refine ⟨hgood'.2 (hgood.1 (hresult.symm.trans (congrArg Prod.fst hload))), ?_⟩
    rw [himage, hload]
  · rw [himage]
    exact hdefault (mt hgood'.2 hg)
  · rw [hnotices, h.records.notices]
  · rw [hnotices, h.records.notices]
  · rw [hnotices, h.records.notices]
  · rw [hnotices, h.records.notices]
  · rw [htrace, h.records.trace]
  · rw [htrace, h.records.trace]
  · rw [htrace, h.records.trace]
  · rw [htrace, h.records.trace]
  · have hchannel : t.channel i = x.channel i := congrArg (fun v : Vector Channel 16 => v[i]) hchannels
    rw [hchannel, h.records.channel]
    exact ChannelConfig.start_eq _
  · obtain ⟨hcfg, hstate, hact⟩ := h.records.path n
    have hpath : t.path n = x.path n := congrArg (fun v : Vector PathRec 12 => v[n]) hpaths
    have hcounter : t.counter n = x.counter n := congrArg (fun v : Vector Counter 12 => v[n]) hcounters
    rw [hpath, hcounter, h.records.counter, hstate, hact, hcfg]
    exact ⟨rfl, fun c => by simp [noActivations], rfl⟩
  · obtain ⟨hcfg, hup, hdown, hpresence⟩ := h.gate_place g
    refine ⟨hup, hdown, hpresence, h.gate_unconfigured, fun k hk hp => ?_⟩
    obtain ⟨hstart, hsegment⟩ := h.gate_started hk hp
    rw [hstart]
    exact GateConfig.start_configured hsegment _ _ _
  · obtain ⟨-, hoccupancy, huncertain, hdrift⟩ := h.segment i
    obtain ⟨hopened, hclosed⟩ := h.found i
    refine ⟨hoccupancy, huncertain, hdrift, fun ho => h.segment_opened (hopened.2 ho), fun ho => ?_⟩
    obtain ⟨hcauses, hshut, hclosing⟩ := h.segment_barred (mt hopened.1 ho)
    refine ⟨hcauses, ?_⟩
    split_ifs with hc
    · exact hshut (hclosed.2 hc)
    · exact hclosing (mt hclosed.1 hc)

end Sys2Proof.Machine
end

section
/-! SUPPORT. A sampling tick: what is converted and counted, what it makes due, and the changes into and out of FAULT and REF_FAULT
that come about with it (R27 to R31). -/

namespace Sys2Proof.Machine

/-! ### Channels that leave their state, one after another -/

/-- Channel i takes another state, not ACTIVE, with the list of due events rewritten: an entry to FAULT, or a change that is not
traced. -/
def State.changes (s : State) (i : Fin 16) (new : ChannelState) (t : State) : Prop :=
  (s.channel i).state ≠ new ∧ new ≠ .active ∧ (new = .fault ∨ channelEntry (s.channel i).state new = none) ∧
    ∃ (ds : List Due) (flags : BitVec 16), t = State.channelTo { s with due := ds } i new flags ∧
      flags &&& (if new = .fault then Flag.chFault else Flag.chRefFault) = if new = .fault then Flag.chFault else Flag.chRefFault

/-- Channels of one list, each once, take the states paired with them. -/
inductive State.Changed : State → List (Fin 16 × ChannelState) → State → Prop
  | nil (s : State) : Changed s [] s
  | cons {s t u : State} {i : Fin 16} {new : ChannelState} {l : List (Fin 16 × ChannelState)} :
      s.changes i new t → i ∉ l.map Prod.fst → Changed t l u → Changed s ((i, new) :: l) u

/-- What is put aside by a claim about channels and what hears of them. -/
def State.exceptChannels (s : State) : State := { s.exceptPaths with channels := State.reset.channels, due := [] }

theorem tmb_of_exceptChannels {s t : State} (h : t.exceptChannels = s.exceptChannels) : t.tmb = s.tmb := (congrArg State.tmb h :)

/-- One change, as the paths hear of it. -/
theorem State.changes_spec {s t : State} {i : Fin 16} {new : ChannelState} (h : s.changes i new t) :
    t.exceptChannels = s.exceptChannels ∧ t.channels = s.channels.set i ((s.channel i).enter new) ∧
      t.trace = s.trace.recordAll (if new = .fault then [s.entry .chFault i.val (s.channel i).lastSample.toNat] else []) ∧
      t.reported (.channel i) (if new = .fault then Flag.chFault else Flag.chRefFault) ∧
      (∀ (o : Obj) (f : BitVec 16), s.reported o f → t.reported o f) ∧
      ∀ n : Fin 12, t.path n = State.takenPath i (s.channel i).state new t n (s.path n) ∧
        ((t.path n).state ≠ (s.path n).state → t.reported (.path n) Flag.pathState) ∧
        ((t.path n).degraded ≠ (s.path n).degraded → t.reported (.path n) Flag.pathDegraded) := by
  obtain ⟨hne, hna, htraced, ds, flags, rfl, hflags⟩ := h
  have hno : ¬((s.channel i).state = .quiet ∧ new = .active) := fun h => hna h.2
  obtain ⟨hch, hrep, hstep⟩ := State.channelTo_step { s with due := ds } i flags hne
  have hcongr : State.takenPath i (s.channel i).state new (State.channelTo { s with due := ds } i new flags) =
      State.takenPath i (s.channel i).state new (State.setChannel { s with due := ds } i ((s.channel i).enter new)) :=
    (State.taken_congr hstep.frame i (s.channel i).state new).1
  refine ⟨?_, hch, hstep.trace.trans ?_, State.reported_of_flags hrep hflags, hstep.keep, fun n => ⟨?_, fun hn => ?_, fun hn => ?_⟩⟩
  · exact congrArg (fun v : State => { v with channels := State.reset.channels, due := [] }) hstep.frame
  · have hes := List.flatMap_eq_nil_iff.2 fun (n : Fin 12) (_ : n ∈ List.finRange 12) =>
      State.takenEntries_of_noVote (s := State.setChannel { s with due := ds } i ((s.channel i).enter new)) (c := i) (n := n)
        (p := s.path n) hno
    refine congrArg s.trace.recordAll ((congrArg (_ ++ ·) hes).trans ?_)
    rw [List.append_nil, State.channelEntries, State.setChannel_channel_same]
    by_cases hf : new = .fault
    · have hentry : channelEntry (s.channel i).state new = some .chFault := by rw [channelEntry, if_neg hne, if_pos hf]
      have hentry' : channelEntry (State.channel { s with due := ds } i).state new = some .chFault := hentry
      rw [if_pos hf, hentry']
      rfl
    · have hentry : channelEntry (State.channel { s with due := ds } i).state new = none := htraced.resolve_left hf
      rw [if_neg hf, hentry]
      rfl
  · rw [hcongr]
    exact hstep.path n
  · exact hstep.state n (by rwa [hstep.path] at hn)
  · exact hstep.degraded n (by rwa [hstep.path] at hn)

/-! ### What a path makes of the channels' changes -/

/-- A member of path n has changed its state. -/
def State.memberMoved (s u : State) (n : Fin 12) : Prop :=
  ∃ c : Fin 16, (s.path n).hasMember c = true ∧ (u.channel c).state ≠ (s.channel c).state

/-- A member of path n has left ACTIVE, and none is ACTIVE. -/
def State.lastActiveLost (s u : State) (n : Fin 12) : Prop :=
  (∃ c : Fin 16, (s.path n).hasMember c = true ∧ (s.channel c).state = .active ∧ (u.channel c).state ≠ .active) ∧
    ∀ c : Fin 16, (s.path n).hasMember c = true → (u.channel c).state ≠ .active

/-- Path n has followed the changes of its members, none of which made one ACTIVE (R41, R43). -/
structure State.PathFollows (s u : State) (n : Fin 12) : Prop where
  cfg : (u.path n).cfg = (s.path n).cfg
  lastAct : (u.path n).lastAct = (s.path n).lastAct
  lastVote : (u.path n).lastVote = (s.path n).lastVote
  still : ¬s.memberMoved u n → u.path n = s.path n
  health : s.memberMoved u n → s.healthTaken u n
  quiet : (s.path n).state = .watch → s.lastActiveLost u n → (u.path n).state = .quiet
  keeps : ¬((s.path n).state = .watch ∧ s.lastActiveLost u n) → (u.path n).state = (s.path n).state
  stateReported : (u.path n).state ≠ (s.path n).state → u.reported (.path n) Flag.pathState
  degradedReported : (u.path n).degraded ≠ (s.path n).degraded → u.reported (.path n) Flag.pathDegraded

namespace State.PathFollows

variable {s t u : State} {n : Fin 12}

theorem refl (s : State) (n : Fin 12) : s.PathFollows s n where
  cfg := Eq.refl _
  lastAct := Eq.refl _
  lastVote := Eq.refl _
  still _ := Eq.refl _
  health := fun ⟨_, _, h⟩ => absurd (Eq.refl _) h
  quiet _ := fun ⟨⟨_, _, h, h'⟩, _⟩ => absurd h h'
  keeps _ := Eq.refl _
  stateReported h := absurd (Eq.refl _) h
  degradedReported h := absurd (Eq.refl _) h

/-- One channel's change, as one path follows it. -/
theorem of_changes {i : Fin 16} {new : ChannelState} (h : s.changes i new t) (n : Fin 12) : s.PathFollows t n := by
  have hno : ¬((s.channel i).state = .quiet ∧ new = .active) := fun hq => h.2.1 hq.2
  obtain ⟨-, hch, -, -, -, hpaths⟩ := State.changes_spec h
  obtain ⟨hpath, hstate, hdegraded⟩ := hpaths n
  obtain ⟨hcfg, hact, hvote, hhealth, hst⟩ := State.takenPath_of_noVote (s := t) (c := i) (n := n) (p := s.path n) hno
  rw [← hpath] at hcfg hact hvote hhealth hst
  have hother (c : Fin 16) (hc : c ≠ i) : t.channel c = s.channel c := by
    rw [State.channel, hch]
    exact State.setChannel_channel_other s i _ c hc
  have hnew : (t.channel i).state = new := by
    rw [State.channel, hch]
    exact congrArg Channel.state (State.setChannel_channel_same s i _)
  have hmoved : s.memberMoved t n ↔ (s.path n).hasMember i = true := by
    refine ⟨fun ⟨c, hc, hne⟩ => ?_, fun hm => ⟨i, hm, hnew ▸ h.1.symm⟩⟩
    by_cases hci : c = i
    · exact hci ▸ hc
    · exact absurd (congrArg Channel.state (hother c hci)) hne
  have hlost : s.lastActiveLost t n ↔
      (s.path n).hasMember i = true ∧ (s.channel i).state = .active ∧ t.anyActive (s.path n) = false := by
    have hany : t.anyActive (s.path n) = false ↔ ∀ c : Fin 16, (s.path n).hasMember c = true → (t.channel c).state ≠ .active := by
      simp [State.anyActive, List.any_eq_false]
    rw [hany]
    refine ⟨fun ⟨⟨c, hc, ha, hne⟩, hall⟩ => ?_, fun ⟨hm, ha, hall⟩ => ⟨⟨i, hm, ha, hall i hm⟩, hall⟩⟩
    by_cases hci : c = i
    · exact ⟨hci ▸ hc, hci ▸ ha, hall⟩
    · exact absurd (hother c hci ▸ ha) hne
  refine ⟨hcfg, hact, hvote, fun hm => ?_, fun hm => ?_, fun hw hl => ?_, fun hk => ?_, hstate, hdegraded⟩
  · rw [hpath, State.takenPath_of_noMember (by simpa using mt hmoved.2 hm)]
  · rw [if_pos (hmoved.1 hm)] at hhealth
    exact State.healthTaken_of (hmoved.1 hm) (Eq.refl _) hhealth hdegraded
  · obtain ⟨hm, ha, hany⟩ := hlost.1 hl
    rw [hst, if_pos ⟨hm, ha, hw, hany⟩]
  · rw [hst, if_neg]
    rintro ⟨hm, ha, hw, hany⟩
    exact hk ⟨hw, hlost.2 ⟨hm, ha, hany⟩⟩

/-- Changes one after another, the later ones of other channels and none to ACTIVE. -/
theorem trans (h : s.PathFollows t n) (h' : t.PathFollows u n) (hkeep : ∀ (o : Obj) (f : BitVec 16), t.reported o f → u.reported o f)
    (hactive : ∀ c : Fin 16, (u.channel c).state = .active → (t.channel c).state = .active)
    (hactive' : ∀ c : Fin 16, (t.channel c).state = .active → (s.channel c).state = .active)
    (honce : ∀ c : Fin 16, (t.channel c).state ≠ (s.channel c).state → (u.channel c).state = (t.channel c).state) :
    s.PathFollows u n := by
  have hmem (c : Fin 16) : (t.path n).hasMember c = (s.path n).hasMember c := by rw [PathRec.hasMember, h.cfg, PathRec.hasMember]
  have hstill : ¬s.memberMoved u n → ¬s.memberMoved t n ∧ ¬t.memberMoved u n := by
    intro hnot
    have ht (c : Fin 16) (hc : (s.path n).hasMember c = true) : (t.channel c).state = (s.channel c).state := by
      by_contra hne
      exact hnot ⟨c, hc, honce c hne ▸ hne⟩
    refine ⟨fun ⟨c, hc, hne⟩ => hne (ht c hc), fun ⟨c, hc, hne⟩ => hnot ⟨c, hmem c ▸ hc, ?_⟩⟩
    rw [hmem] at hc
    rwa [ht c hc] at hne
  have hstate : (u.path n).state ≠ (s.path n).state → u.reported (.path n) Flag.pathState := fun hne => by
    by_cases ht : (u.path n).state = (t.path n).state
    · exact hkeep _ _ (h.stateReported (ht ▸ hne))
    · exact h'.stateReported ht
  have hdegraded : (u.path n).degraded ≠ (s.path n).degraded → u.reported (.path n) Flag.pathDegraded := fun hne => by
    by_cases ht : (u.path n).degraded = (t.path n).degraded
    · exact hkeep _ _ (h.degradedReported (ht ▸ hne))
    · exact h'.degradedReported ht
  refine ⟨h'.cfg.trans h.cfg, h'.lastAct.trans h.lastAct, h'.lastVote.trans h.lastVote, fun hnot => ?_, fun hmoved => ?_,
    fun hw hlost => ?_, fun hk => ?_, hstate, hdegraded⟩
  · exact (h'.still (hstill hnot).2).trans (h.still (hstill hnot).1)
  · by_cases hlater : t.memberMoved u n
    · obtain ⟨h1, h2, h3, -⟩ := h'.health hlater
      simp only [State.healthyMembers, hmem, h.cfg] at h1 h2 h3
      exact ⟨h1, h2, h3, hdegraded⟩
    · have hsame (c : Fin 16) (hc : (s.path n).hasMember c = true) : (u.channel c).state = (t.channel c).state := by
        by_contra hne
        exact hlater ⟨c, (hmem c).trans hc, hne⟩
      have hfirst : s.memberMoved t n := by
        obtain ⟨c, hc, hne⟩ := hmoved
        exact ⟨c, hc, hsame c hc ▸ hne⟩
      obtain ⟨h1, h2, h3, -⟩ := h.health hfirst
      have hcount : u.healthyMembers (s.path n) = t.healthyMembers (s.path n) := by
        refine congrArg List.length (List.filter_congr fun c _ => ?_)
        cases hc : (s.path n).hasMember c
        · rfl
        · rw [hsame c hc]
      rw [← hcount] at h1 h2 h3
      rw [← h'.still hlater] at h1 h2 h3
      exact ⟨h1, h2, h3, hdegraded⟩
  · obtain ⟨⟨c, hc, ha, hne⟩, hnone⟩ := hlost
    by_cases hearly : s.lastActiveLost t n
    · have hquiet := h.quiet hw hearly
      exact (h'.keeps fun hk => by simp [hquiet] at hk).trans hquiet
    · have hwt : (t.path n).state = .watch := (h.keeps fun hk => hearly hk.2).trans hw
      refine h'.quiet hwt ⟨?_, fun c hc => hnone c (hmem c ▸ hc)⟩
      by_cases hct : (t.channel c).state = .active
      · exact ⟨c, (hmem c).trans hc, hct, hne⟩
      · obtain ⟨d, hd, hda⟩ : ∃ d : Fin 16, (s.path n).hasMember d = true ∧ (t.channel d).state = .active := by
          by_contra hno
          exact hearly ⟨⟨c, hc, ha, hct⟩, fun d hd hda => hno ⟨d, hd, hda⟩⟩
        exact ⟨d, (hmem d).trans hd, hda, hnone d hd⟩
  · have hfirst : (t.path n).state = (s.path n).state := h.keeps fun ⟨hw, ⟨c, hc, ha, hne⟩, hnone⟩ =>
      hk ⟨hw, ⟨c, hc, ha, fun hu => hne (hactive c hu)⟩, fun d hd hu => hnone d hd (hactive d hu)⟩
    refine (h'.keeps fun ⟨hw, ⟨c, hc, ha, hne⟩, hnone⟩ =>
      hk ⟨hfirst ▸ hw, ?_, fun d hd => hnone d ((hmem d).trans hd)⟩).trans hfirst
    exact ⟨c, hmem c ▸ hc, hactive' c ha, hne⟩

end State.PathFollows

/-! ### The changes together -/

/-- What an entry to FAULT is traced as. -/
def State.faultEntry (s : State) (p : Fin 16 × ChannelState) : Option TraceEntry :=
  if p.2 = .fault then some (s.entry .chFault p.1.val (s.channel p.1).lastSample.toNat) else none

/-- The channels of a list have taken the states paired with them, with their reports, their trace and the paths. -/
structure State.ChangedTo (s : State) (l : List (Fin 16 × ChannelState)) (u : State) : Prop where
  frame : u.exceptChannels = s.exceptChannels
  entered : ∀ p ∈ l, u.channel p.1 = (s.channel p.1).enter p.2 ∧ (s.channel p.1).state ≠ p.2 ∧ p.2 ≠ .active ∧
    u.reported (.channel p.1) (if p.2 = .fault then Flag.chFault else Flag.chRefFault)
  others : ∀ i : Fin 16, i ∉ l.map Prod.fst → u.channel i = s.channel i
  trace : u.trace = s.trace.recordAll (l.filterMap s.faultEntry)
  keep : ∀ (o : Obj) (f : BitVec 16), s.reported o f → u.reported o f
  path : ∀ n : Fin 12, s.PathFollows u n

theorem State.ChangedTo.channel_of_active {s u : State} {l : List (Fin 16 × ChannelState)} (h : s.ChangedTo l u) {i : Fin 16}
    (hi : (u.channel i).state = .active) : u.channel i = s.channel i := by
  refine h.others i fun hmem => ?_
  obtain ⟨p, hp, rfl⟩ := List.mem_map.1 hmem
  obtain ⟨hentered, -, hne, -⟩ := h.entered p hp
  rw [hentered] at hi
  exact hne hi

theorem State.Changed.to {s u : State} {l : List (Fin 16 × ChannelState)} (h : State.Changed s l u) : s.ChangedTo l u := by
  induction h with
  | nil s => exact ⟨rfl, fun _ h => by simp at h, fun _ _ => rfl, rfl, fun _ _ => id, State.PathFollows.refl s⟩
  | @cons s t u i new l hfirst hnot _ ih =>
    obtain ⟨hframe, hch, htrace, hrep, hkeep, -⟩ := State.changes_spec hfirst
    have hother (c : Fin 16) (hc : c ≠ i) : t.channel c = s.channel c := by
      rw [State.channel, hch]
      exact State.setChannel_channel_other s i _ c hc
    have hsame : t.channel i = (s.channel i).enter new := by
      rw [State.channel, hch]
      exact State.setChannel_channel_same s i _
    have hui : u.channel i = (s.channel i).enter new := (ih.others i hnot).trans hsame
    have hpair {p : Fin 16 × ChannelState} (hp : p ∈ l) : t.channel p.1 = s.channel p.1 :=
      hother _ fun h => hnot (h ▸ List.mem_map_of_mem hp)
    refine ⟨ih.frame.trans hframe, fun p hp => ?_, fun c hc => ?_, ?_, fun o f ho => ih.keep o f (hkeep o f ho), fun n => ?_⟩
    · rcases List.mem_cons.1 hp with rfl | hp
      · exact ⟨hui, hfirst.1, hfirst.2.1, ih.keep _ _ hrep⟩
      · have := ih.entered p hp
        rwa [hpair hp] at this
    · rw [List.map_cons, List.mem_cons, not_or] at hc
      exact (ih.others c hc.2).trans (hother c hc.1)
    · have hentry : ∀ p ∈ l, t.faultEntry p = s.faultEntry p := fun p hp => by
        simp only [State.faultEntry, State.entry, hpair hp, tmb_of_exceptChannels hframe]
      rw [ih.trace, htrace, List.filterMap_congr hentry, List.filterMap_cons, State.faultEntry]
      by_cases hf : new = .fault
      · simp [hf]
      · simp [hf]
    · refine (State.PathFollows.of_changes hfirst n).trans (ih.path n) ih.keep (fun c hc => ?_) (fun c hc => ?_) fun c hc => ?_
      · rw [← ih.channel_of_active hc]; exact hc
      · by_cases hci : c = i
        · subst hci
          rw [hsame] at hc
          exact absurd hc hfirst.2.1
        · rwa [hother c hci] at hc
      · by_cases hci : c = i
        · rw [hci, ih.others i hnot]
        · exact absurd (congrArg Channel.state (hother c hci)) hc

end Sys2Proof.Machine
end

section
/-! SUPPORT. The changes into and out of FAULT and REF_FAULT that a sampling tick owes first come about with it (R28, R29, R31). -/

namespace Sys2Proof.Machine

/-- A change into or out of FAULT or REF_FAULT is still to come about. -/
def State.owesSilent (s : State) : Due → Bool
  | .chFault i => (s.channel i).faults
  | .chRefFault i => s.refSettles (s.channel i)
  | _ => false

/-- The channel that a silent entry speaks of, and the state it takes. -/
def State.silentChange (s : State) : Due → Fin 16 × ChannelState
  | .chRefFault i => (i, if (s.channel i).state = .refFault then .quiet else .refFault)
  | .chFault i => (i, .fault)
  | _ => (0, .off)

theorem Due.isSilent_iff (d : Due) : d.isSilent = true ↔ ∃ i : Fin 16, d = .chFault i ∨ d = .chRefFault i := by
  cases d <;> simp [Due.isSilent]

theorem State.refSettles_state {s : State} {c : Channel} (h : s.refSettles c = true) :
    c.state = .quiet ∨ c.state = .active ∨ c.state = .refFault := by
  unfold State.refSettles at h
  cases hc : c.state <;> simp_all

/-- A channel is settled by what the first pass says of the references. -/
theorem State.refSettles_congr {s t : State} (h : ∀ j, t.faultAfterPass j = s.faultAfterPass j) (c : Channel) :
    t.refSettles c = s.refSettles c := by
  simp only [State.refSettles, State.referenceFaulted, h]

/-- An entry that the list loses, other than an entry into FAULT or out of it, changes nothing of the first pass. -/
theorem State.faultAfterPass_erase_refFault (s : State) (i j : Fin 16) :
    State.faultAfterPass { s with due := s.due.erase (.chRefFault i) } j = s.faultAfterPass j := by
  rw [Bool.eq_iff_iff, State.faultAfterPass_iff, State.faultAfterPass_iff]
  simp [List.mem_erase_of_ne, State.channel]

/-- What a silent entry does as it is taken. -/
theorem State.takeOne_changes {s : State} {d : Due} (h : s.owesSilent d = true) :
    s.changes (s.silentChange d).1 (s.silentChange d).2 (s.takeOne d) := by
  cases d with
  | chFault i =>
    have hfaults : (s.channel i).faults = true := h
    obtain ⟨⟨-, hne⟩, -⟩ : ((s.channel i).cfg.mode ≠ .off ∧ (s.channel i).state ≠ .fault) ∧ _ := by
      simpa [Channel.faults] using hfaults
    refine ⟨hne, by simp [State.silentChange], .inl rfl, s.due.erase (.chFault i), _, if_pos hfaults, ?_⟩
    simp only [State.silentChange, if_true]
    split <;> decide
  | chRefFault i =>
    have hsettles : s.refSettles (s.channel i) = true := h
    have hguard : State.refSettles { s with due := s.due.erase (.chRefFault i) } (s.channel i) = true :=
      (State.refSettles_congr (s.faultAfterPass_erase_refFault i) _).trans hsettles
    refine ⟨?_, ?_, .inr ?_, s.due.erase (.chRefFault i), Flag.chRefFault, if_pos hguard, ?_⟩
    all_goals rcases State.refSettles_state hsettles with hs | hs | hs
    all_goals simp [State.silentChange, hs, channelEntry]
  | _ => cases h

/-- The entries of a list are still to come about, each of a channel of its own, and no channel both enters FAULT and leaves it. -/
structure State.SilentReady (s : State) (ds : List Due) : Prop where
  owed : ∀ d ∈ ds, s.owesSilent d = true ∧ d ∈ s.due
  once : (ds.map fun d => (s.silentChange d).1).Nodup
  apart : ∀ j : Fin 16, Due.chFault j ∈ s.due → Due.chRecover j ∉ s.due

theorem State.takeOne_channel {s : State} {d : Due} (h : s.owesSilent d = true) :
    (s.takeOne d).channel (s.silentChange d).1 = (s.channel (s.silentChange d).1).enter (s.silentChange d).2 ∧
      ∀ j : Fin 16, j ≠ (s.silentChange d).1 → (s.takeOne d).channel j = s.channel j := by
  obtain ⟨-, hch, -⟩ := State.changes_spec (State.takeOne_changes h)
  refine ⟨?_, fun j hj => ?_⟩
  · rw [State.channel, hch]
    exact State.setChannel_channel_same s _ _
  · rw [State.channel, hch]
    exact State.setChannel_channel_other s _ _ j hj

/-- A silent entry taken changes nothing of what the first pass says of any channel. -/
theorem State.takeOne_faultAfterPass {s : State} {d : Due} (h : s.owesSilent d = true) (hmem : d ∈ s.due)
    (hapart : ∀ j : Fin 16, Due.chFault j ∈ s.due → Due.chRecover j ∉ s.due) (j : Fin 16) :
    (s.takeOne d).faultAfterPass j = s.faultAfterPass j := by
  obtain ⟨hsame, hother⟩ := State.takeOne_channel h
  rw [Bool.eq_iff_iff, State.faultAfterPass_iff, State.faultAfterPass_iff]
  cases d with
  | chFault i =>
    have hdue : (s.takeOne (.chFault i)).due = s.due.erase (.chFault i) := State.applyDue_due _ _ (by simp)
    rw [hdue]
    by_cases hj : j = i
    · subst hj
      have hstate : ((s.takeOne (.chFault j)).channel j).state = .fault := congrArg Channel.state hsame
      rw [List.mem_erase_of_ne (show Due.chRecover j ≠ .chFault j by simp)]
      exact iff_of_true (.inr ⟨hapart j hmem, hstate⟩) (.inl hmem)
    · rw [hother j hj, List.mem_erase_of_ne (by simpa using hj), List.mem_erase_of_ne (by simp)]
  | chRefFault i =>
    have hdue : (s.takeOne (.chRefFault i)).due = s.due.erase (.chRefFault i) := State.applyDue_due _ _ (by simp)
    rw [hdue, List.mem_erase_of_ne (by simp), List.mem_erase_of_ne (by simp)]
    by_cases hj : j = i
    · subst hj
      have hstate : ((s.takeOne (.chRefFault j)).channel j).state ≠ .fault := by
        rw [show (s.takeOne (.chRefFault j)).channel j = _ from hsame, State.silentChange, Channel.enter]
        split <;> simp
      have hold : (s.channel j).state ≠ .fault := by
        rcases State.refSettles_state (show s.refSettles (s.channel j) = true from h) with hs | hs | hs <;> simp [hs]
      simp [hstate, hold]
    · rw [hother j hj]
  | _ => cases h

theorem State.takeOne_silentReady {s : State} {d : Due} {ds : List Due} (h : s.SilentReady (d :: ds)) :
    (s.takeOne d).SilentReady ds ∧ ∀ e ∈ ds, (s.takeOne d).silentChange e = s.silentChange e := by
  obtain ⟨howes, hmem⟩ := h.owed d List.mem_cons_self
  obtain ⟨hnot, honce⟩ := List.nodup_cons.1 h.once
  have hother := (State.takeOne_channel howes).2
  have hdue : (s.takeOne d).due = s.due.erase d := State.applyDue_due _ d (by rintro rfl; cases howes)
  have hsettles := State.refSettles_congr (State.takeOne_faultAfterPass howes hmem h.apart)
  have hkept (e : Due) (he : e ∈ ds) : (s.takeOne d).silentChange e = s.silentChange e ∧
      (s.takeOne d).owesSilent e = s.owesSilent e ∧ e ≠ d := by
    have hchannel : (s.silentChange e).1 ≠ (s.silentChange d).1 := fun heq => hnot (List.mem_map.2 ⟨e, he, heq⟩)
    refine ⟨?_, ?_, fun hed => hchannel (hed ▸ rfl)⟩
    · cases e with
      | chRefFault i => rw [State.silentChange, hother i hchannel, State.silentChange]
      | _ => rfl
    · cases e with
      | chFault i => rw [State.owesSilent, hother i hchannel, State.owesSilent]
      | chRefFault i => rw [State.owesSilent, hother i hchannel, hsettles, State.owesSilent]
      | _ => rfl
  refine ⟨⟨fun e he => ?_, ?_, fun j hj => ?_⟩, fun e he => (hkept e he).1⟩
  · obtain ⟨howes', hmem'⟩ := h.owed e (List.mem_cons_of_mem d he)
    obtain ⟨-, hsame, hne⟩ := hkept e he
    exact ⟨hsame.trans howes', hdue ▸ (List.mem_erase_of_ne hne).2 hmem'⟩
  · rwa [List.map_congr_left fun e he => congrArg Prod.fst (hkept e he).1]
  · rw [hdue] at hj ⊢
    exact fun hr => h.apart j (List.mem_of_mem_erase hj) (List.mem_of_mem_erase hr)

/-- Silent entries taken one after another are changes of as many channels. -/
theorem State.takeAll_changed {ds : List Due} {s : State} (h : s.SilentReady ds) :
    State.Changed s (ds.map s.silentChange) (ds.foldl State.takeOne s) := by
  induction ds generalizing s with
  | nil => exact .nil s
  | cons d ds ih =>
    obtain ⟨hready, hsame⟩ := State.takeOne_silentReady h
    refine .cons (State.takeOne_changes (h.owed d List.mem_cons_self).1) ?_ ?_
    · rw [List.map_map]
      exact (List.nodup_cons.1 h.once).1
    · rw [← List.map_congr_left hsame]
      exact ih hready

end Sys2Proof.Machine
end

section
/-! SUPPORT. What a sampling tick writes and what it owes: the conversions, the compared values, and the changes of state in their
order (R27 to R30). -/

namespace Sys2Proof.Machine

/-! ### Channels written one after another -/

/-- Channels written each by what it reads, which the writing of another leaves. -/
theorem foldl_setChannel {f : State → Fin 16 → State} {g : State → Fin 16 → Channel}
    (hf : ∀ (s : State) (i : Fin 16), f s i = s.setChannel i (g s i))
    (hg : ∀ (s : State) (i j : Fin 16), j ≠ i → g (f s i) j = g s j) (l : List (Fin 16)) (hl : l.Nodup) (s : State) :
    { l.foldl f s with channels := s.channels } = s ∧
      ∀ j : Fin 16, (l.foldl f s).channel j = if j ∈ l then g s j else s.channel j := by
  induction l generalizing s with
  | nil => exact ⟨rfl, fun j => by simp⟩
  | cons i l ih =>
    obtain ⟨hi, hl⟩ := List.nodup_cons.1 hl
    obtain ⟨hframe, hch⟩ := ih hl (f s i)
    have hfirst : { f s i with channels := s.channels } = s := by rw [hf]; rfl
    refine ⟨?_, fun j => ?_⟩
    · exact (congrArg (fun t : State => { t with channels := s.channels }) hframe).trans hfirst
    · rw [List.foldl_cons, hch]
      by_cases hj : j = i
      · subst hj
        rw [if_neg hi, hf, State.setChannel_channel_same, if_pos List.mem_cons_self]
      · rw [hg s i j hj, hf, State.setChannel_channel_other s i _ j hj]
        simp [hj]

/-! ### A channel record that is counted -/

/-- What a count leaves of a channel. -/
theorem Channel.count_keeps (v : Int) (c : Channel) :
    (c.count v).state = c.state ∧ (c.count v).cfg = c.cfg ∧ (c.count v).lastSample = c.lastSample ∧
      (c.count v).recoveryRun = c.recoveryRun := by
  unfold Channel.count
  cases hc : c.state <;> simp [hc]

theorem Channel.convert_keeps (x : BitVec 12) (c : Channel) :
    (c.convert x).cfg = c.cfg ∧ (c.convert x).state = c.state ∧ (c.convert x).compared = none := by
  unfold Channel.convert
  split <;> simp

/-- A channel compares, by its record and by whether it settles. -/
def State.comparesAs (s : State) (c : Channel) : Bool :=
  (c.cfg.mode == .fixed || c.cfg.mode == .reference) && (c.state == .quiet || c.state == .active) && !c.faults && !s.refSettles c

/-- The record of a channel after the second pass. -/
def State.countedAs (s : State) (c : Channel) : Channel := if s.comparesAs c then c.count (s.comparedValue c) else c

theorem State.countedAs_keeps (s : State) (c : Channel) :
    (s.countedAs c).state = c.state ∧ (s.countedAs c).cfg = c.cfg ∧ (s.countedAs c).lastSample = c.lastSample ∧
      (s.countedAs c).recoveryRun = c.recoveryRun := by
  unfold State.countedAs
  split
  · exact Channel.count_keeps _ c
  · exact ⟨rfl, rfl, rfl, rfl⟩

theorem State.countedAs_faults (s : State) (c : Channel) : (s.countedAs c).faults = c.faults := by
  obtain ⟨hstate, hcfg, hlast, -⟩ := s.countedAs_keeps c
  rw [Channel.faults, hstate, hcfg, hlast, Channel.faults]

theorem State.countedAs_recovers (s : State) (c : Channel) : (s.countedAs c).recovers = c.recovers := by
  obtain ⟨hstate, -, -, hrun⟩ := s.countedAs_keeps c
  rw [Channel.recovers, hstate, hrun, Channel.recovers]

/-- What the second pass reads of the state. -/
theorem State.second_congr {s t : State} (hfault : ∀ j, t.faultAfterPass j = s.faultAfterPass j)
    (hlast : ∀ j, (t.channel j).lastSample = (s.channel j).lastSample) (c : Channel) :
    t.refSettles c = s.refSettles c ∧ t.comparesAs c = s.comparesAs c ∧ t.countedAs c = s.countedAs c := by
  have hsettles := State.refSettles_congr hfault c
  have hcompares : t.comparesAs c = s.comparesAs c := by rw [State.comparesAs, hsettles, State.comparesAs]
  have hvalue : t.comparedValue c = s.comparedValue c := by simp only [State.comparedValue, hlast]
  exact ⟨hsettles, hcompares, by rw [State.countedAs, hcompares, hvalue, State.countedAs]⟩

theorem Channel.not_recovers_of_faults {c : Channel} (h : c.faults = true) : c.recovers = false := by
  unfold Channel.faults at h
  unfold Channel.recovers
  cases hc : c.state <;> simp_all

/-! ### The list of due events in its order -/

/-- The place of a channel event in the order of R31: the first pass of all channels before the second pass of any. -/
def Due.rank : Due → Nat
  | .chFault i => i.val
  | .chRecover i => i.val
  | .chRefFault i => 16 + i.val
  | .chActive i => 16 + i.val
  | .chQuiet i => 16 + i.val
  | _ => 32

/-- What stands in the first part of a list in strict order. -/
theorem mem_takeWhile_of_ranked {α : Type} {key : α → Nat} {p : α → Bool} {l : List α}
    (h : l.Pairwise fun a b => key a < key b) (d : α) :
    d ∈ l.takeWhile p ↔ d ∈ l ∧ ∀ e ∈ l, key e ≤ key d → p e = true := by
  induction l with
  | nil => simp
  | cons a l ih =>
    obtain ⟨ha, hl⟩ := List.pairwise_cons.1 h
    rw [List.takeWhile_cons]
    by_cases hp : p a = true
    · rw [if_pos hp, List.mem_cons, ih hl, List.mem_cons]
      constructor
      · rintro (rfl | ⟨hd, hall⟩)
        · refine ⟨.inl rfl, fun e he hle => ?_⟩
          rcases List.mem_cons.1 he with rfl | he
          · exact hp
          · exact absurd (ha e he) (by omega)
        · refine ⟨.inr hd, fun e he hle => ?_⟩
          rcases List.mem_cons.1 he with rfl | he
          · exact hp
          · exact hall e he hle
      · rintro ⟨rfl | hd, hall⟩
        · exact .inl rfl
        · exact .inr ⟨hd, fun e he => hall e (List.mem_cons_of_mem a he)⟩
    · rw [if_neg hp]
      refine iff_of_false (by simp) fun ⟨hd, hall⟩ => hp (hall a List.mem_cons_self ?_)
      rcases List.mem_cons.1 hd with rfl | hd
      · exact le_refl _
      · exact (ha d hd).le

/-! ### The state after the two passes -/

/-- The channel events that are owed, by the records as they stand. -/
def State.owes (w : State) : Due → Bool
  | .chFault i => (w.channel i).faults
  | .chRecover i => (w.channel i).recovers
  | .chRefFault i => !(w.channel i).faults && w.refSettles (w.channel i)
  | .chActive i => !(w.channel i).faults && !w.refSettles (w.channel i) && (w.channel i).goesActive
  | .chQuiet i => !(w.channel i).faults && !w.refSettles (w.channel i) && (w.channel i).goesQuiet
  | _ => false

/-- The conversions are written and counted, and the changes they bring are owed in their order, each once. -/
structure State.SampledTo (s : State) (x : Vector (BitVec 12) 16) (w : State) (D : List Due) : Prop where
  frame : { w with channels := s.channels, due := s.due } = s
  channel : ∀ i : Fin 16, w.channel i = w.countedAs ((s.channel i).convert x[i])
  due : w.due = s.due ++ D
  ranked : D.Pairwise fun a b => a.rank < b.rank
  owed : ∀ d : Due, d ∈ D ↔ w.owes d = true
  faulted : ∀ j : Fin 16, w.faultAfterPass j = true ↔
    (w.channel j).faults = true ∨ ((w.channel j).recovers = false ∧ (w.channel j).state = .fault)

/-- The conversions of a sampling tick, written. -/
def State.converted (s : State) (x : Vector (BitVec 12) 16) : State :=
  (List.finRange 16).foldl (fun s i => s.updChannel i (Channel.convert x[i])) s

/-- The channel events that the records of a state owe after the first pass. -/
def State.firstPass (s : State) : State := { s with due := s.due ++ (List.finRange 16).flatMap fun i => (s.channel i).firstDue i }

/-- The second pass of a sampling tick. -/
def State.secondPass (s : State) : State := (List.finRange 16).foldl State.countChannel s

theorem State.sample_eq (s : State) (x : Vector (BitVec 12) 16) :
    let w := (s.converted x).firstPass.secondPass
    s.sample x = { w with due := w.due ++ (List.finRange 16).flatMap w.secondDue } := rfl

theorem State.converted_spec (s : State) (x : Vector (BitVec 12) 16) :
    { s.converted x with channels := s.channels } = s ∧ ∀ i : Fin 16, (s.converted x).channel i = (s.channel i).convert x[i] := by
  obtain ⟨hframe, hch⟩ := foldl_setChannel (f := fun s i => s.updChannel i (Channel.convert x[i]))
    (g := fun s i => (s.channel i).convert x[i]) (fun s i => rfl)
    (fun s i j hj => congrArg _ (State.setChannel_channel_other s i _ j hj)) (List.finRange 16) (List.nodup_finRange 16) s
  simp only [List.mem_finRange, if_true] at hch
  exact ⟨hframe, hch⟩

end Sys2Proof.Machine
end

section
/-! SUPPORT. The state that the two passes of a sampling tick leave (R27 to R30). -/

namespace Sys2Proof.Machine

/-! ### The first pass -/

theorem Channel.mem_firstDue (c : Channel) (i : Fin 16) (d : Due) :
    d ∈ c.firstDue i ↔ (d = .chFault i ∧ c.faults = true) ∨ (d = .chRecover i ∧ c.recovers = true) := by
  unfold Channel.firstDue
  by_cases hf : c.faults = true
  · simp [hf, Channel.not_recovers_of_faults hf]
  · by_cases hr : c.recovers = true <;> simp [hf, hr]

theorem Channel.firstDue_rank {c : Channel} {i : Fin 16} {d : Due} (h : d ∈ c.firstDue i) : d.rank = i.val := by
  rcases (c.mem_firstDue i d).1 h with ⟨rfl, -⟩ | ⟨rfl, -⟩ <;> rfl

theorem Channel.firstDue_ranked (c : Channel) (i : Fin 16) : (c.firstDue i).Pairwise fun a b => a.rank < b.rank := by
  unfold Channel.firstDue
  split
  · simp
  · split <;> simp

/-- What the first pass owes. -/
def State.firstEntries (s : State) : List Due := (List.finRange 16).flatMap fun i => (s.channel i).firstDue i

theorem State.mem_firstEntries (s : State) (d : Due) :
    d ∈ s.firstEntries ↔ ∃ i : Fin 16,
      (d = .chFault i ∧ (s.channel i).faults = true) ∨ (d = .chRecover i ∧ (s.channel i).recovers = true) := by
  simp [State.firstEntries, Channel.mem_firstDue]

theorem State.firstEntries_ranked (s : State) : s.firstEntries.Pairwise fun a b => a.rank < b.rank := by
  refine List.pairwise_flatMap.2 ⟨fun i _ => Channel.firstDue_ranked _ i,
    (List.pairwise_lt_finRange 16).imp fun {i j} hij a ha b hb => ?_⟩
  rw [Channel.firstDue_rank ha, Channel.firstDue_rank hb]
  exact hij

/-- With no channel event owed before, the first pass owes what its records ask for. -/
theorem State.firstPass_owes {s : State} (h : ∀ d ∈ s.due, d.isChannel = false) (i : Fin 16) :
    (Due.chFault i ∈ s.firstPass.due ↔ (s.channel i).faults = true) ∧
      (Due.chRecover i ∈ s.firstPass.due ↔ (s.channel i).recovers = true) := by
  have hmem (d : Due) : d ∈ s.firstPass.due ↔ d ∈ s.due ∨ d ∈ s.firstEntries := List.mem_append
  have hf : Due.chFault i ∉ s.due := fun hd => by simpa [Due.isChannel] using h _ hd
  have hr : Due.chRecover i ∉ s.due := fun hd => by simpa [Due.isChannel] using h _ hd
  simp [hmem, hf, hr, State.mem_firstEntries]

/-! ### The second pass -/

/-- The record that the second pass leaves of one channel. -/
def State.countedChannel (s : State) (i : Fin 16) : Channel :=
  if s.compares i then (s.channel i).count (s.comparedValue (s.channel i)) else s.channel i

theorem State.countChannel_eq (s : State) (i : Fin 16) : s.countChannel i = s.setChannel i (s.countedChannel i) := by
  unfold State.countChannel State.countedChannel
  split
  · rfl
  · rw [State.setChannel_self]

theorem State.countedChannel_keeps (s : State) (i : Fin 16) :
    (s.countedChannel i).state = (s.channel i).state ∧ (s.countedChannel i).lastSample = (s.channel i).lastSample := by
  unfold State.countedChannel
  split
  · obtain ⟨hstate, -, hlast, -⟩ := (s.channel i).count_keeps (s.comparedValue (s.channel i))
    exact ⟨hstate, hlast⟩
  · exact ⟨rfl, rfl⟩

theorem State.faultAfterPass_of_states {s t : State} (hdue : t.due = s.due) (h : ∀ j, (t.channel j).state = (s.channel j).state)
    (j : Fin 16) : t.faultAfterPass j = s.faultAfterPass j := by
  rw [State.faultAfterPass, hdue, h, State.faultAfterPass]

/-- The second pass reads nothing of a channel that it writes in another. -/
theorem State.countedChannel_countChannel (s : State) (i j : Fin 16) (hj : j ≠ i) :
    (s.countChannel i).countedChannel j = s.countedChannel j := by
  have hch (k : Fin 16) : (s.countChannel i).channel k = if i = k then s.countedChannel i else s.channel k := by
    rw [State.countChannel_eq, State.setChannel_channel]
  obtain ⟨hstate, hlast⟩ := s.countedChannel_keeps i
  have hstates (k : Fin 16) : ((s.countChannel i).channel k).state = (s.channel k).state := by
    rw [hch]; split
    · next hk => rw [hstate, hk]
    · rfl
  have hlasts (k : Fin 16) : ((s.countChannel i).channel k).lastSample = (s.channel k).lastSample := by
    rw [hch]; split
    · next hk => rw [hlast, hk]
    · rfl
  have hdue := s.countChannel_due i
  obtain ⟨hsettles, -, -⟩ := State.second_congr (State.faultAfterPass_of_states hdue hstates) hlasts (s.channel j)
  have hsame : (s.countChannel i).channel j = s.channel j := by rw [hch, if_neg (Ne.symm hj)]
  have hcompares : (s.countChannel i).compares j = s.compares j := by
    simp only [State.compares, hsame, hdue, hsettles]
  have hvalue : (s.countChannel i).comparedValue (s.channel j) = s.comparedValue (s.channel j) := by
    simp only [State.comparedValue, hlasts]
  rw [State.countedChannel, hcompares, hsame, hvalue, State.countedChannel]

theorem State.secondPass_spec (s : State) :
    { s.secondPass with channels := s.channels } = s ∧ ∀ i : Fin 16, s.secondPass.channel i = s.countedChannel i := by
  obtain ⟨hframe, hch⟩ := foldl_setChannel State.countChannel_eq State.countedChannel_countChannel (List.finRange 16)
    (List.nodup_finRange 16) s
  simp only [List.mem_finRange, if_true] at hch
  exact ⟨hframe, hch⟩

theorem Channel.goes_state {c : Channel} :
    (c.goesActive = true → c.state = .quiet) ∧ (c.goesQuiet = true → c.state = .active) := by
  simp +contextual [Channel.goesActive, Channel.goesQuiet]

/-- What the second pass owes a channel, by what the first pass has owed it. -/
theorem State.mem_secondDue {s : State} {i : Fin 16} (hf : Due.chFault i ∈ s.due ↔ (s.channel i).faults = true)
    (hr : Due.chRecover i ∈ s.due ↔ (s.channel i).recovers = true) (d : Due) :
    d ∈ s.secondDue i ↔ (s.channel i).faults = false ∧
      ((d = .chRefFault i ∧ s.refSettles (s.channel i) = true) ∨
        (d = .chActive i ∧ s.refSettles (s.channel i) = false ∧ (s.channel i).goesActive = true) ∨
        (d = .chQuiet i ∧ s.refSettles (s.channel i) = false ∧ (s.channel i).goesQuiet = true)) := by
  unfold State.secondDue
  simp only [List.contains_iff_mem, hf, hr]
  generalize s.channel i = c
  obtain ⟨hquiet, hactive⟩ := c.goes_state
  by_cases hfaults : c.faults = true
  · simp [hfaults]
  · by_cases hrec : c.recovers = true
    · have hstate : c.state = .fault := by
        unfold Channel.recovers at hrec
        simp_all
      have hsettles : s.refSettles c = false := by rw [State.refSettles, hstate]
      simp [hrec, hsettles, Channel.goesActive, Channel.goesQuiet, hstate]
    · rw [if_neg (by simp [hfaults, hrec])]
      by_cases hsettles : s.refSettles c = true
      · simp [hfaults, hsettles]
      · by_cases ha : c.goesActive = true
        · have hnq : c.goesQuiet = false := by simp [Channel.goesQuiet, hquiet ha]
          simp [hfaults, hsettles, ha, hnq]
        · by_cases hq : c.goesQuiet = true <;> simp [hfaults, hsettles, ha, hq]

theorem State.secondDue_rank {s : State} {i : Fin 16} {d : Due} (h : d ∈ s.secondDue i) : d.rank = 16 + i.val := by
  unfold State.secondDue at h
  dsimp only at h
  repeat' split at h
  all_goals simp at h
  all_goals rw [h]; rfl

theorem State.secondDue_ranked (s : State) (i : Fin 16) : (s.secondDue i).Pairwise fun a b => a.rank < b.rank := by
  unfold State.secondDue
  dsimp only
  repeat' split
  all_goals simp

/-! ### Both passes -/

/-- The records and the list of due events after the second pass, over the first. -/
theorem State.sampled_of_passes {s m n w : State} {x : Vector (BitVec 12) 16}
    (hmframe : { m with channels := s.channels, due := s.due } = s) (hmch : ∀ i : Fin 16, m.channel i = (s.channel i).convert x[i])
    (hmdue : m.due = s.due ++ m.firstEntries) (howes : ∀ i : Fin 16, (Due.chFault i ∈ m.due ↔ (m.channel i).faults = true) ∧
      (Due.chRecover i ∈ m.due ↔ (m.channel i).recovers = true))
    (hnframe : { n with channels := m.channels } = m) (hnch : ∀ i : Fin 16, n.channel i = m.countedChannel i)
    (hw : w = { n with due := n.due ++ (List.finRange 16).flatMap n.secondDue }) :
    s.SampledTo x w (m.firstEntries ++ (List.finRange 16).flatMap n.secondDue) := by
  have hndue : n.due = m.due := (congrArg State.due hnframe :)
  have hwch (i : Fin 16) : w.channel i = n.channel i := by rw [hw]; rfl
  have hwdue : w.due = m.due ++ (List.finRange 16).flatMap n.secondDue := by rw [hw, ← hndue]
  have hcompares (i : Fin 16) : m.compares i = m.comparesAs (m.channel i) := by
    rw [State.compares, State.comparesAs, Bool.eq_iff_iff]
    simp [(howes i).1]
  have hcounted (i : Fin 16) : n.channel i = m.countedAs (m.channel i) := by
    rw [hnch, State.countedChannel, hcompares, State.countedAs]
  have hfaults (i : Fin 16) : (n.channel i).faults = (m.channel i).faults := by rw [hcounted, State.countedAs_faults]
  have hrecovers (i : Fin 16) : (n.channel i).recovers = (m.channel i).recovers := by rw [hcounted, State.countedAs_recovers]
  have hstate (i : Fin 16) : (n.channel i).state = (m.channel i).state := by rw [hcounted, (m.countedAs_keeps _).1]
  have hlast (i : Fin 16) : (n.channel i).lastSample = (m.channel i).lastSample := by rw [hcounted, (m.countedAs_keeps _).2.2.1]
  have hsecond (i : Fin 16) := State.mem_secondDue (s := n) (i := i) (by rw [hndue, hfaults]; exact (howes i).1)
    (by rw [hndue, hrecovers]; exact (howes i).2)
  have hmem₂ (d : Due) : d ∈ (List.finRange 16).flatMap n.secondDue ↔ ∃ i : Fin 16, d ∈ n.secondDue i := by simp
  have hnone (j : Fin 16) : Due.chFault j ∉ (List.finRange 16).flatMap n.secondDue ∧
      Due.chRecover j ∉ (List.finRange 16).flatMap n.secondDue := by
    simp [hsecond]
  have hwfault (j : Fin 16) : w.faultAfterPass j = m.faultAfterPass j := by
    rw [Bool.eq_iff_iff, State.faultAfterPass_iff, State.faultAfterPass_iff, hwdue, hwch, hstate]
    simp only [List.mem_append, (hnone j).1, (hnone j).2, or_false]
  have hnfault := State.faultAfterPass_of_states hndue hstate
  have hwsettles (c : Channel) : w.refSettles c = n.refSettles c := State.refSettles_congr (fun j => by rw [hwfault, hnfault]) c
  refine ⟨?_, fun i => ?_, by rw [hwdue, hmdue, List.append_assoc], ?_, fun d => ?_, fun j => ?_⟩
  · rw [hw]
    exact (congrArg (fun t : State => { t with channels := s.channels, due := s.due }) hnframe).trans hmframe
  · rw [hwch, hcounted, hmch]
    exact (State.second_congr hwfault (fun j => by rw [hwch, hlast]) _).2.2.symm
  · refine List.pairwise_append.2 ⟨m.firstEntries_ranked, List.pairwise_flatMap.2 ⟨fun i _ => n.secondDue_ranked i,
      (List.pairwise_lt_finRange 16).imp fun {i j} hij a ha b hb => ?_⟩, fun a ha b hb => ?_⟩
    · rw [State.secondDue_rank ha, State.secondDue_rank hb]
      exact Nat.add_lt_add_left hij 16
    · obtain ⟨i, hi⟩ := (hmem₂ b).1 hb
      obtain ⟨k, hk⟩ := (m.mem_firstEntries a).1 ha
      have hrank : a.rank = k.val := by rcases hk with ⟨rfl, -⟩ | ⟨rfl, -⟩ <;> rfl
      rw [hrank, State.secondDue_rank hi]
      omega
  · rw [List.mem_append, hmem₂, State.mem_firstEntries]
    simp only [hsecond, ← hfaults, ← hrecovers, ← hwch, ← hwsettles]
    cases d <;> simp [State.owes]
    all_goals grind
  · rw [State.faultAfterPass_iff, hwdue, hwch, hfaults, hrecovers]
    simp [(hnone j).1, (hnone j).2, (howes j).1, (howes j).2]

theorem State.sample_sampled {s : State} (x : Vector (BitVec 12) 16) (h : ∀ d ∈ s.due, d.isChannel = false) :
    ∃ D : List Due, s.SampledTo x (s.sample x) D := by
  obtain ⟨hframe, hch⟩ := s.converted_spec x
  have hsample := s.sample_eq x
  generalize s.converted x = c at hframe hch hsample
  have hdue : c.due = s.due := (congrArg State.due hframe :)
  obtain ⟨hnframe, hnch⟩ := c.firstPass.secondPass_spec
  refine ⟨_, State.sampled_of_passes (m := c.firstPass) ?_ hch ?_ (State.firstPass_owes (by rwa [hdue])) hnframe hnch hsample⟩
  · exact congrArg (fun t : State => { t with due := s.due }) hframe
  · rw [← hdue]; rfl

end Sys2Proof.Machine
end

section
/-! SUPPORT. A sampling tick to its end: the conversions and counts, and the changes that come about with them (R27 to R31). -/

namespace Sys2Proof.Machine

/-- The silent entries that stand first among those a sampling tick owes have come about, and no other. -/
structure State.SilentTaken (w : State) (P : List Due) (u : State) : Prop where
  mem : ∀ d : Due, d ∈ P ↔ w.owes d = true ∧ ∀ e : Due, w.owes e = true → e.rank ≤ d.rank → e.isSilent = true
  ranked : P.Pairwise fun a b => a.rank < b.rank
  changed : w.ChangedTo (P.map w.silentChange) u
  due : ∀ d : Due, d.isChannel = true → d ∉ P → (d ∈ u.due ↔ w.owes d = true)

theorem State.owes_isChannel {w : State} {d : Due} (h : w.owes d = true) : d.isChannel = true := by
  cases d with
  | chFault | chRecover | chRefFault | chActive | chQuiet => rfl
  | _ => cases h

theorem State.SilentTaken.isSilent {w u : State} {P : List Due} (h : w.SilentTaken P u) {d : Due} (hd : d ∈ P) : d.isSilent = true :=
  ((h.mem d).1 hd).2 d ((h.mem d).1 hd).1 (le_refl _)

/-- Silent entries of one channel are one: a channel that enters FAULT does not settle its reference. -/
theorem State.silent_inj {w : State} {d e : Due} (hd : w.owes d = true) (he : w.owes e = true) (hds : d.isSilent = true)
    (hes : e.isSilent = true) (h : (w.silentChange d).1 = (w.silentChange e).1) : d = e := by
  obtain ⟨i, rfl | rfl⟩ := (Due.isSilent_iff d).1 hds <;> obtain ⟨j, rfl | rfl⟩ := (Due.isSilent_iff e).1 hes
  all_goals
    obtain rfl : i = j := h
    simp_all [State.owes]

theorem State.takeSilent_taken {s w : State} {x : Vector (BitVec 12) 16} {D : List Due} (h : ∀ d ∈ s.due, d.isChannel = false)
    (hw : s.SampledTo x w D) : ∃ P : List Due, w.SilentTaken P w.takeSilent := by
  have hall : D.filter Due.isChannel = D := List.filter_eq_self.2 fun d hd => State.owes_isChannel ((hw.owed d).1 hd)
  have hchannelDue : w.channelDue = D := by
    rw [State.channelDue, hw.due, List.filter_append, hall, List.filter_eq_nil_iff.2 fun d hd => by simp [h d hd], List.nil_append]
  have hmem (d : Due) : d ∈ D.takeWhile Due.isSilent ↔
      w.owes d = true ∧ ∀ e : Due, w.owes e = true → e.rank ≤ d.rank → e.isSilent = true := by
    simp only [mem_takeWhile_of_ranked hw.ranked, hw.owed]
  have hranked := hw.ranked.sublist (List.takeWhile_sublist Due.isSilent)
  have hmemDue (d : Due) (hd : d.isChannel = true) : d ∈ w.due ↔ w.owes d = true := by
    rw [hw.due, List.mem_append, hw.owed]
    exact or_iff_right fun hs => by simp [h d hs] at hd
  have hdue : w.takeSilent.due = w.due.diff (D.takeWhile Due.isSilent) := by
    rw [State.takeSilent, State.takeAll_due _ _ (w.sampling_notMem_channelDue _), hchannelDue]
  have hready : w.SilentReady (D.takeWhile Due.isSilent) := by
    refine ⟨fun d hd => ?_, ?_, fun j hj hr => ?_⟩
    · obtain ⟨howes, hbefore⟩ := (hmem d).1 hd
      refine ⟨?_, (hmemDue d (State.owes_isChannel howes)).2 howes⟩
      obtain ⟨i, rfl | rfl⟩ := (Due.isSilent_iff d).1 (hbefore d howes (le_refl _))
      · exact howes
      · exact (Bool.and_eq_true_iff.1 howes).2
    · refine List.Nodup.map_on (fun d hd e he heq => ?_) (hranked.imp fun hlt heq => by subst heq; exact lt_irrefl _ hlt)
      obtain ⟨hd, hds⟩ := (hmem d).1 hd
      obtain ⟨he, hes⟩ := (hmem e).1 he
      exact State.silent_inj hd he (hds d hd (le_refl _)) (hes e he (le_refl _)) heq
    · have hf := (hmemDue (.chFault j) rfl).1 hj
      have hrec := (hmemDue (.chRecover j) rfl).1 hr
      simp [State.owes, Channel.not_recovers_of_faults hf] at hrec
  refine ⟨D.takeWhile Due.isSilent, hmem, hranked, ?_, fun d hd hnot => ?_⟩
  · rw [State.takeSilent, hchannelDue]
    exact (State.takeAll_changed hready).to
  · rw [hdue, ← hmemDue d hd]
    exact ⟨fun hin => List.diff_subset _ _ hin, fun hin => List.mem_diff_of_mem hin hnot⟩

/-! ### What the changes leave of each channel -/

/-- The channel that an entry takes to FAULT. -/
def Due.faulted : Due → Option (Fin 16)
  | .chFault i => some i
  | _ => none

theorem Due.faulted_eq_some {d : Due} {i : Fin 16} : d.faulted = some i ↔ d = .chFault i := by
  cases d <;> simp [Due.faulted]

namespace State.SilentTaken

variable {w u : State} {P : List Due}

theorem channel_fault (h : w.SilentTaken P u) {i : Fin 16} (hi : Due.chFault i ∈ P) :
    u.channel i = (w.channel i).enter .fault ∧ u.reported (.channel i) Flag.chFault := by
  obtain ⟨hch, -, -, hrep⟩ := h.changed.entered (i, .fault) (List.mem_map_of_mem hi)
  exact ⟨hch, hrep⟩

theorem channel_refFault (h : w.SilentTaken P u) {i : Fin 16} (hi : Due.chRefFault i ∈ P) :
    u.channel i = (w.channel i).enter (if (w.channel i).state = .refFault then .quiet else .refFault) ∧
      u.reported (.channel i) Flag.chRefFault := by
  obtain ⟨hch, -, -, hrep⟩ := h.changed.entered (w.silentChange (.chRefFault i)) (List.mem_map_of_mem hi)
  refine ⟨hch, ?_⟩
  rwa [if_neg (by rw [State.silentChange]; split <;> simp)] at hrep

theorem channel_other (h : w.SilentTaken P u) {i : Fin 16} (hf : Due.chFault i ∉ P) (hr : Due.chRefFault i ∉ P) :
    u.channel i = w.channel i := by
  refine h.changed.others i fun hmem => ?_
  rw [List.map_map, List.mem_map] at hmem
  obtain ⟨d, hd, hdi⟩ := hmem
  obtain ⟨k, rfl | rfl⟩ := (Due.isSilent_iff d).1 (h.isSilent hd)
  · exact hf ((show k = i from hdi) ▸ hd)
  · exact hr ((show k = i from hdi) ▸ hd)

/-- A channel that is now in FAULT was before or has entered it. -/
theorem fault_iff (h : w.SilentTaken P u) (i : Fin 16) :
    Due.chFault i ∈ P ↔ (w.channel i).state ≠ .fault ∧ (u.channel i).state = .fault := by
  constructor
  · intro hi
    obtain ⟨-, hne, -⟩ := h.changed.entered (i, .fault) (List.mem_map_of_mem hi)
    exact ⟨hne, congrArg Channel.state (h.channel_fault hi).1⟩
  · rintro ⟨hne, hstate⟩
    by_contra hnot
    by_cases hr : Due.chRefFault i ∈ P
    · rw [(h.channel_refFault hr).1, Channel.enter] at hstate
      dsimp only at hstate
      split at hstate <;> cases hstate
    · rw [h.channel_other hnot hr] at hstate
      exact hne hstate

/-- The entries to FAULT are traced in the order of the channels. -/
theorem faultEntries (h : w.SilentTaken P u) :
    (P.map w.silentChange).filterMap w.faultEntry = (List.finRange 16).filterMap fun i =>
      if (w.channel i).state ≠ .fault ∧ (u.channel i).state = .fault
        then some (w.entry .chFault i.val (w.channel i).lastSample.toNat) else none := by
  have hchannels : P.filterMap Due.faulted =
      (List.finRange 16).filter fun i => decide ((w.channel i).state ≠ .fault ∧ (u.channel i).state = .fault) := by
    refine List.Pairwise.eq_of_mem_iff (r := (· < ·)) (List.pairwise_filterMap.2 (h.ranked.imp ?_))
      ((List.pairwise_lt_finRange 16).filter _) fun i => ?_
    · intro a b hab i hi j hj
      rw [Due.faulted_eq_some.1 hi, Due.faulted_eq_some.1 hj] at hab
      exact hab
    · simp only [List.mem_filterMap, Due.faulted_eq_some, exists_eq_right, List.mem_filter, List.mem_finRange, true_and,
        decide_eq_true_eq]
      exact h.fault_iff i
  have hentry (d : Due) (hd : d ∈ P) : (w.faultEntry ∘ w.silentChange) d =
      d.faulted.map fun i => w.entry .chFault i.val (w.channel i).lastSample.toNat := by
    obtain ⟨i, rfl | rfl⟩ := (Due.isSilent_iff d).1 (h.isSilent hd)
    · rfl
    · refine if_neg ?_
      rw [State.silentChange]
      split <;> simp
  rw [List.filterMap_map, List.filterMap_congr hentry, ← List.map_filterMap, hchannels, ← List.filterMap_eq_map, List.filterMap_filter]
  simp

end State.SilentTaken

end Sys2Proof.Machine
end

section
/-! SUPPORT. The channels after a sampling tick, by what they were before it (R27 to R30). -/

namespace Sys2Proof.Machine

theorem outOfRange_iff (x : BitVec 12) : outOfRange x = true ↔ x.toNat ≤ 15 ∨ 4080 ≤ x.toNat := by
  simp [outOfRange]

/-! ### The conversion of one record -/

theorem Channel.convert_of_off {c : Channel} (x : BitVec 12) (h : c.cfg.mode = .off) : c.convert x = { c with compared := none } :=
  if_pos h

theorem Channel.convert_of_fault {c : Channel} (x : BitVec 12) (h : c.cfg.mode ≠ .off) (hf : c.state = .fault) :
    c.convert x = { c with lastSample := x, compared := none, recoveryRun := if outOfRange x then 0 else min 8 (c.recoveryRun + 1) } := by
  rw [Channel.convert, if_neg h, if_pos hf]

theorem Channel.convert_of_sound {c : Channel} (x : BitVec 12) (h : c.cfg.mode ≠ .off) (hf : c.state ≠ .fault) :
    c.convert x = { c with lastSample := x, compared := none } := by
  rw [Channel.convert, if_neg h, if_neg hf]

/-! ### What the passes leave -/

namespace State.SampledTo

variable {s w : State} {x : Vector (BitVec 12) 16} {D : List Due}

theorem state (h : s.SampledTo x w D) (i : Fin 16) : (w.channel i).state = (s.channel i).state := by
  rw [h.channel, (w.countedAs_keeps _).1, (Channel.convert_keeps _ _).2.1]

theorem cfg (h : s.SampledTo x w D) (i : Fin 16) : (w.channel i).cfg = (s.channel i).cfg := by
  rw [h.channel, (w.countedAs_keeps _).2.1, (Channel.convert_keeps _ _).1]

theorem lastSample (h : s.SampledTo x w D) {i : Fin 16} (hi : (s.channel i).cfg.mode ≠ .off) : (w.channel i).lastSample = x[i] := by
  rw [h.channel, (w.countedAs_keeps _).2.2.1, Channel.convert, if_neg hi]

theorem faults_iff (h : s.SampledTo x w D) (i : Fin 16) : (w.channel i).faults = true ↔
    (s.channel i).cfg.mode ≠ .off ∧ (s.channel i).state ≠ .fault ∧ outOfRange x[i] = true := by
  by_cases hi : (s.channel i).cfg.mode = .off
  · simp [Channel.faults, h.cfg, hi]
  · simp [Channel.faults, h.cfg, h.state, h.lastSample hi, and_assoc]

/-- No channel recovers at this tick where none in FAULT has a run of 7. -/
theorem recovers_false (h : s.SampledTo x w D)
    (hrun : ∀ j : Fin 16, (s.channel j).state = .fault → (s.channel j).recoveryRun < 7) (j : Fin 16) :
    (w.channel j).recovers = false := by
  by_cases hf : (s.channel j).state = .fault
  · have hlt := hrun j hf
    have hkeep : (w.channel j).recoveryRun = ((s.channel j).convert x[j]).recoveryRun := by
      rw [h.channel, (w.countedAs_keeps _).2.2.2]
    have hle : ((s.channel j).convert x[j]).recoveryRun ≤ (s.channel j).recoveryRun + 1 := by
      by_cases hoff : (s.channel j).cfg.mode = .off
      · rw [Channel.convert_of_off _ hoff]
        exact Nat.le_succ _
      · rw [Channel.convert_of_fault _ hoff hf]
        dsimp only
        split <;> omega
    have hne : (w.channel j).recoveryRun ≠ 8 := by omega
    simp [Channel.recovers, hne]
  · simp [Channel.recovers, h.state, hf]

/-- A reference is in FAULT after the first pass of a tick at which none recovers. -/
theorem faultAfterPass_iff (h : s.SampledTo x w D)
    (hrun : ∀ j : Fin 16, (s.channel j).state = .fault → (s.channel j).recoveryRun < 7) (j : Fin 16) :
    w.faultAfterPass j = true ↔
      (s.channel j).state = .fault ∨ ((s.channel j).cfg.mode ≠ .off ∧ outOfRange x[j] = true) := by
  rw [h.faulted, h.faults_iff, h.recovers_false hrun, h.state]
  tauto

/-- A reference whose sample is sound is not in FAULT after the first pass. -/
theorem faultAfterPass_of_sound (h : s.SampledTo x w D) {j : Fin 16} (hf : (s.channel j).state ≠ .fault) (hx : outOfRange x[j] = false) :
    w.faultAfterPass j = false := by
  rw [← Bool.not_eq_true, h.faulted, h.faults_iff, h.state]
  simp [hf, hx, -Fin.getElem_fin]

/-- The record of a converted channel that does not compare. -/
theorem channel_of_not_compares (h : s.SampledTo x w D) {i : Fin 16} (hc : w.comparesAs ((s.channel i).convert x[i]) = false) :
    w.channel i = (s.channel i).convert x[i] := by
  rw [h.channel, State.countedAs, hc]
  rfl

/-- A channel in FAULT only counts its recovery. -/
theorem channel_of_fault (h : s.SampledTo x w D) {i : Fin 16} (hi : (s.channel i).cfg.mode ≠ .off) (hf : (s.channel i).state = .fault) :
    w.channel i = { s.channel i with
      lastSample := x[i], compared := none, recoveryRun := if outOfRange x[i] then 0 else min 8 ((s.channel i).recoveryRun + 1) } := by
  rw [h.channel_of_not_compares, Channel.convert_of_fault _ hi hf]
  simp [-Fin.getElem_fin, State.comparesAs, (Channel.convert_keeps x[i] (s.channel i)).2.1, hf]

/-- A channel that settles its reference, or stays in REF_FAULT, does not compare. -/
theorem channel_of_reference (h : s.SampledTo x w D) {i : Fin 16} (hi : (s.channel i).cfg.mode ≠ .off)
    (hf : (s.channel i).state ≠ .fault)
    (hr : (s.channel i).state = .refFault ∨ w.refSettles ((s.channel i).convert x[i]) = true) :
    w.channel i = { s.channel i with lastSample := x[i], compared := none } := by
  rw [h.channel_of_not_compares, Channel.convert_of_sound _ hi hf]
  rcases hr with hr | hr
  · simp [-Fin.getElem_fin, State.comparesAs, (Channel.convert_keeps x[i] (s.channel i)).2.1, hr]
  · simp [-Fin.getElem_fin, State.comparesAs, hr]

/-- The second pass settles a channel by its state, mode and reference as they were. -/
theorem refSettles_eq (h : s.SampledTo x w D) (i : Fin 16) :
    w.refSettles (w.channel i) = w.refSettles (s.channel i) ∧
      w.refSettles ((s.channel i).convert x[i]) = w.refSettles (s.channel i) := by
  obtain ⟨hcfg, hstate, -⟩ := (s.channel i).convert_keeps x[i]
  simp only [State.refSettles, State.referenceFaulted, h.cfg, h.state, hcfg, hstate, and_self]

/-- A channel whose sample and reference are sound compares (R30). -/
theorem channel_of_compares (h : s.SampledTo x w D) {i : Fin 16} {v : Int}
    (hq : (s.channel i).state = .quiet ∨ (s.channel i).state = .active)
    (hx : outOfRange x[i] = false)
    (hv : ((s.channel i).cfg.mode = .fixed ∧ v = x[i].toNat) ∨
      ((s.channel i).cfg.mode = .reference ∧ ∃ j : Fin 16, (s.channel i).cfg.reference = some j ∧ (s.channel j).cfg.mode ≠ .off ∧
        (s.channel j).state ≠ .fault ∧ outOfRange x[j] = false ∧ v = (x[i].toNat : Int) - x[j].toNat)) :
    w.refSettles (s.channel i) = false ∧
      w.channel i = Channel.count v { s.channel i with lastSample := x[i], compared := none } := by
  have hi : (s.channel i).cfg.mode ≠ .off := by rcases hv with ⟨hm, -⟩ | ⟨hm, -⟩ <;> simp [hm]
  have hf : (s.channel i).state ≠ .fault := by rcases hq with hq | hq <;> simp [hq]
  have hfaulted : w.referenceFaulted (s.channel i) = false := by
    rcases hv with ⟨hm, -⟩ | ⟨hm, j, hj, -, hjf, hjx, -⟩
    · simp [State.referenceFaulted, hm]
    · simp [State.referenceFaulted, hj, h.faultAfterPass_of_sound hjf hjx]
  have hsettles : w.refSettles (s.channel i) = false := by rcases hq with hq | hq <;> simp [State.refSettles, hq, hfaulted]
  have hvalue : w.comparedValue { s.channel i with lastSample := x[i], compared := none } = v := by
    rcases hv with ⟨hm, rfl⟩ | ⟨hm, j, hj, hjon, -, -, rfl⟩
    · simp [State.comparedValue, hm]
    · simp [State.comparedValue, hm, hj, h.lastSample hjon]
  have hcompares : w.comparesAs { s.channel i with lastSample := x[i], compared := none } = true := by
    have hsettles' := (h.refSettles_eq i).2.trans hsettles
    rw [Channel.convert_of_sound _ hi hf] at hsettles'
    rw [State.comparesAs, hsettles']
    rcases hv with ⟨hm, -⟩ | ⟨hm, -⟩ <;> rcases hq with hq | hq <;> simp [-Fin.getElem_fin, Channel.faults, hm, hq, hx]
  refine ⟨hsettles, ?_⟩
  rw [h.channel, Channel.convert_of_sound _ hi hf, State.countedAs, hcompares, if_pos rfl, hvalue]

end State.SampledTo

/-! ### The changes that come about with the tick -/

namespace State.SilentTaken

variable {w u : State} {P : List Due}

theorem mem_owes (h : w.SilentTaken P u) {d : Due} (hd : d ∈ P) : w.owes d = true := ((h.mem d).1 hd).1

/-- An event that is a step of its own stays owed. -/
theorem due_of_not_silent (h : w.SilentTaken P u) {d : Due} (hd : d.isChannel = true) (hs : d.isSilent = false) :
    d ∈ u.due ↔ w.owes d = true :=
  h.due d hd fun hP => by simp [h.isSilent hP] at hs

/-- A channel that neither enters FAULT nor settles its reference takes no change. -/
theorem channel_of_not_owed (h : w.SilentTaken P u) {i : Fin 16} (hf : (w.channel i).faults = false)
    (hr : w.refSettles (w.channel i) = false) : u.channel i = w.channel i :=
  h.channel_other (fun hP => by simpa [State.owes, hf] using h.mem_owes hP) fun hP => by simpa [State.owes, hr] using h.mem_owes hP

/-- No change writes the configuration or the sample. -/
theorem channel_keeps (h : w.SilentTaken P u) (i : Fin 16) :
    (u.channel i).cfg = (w.channel i).cfg ∧ (u.channel i).lastSample = (w.channel i).lastSample := by
  by_cases hf : Due.chFault i ∈ P
  · rw [(h.channel_fault hf).1]
    exact ⟨rfl, rfl⟩
  · by_cases hr : Due.chRefFault i ∈ P
    · rw [(h.channel_refFault hr).1]
      exact ⟨rfl, rfl⟩
    · rw [h.channel_other hf hr]
      exact ⟨rfl, rfl⟩

/-- With no recovery owed, every entry to FAULT comes about with the tick. -/
theorem chFault_mem (h : w.SilentTaken P u) (hrec : ∀ k : Fin 16, (w.channel k).recovers = false) {i : Fin 16}
    (hf : (w.channel i).faults = true) : Due.chFault i ∈ P := by
  refine (h.mem _).2 ⟨hf, fun e he hle => ?_⟩
  have hi := i.isLt
  cases e with
  | chFault k | chRefFault k => rfl
  | chRecover k => simp [State.owes, hrec k] at he
  | chActive k | chQuiet k => simp only [Due.rank] at hle; omega
  | _ => cases he

/-- With no recovery owed, a channel settles its reference with the tick where no channel before it becomes ACTIVE or QUIET, and
otherwise the change stays owed (R31). -/
theorem chRefFault_taken (h : w.SilentTaken P u) (hrec : ∀ k : Fin 16, (w.channel k).recovers = false) {i : Fin 16}
    (howes : w.owes (.chRefFault i) = true) :
    ((∀ k : Fin 16, k < i → Due.chActive k ∉ u.due ∧ Due.chQuiet k ∉ u.due) → Due.chRefFault i ∈ P) ∧
      ((¬∀ k : Fin 16, k < i → Due.chActive k ∉ u.due ∧ Due.chQuiet k ∉ u.due) → Due.chRefFault i ∈ u.due) := by
  have hactive (k : Fin 16) : Due.chActive k ∈ u.due ↔ w.owes (.chActive k) = true := h.due_of_not_silent rfl rfl
  have hquiet (k : Fin 16) : Due.chQuiet k ∈ u.due ↔ w.owes (.chQuiet k) = true := h.due_of_not_silent rfl rfl
  have hsettles : w.refSettles (w.channel i) = true := (Bool.and_eq_true_iff.1 howes).2
  have hown : w.owes (.chActive i) = false ∧ w.owes (.chQuiet i) = false := by simp [State.owes, hsettles]
  constructor
  · refine fun hfirst => (h.mem _).2 ⟨howes, fun e he hle => ?_⟩
    have hbefore {k : Fin 16} (hk : 16 + k.val ≤ 16 + i.val) (hne : k ≠ i) : k < i := by
      have := Fin.val_ne_of_ne hne
      exact Fin.lt_def.2 (by omega)
    cases e with
    | chFault k | chRefFault k => rfl
    | chRecover k => simp [State.owes, hrec k] at he
    | chActive k =>
      by_cases hk : k = i
      · simp [hk, hown.1] at he
      · exact absurd ((hactive k).2 he) (hfirst k (hbefore hle hk)).1
    | chQuiet k =>
      by_cases hk : k = i
      · simp [hk, hown.2] at he
      · exact absurd ((hquiet k).2 he) (hfirst k (hbefore hle hk)).2
    | _ => cases he
  · refine fun hnot => (h.due _ rfl fun hP => hnot fun k hk => ?_).2 howes
    have hle : 16 + k.val ≤ 16 + i.val := by have := Fin.lt_def.1 hk; omega
    have hbefore := ((h.mem _).1 hP).2
    exact ⟨fun ha => by simpa [Due.isSilent] using hbefore _ ((hactive k).1 ha) hle,
      fun hq => by simpa [Due.isSilent] using hbefore _ ((hquiet k).1 hq) hle⟩

end State.SilentTaken

end Sys2Proof.Machine
end

section
/-! PROOF. O18: a sampling tick, clause by clause. -/

namespace Sys2Proof.Machine

/-! ### One channel at a tick -/

theorem Channel.count_of_quiet {c : Channel} (v : Int) (h : c.state = .quiet) :
    c.count v = { c with compared := some v, riseRun := if c.cfg.rise ≤ v then min 8 (c.riseRun + 1) else 0, fallRun := 0 } := by
  rw [Channel.count, h]

theorem Channel.count_of_active {c : Channel} (v : Int) (h : c.state = .active) :
    c.count v = { c with compared := some v, riseRun := 0, fallRun := if v ≤ c.cfg.fall then min 8 (c.fallRun + 1) else 0 } := by
  rw [Channel.count, h]

section

variable {s w u : State} {x : Vector (BitVec 12) 16} {D P : List Due}

theorem sampled_off (hw : s.SampledTo x w D) (hu : w.SilentTaken P u) {i : Fin 16} (hi : (s.channel i).cfg.mode = .off)
    (hs : (s.channel i).state = .off) : u.channel i = { s.channel i with compared := none } := by
  have hfaults : (w.channel i).faults = false := by simp [Channel.faults, hw.cfg, hi]
  have hsettles : w.refSettles (w.channel i) = false := by simp [State.refSettles, hw.state, hs]
  rw [hu.channel_of_not_owed hfaults hsettles, hw.channel_of_not_compares, Channel.convert_of_off _ hi]
  simp [-Fin.getElem_fin, State.comparesAs, (Channel.convert_keeps x[i] (s.channel i)).1, hi]

theorem sampled_recovery (hw : s.SampledTo x w D) (hu : w.SilentTaken P u) {i : Fin 16} (hi : (s.channel i).cfg.mode ≠ .off)
    (hs : (s.channel i).state = .fault) :
    (u.channel i).state = .fault ∧ (u.channel i).compared = none ∧
      (u.channel i).recoveryRun = (if outOfRange x[i] then 0 else min 8 ((s.channel i).recoveryRun + 1)) ∧
      (Due.chRecover i ∈ u.due ↔ (u.channel i).recoveryRun = 8) := by
  have hfaults : (w.channel i).faults = false := by simp [Channel.faults, hw.state, hs]
  have hsettles : w.refSettles (w.channel i) = false := by simp [State.refSettles, hw.state, hs]
  rw [hu.channel_of_not_owed hfaults hsettles, hu.due_of_not_silent rfl rfl, State.owes, Channel.recovers, hw.channel_of_fault hi hs]
  simp [-Fin.getElem_fin, hs]

theorem sampled_fault (hw : s.SampledTo x w D) (hu : w.SilentTaken P u) {i : Fin 16} (hi : (s.channel i).cfg.mode ≠ .off)
    (hs : (s.channel i).state ≠ .fault) (hx : outOfRange x[i] = true)
    (hrun : ∀ j : Fin 16, (s.channel j).state = .fault → (s.channel j).recoveryRun < 7) :
    (u.channel i).state = .fault ∧ (u.channel i).recoveryRun = 0 ∧ u.reported (.channel i) Flag.chFault := by
  obtain ⟨hch, hrep⟩ := hu.channel_fault (hu.chFault_mem (hw.recovers_false hrun) ((hw.faults_iff i).2 ⟨hi, hs, hx⟩))
  exact ⟨congrArg Channel.state hch, congrArg Channel.recoveryRun hch, hrep⟩

/-- A channel whose reference has entered or left FAULT takes REF_FAULT or QUIET with the tick, or owes the change (R29, R31). -/
theorem sampled_reference (hw : s.SampledTo x w D) (hu : w.SilentTaken P u) {i : Fin 16} (hi : (s.channel i).cfg.mode ≠ .off)
    (hx : outOfRange x[i] = false) (hrun : ∀ j : Fin 16, (s.channel j).state = .fault → (s.channel j).recoveryRun < 7)
    (hsettles : w.refSettles (s.channel i) = true) {v : ChannelState}
    (hv : (if (s.channel i).state = .refFault then .quiet else .refFault) = v) :
    ((∀ k : Fin 16, k < i → Due.chActive k ∉ u.due ∧ Due.chQuiet k ∉ u.due) →
      u.channel i = { s.channel i with
        lastSample := x[i], compared := none, riseRun := 0, fallRun := 0, recoveryRun := 0, state := v } ∧
      u.reported (.channel i) Flag.chRefFault) ∧
    ((¬∀ k : Fin 16, k < i → Due.chActive k ∉ u.due ∧ Due.chQuiet k ∉ u.due) → Due.chRefFault i ∈ u.due) := by
  have hfault : (s.channel i).state ≠ .fault := by
    rcases State.refSettles_state hsettles with h | h | h <;> simp [h]
  have hfaults : (w.channel i).faults = false := by
    rw [← Bool.not_eq_true, hw.faults_iff]
    simp [-Fin.getElem_fin, hx]
  obtain ⟨hnow, hconverted⟩ := hw.refSettles_eq i
  have howes : w.owes (.chRefFault i) = true := by simp [State.owes, hfaults, hnow, hsettles]
  obtain ⟨htaken, howed⟩ := hu.chRefFault_taken (hw.recovers_false hrun) howes
  refine ⟨fun hfirst => ?_, howed⟩
  obtain ⟨hch, hrep⟩ := hu.channel_refFault (htaken hfirst)
  rw [hw.state, hv, hw.channel_of_reference hi hfault (.inr (hconverted.trans hsettles))] at hch
  exact ⟨hch, hrep⟩

theorem sampled_compares (hw : s.SampledTo x w D) (hu : w.SilentTaken P u) {i : Fin 16} {v : Int}
    (hq : (s.channel i).state = .quiet ∨ (s.channel i).state = .active) (hx : outOfRange x[i] = false)
    (hv : ((s.channel i).cfg.mode = .fixed ∧ v = x[i].toNat) ∨
      ((s.channel i).cfg.mode = .reference ∧ ∃ j : Fin 16, (s.channel i).cfg.reference = some j ∧ (s.channel j).cfg.mode ≠ .off ∧
        (s.channel j).state ≠ .fault ∧ outOfRange x[j] = false ∧ v = (x[i].toNat : Int) - x[j].toNat)) :
    u.channel i = Channel.count v { s.channel i with lastSample := x[i], compared := none } ∧
      (Due.chActive i ∈ u.due ↔ (u.channel i).goesActive = true) ∧ (Due.chQuiet i ∈ u.due ↔ (u.channel i).goesQuiet = true) := by
  obtain ⟨hsettles, hch⟩ := hw.channel_of_compares hq hx hv
  have hnow := (hw.refSettles_eq i).1.trans hsettles
  have hfaults : (w.channel i).faults = false := by
    rw [← Bool.not_eq_true, hw.faults_iff]
    simp [-Fin.getElem_fin, hx]
  have hsame := hu.channel_of_not_owed hfaults hnow
  rw [hsame, hu.due_of_not_silent rfl rfl, hu.due_of_not_silent rfl rfl]
  exact ⟨hch, by simp [State.owes, hfaults, hnow], by simp [State.owes, hfaults, hnow]⟩

theorem sampled_quiet (hw : s.SampledTo x w D) (hu : w.SilentTaken P u) {i : Fin 16} {v : Int} (hq : (s.channel i).state = .quiet)
    (hx : outOfRange x[i] = false)
    (hv : ((s.channel i).cfg.mode = .fixed ∧ v = x[i].toNat) ∨
      ((s.channel i).cfg.mode = .reference ∧ ∃ j : Fin 16, (s.channel i).cfg.reference = some j ∧ (s.channel j).cfg.mode ≠ .off ∧
        (s.channel j).state ≠ .fault ∧ outOfRange x[j] = false ∧ v = (x[i].toNat : Int) - x[j].toNat)) :
    let run := if (s.channel i).cfg.rise ≤ v then min 8 ((s.channel i).riseRun + 1) else 0
    u.channel i = { s.channel i with lastSample := x[i], compared := some v, riseRun := run, fallRun := 0 } ∧
      (Due.chActive i ∈ u.due ↔ (s.channel i).cfg.persist ≤ run) := by
  obtain ⟨hrecord, hactive, -⟩ := sampled_compares hw hu (.inl hq) hx hv
  have hcount := hrecord.trans (Channel.count_of_quiet v hq)
  rw [hcount, Channel.goesActive] at hactive
  exact ⟨hcount, hactive.trans (by simp [hq])⟩

theorem sampled_active (hw : s.SampledTo x w D) (hu : w.SilentTaken P u) {i : Fin 16} {v : Int} (hq : (s.channel i).state = .active)
    (hx : outOfRange x[i] = false)
    (hv : ((s.channel i).cfg.mode = .fixed ∧ v = x[i].toNat) ∨
      ((s.channel i).cfg.mode = .reference ∧ ∃ j : Fin 16, (s.channel i).cfg.reference = some j ∧ (s.channel j).cfg.mode ≠ .off ∧
        (s.channel j).state ≠ .fault ∧ outOfRange x[j] = false ∧ v = (x[i].toNat : Int) - x[j].toNat)) :
    let run := if v ≤ (s.channel i).cfg.fall then min 8 ((s.channel i).fallRun + 1) else 0
    u.channel i = { s.channel i with lastSample := x[i], compared := some v, riseRun := 0, fallRun := run } ∧
      (Due.chQuiet i ∈ u.due ↔ (s.channel i).cfg.persist ≤ run) := by
  obtain ⟨hrecord, -, hquiet⟩ := sampled_compares hw hu (.inr hq) hx hv
  have hcount := hrecord.trans (Channel.count_of_active v hq)
  rw [hcount, Channel.goesQuiet] at hquiet
  exact ⟨hcount, hquiet.trans (by simp [hq])⟩

/-- The entries to FAULT of the tick are traced (R53). -/
theorem sampled_trace (hw : s.SampledTo x w D) (hu : w.SilentTaken P u) :
    u.trace = s.trace.recordAll ((List.finRange 16).filterMap fun i =>
      if (s.channel i).state ≠ .fault ∧ (u.channel i).state = .fault then some (s.entry .chFault i.val x[i].toNat) else none) := by
  have htrace : w.trace = s.trace := (congrArg State.trace hw.frame :)
  have htmb : w.tmb = s.tmb := (congrArg State.tmb hw.frame :)
  rw [hu.changed.trace, hu.faultEntries, htrace]
  refine congrArg s.trace.recordAll (List.filterMap_congr fun i _ => ?_)
  rw [hw.state]
  by_cases hi : (s.channel i).state ≠ .fault ∧ (u.channel i).state = .fault
  · have hfaults : (w.channel i).faults = true := hu.mem_owes ((hu.fault_iff i).2 ⟨by rw [hw.state]; exact hi.1, hi.2⟩)
    rw [if_pos hi, if_pos hi, hw.lastSample ((hw.faults_iff i).1 hfaults).1, State.entry, htmb, State.entry]
  · rw [if_neg hi, if_neg hi]

/-- The paths follow the changes of the tick. -/
theorem sampled_paths (hw : s.SampledTo x w D) (hu : w.SilentTaken P u) (n : Fin 12) : s.PathFollows u n := by
  have hpaths : w.paths = s.paths := (congrArg State.paths hw.frame :)
  have hpath : w.path n = s.path n := by rw [State.path, hpaths, State.path]
  obtain ⟨hcfg, hact, hvote, hstill, hhealth, hquiet, hkeeps, hstate, hdegraded⟩ := hu.changed.path n
  simp only [State.memberMoved, State.lastActiveLost, State.healthTaken, hpath, hw.state] at *
  exact ⟨hcfg, hact, hvote, hstill, hhealth, hquiet, hkeeps, hstate, hdegraded⟩

end

/-! ### The tick to its end -/

theorem exec_samplingTick {s : State} (x : Vector (BitVec 12) 16) (h : Due.sampling ∈ s.due) :
    exec (.samplingTick x) s =
      .next (State.conclude s (State.sample { s with analog := x, due := s.due.erase .sampling } x).takeSilent) := by
  have hdue : s.due.contains .sampling = true := by simpa using h
  exact congrArg Host.Outcome.next (if_pos hdue)

theorem State.conclude_reported {a s : State} {o : Obj} {f : BitVec 16} (h : s.reported o f) : (State.conclude a s).reported o f :=
  (recordStable_reported o f).toStepStable.conclude h

/-- The end of a step changes nothing that a path follows. -/
theorem State.PathFollows.concluded {s u : State} {n : Fin 12} (h : s.PathFollows u n) (a : State) :
    s.PathFollows (State.conclude a u) n := by
  have hframe := State.conclude_exceptOutputs a u
  have hkeep (o : Obj) (f : BitVec 16) : u.reported o f → (State.conclude a u).reported o f := State.conclude_reported
  generalize State.conclude a u = t at hframe hkeep
  have hpath : t.path n = u.path n := by rw [State.path, paths_of_exceptOutputs hframe, State.path]
  have hch (c : Fin 16) : t.channel c = u.channel c := by rw [State.channel, channels_of_exceptOutputs hframe, State.channel]
  obtain ⟨hcfg, hact, hvote, hstill, hhealth, hquiet, hkeeps, hstate, hdegraded⟩ := h
  constructor
  all_goals simp only [State.memberMoved, State.lastActiveLost, State.healthTaken, State.healthyMembers, hpath, hch]
  · exact hcfg
  · exact hact
  · exact hvote
  · exact hstill
  · intro hm
    obtain ⟨h1, h2, h3, h4⟩ := hhealth hm
    exact ⟨h1, h2, h3, fun hne => hkeep _ _ (h4 hne)⟩
  · exact hquiet
  · exact hkeeps
  · exact fun hne => hkeep _ _ (hstate hne)
  · exact fun hne => hkeep _ _ (hdegraded hne)

/-- What a claim about a tick puts back as it was. -/
def State.exceptTick (s v : State) : State :=
  { v with channels := s.channels, paths := s.paths, trace := s.trace, analog := s.analog, due := s.due }

/-- A sampling tick writes channels, paths, the trace, the levels held and the list of due events, and what these hand on. -/
theorem sampled_frame {s r w u t : State} (hr : s.exceptTick r = s) (hw : { w with channels := r.channels, due := r.due } = r)
    (hu : u.exceptChannels = w.exceptChannels) (ht : t.exceptOutputs = u.exceptOutputs) :
    s.exceptTick t.exceptOutputs = s.exceptOutputs :=
  calc s.exceptTick t.exceptOutputs = s.exceptTick u.exceptOutputs := congrArg s.exceptTick ht
    _ = s.exceptTick w.exceptOutputs := (congrArg s.exceptTick hu :)
    _ = s.exceptTick r.exceptOutputs := (congrArg (fun v => s.exceptTick v.exceptOutputs) hw :)
    _ = s.exceptOutputs := (congrArg State.exceptOutputs hr :)

theorem and_imp_reported {t u : State} {o : Obj} {f : BitVec 16} {p q r : Prop} (hkeep : u.reported o f → t.reported o f)
    (h : (p → q ∧ u.reported o f) ∧ r) : (p → q ∧ t.reported o f) ∧ r :=
  ⟨fun hp => ⟨(h.1 hp).1, hkeep (h.1 hp).2⟩, h.2⟩

/-- Settles O18: the tick converts and counts, and the silent changes it owes first come about in their order. -/
theorem samplingTickConverts : Obligations.SamplingTickConverts := by
  unfold Obligations.SamplingTickConverts
  intro x s _ hsampling hnone
  obtain ⟨D, hw⟩ := State.sample_sampled (s := { s with analog := x, due := s.due.erase .sampling }) x
    fun d hd => hnone d (List.mem_of_mem_erase hd)
  obtain ⟨P, hu⟩ := State.takeSilent_taken (fun d hd => hnone d (List.mem_of_mem_erase hd)) hw
  have hexec := exec_samplingTick x hsampling
  generalize State.sample { s with analog := x, due := s.due.erase .sampling } x = w at hw hu hexec
  generalize w.takeSilent = u at hu hexec
  have htrace := sampled_trace hw hu
  have hframe := hu.changed.frame
  have hpaths (n : Fin 12) := (sampled_paths hw hu n).concluded s
  have hend := State.conclude_exceptOutputs s u
  have hkeep {o : Obj} {f : BitVec 16} : u.reported o f → (State.conclude s u).reported o f := State.conclude_reported
  have hdue := State.conclude_due s u
  generalize State.conclude s u = t at hpaths hend hkeep hdue hexec
  have hch (i : Fin 16) : t.channel i = u.channel i := by rw [State.channel, channels_of_exceptOutputs hend, State.channel]
  refine ⟨t, hexec, ?_, fun i => ?_, ?_, fun n => ?_, ?_⟩
  · exact (congrArg State.analog hend).trans ((congrArg State.analog hframe).trans (congrArg State.analog hw.frame))
  · simp only [hch, hdue, ← outOfRange_iff]
    refine ⟨fun hm hs => sampled_off hw hu hm hs, fun hm => ?_, fun hm hs => ?_, fun hm hs hx hrun => ?_,
      fun j hm hj hs hx hrun => ?_, fun v hv hx => ?_⟩
    · obtain ⟨hcfg, hlast⟩ := hu.channel_keeps i
      exact ⟨hlast.trans (hw.lastSample hm), hcfg.trans (hw.cfg i)⟩
    · exact sampled_recovery hw hu hm hs
    · obtain ⟨hstate, hzero, hrep⟩ := sampled_fault hw hu hm hs hx hrun
      exact ⟨hstate, hzero, hkeep hrep⟩
    · have hon : (s.channel i).cfg.mode ≠ .off := by simp [hm]
      have hsound : outOfRange x[i] = false := by simpa using hx
      have hdown := hw.faultAfterPass_iff hrun j
      have hreference : w.referenceFaulted (s.channel i) = w.faultAfterPass j := by simp [State.referenceFaulted, hm, hj]
      refine ⟨fun hstate hd => ?_, fun hstate hd => ?_, fun hstate hd => ?_⟩
      · have hne : (s.channel i).state ≠ .refFault := by rcases hstate with h | h <;> simp [h]
        have hsettles : w.refSettles (s.channel i) = true := by
          rcases hstate with h | h <;> simp [State.refSettles, h, hreference, hdown.2 hd]
        exact and_imp_reported hkeep (sampled_reference hw hu hon hsound hrun hsettles (if_neg hne))
      · have hsettles : w.refSettles (s.channel i) = true := by
          simpa [State.refSettles, hstate, hreference] using mt hdown.1 hd
        exact and_imp_reported hkeep (sampled_reference hw hu hon hsound hrun hsettles (if_pos hstate))
      · have hrest : w.refSettles (s.channel i) = false := by simp [State.refSettles, hstate, hreference, hdown.2 hd]
        have hfaults : (w.channel i).faults = false := by
          rw [← Bool.not_eq_true, hw.faults_iff]
          simp [-Fin.getElem_fin, hsound]
        rw [hu.channel_of_not_owed hfaults ((hw.refSettles_eq i).1.trans hrest)]
        exact hw.channel_of_reference hon hs (.inl hstate)
    · have hsound : outOfRange x[i] = false := by simpa using hx
      simp only [Bool.not_eq_true] at hv
      exact ⟨fun hstate => sampled_quiet hw hu hstate hsound hv, fun hstate => sampled_active hw hu hstate hsound hv⟩
  · rw [← show t.channel = u.channel from funext hch] at htrace
    exact (trace_of_exceptOutputs hend).trans htrace
  · obtain ⟨hcfg, hact, hvote, hstill, hhealth, hquiet, hkeeps, hstate, -⟩ := hpaths n
    refine ⟨hstill, hhealth, hcfg, hact, hvote, fun hwatch hlost => ⟨hquiet hwatch hlost, hstate ?_⟩, hkeeps⟩
    rw [hquiet hwatch hlost]
    exact fun h => by cases h.trans hwatch
  · exact sampled_frame (r := { s with analog := x, due := s.due.erase .sampling }) rfl hw.frame hframe hend

end Sys2Proof.Machine
end
